-- ==== Sys2Proof/Word.lean ====
section
/-! DEFINITION. The byte, the one machine word the manual sends and stores (chapter 12). -/

namespace Sys2Proof

/-- One byte of a frame, a payload or a stored record (R181, R183, R184). -/
abbrev Byte := BitVec 8

/-- A 16-bit check register or check field (R182, R183). -/
abbrev Check := BitVec 16

end Sys2Proof
end

