-- ==== Sys2Proof/Syntax.lean ====
section
/-! DEFINITION. The commands of the block: one constructor for each row of spec/opcode_table.json. The rows give no
operands; the operands here are the data the rule of each row speaks of. -/

namespace Sys2Proof

/-- The operations and events of the LT420. In the timer rows, `due` is the internal time, in ms, at which the timer runs
out; it names WHICH run of the timer expires, since a timer that has been stopped or restarted does not expire at its old
time (R8, R39, R78, R82, R130, R155). In the request rows, `tag` and `payload` are those of the REQUEST frame (R183). -/
inductive Instr where
  /-- R164: power is applied or the external reset input is asserted. -/
  | powerOnReset
  /-- R163: the RESTART request. -/
  | restart (tag : Byte) (payload : List Byte)
  /-- R163: the 60 s limit of a pending RESTART runs out. -/
  | restartLimitExpiry (due : Nat)
  /-- R164: the pending restart takes place. -/
  | restartPerform
  /-- R177: the mains-present input changes to `active`. -/
  | mainsInputChange (active : Bool)
  /-- R177: the 200 ms loss count runs out. -/
  | mainsLossCountExpiry (due : Nat)
  /-- R177: the 30 s return count runs out. -/
  | mainsReturnCountExpiry (due : Nat)
  /-- R178: the battery-low input changes to `active`. -/
  | batteryLowInputChange (active : Bool)
  /-- R178: the 5 s battery-low count runs out. -/
  | batteryLowCountExpiry (due : Nat)
  /-- R77: the high-high float input changes to `active`. -/
  | floatInputChange (active : Bool)
  /-- R77: the float debounce runs out. -/
  | floatDebounceExpiry (due : Nat)
  /-- R171: the protect input changes to `active`. -/
  | protectInputChange (active : Bool)
  /-- R139: the clear-to-send input changes to `asserted`. -/
  | clearToSendChange (asserted : Bool)
  /-- R139: the last byte of the frame in transmission is handed to the modem. -/
  | transmissionEnd
  /-- R25: a line cycle starts. -/
  | lineCycleStart
  /-- R24: a reply frame ends whole; `frame` is its bytes, check included, and `elapsedUs` the microseconds from the
  transaction's start to the frame's end. -/
  | fieldReplyReceived (frame : List Byte) (elapsedUs : Nat)
  /-- R24: the line has been quiet for more than two byte times; `frame` is the bytes that came. -/
  | fieldReplyQuietEnd (frame : List Byte) (elapsedUs : Nat)
  /-- R24: no reply begins within the window. -/
  | fieldReplyWindowExpiry
  /-- R8: the stale timer of point `point` runs out. -/
  | pointStaleExpiry (point due : Nat)
  /-- R40: the confirm deadline of the command for the actuator at `address`, `item` runs out. -/
  | commandConfirmDeadlineExpiry (address item due : Nat)
  /-- R78: the level-hold timer runs out. -/
  | levelHoldExpiry (due : Nat)
  /-- R82: the deadline of the valve-confirm watch runs out. -/
  | valveConfirmDeadlineExpiry (due : Nat)
  /-- R82: the 30 s repeat period runs out. -/
  | valveCloseRepeatExpiry (due : Nat)
  /-- R82: 2 s have passed since a failed close. -/
  | valveCloseRetryExpiry (due : Nat)
  /-- R83: the GUARD-RESET request. -/
  | guardReset (tag : Byte) (payload : List Byte)
  /-- R88: the clock passes into a new minute. -/
  | clockMinute (due : Nat)
  /-- R88: the SET-CLOCK request. -/
  | setClock (tag : Byte) (payload : List Byte)
  /-- R93: the plan interval ends. -/
  | planIntervalExpiry (due : Nat)
  /-- R106: the 360 minutes of a FORCE have passed. -/
  | forceExpiry (due : Nat)
  /-- R100: the stop wait runs out. -/
  | stopWaitExpiry (due : Nat)
  /-- R107: the renewal period ends. -/
  | demandRenewalExpiry (due : Nat)
  /-- R110: the rise-check time passes. -/
  | riseCheckExpiry (due : Nat)
  /-- R106: the FILL-ORDER request. -/
  | fillOrder (tag : Byte) (payload : List Byte)
  /-- R108: a STATUS frame of the pump station with its 5-byte payload (R183); `echoed` is its tag. -/
  | stationStatus (echoed mode available running : Byte) (flow : BitVec 16)
  /-- R125: the deferral timer of zone `zone` runs out. -/
  | deferralExpiry (zone due : Nat)
  /-- R130: the period timer of Level Telemetry runs out. -/
  | levelPeriodExpiry (due : Nat)
  /-- R152: a frame ends with a bad check or a length above 200; `frame` is its bytes from the sync pair on. -/
  | trunkBadFrame (frame : List Byte)
  /-- R152: more than 50 ms pass after the bytes `frame` of a frame begun. -/
  | trunkByteTimeout (frame : List Byte)
  /-- R153: a good frame that is not addressed to the part or not from a partner. -/
  | trunkFrameIgnored (frame : List Byte)
  /-- R154: a valid frame of a kind that its partner may not send. -/
  | trunkFrameUnknownKind (frame : List Byte)
  /-- R138: a control-room request that finds no response place. -/
  | requestNoPlace (code tag : Byte) (payload : List Byte)
  /-- R158: a request with a code outside the catalogue. -/
  | requestUnknownCode (code tag : Byte) (payload : List Byte)
  /-- R156: the control room's silence timer runs out. -/
  | controlSilenceExpiry (due : Nat)
  /-- R157: the pump station's silence timer runs out. -/
  | stationSilenceExpiry (due : Nat)
  /-- R18: READ-POINTS. -/
  | readPoints (tag : Byte) (payload : List Byte)
  /-- R160: READ-STATE. -/
  | readState (tag : Byte) (payload : List Byte)
  /-- R161: READ-CHANNELS. -/
  | readChannels (tag : Byte) (payload : List Byte)
  /-- R161: READ-ZONES. -/
  | readZones (tag : Byte) (payload : List Byte)
  /-- R149: READ-BANK. -/
  | readBank (tag : Byte) (payload : List Byte)
  /-- R150: CLEAR-BANK. -/
  | clearBank (tag : Byte) (payload : List Byte)
  /-- R162: READ-TRIPS. -/
  | readTrips (tag : Byte) (payload : List Byte)
  /-- R175: TABLE-READ. -/
  | tableRead (tag : Byte) (payload : List Byte)
  /-- R168: TABLE-OPEN. -/
  | tableOpen (tag : Byte) (payload : List Byte)
  /-- R169: TABLE-WRITE. -/
  | tableWrite (tag : Byte) (payload : List Byte)
  /-- R170: TABLE-CLOSE. -/
  | tableClose (tag : Byte) (payload : List Byte)
  /-- R171: TABLE-ABANDON. -/
  | tableAbandon (tag : Byte) (payload : List Byte)
  /-- R33: CHANNEL-START. -/
  | channelStart (tag : Byte) (payload : List Byte)
  /-- R33: CHANNEL-STOP. -/
  | channelStop (tag : Byte) (payload : List Byte)
  /-- R43: FIELD-PASS. -/
  | fieldPass (tag : Byte) (payload : List Byte)
  /-- R168: the erase of a spare table copy ends; `ok` says that the copy is wholly erased. -/
  | tableEraseComplete (ok : Bool)
  /-- R169: a table record program ends; `ok` is its verify. -/
  | tableRecordProgrammed (ok : Bool)
  /-- R170: a header program ends; `ok` is its verify. -/
  | tableHeaderProgrammed (ok : Bool)
  /-- R173: a trip record or reset marker program ends; `ok` is its verify. -/
  | tripWorkProgrammed (ok : Bool)
  /-- R173: the pre-erase of a trip-area sector ends; `ok` says that the sector is wholly erased. -/
  | tripPreEraseComplete (ok : Bool)
  /-- R180: the part loses power altogether. -/
  | powerLoss
  deriving DecidableEq, Repr

end Sys2Proof
end

