-- ==== Sys2Proof/Config.lean ====
section
/-! DEFINITION. The fixed durations and limits of the part, and the free values: what the manual leaves open and the
model therefore leaves without a body. -/

namespace Sys2Proof.Config

/-- FREE VALUE (assumption 3). The order in which the blocks take the notices of one event: the manual says that they act
independently of one another (R10, R65, R179) and fixes no order. It is applied to the counter `State.draws`. -/
opaque pick : Nat → Nat

/-- FREE VALUE (assumption 4). The window end E of a plan made under a FORCE while the clock is UNSET (R94 step 2 counts it
from the present minute, which is then not known). It is applied to the counter `State.draws`. -/
opaque openWindowEnd : Nat → Nat

/-- FREE VALUE (assumption 5). Byte `i` of the encoding of a number `n` that does not fit the width R185 gives its
element type. -/
opaque unfitByte : Nat → Nat → Byte

/-- FREE VALUE (assumption 7). Bytes whose value the manual does not state: those after day FFh of an UNSET clock (0 to 2), and the
delivery flow of an empty station copy (3 to 6). -/
opaque blankByte : Nat → Byte

/-- FREE VALUE (assumption 19). Whether a FIELD-PASS carries the wake burst when its WAKE byte is neither 0 nor 1, the two values
that R183 gives. -/
opaque oddWake : Nat → Bool

/-- FREE VALUE (assumption 32). What a FIELD-PASS response whose device's reply does not fit a trunk frame carries behind its status byte,
applied to what the response would hold; the frame carries at most its first 199 bytes. -/
opaque overlongReply : List Byte → List Byte

/-- FREE VALUE (assumption 32). The number of the status of such a response, taken within the 25 statuses of R185. -/
opaque overlongStatus : List Byte → Nat

/-- Line cycle, in microseconds (R25). -/
def cycleUs : Nat := 250000

/-- Reply window of a field device, in microseconds (R24). -/
def replyWindowUs : Nat := 10000

/-- Bytes of a wake burst (R23, R28). -/
def wakeBytes : Nat := 12

/-- Loss count of the mains-present input, in ms (R177). -/
def lossCountMs : Nat := 200

/-- Return count of the mains-present input, in ms (R177). -/
def returnCountMs : Nat := 30000

/-- Debounce count of the battery-low input, in ms (R178). -/
def batteryLowCountMs : Nat := 5000

/-- Debounce of the high-high float input, in ms (R77). -/
def floatDebounceMs : Nat := 2000

/-- Confirm deadline of a heater command, in ms (R38). -/
def heaterConfirmMs : Nat := 10000

/-- Time from a failed close to its placement again, before the watch's deadline, in ms (R82). -/
def closeRetryMs : Nat := 2000

/-- Time between placements of the close after the watch's deadline, in ms (R82). -/
def closeRepeatMs : Nat := 30000

/-- Length of a FORCE, in minutes (R94, R106). -/
def forceMinutes : Nat := 360

/-- Deferral timer of a zone, in ms (R125). -/
def deferralMs : Nat := 1800000

/-- Limit of a pending RESTART, in ms (R163). -/
def restartLimitMs : Nat := 60000

/-- Time of an erase or pre-erase, in ms (R167). -/
def eraseMs : Nat := 350

/-- Time of a program with its verify, in ms (R167). -/
def programMs : Nat := 2

/-- Highest level and cap of the projection, in mm (R1, R72). -/
def maxLevel : Nat := 40000

/-- Highest volume, in litres (R61). -/
def maxVolume : Nat := 16000000

/-- Deliveries of notices that one command makes at most; what is left stays in `State.notices` (assumption 3). -/
def deliveryFuel : Nat := 400

end Sys2Proof.Config
end

