-- ==== Sys2Proof/Machine/Bytes.lean ====
section
/-! DEFINITION. Byte order, two's complement, the element encodings of R185 and the two frame checks (R182, R183). -/

namespace Sys2Proof.Machine

/-- The number that bytes spell, more significant byte first (chapter 12). -/
def beNat (bs : List Byte) : Nat := bs.foldl (fun acc b => acc * 256 + b.toNat) 0

/-- The signed number of `width` bytes whose unsigned reading is `n`, in two's complement (R4, chapter 12). -/
def toSigned (width n : Nat) : Int :=
  if n < 2 ^ (8 * width - 1) then (n : Int) else (n : Int) - (2 ^ (8 * width) : Nat)

/-- The unsigned field of `len` bytes at offset `off`. -/
def fieldU (bs : List Byte) (off len : Nat) : Nat := beNat ((bs.drop off).take len)

/-- The signed field of `len` bytes at offset `off`. -/
def fieldS (bs : List Byte) (off len : Nat) : Int := toSigned len (fieldU bs off len)

/-- The last `width` bytes of `n`, more significant byte first. -/
def beBytes : Nat → Nat → List Byte
  | 0, _ => []
  | width + 1, n => beBytes width (n / 256) ++ [BitVec.ofNat 8 n]

/-- An unsigned element of `width` bytes (R185); a number that does not fit has no stated encoding (assumption 5). -/
def encU (width n : Nat) : List Byte :=
  if n < 256 ^ width then beBytes width n else (List.range width).map (Config.unfitByte n)

/-- A signed element of `width` bytes (R185); a number that does not fit has no stated encoding (assumption 5). -/
def encS (width : Nat) (i : Int) : List Byte :=
  if -(2 ^ (8 * width - 1) : Nat) ≤ i ∧ i < (2 ^ (8 * width - 1) : Nat)
  then beBytes width (i % (2 ^ (8 * width) : Nat)).toNat
  else (List.range width).map (Config.unfitByte i.natAbs)

/-- A flag (R185). -/
def encFlag (b : Bool) : List Byte := [if b then 0x01#8 else 0x00#8]

/-- An element that may be absent, `width` bytes of FFh when it is (R185). -/
def encOpt (width : Nat) (o : Option Nat) : List Byte :=
  match o with
  | some n => encU width n
  | none => List.replicate width 0xFF#8

/-- One bit into a check register that shifts left (R182, most-significant first). -/
def checkBitMsb (poly reg : Check) (bit : Bool) : Check :=
  let shifted := reg <<< 1
  if reg.msb != bit then shifted ^^^ poly else shifted

/-- One bit into a check register that shifts right (R182, least-significant first). -/
def checkBitLsb (reg : Check) (bit : Bool) : Check :=
  let shifted := reg >>> 1
  if reg.getLsbD 0 != bit then shifted ^^^ 0x8408#16 else shifted

/-- One byte, from its bit 7 down to bit 0. -/
def checkByteMsb (poly reg : Check) (b : Byte) : Check :=
  [7, 6, 5, 4, 3, 2, 1, 0].foldl (fun r i => checkBitMsb poly r (b.getLsbD i)) reg

/-- One byte, from its bit 0 up to bit 7. -/
def checkByteLsb (reg : Check) (b : Byte) : Check :=
  [0, 1, 2, 3, 4, 5, 6, 7].foldl (fun r i => checkBitLsb r (b.getLsbD i)) reg

/-- The field check as its two bytes on the line, in the bit order given (R182). -/
def fieldCheck (lsbFirst : Bool) (bs : List Byte) : List Byte :=
  if lsbFirst then
    let r := bs.foldl checkByteLsb 0x0000#16
    [r.extractLsb' 0 8, r.extractLsb' 8 8]
  else
    let r := bs.foldl (checkByteMsb 0x1021#16) 0x0000#16
    [r.extractLsb' 8 8, r.extractLsb' 0 8]

/-- The trunk check carried on from `reg` over `bs` (R183); a record check carries it on record by record (R169). -/
def trunkCheckFrom (reg : Check) (bs : List Byte) : Check := bs.foldl (checkByteMsb 0x8005#16) reg

/-- The trunk check of `bs` (R183). -/
def trunkCheck (bs : List Byte) : Check := trunkCheckFrom 0xFFFF#16 bs

/-- The record check of a copy: over the bytes of every record in index order, from FFFFh (R166). -/
def recordCheck (records : List (List Byte)) : Check := records.foldl trunkCheckFrom 0xFFFF#16

/-- A check as its two bytes, more significant first. -/
def checkBytes (c : Check) : List Byte := [c.extractLsb' 8 8, c.extractLsb' 0 8]

/-- Division rounded up. -/
def ceilDiv (a b : Nat) : Nat := (a + b - 1) / b

end Sys2Proof.Machine
end

