-- ==== Sys2Proof/Machine/State.lean ====
section
/-! DEFINITION. The state of the LT420 as plain data: every record, table, timer, queue and input that the manual gives
the part, and `State.reset`. Internal times are in milliseconds since the last reset unless a name ends in `Us`. -/

namespace Sys2Proof.Machine

/-! ### Points and the Traffic Map (chapter 1) -/

/-- Point kinds (R1). -/
inductive PointKind where
  | level | temperature | flow | position | state | switch
  deriving DecidableEq, Repr

/-- A point record (R1): raw window, gain in steps of 1/4096, offset, engineering range and stale time in seconds. -/
structure PointRecord where
  kind : PointKind
  rawMin : Int
  rawMax : Int
  gain : Int
  offset : Int
  engLow : Int
  engHigh : Int
  staleSec : Nat
  deriving DecidableEq, Repr

/-- Point qualities (R3). -/
inductive Quality where
  | none | good | range | stale
  deriving DecidableEq, Repr

/-- Where a point's last sample came from (R3). -/
inductive Source where
  | polled | passed
  deriving DecidableEq, Repr

/-- A point state (R3), with its stale timer (R7). -/
structure PointState where
  value : Int := 0
  quality : Quality := .none
  updated : Option Nat := none
  source : Option Source := none
  staleAt : Option Nat := none
  deriving DecidableEq, Repr

/-- Gate kinds of the Traffic Map (R11). -/
inductive GateKind where
  | inlet | deny
  deriving DecidableEq, Repr

/-- What a Traffic Map entry does (R11). -/
inductive MapAction where
  | extract (point width : Nat) (signed : Bool)
  | gate (kind : GateKind)
  deriving DecidableEq, Repr

/-- A Traffic Map entry (R11). -/
structure MapEntry where
  address : Nat
  item : Nat
  action : MapAction
  deriving DecidableEq, Repr

/-! ### The field line (chapter 2) -/

/-- Channel classes (R27). -/
inductive ChannelClass where
  | guard | normal
  deriving DecidableEq, Repr

/-- The loaded part of a channel (R27); `interval` is in line cycles. -/
structure ChannelRecord where
  address : Nat
  start : Nat
  count : Nat
  interval : Nat
  cls : ChannelClass
  wake : Bool
  behind : Bool
  inner : Nat
  deriving DecidableEq, Repr

/-- Channel modes (R27). -/
inductive ChannelMode where
  | normal | probe
  deriving DecidableEq, Repr

/-- Channel conditions (R27). -/
inductive ChannelCondition where
  | none | ok | shortReply | retryError | refused | stopped
  deriving DecidableEq, Repr

/-- The live part of a channel (R27). `handed` is the split phase with its hand-off time: the line cycle of the hand-off
while HANDED, nothing while NONE. `collectCycle` is the model's own: the cycle of the last COLLECT, since a COLLECT is the
channel's one transaction in its cycle (R28). -/
structure ChannelLive where
  go : Bool := true
  mode : ChannelMode := .normal
  condition : ChannelCondition := .none
  failures : Nat := 0
  countdown : Nat := 0
  handed : Option Nat := none
  pendingCount : Nat := 0
  haltedCycles : Nat := 0
  collectCycle : Option Nat := none
  deriving DecidableEq, Repr

/-- A request to a device, as R23 lists them. -/
inductive DeviceRequest where
  | read (start count : Nat)
  | write (item value : Nat)
  | select (item value : Nat)
  | operate (item value : Nat)
  | direct (item value : Nat)
  | status
  deriving DecidableEq, Repr

/-- What one transaction sends: a request to a device, a HAND-OFF that carries an inner request, or a COLLECT of the reply
to an inner request (R28, R34). -/
inductive LineRequest where
  | device (r : DeviceRequest)
  | handOff (inner : Nat) (r : DeviceRequest)
  | collect (inner : Nat) (r : DeviceRequest)
  deriving DecidableEq, Repr

/-- The work a transaction belongs to (R26). -/
inductive LineWork where
  | urgent
  | channel (i : Nat)
  | command (address item : Nat)
  | pass
  deriving DecidableEq, Repr

/-- The transaction in flight: its work, the address it was sent to, its request, whether a wake burst went ahead, its start,
the byte time and bit order it began with (R22), the bytes sent, and whether it has been superseded (R33, R48; for a
command whose entry was replaced or removed, assumption 12). -/
structure Transaction where
  work : LineWork
  address : Nat
  request : LineRequest
  wake : Bool
  startUs : Nat
  byteTimeUs : Nat
  lsbFirst : Bool
  bytes : List Byte
  superseded : Bool
  deriving DecidableEq, Repr

/-- Who holds a repeater slot (R34): a channel, the pass-queue head, or no work of the part any more. -/
inductive SlotHolder where
  | channel (i : Nat)
  | pass
  | nobody
  deriving DecidableEq, Repr

/-- A repeater slot in use, with the line cycle in which TAKEN arrived (R34). -/
structure RepeaterSlot where
  holder : SlotHolder
  cycle : Nat
  deriving DecidableEq, Repr

/-- Who placed a command (R37). -/
inductive Origin where
  | fill | frost
  deriving DecidableEq, Repr

/-- Stages of a command (R37). -/
inductive CommandStage where
  | waiting | selected | operated
  deriving DecidableEq, Repr

/-- A command-list entry (R37). `turnCycle` is the model's own: the cycle of its last turn, since an entry takes at most one
stage in a cycle (R26). -/
structure CommandEntry where
  address : Nat
  item : Nat
  feedback : Nat
  origin : Origin
  target : Nat
  stage : CommandStage := .waiting
  attempts : Nat := 0
  deadline : Option Nat := none
  turnCycle : Option Nat := none
  deriving DecidableEq, Repr

/-- What an origin is told of its command (R37 to R41, R46). -/
inductive CommandOutcome where
  | placed | confirmed | failed | withdrawn | urgent | supply | listFull
  deriving DecidableEq, Repr

/-- The close in the urgent slot, with the address and item it was placed with (R41, R86). -/
structure UrgentClose where
  address : Nat
  item : Nat
  inFlight : Bool
  deriving DecidableEq, Repr

/-- A pass-queue entry (R43, R44): the reservation of its response, its request, whether it has been handed off (in which
cycle), its PENDING count, and the cycle of its last COLLECT. -/
structure PassEntry where
  resv : Nat
  request : DeviceRequest
  address : Nat
  inner : Option Nat
  wake : Bool
  handed : Option Nat := none
  pendingCount : Nat := 0
  collectCycle : Option Nat := none
  deriving DecidableEq, Repr

/-- Line rates (R22, R184). -/
inductive LineRate where
  | baud9600 | baud19200 | baud38400
  deriving DecidableEq, Repr

/-- The Field Line Scheduler: rate and bit order in force, number and start of the cycle (`cycleStartUs` is absent before the
first one), whether the next cycle start has come due with a transaction in flight (R25), and the work that waits. -/
structure LineBlock where
  rate : LineRate := .baud19200
  lsbFirst : Bool := false
  cycle : Nat := 0
  cycleStartUs : Option Nat := none
  late : Bool := false
  inFlight : Option Transaction := none
  live : List ChannelLive
  slots : List RepeaterSlot := []
  commands : List CommandEntry := []
  urgent : Option UrgentClose := none
  pass : List PassEntry := []
  deriving DecidableEq, Repr

/-! ### Level (chapter 3) -/

/-- A strapping-table breakpoint: level in mm, volume in litres (R61). -/
structure Breakpoint where
  level : Nat
  volume : Nat
  deriving DecidableEq, Repr

/-- Qualities of the working level (R53). -/
inductive LevelQuality where
  | good | split | single | lost
  deriving DecidableEq, Repr

/-- The condition last judged for the faults of R55. -/
inductive LevelCondition where
  | good | split | missingA | missingB | lost
  deriving DecidableEq, Repr

/-- The working level record (R52 to R60, R62). `rate` is absent while UNKNOWN. -/
structure LevelRecord where
  w : Nat
  quality : LevelQuality
  v : Nat
  segment : Nat
  rate : Option Int
  lostSince : Option Nat
  deriving DecidableEq, Repr

/-- An entry of the history ring (R57). -/
structure RingEntry where
  w : Nat
  time : Nat
  deriving DecidableEq, Repr

/-- The Level Unit: the record, the ring (oldest first), the beyond-table condition and the last logged condition (R66). -/
structure LevelBlock where
  record : LevelRecord
  ring : List RingEntry := []
  beyond : Bool := false
  condition : LevelCondition := .lost
  deriving DecidableEq, Repr

/-! ### The overflow guard (chapter 4) -/

/-- The GUARD_SET table (R50, R69). Times in seconds, levels in mm, coast volume in litres, rise in mm/min. -/
structure GuardSet where
  pointA : Nat
  pointB : Nat
  agreeBand : Nat
  overflow : Nat
  anticipateMargin : Nat
  tripMargin : Nat
  resetGap : Nat
  hysteresis : Nat
  frostExtra : Nat
  levelHold : Nat
  stopLatency : Nat
  coastVolume : Nat
  ratedRise : Nat
  valveTravel : Nat
  inletAddress : Nat
  inletItem : Nat
  feedback : Nat
  floatLevel : Nat
  deriving DecidableEq, Repr

/-- Guard states (R70). -/
inductive GuardState where
  | armed | anticipating | tripped
  deriving DecidableEq, Repr

/-- Trip causes (R70). -/
inductive TripCause where
  | level | float | levelLost | noTables
  deriving DecidableEq, Repr

/-- The trip-record flag (R70). -/
inductive TripFlag where
  | none | pending | programmed
  deriving DecidableEq, Repr

/-- The valve-confirm watch (R82): not running and not confirmed, running with its timers, or confirmed. -/
inductive ValveWatch where
  | idle
  | running (deadline repeatAt retryAt : Option Nat)
  | confirmed
  deriving DecidableEq, Repr

/-- A reset in progress (R84): the reservation of its response, its tag, and the first trip condition seen. -/
structure ResetInProgress where
  resv : Nat
  tag : Byte
  seen : Option TripCause
  deriving DecidableEq, Repr

/-- The guard's record (R70). Thresholds are kept as integers in mm. -/
structure GuardBlock where
  state : GuardState := .tripped
  cause : Option TripCause := some .noTables
  projection : Nat := 0
  coast : Nat := 0
  anticipate : Int := 0
  trip : Int := 0
  resetLevel : Int := 0
  rearm : Int := 0
  frostExtra : Bool := false
  floatActive : Bool := false
  floatAt : Option Nat := none
  holdAt : Option Nat := none
  tripLine : Bool := true
  watch : ValveWatch := .idle
  tripFlag : TripFlag := .none
  reset : Option ResetInProgress := none
  deriving DecidableEq, Repr

/-! ### The fill (chapter 5) -/

/-- A time of the tower's clock (R88). -/
structure ClockTime where
  day : Nat
  minute : Nat
  second : Nat
  deriving DecidableEq, Repr

/-- The clock while set: the time it shows, the ms since its last second, and the internal time of the next clock-minute
event not yet taken (R88). -/
structure ClockState where
  time : ClockTime
  subMs : Nat
  minuteAt : Nat
  deriving DecidableEq, Repr

/-- Day types (R88, R89). -/
inductive DayType where
  | work | rest
  deriving DecidableEq, Repr

/-- Tariff classes (R90). -/
inductive TariffClass where
  | cheap | standard | peak
  deriving DecidableEq, Repr

/-- A TARIFF window (R89); `cheap` tells CHEAP from PEAK. -/
structure TariffWindow where
  dayType : DayType
  start : Nat
  stop : Nat
  cheap : Bool
  deriving DecidableEq, Repr

/-- A PROFILE record (R91); the rate is in L/h. -/
structure ProfileRecord where
  dayType : DayType
  hour : Nat
  rate : Nat
  deriving DecidableEq, Repr

/-- The FILL_SET table (R92). -/
structure FillSet where
  target : Nat
  minimum : Nat
  topUpBand : Nat
  turnover : Nat
  frostWatchTemp : Int
  finishReserve : Nat
  planInterval : Nat
  pumpFlow : Nat
  siteMax : Nat
  renewal : Nat
  riseCheck : Nat
  deriving DecidableEq, Repr

/-- Fill states (R95). -/
inductive FillState where
  | idle | waitingTurnover | opening | filling | closing | satisfied | held
  deriving DecidableEq, Repr

/-- Purposes of a fill (section 5.6). -/
inductive Purpose where
  | window | topUp | forced
  deriving DecidableEq, Repr

/-- FILL-ORDER values (R106). -/
inductive FillOrder where
  | auto | hold | force
  deriving DecidableEq, Repr

/-- Reasons of the fill inhibit set, in the order of R103. -/
inductive Reason where
  | guard | frozenRiser | frozenValve | stationLocal | stationSilent | battery | bankHold | orderHold | manualClose
  | valveFault
  deriving DecidableEq, Repr

/-- Modes of the pump station (R108). -/
inductive StationMode where
  | remote | localControl | fault
  deriving DecidableEq, Repr

/-- The station copy (R108). -/
structure StationCopy where
  mode : StationMode
  available : Nat
  running : Nat
  flow : Nat
  echoed : Nat
  deriving DecidableEq, Repr

/-- The numbers of the last evaluation (R94). -/
structure PlanNumbers where
  vTarget : Nat := 0
  windowEnd : Nat := 0
  m : Int := 0
  draw : Nat := 0
  need : Nat := 0
  flow : Nat := 0
  wanted : Nat := 0
  k : Nat := 0
  cut : Bool := false
  deriving DecidableEq, Repr

/-- A rise check in progress (R110): W_start and the internal time at which it is judged. -/
structure RiseCheck where
  wStart : Nat
  judgeAt : Nat
  deriving DecidableEq, Repr

/-- The DEMAND renewal timer (R107). `openPeriod` stands while no renewal period is in use, FILL_SET being EMPTY: the manual
gives no period then, and the timer runs out whenever its event comes (assumption 6). -/
inductive RenewalTimer where
  | aimed (time : Nat)
  | openPeriod
  deriving DecidableEq, Repr

/-- The Fill Planner (R88, R90, R95). `forceAt` is the time of the FORCE in force; `closePlaced` with `stopWait` (its start)
and `stopAt` (its end) is the close sequence (R100); `hadDemand` says that the demand was above 0 in the present fill (R101);
`openWanted` that the OPEN of the present OPENING has not been placed (R105). -/
structure FillBlock where
  clock : Option ClockState := none
  tariff : TariffClass := .standard
  window : Option TariffWindow := none
  state : FillState := .idle
  purpose : Option Purpose := none
  demand : Nat := 0
  order : FillOrder := .auto
  forceAt : Option Nat := none
  turnoverDone : Bool := false
  closeOwed : Bool := true
  closePlaced : Bool := false
  stopWait : Option Nat := none
  stopAt : Option Nat := none
  hadDemand : Bool := false
  openWanted : Bool := false
  inhibit : List Reason := []
  numbers : PlanNumbers := {}
  planAt : Option Nat := none
  station : Option StationCopy := none
  demandTag : Nat := 0
  renewal : RenewalTimer := .openPeriod
  rise : Option RiseCheck := none
  deriving DecidableEq, Repr

/-! ### Frost protection (chapter 6) -/

/-- Zone kinds (R112). -/
inductive ZoneKind where
  | riser | valveChamber | overflowPipe | outlet | sensorHousing
  deriving DecidableEq, Repr

/-- A zone record (R112). -/
structure ZoneRecord where
  kind : ZoneKind
  tempPoint : Nat
  heaterAddress : Nat
  heaterItem : Nat
  feedback : Nat
  power : Nat
  priority : Nat
  onTemp : Int
  offTemp : Int
  freezeTemp : Int
  deriving DecidableEq, Repr

/-- Heater states (R113). -/
inductive Heater where
  | off
  | on
  | commanding (target : Bool)
  | failed (seen : Option Int)
  deriving DecidableEq, Repr

/-- A zone state (R113). `probeLogged` and `frozenLogged` are the zone's logging conditions (R126): set while a standing
probe-lost or frozen condition counts as already logged. -/
structure ZoneState where
  probeRequest : Bool := true
  request : Bool := true
  granted : Bool := false
  heater : Heater := .off
  held : Option Bool := none
  frozen : Bool := true
  probeLost : Bool := true
  deferredSince : Option Nat := none
  deferralAt : Option Nat := none
  budgetShort : Bool := false
  probeLogged : Bool := true
  frozenLogged : Bool := true
  deriving DecidableEq, Repr

/-- The flags of the five zone kinds (R117). -/
structure KindFlags where
  riser : Bool := false
  valveChamber : Bool := false
  overflowPipe : Bool := false
  outlet : Bool := false
  sensorHousing : Bool := false
  deriving DecidableEq, Repr

/-- The Frost Unit (R113): a state for each zone of the table in use, the budget of the moment in watts, the kind flags, frost
watch, the tariff class last announced, and whether it has been told that the FROST bank holds. -/
structure FrostBlock where
  zones : List ZoneState := []
  budget : Nat := 0
  flags : KindFlags := {}
  watch : Bool := false
  tariff : TariffClass := .standard
  bankHold : Bool := false
  deriving DecidableEq, Repr

/-! ### Fault banks (chapter 8) -/

/-- The seven banks (R140, R185). -/
inductive Bank where
  | level | guard | fill | frost | line | trunk | store
  deriving DecidableEq, Repr

/-- Severities, in rising order (R140). -/
inductive Severity where
  | note | degraded | severe
  deriving DecidableEq, Repr

/-- Fault codes (R141). -/
inductive FaultCode where
  | sensorDisagree | sensorLost | beyondTable | levelLost | floatConflict
  | tripLevel | tripFloat | tripLevelLost | valveNotClosed
  | shortfall | fillNoRise
  | budgetShort | zoneFrozen | probeLost
  | cycleOverrun | channelHalted | commandFailed | channelRefused
  | frameCheck | unknownKind | controlSilent | stationSilent
  | checkMismatch | eraseFail | programFail | startImageBad
  deriving DecidableEq, Repr

/-- The ten table kinds, in the order of R174. -/
inductive TableKind where
  | points | map | channels | strapping | guardSet | fillSet | tariff | profile | zones | siteSet
  deriving DecidableEq, Repr

/-- The partner stations (R141). -/
inductive Partner where
  | control | station
  deriving DecidableEq, Repr

/-- What a fault concerns (R140). -/
inductive Subject where
  | point (i : Nat)
  | zone (i : Nat)
  | channel (i : Nat)
  | address (a : Nat)
  | kind (k : TableKind)
  | slot (n : Nat)
  | sector (n : Nat)
  | partner (p : Partner)
  deriving DecidableEq, Repr

/-- A valid bank record (R140); an empty bank is the absence of one. `uptime` is in whole seconds. -/
structure FaultRecord where
  overflow : Bool
  severity : Severity
  code : FaultCode
  subject : Option Subject
  clock : Option ClockTime
  uptime : Nat
  autoResume : Bool
  unseen : Bool
  deriving DecidableEq, Repr

/-- One value for each bank. -/
structure PerBank (α : Type) where
  level : α
  guard : α
  fill : α
  frost : α
  line : α
  trunk : α
  store : α
  deriving DecidableEq, Repr

/-- One value for each table kind. -/
structure PerKind (α : Type) where
  points : α
  map : α
  channels : α
  strapping : α
  guardSet : α
  fillSet : α
  tariff : α
  profile : α
  zones : α
  siteSet : α
  deriving DecidableEq, Repr

/-! ### Supply (chapter 11) -/

/-- Supply modes (R176). -/
inductive SupplyMode where
  | mains | battery | batteryLow
  deriving DecidableEq, Repr

/-- The mains count (R176): none, a loss count or a return count, with the time at which it runs out. -/
inductive MainsCount where
  | none
  | loss (at_ : Nat)
  | ret (at_ : Nat)
  deriving DecidableEq, Repr

/-- The Supply Monitor (R176). -/
structure SupplyBlock where
  mode : SupplyMode := .mains
  count : MainsCount := .none
  low : Bool := false
  lowAt : Option Nat := none
  deriving DecidableEq, Repr

/-! ### Site settings and the tables in use (chapters 2, 7, 8, 9, 10) -/

/-- The settings of one bank (R142); `mask` bit `i` masks the bank's code at position `i`. -/
structure BankSettings where
  logging : Bool
  reporting : Bool
  holdOnDegraded : Bool
  mask : Nat
  deriving DecidableEq, Repr

/-- The SITE_SET table (R184). Budgets in watts, periods in seconds, the deadband in mm. -/
structure SiteSet where
  own : Nat
  control : Nat
  station : Nat
  controlExp : Nat
  stationExp : Nat
  rate : LineRate
  lsbFirst : Bool
  repeater : Nat
  dayMap : Nat
  cheapBudget : Nat
  standardBudget : Nat
  peakBudget : Nat
  reportPeriod : Nat
  fastPeriod : Nat
  deadband : Nat
  banks : PerBank BankSettings
  deriving DecidableEq, Repr

/-- The tables in working memory; a kind without one is EMPTY (R166). -/
structure Tables where
  points : Option (List PointRecord) := none
  map : Option (List MapEntry) := none
  channels : Option (List ChannelRecord) := none
  strapping : Option (List Breakpoint) := none
  guardSet : Option GuardSet := none
  fillSet : Option FillSet := none
  tariff : Option (List TariffWindow) := none
  profile : Option (List ProfileRecord) := none
  zones : Option (List ZoneRecord) := none
  siteSet : Option SiteSet := none
  deriving DecidableEq, Repr

/-- The clamped contents of one table, as validation passes them on (R170). -/
inductive TableData where
  | points (t : List PointRecord)
  | map (t : List MapEntry)
  | channels (t : List ChannelRecord)
  | strapping (t : List Breakpoint)
  | guardSet (t : GuardSet)
  | fillSet (t : FillSet)
  | tariff (t : List TariffWindow)
  | profile (t : List ProfileRecord)
  | zones (t : List ZoneRecord)
  | siteSet (t : SiteSet)
  deriving DecidableEq, Repr

/-! ### The table store (chapter 10) -/

/-- The two copies of a kind (R166). -/
inductive CopyName where
  | a | b
  deriving DecidableEq, Repr

/-- A header that was programmed whole (R166). -/
structure Header where
  generation : Nat
  count : Nat
  check : Check
  deriving DecidableEq, Repr

/-- A stored copy: its records' bytes in index order, and its header if one was programmed whole (R166). -/
structure Copy where
  records : List (List Byte) := []
  header : Option Header := none
  deriving DecidableEq, Repr

/-- Both copies of a kind (R166). -/
structure CopyPair where
  a : Copy := {}
  b : Copy := {}
  deriving DecidableEq, Repr

/-- Which copy of a kind is in use, absent while the kind is EMPTY, and the generation in use (R166). -/
structure KindUse where
  inUse : Option CopyName := none
  generation : Nat := 0
  deriving DecidableEq, Repr

/-- A trip record (R81) or a reset marker (R84); `uptime` in whole seconds. -/
inductive TripEntry where
  | trip (cause : TripCause) (w : Nat) (quality : LevelQuality) (projection : Nat) (clock : Option ClockTime) (uptime : Nat)
  | marker (w : Nat) (clock : Option ClockTime) (uptime : Nat)
  deriving DecidableEq, Repr

/-- A slot of the trip area (R172). -/
inductive TripSlot where
  | erased
  | intact (sequence : Nat) (entry : TripEntry)
  | spoilt
  deriving DecidableEq, Repr

/-- What the non-volatile store holds: two copies of each kind and the 8 slots of the trip area (R166, R172). -/
structure NvStore where
  copies : PerKind CopyPair
  slots : List TripSlot
  deriving DecidableEq, Repr

/-- A piece of table work (R167), with what its end needs. Reservations are those of the responses that wait for it. A header program
has the count and check of its close; its generation follows the one in use at its end (`State.headerEnds`). -/
inductive TableJob where
  | erase (resv : Nat)
  | record (bytes : List Byte) (resvs : List Nat)
  | header (count : Nat) (check : Check) (data : TableData) (clamps : Nat) (resv : Nat)
  deriving DecidableEq, Repr

/-- Table work of a load. `load` is the model's own number of the load. -/
structure TableWork where
  load : Nat
  kind : TableKind
  job : TableJob
  deriving DecidableEq, Repr

/-- What the engine is doing (R167). `ended` marks table work whose load has ended since it began (R171). -/
inductive EngineJob where
  | table (work : TableWork) (ended : Bool)
  | trip (slot : Nat) (entry : TripEntry)
  | preErase (sector : Nat)
  deriving DecidableEq, Repr

/-- A job in progress and the internal time at which it ends (R167). -/
structure BusyJob where
  job : EngineJob
  doneAt : Nat
  deriving DecidableEq, Repr

/-- A suspended table erase and the ms it still has to run (R167). -/
structure SuspendedErase where
  work : TableWork
  ended : Bool
  leftMs : Nat
  deriving DecidableEq, Repr

/-- The open-load record (R167 section 10.3). `taken` is every record taken, over which the close's validation runs (R170);
`erased` says that the load's erase has ended; `load` is the model's own number of the load. -/
structure OpenLoad where
  load : Nat
  kind : TableKind
  next : Nat
  check : Check
  last : Option (List Byte)
  protectEnded : Bool
  erased : Bool
  taken : List (List Byte)
  deriving DecidableEq, Repr

/-- The store engine (R167): IDLE when `busy` and `suspended` are absent. `preErase` is the sector whose pre-erase waits;
`target` is the copy into which the load at work is programmed (R168). -/
structure EngineBlock where
  busy : Option BusyJob := none
  suspended : Option SuspendedErase := none
  work : List TableWork := []
  tripWork : List TripEntry := []
  preErase : Option Nat := none
  target : CopyName := .a
  load : Option OpenLoad := none
  loads : Nat := 0
  deriving DecidableEq, Repr

/-! ### Level telemetry and the outbound queue (chapter 7) -/

/-- Contents of a LEVEL report (R129); `uptime` in whole seconds. -/
structure LevelReport where
  w : Nat
  quality : LevelQuality
  v : Nat
  rate : Option Int
  projection : Nat
  guard : GuardState
  fill : FillState
  demand : Nat
  clock : Option ClockTime
  uptime : Nat
  deriving DecidableEq, Repr

/-- The contents of a STATE report that its owners pass on (R132). -/
structure StateContents where
  guard : GuardState := .tripped
  cause : Option TripCause := none
  fill : FillState := .idle
  purpose : Option Purpose := none
  order : FillOrder := .auto
  inhibit : List Reason := []
  tariff : TariffClass := .standard
  stationMode : Option StationMode := none
  available : Nat := 0
  running : Nat := 0
  frozen : List Nat := []
  granted : List Nat := []
  watch : Bool := false
  supply : SupplyMode := .mains
  islanded : Bool := false
  clockSet : Bool := false
  deriving DecidableEq, Repr

/-- A STATE report (R132). -/
structure StateReport where
  contents : StateContents
  clock : Option ClockTime
  uptime : Nat
  deriving DecidableEq, Repr

/-- A TRIP report (R134); the record number is absent until it is known. -/
structure TripReport where
  cause : TripCause
  w : Nat
  projection : Nat
  clock : Option ClockTime
  number : Option Nat
  deriving DecidableEq, Repr

/-- The contents of a frame that coalesces by kind (R135, R136). -/
inductive Content where
  | level (r : LevelReport)
  | state (r : StateReport)
  | trip (r : TripReport)
  | fault (bank : Bank) (r : FaultRecord)
  | demand (pumps tag : Nat)
  deriving DecidableEq, Repr

/-- A place of the outbound queue (R135). `resv` is the model's own number of a reservation. -/
inductive Place where
  | frame (c : Content)
  | response (resv : Nat) (code tag : Byte) (payload : List Byte)
  | reservation (resv : Nat) (code tag : Byte)
  deriving DecidableEq, Repr

/-- The frame in transmission, with the bytes it was built with (R139, R153). -/
structure Sending where
  place : Place
  bytes : List Byte
  deriving DecidableEq, Repr

/-- Contents held aside while a frame of their kind is in transmission; `atHead` for a guard's zero demand (R136, R137). -/
structure HeldContent where
  content : Content
  atHead : Bool
  deriving DecidableEq, Repr

/-- The outbound queue (R135): the frame in transmission stands at its head, `waiting` behind it. -/
structure Outbound where
  sending : Option Sending := none
  waiting : List Place := []
  held : Option HeldContent := none
  nextResv : Nat := 0
  deriving DecidableEq, Repr

/-- Level Telemetry (R129, R130): the record and the projection last passed, the demand last passed, the STATE contents last
passed, the reference level, the time of the last LEVEL report queued (of the reset before the first), the period timer, and
the contents of the last TRIP report (R134). -/
structure TelemetryBlock where
  record : LevelRecord
  projection : Nat := 0
  demand : Nat := 0
  contents : StateContents := {}
  reference : Option Nat := none
  lastReportAt : Nat := 0
  periodAt : Option Nat := none
  lastTrip : Option TripReport := none
  deriving DecidableEq, Repr

/-! ### The trunk port (chapter 9) -/

/-- A pending RESTART (R163): its 60 s limit while that runs, the reservation of its response, and whether the event that the
restart follows has come. -/
structure PendingRestart where
  limitAt : Option Nat
  resv : Nat
  due : Bool
  deriving DecidableEq, Repr

/-- The Trunk Port (R155, R156, R163). -/
structure TrunkBlock where
  islanded : Bool := false
  controlSilent : Bool := false
  stationSilent : Bool := false
  controlAt : Option Nat := none
  stationAt : Option Nat := none
  restart : Option PendingRestart := none
  deriving DecidableEq, Repr

/-! ### Inputs and notices -/

/-- The discrete inputs as they stand (introduction; R186). The external reset input is the command POWER_ON_RESET. -/
structure Inputs where
  float : Bool := false
  mains : Bool := true
  batteryLow : Bool := false
  protect : Bool := false
  clearToSend : Bool := false
  deriving DecidableEq, Repr

/-- The blocks that take notices. -/
inductive BlockName where
  | level | guard | fill | frost | line | telemetry | store
  deriving DecidableEq, Repr

/-- The notices that the blocks pass to one another within one event. -/
inductive Notice where
  /-- R10: the points an event touched; `sample` is the update time when the event is a reply. -/
  | points (ps : List Nat) (sample : Option Nat)
  /-- R117: the sensor housing's frozen flag has changed. -/
  | housing
  /-- R65: the level notice. -/
  | level (record : LevelRecord) (qualityChanged appended : Bool)
  /-- R117: the overflow pipe's frozen flag has become `flag`. -/
  | overflowPipe (flag : Bool)
  /-- R74: the fill demand has changed, or a STATION-STATUS has updated the station copy. -/
  | evaluate
  /-- R42: the urgent close has ended. -/
  | urgentOutcome (done : Bool)
  /-- R81, R84: the store reports trip work programmed (its slot) or failed. -/
  | tripWork (entry : TripEntry) (slot : Option Nat)
  /-- R103: reasons join and leave the fill inhibit set. -/
  | inhibit (add remove : List Reason)
  /-- R37 to R41, R46: the outcome of a command. -/
  | command (address item target : Nat) (outcome : CommandOutcome)
  /-- R118: frost watch has become `watch`. -/
  | frostWatch (watch : Bool)
  /-- R156: the control room has gone silent. -/
  | lapse
  /-- R90: the tariff class. -/
  | tariff (cls : TariffClass)
  /-- R179: the supply mode, and the mode before. -/
  | supply (mode before : SupplyMode)
  /-- R126, R147: the FROST bank has been cleared, or begins or ceases to hold. -/
  | frostBank (cleared holds : Bool)
  /-- R87: the guard's state and cause. -/
  | guardState (state : GuardState) (cause : Option TripCause)
  /-- R87: the projection. -/
  | projection (p : Nat)
  /-- R129: the fill's state, purpose, order, inhibit set and demand. -/
  | fillItems (state : FillState) (purpose : Option Purpose) (order : FillOrder) (inhibit : List Reason) (demand : Nat)
  /-- R108: the station's mode and counts. -/
  | station (mode : Option StationMode) (available running : Nat)
  /-- R117, R118, R120: the frozen and granted zones and frost watch. -/
  | frostItems (frozen granted : List Nat) (watch : Bool)
  /-- R156: the islanded flag. -/
  | islanded (flag : Bool)
  /-- R132: the clock has first been set. -/
  | clockSet
  /-- R81: the trip-area record number for the TRIP report. -/
  | tripNumber (slot : Nat)
  deriving DecidableEq, Repr

/-- A notice on its way to a block. -/
structure Delivery where
  dest : BlockName
  notice : Notice
  deriving DecidableEq, Repr

/-! ### The state -/

/-- The whole state of the LT420. `powered` says that the part has power; `timeUs` counts microseconds since the last reset
(internal time is its whole milliseconds). `notices`, `draws` and `pending` are the model's own: the notices of the present
event not yet taken, the free values drawn so far, and the commands that wait, first in, first out. -/
structure State where
  powered : Bool
  timeUs : Nat
  inputs : Inputs
  nv : NvStore
  tables : Tables
  use : PerKind KindUse
  points : List PointState
  level : LevelBlock
  guard : GuardBlock
  fill : FillBlock
  frost : FrostBlock
  banks : PerBank (Option FaultRecord)
  line : LineBlock
  telemetry : TelemetryBlock
  out : Outbound
  trunk : TrunkBlock
  supply : SupplyBlock
  engine : EngineBlock
  notices : List Delivery
  draws : Nat
  pending : List Instr
  deriving DecidableEq, Repr

/-- The faults that stop the machine. The manual gives every command an effect or lets it find nothing to act on, so no
command stops and the type has no constructor. -/
inductive Fault where
  deriving DecidableEq, Repr

/-- The refusals of a command. -/
inductive Refusal where
  /-- Raised by an arm of `exec` whose command has no meaning in the model; safe, since no next state is claimed. -/
  | notModelled (mnemonic : String)
  deriving DecidableEq, Repr

/-! ### Reset -/

/-- The working level record of a reset with STRAPPING EMPTY (R66). -/
def resetRecord : LevelRecord := { w := 0, quality := .lost, v := 0, segment := 0, rate := none, lostSince := some 0 }

/-- The fault record of START_IMAGE_BAD for the kind POINTS, the first of a start-up load that finds nothing (R141, R144, R174); the
faults of the other nine kinds set `overflow` and `unseen`. -/
def resetFault (later : Bool) : FaultRecord :=
  { overflow := later, severity := .severe, code := .startImageBad, subject := some (.kind .points), clock := none, uptime := 0
    autoResume := false, unseen := later }

/-- The contents of the STATE report of that start (R132). -/
def resetContents : StateContents :=
  { guard := .tripped, cause := some .noTables, fill := .held, inhibit := [.guard] }

/-- The machine right after a power-on reset whose start-up load found every kind EMPTY and the trip area erased, on mains with the
other inputs inactive (R66, R70, R85, R95, R103, R107, R130, R132, R140, R165, R174, R176; assumptions 1 and 2). -/
def State.reset : State :=
  { powered := true
    timeUs := 0
    inputs := {}
    nv := { copies := ⟨{}, {}, {}, {}, {}, {}, {}, {}, {}, {}⟩, slots := List.replicate 8 .erased }
    tables := {}
    use := ⟨{}, {}, {}, {}, {}, {}, {}, {}, {}, {}⟩
    points := List.replicate 64 {}
    level := { record := resetRecord }
    guard := {}
    fill := { state := .held, inhibit := [.guard], stopWait := some 0, demandTag := 1 }
    frost := {}
    banks := { level := none, guard := none, fill := none, frost := none, line := none, trunk := none
               store := some (resetFault true) }
    line := { live := List.replicate 24 {} }
    telemetry := { record := resetRecord, contents := resetContents, periodAt := some 600000 }
    out := { waiting := [.frame (.fault .store (resetFault false)), .frame (.demand 0 1),
                         .frame (.state { contents := resetContents, clock := none, uptime := 0 })] }
    trunk := { controlAt := some 120000, stationAt := some 60000 }
    supply := {}
    engine := {}
    notices := []
    draws := 0
    pending := [] }

end Sys2Proof.Machine
end

