-- ==== Sys2Proof/Machine/Frames.lean ====
section
/-! DEFINITION. The field frame (R181, R182), the cost of a transaction (R23), the judgment of a reply (R24), and the trunk
frame (R183). -/

namespace Sys2Proof.Machine

/-! ### Requests on the field line -/

/-- The line rate in baud (R22). -/
def LineRate.baud : LineRate → Nat
  | .baud9600 => 9600
  | .baud19200 => 19200
  | .baud38400 => 38400

/-- The byte time in microseconds: 11,000,000 divided by the line rate, rounded up (R22). -/
def LineRate.byteTimeUs (r : LineRate) : Nat := ceilDiv 11000000 r.baud

/-- Function code and payload of a request to a device (R181). -/
def DeviceRequest.body : DeviceRequest → Byte × List Byte
  | .read start count => (0x31#8, [BitVec.ofNat 8 start, BitVec.ofNat 8 count])
  | .write item value => (0x32#8, BitVec.ofNat 8 item :: beBytes 2 value)
  | .select item value => (0x33#8, BitVec.ofNat 8 item :: beBytes 2 value)
  | .operate item value => (0x34#8, BitVec.ofNat 8 item :: beBytes 2 value)
  | .direct item value => (0x35#8, BitVec.ofNat 8 item :: beBytes 2 value)
  | .status => (0x36#8, [])

/-- A field frame without its check (R181). -/
def frameBody (address : Nat) (code : Byte) (payload : List Byte) : List Byte :=
  BitVec.ofNat 8 address :: code :: BitVec.ofNat 8 payload.length :: payload

/-- Function code and payload of what a transaction sends (R181): a HAND-OFF carries the inner request frame without its
check, a COLLECT the inner address. -/
def LineRequest.body : LineRequest → Byte × List Byte
  | .device r => r.body
  | .handOff inner r => (0x38#8, frameBody inner r.body.1 r.body.2)
  | .collect inner _ => (0x39#8, [BitVec.ofNat 8 inner])

/-- The bytes of a request on the line: the wake burst if there is one, the frame and its check (R28, R181, R182). -/
def requestBytes (lsbFirst wake : Bool) (address : Nat) (r : LineRequest) : List Byte :=
  let body := frameBody address r.body.1 r.body.2
  (if wake then List.replicate Config.wakeBytes 0x55#8 else []) ++ body ++ fieldCheck lsbFirst body

/-- Request bytes of R23's table. -/
def DeviceRequest.requestSize : DeviceRequest → Nat
  | .read _ _ => 7
  | .write _ _ => 8
  | .select _ _ => 8
  | .operate _ _ => 8
  | .direct _ _ => 8
  | .status => 5

/-- Largest reply bytes of R23's table. -/
def DeviceRequest.replySize : DeviceRequest → Nat
  | .read _ n => 6 + 2 * n
  | .write _ _ => 5
  | .select _ _ => 8
  | .operate _ _ => 5
  | .direct _ _ => 5
  | .status => 5

/-- Request bytes of a transaction (R23). -/
def LineRequest.requestSize : LineRequest → Nat
  | .device r => r.requestSize
  | .handOff _ r => r.requestSize + 3
  | .collect _ _ => 6

/-- Largest reply bytes of a transaction (R23). -/
def LineRequest.replySize : LineRequest → Nat
  | .device r => r.replySize
  | .handOff _ _ => 5
  | .collect _ r => r.replySize + 3

/-- The worst-case cost of a transaction, in microseconds (R23). -/
def LineRequest.costUs (byteTimeUs : Nat) (wake : Bool) (r : LineRequest) : Nat :=
  ((if wake then Config.wakeBytes else 0) + r.requestSize + r.replySize) * byteTimeUs + Config.replyWindowUs

/-! ### Replies on the field line -/

/-- The reply codes of R181 that a device or the repeater may send, with their contents. -/
inductive Reply where
  | data (start : Nat) (items : List Nat)
  | done
  | selected (item value : Nat)
  | ready
  | taken
  | carried (inner : List Byte)
  | busy
  | refused
  | full
  | pending
  deriving DecidableEq, Repr

/-- A reply whose check was correct and which came from the right address: its code and payload (R45). -/
structure RawReply where
  code : Byte
  payload : List Byte
  deriving DecidableEq, Repr

/-- The outcome of a transaction (R24): no reply; a reply that is bad, `raw` being present when it had a correct check and the
right address (R45); or an accepted reply. -/
inductive FieldOutcome where
  | noReply
  | bad (raw : Option RawReply)
  | accepted (reply : Reply) (raw : RawReply)
  deriving DecidableEq, Repr

/-- The 2-byte items of a DATA payload, in order (R181). -/
def dataItems : List Byte → List Nat
  | hi :: lo :: rest => (hi.toNat * 256 + lo.toNat) :: dataItems rest
  | _ => []

/-- A reply read from its code and payload; none when the payload does not suit the code or the code is no reply code
(R181). -/
def readReply (r : RawReply) : Option Reply :=
  if 40 < r.payload.length then none else
  match r.code, r.payload with
  | 0xB1#8, start :: items => if items.length % 2 = 0 then some (.data start.toNat (dataItems items)) else none
  | 0xB2#8, [] => some .done
  | 0xB3#8, [item, hi, lo] => some (.selected item.toNat (beNat [hi, lo]))
  | 0xB6#8, [] => some .ready
  | 0xB8#8, [] => some .taken
  | 0xB9#8, inner => if 3 ≤ inner.length then some (.carried inner) else none
  | 0xE1#8, [] => some .busy
  | 0xE2#8, [] => some .refused
  | 0xE8#8, [] => some .full
  | 0xE9#8, [] => some .pending
  | _, _ => none

/-- Whether a device request allows the reply, and for DATA whether it carries the requested start item and no more items than
were asked for (R24). -/
def DeviceRequest.allows : DeviceRequest → Reply → Bool
  | .read start count, .data start' items => start == start' && decide (items.length ≤ count)
  | .read _ _, .busy => true
  | .read _ _, .refused => true
  | .write _ _, .done => true
  | .write _ _, .busy => true
  | .write _ _, .refused => true
  | .select _ _, .selected _ _ => true
  | .select _ _, .busy => true
  | .select _ _, .refused => true
  | .operate _ _, .done => true
  | .operate _ _, .busy => true
  | .operate _ _, .refused => true
  | .direct _ _, .done => true
  | .direct _ _, .refused => true
  | .status, .ready => true
  | .status, .busy => true
  | .status, .refused => true
  | _, _ => false

/-- Whether a transaction allows the reply (R24's table). -/
def LineRequest.allows : LineRequest → Reply → Bool
  | .device r, reply => r.allows reply
  | .handOff _ _, .taken => true
  | .handOff _ _, .full => true
  | .handOff _ _, .busy => true
  | .handOff _ _, .refused => true
  | .handOff _ _, _ => false
  | .collect _ _, .carried _ => true
  | .collect _ _, .pending => true
  | .collect _ _, _ => false

/-- A frame without its check, read as from the address given: its code and payload, when the announced length is that of the
payload (R181); otherwise it is no frame, an inner frame of a CARRIED included (the model's choice there, assumption 32). -/
def readBody (address : Nat) : List Byte → Option RawReply
  | a :: code :: len :: payload =>
    if a.toNat = address ∧ len.toNat = payload.length then some ⟨code, payload⟩ else none
  | _ => none

/-- The reply as a code and payload, when its check is correct and it comes from the address given (R24, R45). -/
def rawReply (lsbFirst : Bool) (address : Nat) (frame : List Byte) : Option RawReply :=
  let body := frame.take (frame.length - 2)
  if 5 ≤ frame.length ∧ frame.drop (frame.length - 2) = fieldCheck lsbFirst body then readBody address body else none

/-- An outcome from a code and payload with correct check and address, given what the request allows (R24). -/
def judgeRaw (allows : Reply → Bool) (raw : Option RawReply) : FieldOutcome :=
  match raw with
  | none => .bad none
  | some r =>
    match readReply r with
    | some reply => if allows reply then .accepted reply r else .bad (some r)
    | none => .bad (some r)

/-- The judgment of a reply frame against the transaction it answers (R24). -/
def judgeReply (t : Transaction) (frame : List Byte) : FieldOutcome :=
  judgeRaw t.request.allows (rawReply t.lsbFirst t.address frame)

/-- The judgment of the inner reply that a COLLECT returns, against the inner request and the inner address; the outer check
stands for the inner one (R24, R181). -/
def judgeInner (inner : Nat) (r : DeviceRequest) (bytes : List Byte) : FieldOutcome :=
  judgeRaw r.allows (readBody inner bytes)

/-! ### Trunk frames -/

/-- A trunk frame whose bytes arrived whole with a correct check (R152, R183). -/
structure TrunkFrame where
  dest : Nat
  source : Nat
  kind : Byte
  code : Byte
  tag : Byte
  payload : List Byte
  deriving DecidableEq, Repr

/-- The bytes of a trunk frame (R183). -/
def TrunkFrame.bytes (f : TrunkFrame) : List Byte :=
  let covered := BitVec.ofNat 8 f.dest :: BitVec.ofNat 8 f.source :: f.kind :: f.code :: f.tag
    :: BitVec.ofNat 8 f.payload.length :: f.payload
  0xA5#8 :: 0x5A#8 :: (covered ++ checkBytes (trunkCheck covered))

/-- What the bytes of a frame, from the sync pair on, amount to (R152): not yet a whole frame, a bad frame, or a good one. -/
inductive TrunkRead where
  | incomplete
  | bad
  | good (f : TrunkFrame)
  deriving DecidableEq, Repr

/-- Reads the bytes of a frame (R152): a length above 200 ends it at once as bad, and so does a check that does not match;
bytes beyond the frame's end, or without the sync pair, are no frame. -/
def readTrunk : List Byte → TrunkRead
  | 0xA5#8 :: 0x5A#8 :: dest :: source :: kind :: code :: tag :: len :: rest =>
    if 200 < len.toNat then (if rest = [] then .bad else .incomplete)
    else if rest.length ≠ len.toNat + 2 then .incomplete
    else
      let payload := rest.take len.toNat
      let covered := dest :: source :: kind :: code :: tag :: len :: payload
      if rest.drop len.toNat = checkBytes (trunkCheck covered)
      then .good ⟨dest.toNat, source.toNat, kind, code, tag, payload⟩
      else .bad
  | _ => .incomplete

/-- Whether bytes are the proper beginning of a frame: the sync pair, and no end reached yet (R152). An A5h alone is no frame yet, so that a
gap of more than 50 ms behind it is no bad frame: R152 speaks of two bytes of a frame, whose two first are the pair (R183), and finds a
frame by its whole pair (the model's choice, assumption 22). -/
def trunkBegun : List Byte → Bool
  | 0xA5#8 :: 0x5A#8 :: rest =>
    match rest with
    | _ :: _ :: _ :: _ :: _ :: len :: tail => decide (len.toNat ≤ 200 ∧ tail.length < len.toNat + 2)
    | _ => true
  | _ => false

end Sys2Proof.Machine
end

