-- ==== Sys2Proof/Machine/Tables.lean ====
section
/-! DEFINITION. The table kinds (R166), the layouts of their records (R184), and each owner's validation and clamping
(R2, R11, R47, R50, R61, R69, R89, R91, R92, R112, R142, R153, R155, R184). Where several refusals apply, the records are gone
through in index order and, in a record, the checks in the order its rule lists them; checks across records come last
(assumption 8). -/

namespace Sys2Proof.Machine

/-- The detail of a refused close (R170, R185). -/
inductive Detail where
  | unordered | overlap | duplicate | tooCostly | range
  deriving DecidableEq, Repr

/-! ### The kinds -/

/-- The number of a kind (R185, in the order of R174). -/
def TableKind.number : TableKind → Nat
  | .points => 0 | .map => 1 | .channels => 2 | .strapping => 3 | .guardSet => 4
  | .fillSet => 5 | .tariff => 6 | .profile => 7 | .zones => 8 | .siteSet => 9

/-- The ten kinds, in the order of R174. -/
def TableKind.all : List TableKind :=
  [.points, .map, .channels, .strapping, .guardSet, .fillSet, .tariff, .profile, .zones, .siteSet]

/-- The kind of a number (R185); none if it is not one of the ten. -/
def TableKind.ofNumber (n : Nat) : Option TableKind := TableKind.all[n]?

/-- Most records of a kind (R166). -/
def TableKind.capacity : TableKind → Nat
  | .points => 64 | .map => 96 | .channels => 24 | .strapping => 24 | .guardSet => 1
  | .fillSet => 1 | .tariff => 16 | .profile => 48 | .zones => 8 | .siteSet => 1

/-- Whether a kind is protected (R166). -/
def TableKind.isProtected : TableKind → Bool
  | .points => true | .strapping => true | .guardSet => true
  | .map => false | .channels => false | .fillSet => false | .tariff => false | .profile => false | .zones => false
  | .siteSet => false

/-- Length of a record of a kind, in bytes (R184). -/
def TableKind.recordLength : TableKind → Nat
  | .points => 25 | .map => 6 | .channels => 7 | .strapping => 8 | .guardSet => 32
  | .fillSet => 17 | .tariff => 6 | .profile => 6 | .zones => 14 | .siteSet => 31

/-- The value of a kind. -/
def PerKind.get {α : Type} (t : PerKind α) : TableKind → α
  | .points => t.points | .map => t.map | .channels => t.channels | .strapping => t.strapping
  | .guardSet => t.guardSet | .fillSet => t.fillSet | .tariff => t.tariff | .profile => t.profile
  | .zones => t.zones | .siteSet => t.siteSet

/-- Replaces the value of a kind. -/
def PerKind.set {α : Type} (t : PerKind α) (k : TableKind) (x : α) : PerKind α :=
  match k with
  | .points => { t with points := x } | .map => { t with map := x } | .channels => { t with channels := x }
  | .strapping => { t with strapping := x } | .guardSet => { t with guardSet := x }
  | .fillSet => { t with fillSet := x } | .tariff => { t with tariff := x } | .profile => { t with profile := x }
  | .zones => { t with zones := x } | .siteSet => { t with siteSet := x }

/-! ### Clamping -/

/-- The nearest number of a range. -/
def clampNat (lo hi x : Nat) : Nat := max lo (min hi x)

/-- The nearest number of a range. -/
def clampInt (lo hi x : Int) : Int := max lo (min hi x)

/-- How many of the fields were changed by clamping: the count the close response reports (R2, R170). -/
def clampCount (changed : List Bool) : Nat := changed.countP id

/-- Validates each record in index order and gathers the clamped records and the clamp counts. -/
def validateEach {α : Type} (f : List Byte → Except Detail (α × Nat)) : List (List Byte) → Except Detail (List α × Nat)
  | [] => .ok ([], 0)
  | r :: rest =>
    match f r with
    | .error d => .error d
    | .ok (x, n) =>
      match validateEach f rest with
      | .error d => .error d
      | .ok (xs, m) => .ok (x :: xs, n + m)

/-! ### POINTS (R1, R2) -/

/-- The point kind of a code (R184, R185). -/
def PointKind.ofCode : Nat → Option PointKind
  | 0 => some .level | 1 => some .temperature | 2 => some .flow | 3 => some .position | 4 => some .state
  | 5 => some .switch | _ => none

/-- Whether a kind is converted from raw values, with the range of its engineering values (R1, R2). -/
def PointKind.engRange : PointKind → Option (Int × Int)
  | .level => some (0, 40000) | .temperature => some (-400, 850) | .flow => some (0, 65535)
  | .position => none | .state => none | .switch => none

/-- The codes of a kind that holds codes (R1, R2). -/
def PointKind.maxCode : PointKind → Option Int
  | .position => some 3 | .state => some 1 | .switch => some 1
  | .level => none | .temperature => none | .flow => none

/-- Reads, clamps and checks a POINTS record (R2, R184). Each end of the raw window and of the engineering range counts as a field of its
own, and an end that two clamps change counts once: R1 names the window and the range as one field each, R184 lists their ends, and R2
clamps an engineering end twice (the model's choice, assumption 41). -/
def validatePoint (bs : List Byte) : Except Detail (PointRecord × Nat) :=
  match PointKind.ofCode (fieldU bs 0 1) with
  | none => .error .range
  | some kind =>
    let rawMin := fieldS bs 1 4
    let rawMax := fieldS bs 5 4
    let offset := fieldS bs 11 4
    let low := fieldS bs 15 4
    let high := fieldS bs 19 4
    let stale := fieldU bs 23 2
    let offset' := clampInt (-100000) 100000 offset
    let toKind (x : Int) : Int :=
      match kind.engRange with
      | some (lo, hi) => clampInt lo hi (clampInt (-100000) 100000 x)
      | none => clampInt (-100000) 100000 x
    let toCode (x : Int) : Int :=
      match kind.maxCode with
      | some c => clampInt 0 c x
      | none => x
    let low' := toKind low
    let high' := toKind high
    let rawMin' := toCode rawMin
    let rawMax' := toCode rawMax
    let stale' := clampNat 1 3600 stale
    if rawMax' ≤ rawMin' then .error .unordered
    else if kind.engRange.isSome ∧ high' ≤ low' then .error .unordered
    else .ok (⟨kind, rawMin', rawMax', fieldS bs 9 2, offset', low', high', stale'⟩,
      clampCount [rawMin' != rawMin, rawMax' != rawMax, offset' != offset, low' != low, high' != high, stale' != stale])

/-! ### MAP (R11) -/

/-- Reads and checks a MAP record (R11, R184). The last two bytes of a GATE record, which R184 gives as 00h, are not looked at: no rule
says that another value refuses the close (the model's choice, assumption 37). -/
def validateMapEntry (bs : List Byte) : Except Detail (MapEntry × Nat) :=
  let address := fieldU bs 0 1
  let item := fieldU bs 1 1
  let third := fieldU bs 3 1
  let width := fieldU bs 4 1
  let sign := fieldU bs 5 1
  if address < 1 ∨ 31 < address then .error .range
  else match fieldU bs 2 1 with
    | 1 =>
      if 63 < third ∨ ¬(width = 1 ∨ width = 2) ∨ 1 < sign then .error .range
      else .ok (⟨address, item, .extract third width (sign == 1)⟩, 0)
    | 2 =>
      match third with
      | 0 => .ok (⟨address, item, .gate .inlet⟩, 0)
      | 1 => .ok (⟨address, item, .gate .deny⟩, 0)
      | _ => .error .range
    | _ => .error .range

/-- Whether two entries are EXTRACT entries of one address and item, or of one point (R11). -/
def MapEntry.collides (x y : MapEntry) : Bool :=
  match x.action, y.action with
  | .extract p _ _, .extract q _ _ => (x.address == y.address && x.item == y.item) || p == q
  | _, _ => false

/-- Whether some two members of a list, at different places, are related. -/
def anyPair {α : Type} (r : α → α → Bool) : List α → Bool
  | [] => false
  | x :: rest => rest.any (r x) || anyPair r rest

/-! ### CHANNELS (R47) -/

/-- Reads, clamps and checks a CHANNELS record (R47, R184). Bits 2 to 7 of the flags, to which R184 gives no meaning, are not looked at (the
model's choice, assumption 37). -/
def validateChannel (bs : List Byte) : Except Detail (ChannelRecord × Nat) :=
  let address := fieldU bs 0 1
  let start := fieldU bs 1 1
  let count := fieldU bs 2 1
  let interval := fieldU bs 3 1
  let flags := fieldU bs 5 1
  let inner := fieldU bs 6 1
  let behind := flags.testBit 1
  let interval' := clampNat 1 240 interval
  let make (cls : ChannelClass) : Except Detail (ChannelRecord × Nat) :=
    .ok (⟨address, start, count, interval', cls, flags.testBit 0, behind, inner⟩, clampCount [interval' != interval])
  if address < 1 ∨ 31 < address then .error .range
  else if behind = true ∧ (inner < 1 ∨ 31 < inner) then .error .range
  else if count < 1 ∨ 16 < count then .error .range
  else if 255 < start + count - 1 then .error .range
  else match fieldU bs 4 1 with
    | 0 => make .guard
    | 1 => make .normal
    | _ => .error .range

/-- The worst-case cost that a channel counts toward the limit of R47: for a BEHIND channel its HAND-OFF and its COLLECT
together. -/
def ChannelRecord.costUs (byteTimeUs : Nat) (c : ChannelRecord) : Nat :=
  let r := DeviceRequest.read c.start c.count
  if c.behind then
    (LineRequest.handOff c.inner r).costUs byteTimeUs c.wake + (LineRequest.collect c.inner r).costUs byteTimeUs c.wake
  else (LineRequest.device r).costUs byteTimeUs c.wake

/-- The worst-case costs of all GUARD-class channels together (R47). -/
def guardCostUs (byteTimeUs : Nat) (cs : List ChannelRecord) : Nat :=
  ((cs.filter fun c => c.cls == .guard).map (ChannelRecord.costUs byteTimeUs)).sum

/-! ### STRAPPING (R61) -/

/-- Reads and clamps a STRAPPING breakpoint (R61, R184). -/
def validateBreakpoint (bs : List Byte) : Except Detail (Breakpoint × Nat) :=
  let level := fieldU bs 0 4
  let volume := fieldU bs 4 4
  let level' := clampNat 0 Config.maxLevel level
  let volume' := clampNat 0 Config.maxVolume volume
  .ok (⟨level', volume'⟩, clampCount [level' != level, volume' != volume])

/-- Whether levels and volumes both rise strictly from each breakpoint to the next (R61). -/
def strappingRises : List Breakpoint → Bool
  | x :: y :: rest => decide (x.level < y.level ∧ x.volume < y.volume) && strappingRises (y :: rest)
  | _ => true

/-! ### GUARD_SET (R50, R69) -/

/-- Reads, clamps and checks a GUARD_SET record (R50, R69, R184). -/
def validateGuardSet (bs : List Byte) : Except Detail (GuardSet × Nat) :=
  let raw : GuardSet := {
    pointA := fieldU bs 0 1, pointB := fieldU bs 1 1, agreeBand := fieldU bs 2 2, overflow := fieldU bs 4 2
    anticipateMargin := fieldU bs 6 2, tripMargin := fieldU bs 8 2, resetGap := fieldU bs 10 2
    hysteresis := fieldU bs 12 2, frostExtra := fieldU bs 14 2, levelHold := fieldU bs 16 2
    stopLatency := fieldU bs 18 2, coastVolume := fieldU bs 20 3, ratedRise := fieldU bs 23 2
    valveTravel := fieldU bs 25 2, inletAddress := fieldU bs 27 1, inletItem := fieldU bs 28 1
    feedback := fieldU bs 29 1, floatLevel := fieldU bs 30 2 }
  let g : GuardSet := { raw with
    agreeBand := clampNat 10 500 raw.agreeBand
    overflow := clampNat 1000 40000 raw.overflow
    anticipateMargin := clampNat 50 5000 raw.anticipateMargin
    tripMargin := clampNat 0 2000 raw.tripMargin
    resetGap := clampNat 50 5000 raw.resetGap
    hysteresis := clampNat 10 2000 raw.hysteresis
    frostExtra := clampNat 0 2000 raw.frostExtra
    levelHold := clampNat 10 300 raw.levelHold
    stopLatency := clampNat 0 600 raw.stopLatency
    coastVolume := clampNat 0 200000 raw.coastVolume
    ratedRise := clampNat 1 2000 raw.ratedRise
    valveTravel := clampNat 10 600 raw.valveTravel
    floatLevel := clampNat 0 40000 raw.floatLevel }
  if 63 < g.pointA ∨ 63 < g.pointB then .error .range
  else if g.pointA = g.pointB then .error .duplicate
  else if g.inletAddress < 1 ∨ 31 < g.inletAddress ∨ 63 < g.feedback then .error .range
  else if g.anticipateMargin ≤ g.tripMargin then .error .unordered
  else if g.overflow < g.tripMargin + g.frostExtra + g.resetGap
    ∨ g.overflow < g.anticipateMargin + g.frostExtra + g.hysteresis then .error .range
  else .ok (g, clampCount [g.agreeBand != raw.agreeBand, g.overflow != raw.overflow,
    g.anticipateMargin != raw.anticipateMargin, g.tripMargin != raw.tripMargin, g.resetGap != raw.resetGap,
    g.hysteresis != raw.hysteresis, g.frostExtra != raw.frostExtra, g.levelHold != raw.levelHold,
    g.stopLatency != raw.stopLatency, g.coastVolume != raw.coastVolume, g.ratedRise != raw.ratedRise,
    g.valveTravel != raw.valveTravel, g.floatLevel != raw.floatLevel])

/-! ### FILL_SET (R92) -/

/-- Reads, clamps and checks a FILL_SET record (R92, R184). -/
def validateFillSet (bs : List Byte) : Except Detail (FillSet × Nat) :=
  let raw : FillSet := {
    target := fieldU bs 0 2, minimum := fieldU bs 2 2, topUpBand := fieldU bs 4 2, turnover := fieldU bs 6 2
    frostWatchTemp := fieldS bs 8 2, finishReserve := fieldU bs 10 1, planInterval := fieldU bs 11 1
    pumpFlow := fieldU bs 12 2, siteMax := fieldU bs 14 1, renewal := fieldU bs 15 1, riseCheck := fieldU bs 16 1 }
  let f : FillSet := {
    target := clampNat 0 40000 raw.target
    minimum := clampNat 0 40000 raw.minimum
    topUpBand := clampNat 50 5000 raw.topUpBand
    turnover := clampNat 0 40000 raw.turnover
    frostWatchTemp := clampInt (-400) 850 raw.frostWatchTemp
    finishReserve := clampNat 0 120 raw.finishReserve
    planInterval := clampNat 5 30 raw.planInterval
    pumpFlow := clampNat 50 5000 raw.pumpFlow
    siteMax := clampNat 1 4 raw.siteMax
    renewal := clampNat 10 120 raw.renewal
    riseCheck := clampNat 5 60 raw.riseCheck }
  if f.target < f.minimum + f.topUpBand ∨ f.target < f.turnover then .error .unordered
  else .ok (f, clampCount [f.target != raw.target, f.minimum != raw.minimum, f.topUpBand != raw.topUpBand,
    f.turnover != raw.turnover, f.frostWatchTemp != raw.frostWatchTemp, f.finishReserve != raw.finishReserve,
    f.planInterval != raw.planInterval, f.pumpFlow != raw.pumpFlow, f.siteMax != raw.siteMax,
    f.renewal != raw.renewal, f.riseCheck != raw.riseCheck])

/-! ### TARIFF and PROFILE (R89, R91) -/

/-- The day type of a code (R184). -/
def DayType.ofCode : Nat → Option DayType
  | 0 => some .work | 1 => some .rest | _ => none

/-- Reads and checks a TARIFF record (R89, R184). -/
def validateWindow (bs : List Byte) : Except Detail (TariffWindow × Nat) :=
  let start := fieldU bs 1 2
  let stop := fieldU bs 3 2
  match DayType.ofCode (fieldU bs 0 1), fieldU bs 5 1 with
  | some d, 0 => if 1439 < start ∨ 1439 < stop ∨ start = stop then .error .range else .ok (⟨d, start, stop, true⟩, 0)
  | some d, 1 => if 1439 < start ∨ 1439 < stop ∨ start = stop then .error .range else .ok (⟨d, start, stop, false⟩, 0)
  | _, _ => .error .range

/-- Whether a window covers a minute, taken around the clock face (R89). -/
def TariffWindow.covers (x : TariffWindow) (minute : Nat) : Bool :=
  if x.start < x.stop then decide (x.start ≤ minute ∧ minute < x.stop) else decide (x.start ≤ minute ∨ minute < x.stop)

/-- Whether two windows of one day type cover a common minute (R89): two stretches of the clock face meet when one of them
covers the other's start. -/
def TariffWindow.overlaps (x y : TariffWindow) : Bool :=
  x.dayType == y.dayType && (x.covers y.start || y.covers x.start)

/-- Reads, clamps and checks a PROFILE record (R91, R184). -/
def validateProfile (bs : List Byte) : Except Detail (ProfileRecord × Nat) :=
  let hour := fieldU bs 1 1
  let rate := fieldU bs 2 4
  let rate' := clampNat 0 400000 rate
  match DayType.ofCode (fieldU bs 0 1) with
  | none => .error .range
  | some d => if 23 < hour then .error .range else .ok (⟨d, hour, rate'⟩, clampCount [rate' != rate])

/-- Whether two PROFILE records are of the same day type and hour (R91). -/
def ProfileRecord.same (x y : ProfileRecord) : Bool := x.dayType == y.dayType && x.hour == y.hour

/-! ### ZONES (R112) -/

/-- The zone kind of a code (R184, R185). -/
def ZoneKind.ofCode : Nat → Option ZoneKind
  | 0 => some .riser | 1 => some .valveChamber | 2 => some .overflowPipe | 3 => some .outlet
  | 4 => some .sensorHousing | _ => none

/-- Reads, clamps and checks a ZONES record (R112, R184). An off temperature that is clamped into its range and then raised to the on
temperature plus 1 counts as one clamped field, not as two, which R112 leaves open (the model's choice, assumption 40). -/
def validateZone (bs : List Byte) : Except Detail (ZoneRecord × Nat) :=
  match ZoneKind.ofCode (fieldU bs 0 1) with
  | none => .error .range
  | some kind =>
    let raw : ZoneRecord := {
      kind := kind, tempPoint := fieldU bs 1 1, heaterAddress := fieldU bs 2 1, heaterItem := fieldU bs 3 1
      feedback := fieldU bs 4 1, power := fieldU bs 5 2, priority := fieldU bs 7 1
      onTemp := fieldS bs 8 2, offTemp := fieldS bs 10 2, freezeTemp := fieldS bs 12 2 }
    let on := clampInt (-400) 850 raw.onTemp
    let off := clampInt (-400) 850 raw.offTemp
    let z : ZoneRecord := { raw with
      power := clampNat 50 6000 raw.power
      priority := clampNat 1 8 raw.priority
      onTemp := on
      offTemp := if off ≤ on then on + 1 else off
      freezeTemp := clampInt (-400) 850 raw.freezeTemp }
    if 63 < z.tempPoint ∨ 63 < z.feedback ∨ z.heaterAddress < 1 ∨ 31 < z.heaterAddress then .error .range
    else .ok (z, clampCount [z.power != raw.power, z.priority != raw.priority, z.onTemp != raw.onTemp,
      off != raw.offTemp || decide (off ≤ on), z.freezeTemp != raw.freezeTemp])

/-- Whether two zones name the same heater (R112). -/
def ZoneRecord.sameHeater (x y : ZoneRecord) : Bool :=
  x.heaterAddress == y.heaterAddress && x.heaterItem == y.heaterItem

/-! ### SITE_SET (R142, R153, R155, R184) -/

/-- The line rate of a code (R184). -/
def LineRate.ofCode : Nat → Option LineRate
  | 0 => some .baud9600 | 1 => some .baud19200 | 2 => some .baud38400 | _ => none

/-- How many codes each bank has (R141). -/
def Bank.codeCount : Bank → Nat
  | .level => 5 | .guard => 4 | .fill => 2 | .frost => 3 | .line => 4 | .trunk => 4 | .store => 4

/-- The number of a bank (R185). -/
def Bank.number : Bank → Nat
  | .level => 0 | .guard => 1 | .fill => 2 | .frost => 3 | .line => 4 | .trunk => 5 | .store => 6

/-- The seven banks, in order (R185). -/
def Bank.all : List Bank := [.level, .guard, .fill, .frost, .line, .trunk, .store]

/-- Reads, clamps and checks a SITE_SET record (R142, R153, R155, R184). A repeater address above 31 refuses the close with RANGE: R22
gives its range, and no rule says what the close makes of one outside it; bit 7 of the three bytes of bank enables, which no bank has, and
bit 7 of the day-type map, which no day has, are not looked at (the model's choices, assumption 37). -/
def validateSiteSet (bs : List Byte) : Except Detail (SiteSet × Nat) :=
  let own := fieldU bs 0 1
  let control := fieldU bs 1 1
  let station := fieldU bs 2 1
  let controlExp := fieldU bs 3 1
  let stationExp := fieldU bs 4 1
  let repeater := fieldU bs 7 1
  let cheap := fieldU bs 9 2
  let standard := fieldU bs 11 2
  let peak := fieldU bs 13 2
  let report := fieldU bs 15 2
  let fast := fieldU bs 17 2
  let deadband := fieldU bs 19 2
  let settings (b : Bank) : BankSettings :=
    ⟨(fieldU bs 21 1).testBit b.number, (fieldU bs 22 1).testBit b.number, (fieldU bs 23 1).testBit b.number,
      fieldU bs (24 + b.number) 1⟩
  let outside (n : Nat) : Bool := decide (n < 1 ∨ 250 < n)
  if outside own || outside control || outside station then .error .range
  else if own = control ∨ own = station ∨ control = station then .error .duplicate
  else match LineRate.ofCode (fieldU bs 5 1) with
    | none => .error .range
    | some rate =>
      if 1 < fieldU bs 6 1 then .error .range
      else if 31 < repeater then .error .range
      else if Bank.all.any (fun b => decide (2 ^ b.codeCount ≤ (settings b).mask)) then .error .range
      else
        let controlExp' := clampNat 0 7 controlExp
        let stationExp' := clampNat 0 7 stationExp
        let cheap' := clampNat 0 30000 cheap
        let standard' := clampNat 0 30000 standard
        let peak' := clampNat 0 30000 peak
        let report' := clampNat 60 3600 report
        let fast' := clampNat 10 600 fast
        let deadband' := clampNat 5 2000 deadband
        .ok ({ own := own, control := control, station := station, controlExp := controlExp', stationExp := stationExp'
               rate := rate, lsbFirst := fieldU bs 6 1 == 1, repeater := repeater, dayMap := fieldU bs 8 1
               cheapBudget := cheap', standardBudget := standard', peakBudget := peak'
               reportPeriod := report', fastPeriod := fast', deadband := deadband'
               banks := ⟨settings .level, settings .guard, settings .fill, settings .frost, settings .line,
                 settings .trunk, settings .store⟩ },
          clampCount [controlExp' != controlExp, stationExp' != stationExp, cheap' != cheap, standard' != standard,
            peak' != peak, report' != report, fast' != fast, deadband' != deadband])

/-! ### Validation of a whole table -/

/-- The one record of a kind that holds one; a table without it is refused with RANGE (assumption 8). -/
def validateSingle {α : Type} (f : List Byte → Except Detail (α × Nat)) (wrap : α → TableData) :
    List (List Byte) → Except Detail (TableData × Nat)
  | [r] => (f r).map fun x => (wrap x.1, x.2)
  | _ => .error .range

/-- The owner's validation of a kind over the records taken (R170), with the clamp count. `byteTimeUs` is that of the line
rate in use, which the limit of R47 is judged at. -/
def validateTable (byteTimeUs : Nat) (kind : TableKind) (records : List (List Byte)) : Except Detail (TableData × Nat) :=
  match kind with
  | .points => (validateEach validatePoint records).map fun x => (.points x.1, x.2)
  | .map =>
    match validateEach validateMapEntry records with
    | .error d => .error d
    | .ok (t, n) => if anyPair MapEntry.collides t then .error .duplicate else .ok (.map t, n)
  | .channels =>
    match validateEach validateChannel records with
    | .error d => .error d
    | .ok (t, n) => if 200000 < guardCostUs byteTimeUs t then .error .tooCostly else .ok (.channels t, n)
  | .strapping =>
    if records.length < 2 then .error .range else
    match validateEach validateBreakpoint records with
    | .error d => .error d
    | .ok (t, n) => if strappingRises t then .ok (.strapping t, n) else .error .unordered
  | .guardSet => validateSingle validateGuardSet .guardSet records
  | .fillSet => validateSingle validateFillSet .fillSet records
  | .tariff =>
    match validateEach validateWindow records with
    | .error d => .error d
    | .ok (t, n) =>
      if 8 < (t.filter fun x => x.dayType == .work).length ∨ 8 < (t.filter fun x => x.dayType == .rest).length
      then .error .range
      else if anyPair TariffWindow.overlaps t then .error .overlap
      else .ok (.tariff t, n)
  | .profile =>
    match validateEach validateProfile records with
    | .error d => .error d
    | .ok (t, n) => if anyPair ProfileRecord.same t then .error .duplicate else .ok (.profile t, n)
  | .zones =>
    match validateEach validateZone records with
    | .error d => .error d
    | .ok (t, n) => if anyPair ZoneRecord.sameHeater t then .error .duplicate else .ok (.zones t, n)
  | .siteSet => validateSingle validateSiteSet .siteSet records

/-- The tables with one of them replaced (R170). -/
def Tables.put (t : Tables) : TableData → Tables
  | .points x => { t with points := some x }
  | .map x => { t with map := some x }
  | .channels x => { t with channels := some x }
  | .strapping x => { t with strapping := some x }
  | .guardSet x => { t with guardSet := some x }
  | .fillSet x => { t with fillSet := some x }
  | .tariff x => { t with tariff := some x }
  | .profile x => { t with profile := some x }
  | .zones x => { t with zones := some x }
  | .siteSet x => { t with siteSet := some x }

end Sys2Proof.Machine
end

