-- ==== Sys2Proof/Machine/Ops.lean ====
section
/-! DEFINITION. The named operations over the state that the blocks share: updates of one block, internal time and the clock,
notices, the outbound queue (R135 to R138), the fault banks (R141 to R147), the command list and the urgent slot (R37, R41),
and the DEMAND frame (R107, R137). -/

namespace Sys2Proof.Machine

/-! ### Updates of one block -/

/-- Updates `inputs` alone. -/
def State.updInputs (f : Inputs → Inputs) (s : State) : State := { s with inputs := f s.inputs }

/-- Updates `nv` alone. -/
def State.updNv (f : NvStore → NvStore) (s : State) : State := { s with nv := f s.nv }

/-- Updates `tables` alone. -/
def State.updTables (f : Tables → Tables) (s : State) : State := { s with tables := f s.tables }

/-- Updates `use` alone. -/
def State.updUse (f : PerKind KindUse → PerKind KindUse) (s : State) : State := { s with use := f s.use }

/-- Updates `points` alone. -/
def State.updPoints (f : List PointState → List PointState) (s : State) : State := { s with points := f s.points }

/-- Updates `level` alone. -/
def State.updLevel (f : LevelBlock → LevelBlock) (s : State) : State := { s with level := f s.level }

/-- Updates `guard` alone. -/
def State.updGuard (f : GuardBlock → GuardBlock) (s : State) : State := { s with guard := f s.guard }

/-- Updates `fill` alone. -/
def State.updFill (f : FillBlock → FillBlock) (s : State) : State := { s with fill := f s.fill }

/-- Updates `frost` alone. -/
def State.updFrost (f : FrostBlock → FrostBlock) (s : State) : State := { s with frost := f s.frost }

/-- Updates `banks` alone. -/
def State.updBanks (f : PerBank (Option FaultRecord) → PerBank (Option FaultRecord)) (s : State) : State := { s with banks := f s.banks }

/-- Updates `line` alone. -/
def State.updLine (f : LineBlock → LineBlock) (s : State) : State := { s with line := f s.line }

/-- Updates `telemetry` alone. -/
def State.updTelemetry (f : TelemetryBlock → TelemetryBlock) (s : State) : State := { s with telemetry := f s.telemetry }

/-- Updates `out` alone. -/
def State.updOut (f : Outbound → Outbound) (s : State) : State := { s with out := f s.out }

/-- Updates `trunk` alone. -/
def State.updTrunk (f : TrunkBlock → TrunkBlock) (s : State) : State := { s with trunk := f s.trunk }

/-- Updates `supply` alone. -/
def State.updSupply (f : SupplyBlock → SupplyBlock) (s : State) : State := { s with supply := f s.supply }

/-- Updates `engine` alone. -/
def State.updEngine (f : EngineBlock → EngineBlock) (s : State) : State := { s with engine := f s.engine }

/-! ### Internal time and the clock (R88) -/

/-- Internal time: whole milliseconds since the last reset. -/
def State.now (s : State) : Nat := s.timeUs / 1000

/-- Internal time in whole seconds, as reports and records carry it. -/
def State.uptime (s : State) : Nat := s.now / 1000

/-- The clock, absent while UNSET (R88). -/
def State.clockTime (s : State) : Option ClockTime := s.fill.clock.map ClockState.time

/-- Seconds in a week. -/
def weekSeconds : Nat := 604800

/-- A clock time `n` seconds later: second 59 is followed by the next minute, minute 1,439 by the next day, day 6 by day 0
(R88). -/
def ClockTime.plusSeconds (t : ClockTime) (n : Nat) : ClockTime :=
  let total := ((t.day * 1440 + t.minute) * 60 + t.second + n) % weekSeconds
  ⟨total / 86400, total / 60 % 1440, total % 60⟩

/-- The clock `ms` of internal time later: a second for each 1,000 ms since it was last set (R88). -/
def ClockState.advance (c : ClockState) (ms : Nat) : ClockState :=
  { c with time := c.time.plusSeconds ((c.subMs + ms) / 1000), subMs := (c.subMs + ms) % 1000 }

/-- Internal time goes on to `us` microseconds, and the clock with it; time does not go back. -/
def State.advanceUs (us : Nat) (s : State) : State :=
  if us ≤ s.timeUs then s
  else { s with
    timeUs := us
    fill := { s.fill with clock := s.fill.clock.map fun c => c.advance (us / 1000 - s.now) } }

/-- Internal time goes on to `ms` milliseconds. -/
def State.advanceTo (ms : Nat) (s : State) : State := s.advanceUs (ms * 1000)

/-! ### Notices -/

/-- A notice to one block. -/
def State.send (dest : BlockName) (n : Notice) (s : State) : State := { s with notices := s.notices ++ [⟨dest, n⟩] }

/-- One notice to several blocks. -/
def State.broadcast (ds : List BlockName) (n : Notice) (s : State) : State :=
  { s with notices := s.notices ++ ds.map fun d => ⟨d, n⟩ }

/-- The point notice of R10, if the event touched a point. -/
def State.pointNotice (ps : List Nat) (sample : Option Nat) (s : State) : State :=
  if ps = [] then s else s.broadcast [.level, .guard, .frost, .line] (.points ps sample)

/-! ### The outbound queue (R135 to R138) -/

/-- Whether two contents are of the same kind, and for FAULT of the same bank (R136). -/
def Content.sameKind : Content → Content → Bool
  | .level _, .level _ => true
  | .state _, .state _ => true
  | .trip _, .trip _ => true
  | .fault b _, .fault b' _ => b == b'
  | .demand _ _, .demand _ _ => true
  | _, _ => false

/-- Whether a place holds a frame of the kind of `c`. -/
def Place.holds (c : Content) : Place → Bool
  | .frame c' => c.sameKind c'
  | .response _ _ _ _ => false
  | .reservation _ _ _ => false

/-- Whether a place is a response or a reservation. -/
def Place.isResponse : Place → Bool
  | .frame _ => false
  | .response _ _ _ _ => true
  | .reservation _ _ _ => true

/-- Whether a place is ready to send: any frame that is not a waiting reservation (R139). -/
def Place.ready : Place → Bool
  | .frame _ => true
  | .response _ _ _ _ => true
  | .reservation _ _ _ => false

/-- Replaces the contents of the first waiting frame of the kind of `c`, which keeps its place (R136). -/
def replaceFirst (c : Content) : List Place → List Place
  | [] => []
  | p :: rest => if p.holds c then .frame c :: rest else p :: replaceFirst c rest

/-- Whether the frame in transmission is of the kind of `c`. -/
def Outbound.sends (c : Content) (o : Outbound) : Bool :=
  match o.sending with
  | some x => x.place.holds c
  | none => false

/-- The `atHead` mark that contents held aside keep when later contents of their kind replace them (R136). R137 says so of a DEMAND frame
that the guard has already placed at the head, and is silent on one that is held aside for it (the model's choice, assumption 46). -/
def Outbound.heldAtHead (c : Content) (o : Outbound) : Bool :=
  match o.held with
  | some h => c.sameKind h.content && h.atHead
  | none => false

/-- Offers a frame to the queue (R136). -/
def Outbound.offer (c : Content) (o : Outbound) : Outbound :=
  if o.waiting.any (Place.holds c) then { o with waiting := replaceFirst c o.waiting }
  else if o.sends c then { o with held := some ⟨c, o.heldAtHead c⟩ }
  else { o with waiting := o.waiting ++ [.frame c] }

/-- Removes the waiting frame of the kind of `c`, if there is one. -/
def removeKind (c : Content) (ps : List Place) : List Place := ps.filter fun p => !p.holds c

/-- Brings a frame to the head of the queue: behind a frame in transmission and ahead of every other frame and reservation;
held aside for the head while a frame of its kind is in transmission (R137). -/
def Outbound.offerHead (c : Content) (o : Outbound) : Outbound :=
  if o.sends c then { o with held := some ⟨c, true⟩ }
  else { o with waiting := .frame c :: removeKind c o.waiting }

/-- Responses and reservations together, the one in transmission included (R135, R138). -/
def Outbound.responses (o : Outbound) : Nat :=
  o.waiting.countP Place.isResponse + (match o.sending with | some x => if x.place.isResponse then 1 else 0 | none => 0)

/-- A reserved place at the tail of the queue; its number is the `nextResv` before (R138). -/
def Outbound.reserve (code tag : Byte) (o : Outbound) : Outbound :=
  { o with waiting := o.waiting ++ [.reservation o.nextResv code tag], nextResv := o.nextResv + 1 }

/-- Fills a reservation in the place it holds (R138, R159). -/
def fillPlace (resv : Nat) (payload : List Byte) : Place → Place
  | .reservation r code tag => if r = resv then .response r code tag payload else .reservation r code tag
  | .frame c => .frame c
  | .response r code tag p => .response r code tag p

/-- Fills a reservation with its response payload (R138). -/
def State.respond (resv : Nat) (payload : List Byte) (s : State) : State :=
  s.updOut fun o => { o with waiting := o.waiting.map (fillPlace resv payload) }

/-- Offers contents to the queue. -/
def State.offer (c : Content) (s : State) : State := s.updOut (Outbound.offer c)

/-! ### Fault codes (R141) -/

/-- The bank of a code (R141). -/
def FaultCode.bank : FaultCode → Bank
  | .sensorDisagree => .level | .sensorLost => .level | .beyondTable => .level | .levelLost => .level
  | .floatConflict => .level
  | .tripLevel => .guard | .tripFloat => .guard | .tripLevelLost => .guard | .valveNotClosed => .guard
  | .shortfall => .fill | .fillNoRise => .fill
  | .budgetShort => .frost | .zoneFrozen => .frost | .probeLost => .frost
  | .cycleOverrun => .line | .channelHalted => .line | .commandFailed => .line | .channelRefused => .line
  | .frameCheck => .trunk | .unknownKind => .trunk | .controlSilent => .trunk | .stationSilent => .trunk
  | .checkMismatch => .store | .eraseFail => .store | .programFail => .store | .startImageBad => .store

/-- The position of a code within its bank (R141, R185). -/
def FaultCode.position : FaultCode → Nat
  | .sensorDisagree => 0 | .sensorLost => 1 | .beyondTable => 2 | .levelLost => 3 | .floatConflict => 4
  | .tripLevel => 0 | .tripFloat => 1 | .tripLevelLost => 2 | .valveNotClosed => 3
  | .shortfall => 0 | .fillNoRise => 1
  | .budgetShort => 0 | .zoneFrozen => 1 | .probeLost => 2
  | .cycleOverrun => 0 | .channelHalted => 1 | .commandFailed => 2 | .channelRefused => 3
  | .frameCheck => 0 | .unknownKind => 1 | .controlSilent => 2 | .stationSilent => 3
  | .checkMismatch => 0 | .eraseFail => 1 | .programFail => 2 | .startImageBad => 3

/-- The severity of a code (R141). -/
def FaultCode.severity : FaultCode → Severity
  | .sensorDisagree => .degraded | .sensorLost => .degraded | .beyondTable => .degraded | .levelLost => .severe
  | .floatConflict => .severe
  | .tripLevel => .severe | .tripFloat => .severe | .tripLevelLost => .severe | .valveNotClosed => .severe
  | .shortfall => .note | .fillNoRise => .severe
  | .budgetShort => .note | .zoneFrozen => .degraded | .probeLost => .degraded
  | .cycleOverrun => .note | .channelHalted => .degraded | .commandFailed => .degraded | .channelRefused => .degraded
  | .frameCheck => .note | .unknownKind => .note | .controlSilent => .degraded | .stationSilent => .degraded
  | .checkMismatch => .note | .eraseFail => .severe | .programFail => .severe | .startImageBad => .severe

/-- The auto-resume of a code (R141). -/
def FaultCode.autoResume : FaultCode → Bool
  | .sensorDisagree => true | .sensorLost => true | .beyondTable => true | .levelLost => false | .floatConflict => false
  | .tripLevel => false | .tripFloat => false | .tripLevelLost => false | .valveNotClosed => false
  | .shortfall => true | .fillNoRise => false
  | .budgetShort => true | .zoneFrozen => true | .probeLost => true
  | .cycleOverrun => true | .channelHalted => true | .commandFailed => true | .channelRefused => false
  | .frameCheck => true | .unknownKind => true | .controlSilent => true | .stationSilent => true
  | .checkMismatch => true | .eraseFail => false | .programFail => false | .startImageBad => false

/-- The rank of a severity (R140: in rising order). -/
def Severity.rank : Severity → Nat
  | .note => 0 | .degraded => 1 | .severe => 2

/-! ### The banks (R142 to R147) -/

/-- The value of a bank. -/
def PerBank.get {α : Type} (t : PerBank α) : Bank → α
  | .level => t.level | .guard => t.guard | .fill => t.fill | .frost => t.frost | .line => t.line
  | .trunk => t.trunk | .store => t.store

/-- Replaces the value of a bank. -/
def PerBank.set {α : Type} (t : PerBank α) (b : Bank) (x : α) : PerBank α :=
  match b with
  | .level => { t with level := x } | .guard => { t with guard := x } | .fill => { t with fill := x }
  | .frost => { t with frost := x } | .line => { t with line := x } | .trunk => { t with trunk := x }
  | .store => { t with store := x }

/-- The settings of a bank; while SITE_SET is EMPTY every bank logs and reports, nothing is masked and hold-on-DEGRADED is
clear (R142). -/
def bankSettings (site : Option SiteSet) (b : Bank) : BankSettings :=
  match site with
  | some x => x.banks.get b
  | none => ⟨true, true, false, 0⟩

/-- Whether a code reaches its bank whatever the logging enable and the mask say (R143). -/
def FaultCode.unmaskable (c : FaultCode) : Bool :=
  c.severity == .severe && (c.bank == .level || c.bank == .guard)

/-- Whether a bank ignores a code (R143). -/
def ignores (b : BankSettings) (c : FaultCode) : Bool :=
  !c.unmaskable && (!b.logging || b.mask.testBit c.position)

/-- Whether a record holds its bank (R147). -/
def recordHolds (b : BankSettings) : Option FaultRecord → Bool
  | none => false
  | some r => (r.severity == .severe && !r.autoResume) || r.unseen || (b.holdOnDegraded && r.severity == .degraded)

/-- Whether a bank holds (R147). -/
def State.holds (s : State) (b : Bank) : Bool := recordHolds (bankSettings s.tables.siteSet b) (s.banks.get b)

/-- Whether one of the FILL, TRUNK, LEVEL and GUARD banks holds (R147). -/
def State.fourHold (s : State) : Bool := s.holds .fill || s.holds .trunk || s.holds .level || s.holds .guard

/-- The record after a fault that is not ignored has reached the bank, and whether the fault was logged (R144). -/
def arrive (code : FaultCode) (subject : Option Subject) (clock : Option ClockTime) (uptime : Nat) :
    Option FaultRecord → FaultRecord × Bool
  | none => (⟨false, code.severity, code, subject, clock, uptime, code.autoResume, false⟩, true)
  | some r =>
    if r.severity.rank < code.severity.rank
    then (⟨true, code.severity, code, subject, clock, uptime, code.autoResume, r.unseen⟩, true)
    else ({ r with
        overflow := true
        unseen := r.unseen || (r.severity == .severe && code.severity == .severe
          && (r.code != code || r.subject != subject)) }, false)

/-- The notices of holds that begin or end between two states (R147). -/
def State.holdNotices (before : State) (s : State) : State :=
  let s := if !before.fourHold && s.fourHold then s.send .fill (.inhibit [.bankHold] [])
    else if before.fourHold && !s.fourHold then s.send .fill (.inhibit [] [.bankHold]) else s
  if before.holds .frost != s.holds .frost then s.send .frost (.frostBank false (s.holds .frost)) else s

/-- A fault arrives at its bank (R143, R144, R146, R147). -/
def State.fault (code : FaultCode) (subject : Option Subject) (s : State) : State :=
  let settings := bankSettings s.tables.siteSet code.bank
  if ignores settings code then s
  else
    let after := arrive code subject s.clockTime s.uptime (s.banks.get code.bank)
    let s' := s.updBanks fun b => b.set code.bank (some after.1)
    let s' := if after.2 && settings.reporting then s'.offer (.fault code.bank after.1) else s'
    State.holdNotices s s'

/-! ### Site settings with their values while SITE_SET is EMPTY -/

/-- The line rate set in SITE_SET, 19,200 baud while EMPTY (R22). -/
def siteRate (site : Option SiteSet) : LineRate := match site with | some x => x.rate | none => .baud19200

/-- The bit order set in SITE_SET, most-significant first while EMPTY (R22). -/
def siteLsbFirst (site : Option SiteSet) : Bool := match site with | some x => x.lsbFirst | none => false

/-- The repeater's address, 0 while EMPTY (R22). -/
def siteRepeater (site : Option SiteSet) : Nat := match site with | some x => x.repeater | none => 0

/-- The station numbers of the part, the control room and the pump station; 100, 1 and 2 while EMPTY (R153). -/
def siteNumbers (site : Option SiteSet) : Nat × Nat × Nat :=
  match site with | some x => (x.own, x.control, x.station) | none => (100, 1, 2)

/-- The silence limits of the control room and of the pump station, in ms: 15 s times 2 to the exponent (R155). -/
def siteLimits (site : Option SiteSet) : Nat × Nat :=
  match site with
  | some x => (15000 * 2 ^ x.controlExp, 15000 * 2 ^ x.stationExp)
  | none => (15000 * 2 ^ 3, 15000 * 2 ^ 2)

/-- The budget that SITE_SET gives a tariff class, 0 while EMPTY (R119). -/
def siteBudget (site : Option SiteSet) (c : TariffClass) : Nat :=
  match site with
  | some x => match c with | .cheap => x.cheapBudget | .standard => x.standardBudget | .peak => x.peakBudget
  | none => 0

/-- Report period, fast period (ms) and deadband (mm); 600 s, 60 s and 50 mm while EMPTY (R130). -/
def siteReporting (site : Option SiteSet) : Nat × Nat × Nat :=
  match site with
  | some x => (x.reportPeriod * 1000, x.fastPeriod * 1000, x.deadband)
  | none => (600000, 60000, 50)

/-- The day type of a day of the week; WORK while SITE_SET is EMPTY (section 5.2, R184). -/
def siteDayType (site : Option SiteSet) (day : Nat) : DayType :=
  match site with
  | some x => if x.dayMap.testBit day then .rest else .work
  | none => .work

/-! ### Points read by the jobs -/

/-- The record of a point index, if it has one (R1). -/
def State.pointRecord (s : State) (i : Nat) : Option PointRecord :=
  match s.tables.points with
  | some t => t[i]?
  | none => none

/-- The state of a point index (R3). -/
def State.point (s : State) (i : Nat) : PointState := s.points.getD i {}

/-- The value of a point that is GOOD (R3). -/
def State.goodValue (s : State) (i : Nat) : Option Int :=
  if (s.point i).quality = .good then some (s.point i).value else none

/-- The value of a point that is GOOD and whose record is of the kind given. -/
def State.goodOfKind (s : State) (kind : PointKind) (i : Nat) : Option Int :=
  match s.pointRecord i with
  | some r => if r.kind = kind then s.goodValue i else none
  | none => none

/-! ### The command list and the urgent slot (R37, R41) -/

/-- Whether the actuator is the inlet valve of the GUARD_SET in use (R37). -/
def State.isInlet (s : State) (address item : Nat) : Bool :=
  match s.tables.guardSet with
  | some g => g.inletAddress == address && g.inletItem == item
  | none => false

/-- Whether an entry is for the actuator. -/
def CommandEntry.isFor (address item : Nat) (e : CommandEntry) : Bool := e.address == address && e.item == item

/-- The transaction of the actuator's command, if it is the one in flight, is superseded (assumption 12). -/
def State.supersedeCommand (address item : Nat) (s : State) : State :=
  s.updLine fun l => { l with
    inFlight := l.inFlight.map fun t =>
      if t.work = .command address item then { t with superseded := true } else t }

/-- Removes the entry for an actuator. -/
def State.removeCommand (address item : Nat) (s : State) : State :=
  (s.supersedeCommand address item).updLine fun l => { l with commands := l.commands.filter fun e => !e.isFor address item }

/-- Places an actuator command: the state after, and what the origin is told (R37). The list holds at most 8 entries in every
case (R37's law, assumption 13). A command that replaces an entry in place keeps the cycle of that entry's last turn, so that the place
takes no second stage in the cycle; R26 and R37 do not say (the model's choice, assumption 17). -/
def State.placeCommand (address item feedback : Nat) (origin : Origin) (target : Nat) (s : State) :
    State × CommandOutcome :=
  let inlet := s.isInlet address item
  let entry : CommandEntry := { address := address, item := item, feedback := feedback, origin := origin, target := target }
  if inlet && s.line.urgent.isSome then (s, .urgent)
  else if s.supply.mode != .mains && !(inlet && target == 0) then (s, .supply)
  else if s.line.commands.any (CommandEntry.isFor address item) then
    ((s.supersedeCommand address item).updLine fun l => { l with
      commands := l.commands.map fun e =>
        if e.isFor address item then { entry with turnCycle := e.turnCycle } else e }, .placed)
  else if (inlet || decide (s.line.commands.countP (fun e => !s.isInlet e.address e.item) < 7))
      && decide (s.line.commands.length < 8) then
    (s.updLine fun l => { l with commands := l.commands ++ [entry] }, .placed)
  else (s, .listFull)

/-- Places the DIRECT close of the inlet valve in the urgent slot: an entry for the inlet valve leaves the command list and the
Fill Planner is told WITHDRAWN; a close already in the slot is left as it is; with GUARD_SET EMPTY no inlet valve is named and
none is placed (R41, R69). -/
def State.placeUrgent (s : State) : State :=
  match s.tables.guardSet with
  | none => s
  | some g =>
    if s.line.urgent.isSome then s
    else
      let s := match s.line.commands.find? (CommandEntry.isFor g.inletAddress g.inletItem) with
        | some e => (s.removeCommand g.inletAddress g.inletItem).send .fill
            (.command g.inletAddress g.inletItem e.target .withdrawn)
        | none => s
      s.updLine fun l => { l with urgent := some ⟨g.inletAddress, g.inletItem, false⟩ }

/-! ### The DEMAND frame (R107, R137) -/

/-- The renewal timer after a DEMAND frame has been queued (R107). -/
def State.renewalTimer (s : State) : RenewalTimer :=
  match s.tables.fillSet with
  | some f => .aimed (s.now + f.renewal * 1000)
  | none => .openPeriod

/-- The next DEMAND tag, counting from 1 after a reset and following 255 with 0 (R107). -/
def State.nextTag (s : State) : Nat := (s.fill.demandTag + 1) % 256

/-- Queues a DEMAND frame with the demand as it stands (R107). -/
def State.queueDemand (s : State) : State :=
  let tag := s.nextTag
  let timer := s.renewalTimer
  (s.updFill fun f => { f with demandTag := tag, renewal := timer }).offer (.demand s.fill.demand tag)

/-- The guard's zero demand: the fill demand becomes 0 and the queue holds a DEMAND frame of 0 pumps at its head (R75, R137). -/
def State.zeroDemandHead (s : State) : State :=
  let tag := s.nextTag
  let timer := s.renewalTimer
  (s.updFill fun f => { f with demand := 0, demandTag := tag, renewal := timer }).updOut
    (Outbound.offerHead (.demand 0 tag))

/-- The fill sets its demand: a change queues a DEMAND frame and notifies the guard (R99, R104, R107). A setting to the demand as it
stands queues nothing and tells nobody, on the entry to CLOSING from OPENING or with k 0 as well: R101 says of that entry that setting the
demand to 0 queues a frame and notifies the guard, R99 and R107 speak of changes (the model's choice, assumption 52). -/
def State.setDemand (d : Nat) (s : State) : State :=
  if s.fill.demand = d then s
  else ((s.updFill fun f => { f with demand := d, hadDemand := f.hadDemand || decide (0 < d) }).queueDemand).send
    .guard .evaluate

/-! ### Trip work (R81, R84, R167) -/

/-- The guard asks the Table Store for a trip record or reset marker. -/
def State.askTripWork (e : TripEntry) (s : State) : State :=
  s.updEngine fun x => { x with tripWork := x.tripWork ++ [e] }

end Sys2Proof.Machine
end

