-- ==== Sys2Proof/Machine/Encode.lean ====
section
/-! DEFINITION. The element encodings and enumerations of R185, the payloads of the four reports (R129, R132, R133, R134), the
status values, and the trunk frame built for a place of the outbound queue (R153, R183). -/

namespace Sys2Proof.Machine

/-! ### Enumerations (R185) -/

/-- Point quality. -/
def Quality.number : Quality → Nat
  | .none => 0 | .good => 1 | .range => 2 | .stale => 3

/-- Point kind. -/
def PointKind.number : PointKind → Nat
  | .level => 0 | .temperature => 1 | .flow => 2 | .position => 3 | .state => 4 | .switch => 5

/-- Source. -/
def Source.number : Source → Nat
  | .polled => 0 | .passed => 1

/-- Level quality. -/
def LevelQuality.number : LevelQuality → Nat
  | .good => 0 | .split => 1 | .single => 2 | .lost => 3

/-- Guard state. -/
def GuardState.number : GuardState → Nat
  | .armed => 0 | .anticipating => 1 | .tripped => 2

/-- Trip cause. -/
def TripCause.number : TripCause → Nat
  | .level => 0 | .float => 1 | .levelLost => 2 | .noTables => 3

/-- Fill state. -/
def FillState.number : FillState → Nat
  | .idle => 0 | .waitingTurnover => 1 | .opening => 2 | .filling => 3 | .closing => 4 | .satisfied => 5 | .held => 6

/-- Purpose. -/
def Purpose.number : Purpose → Nat
  | .window => 0 | .topUp => 1 | .forced => 2

/-- Tariff class. -/
def TariffClass.number : TariffClass → Nat
  | .cheap => 0 | .standard => 1 | .peak => 2

/-- Supply mode. -/
def SupplyMode.number : SupplyMode → Nat
  | .mains => 0 | .battery => 1 | .batteryLow => 2

/-- Zone kind. -/
def ZoneKind.number : ZoneKind → Nat
  | .riser => 0 | .valveChamber => 1 | .overflowPipe => 2 | .outlet => 3 | .sensorHousing => 4

/-- Channel mode. -/
def ChannelMode.number : ChannelMode → Nat
  | .normal => 0 | .probe => 1

/-- Channel condition. -/
def ChannelCondition.number : ChannelCondition → Nat
  | .none => 0 | .ok => 1 | .shortReply => 2 | .retryError => 3 | .refused => 4 | .stopped => 5

/-- Trip-record flag. -/
def TripFlag.number : TripFlag → Nat
  | .none => 0 | .pending => 1 | .programmed => 2

/-- FILL-ORDER. -/
def FillOrder.number : FillOrder → Nat
  | .auto => 0 | .hold => 1 | .force => 2

/-- Station mode. -/
def StationMode.number : StationMode → Nat
  | .remote => 0 | .localControl => 1 | .fault => 2

/-- Day type. -/
def DayType.number : DayType → Nat
  | .work => 0 | .rest => 1

/-- Position of a reason in the table of R103. -/
def Reason.number : Reason → Nat
  | .guard => 0 | .frozenRiser => 1 | .frozenValve => 2 | .stationLocal => 3 | .stationSilent => 4 | .battery => 5
  | .bankHold => 6 | .orderHold => 7 | .manualClose => 8 | .valveFault => 9

/-- The ten reasons, in the order of R103. -/
def Reason.all : List Reason :=
  [.guard, .frozenRiser, .frozenValve, .stationLocal, .stationSilent, .battery, .bankHold, .orderHold, .manualClose,
    .valveFault]

/-- The number of a subject: the point, zone, channel, field address, table kind, slot, sector or partner (R140, R185). A partner is sent
as 00h for the control room and 01h for the pump station: R185 gives a subject one byte and no rule numbers the partners (the model's
choice, assumption 49). -/
def Subject.number : Subject → Nat
  | .point i => i | .zone i => i | .channel i => i | .address a => a | .kind k => k.number | .slot n => n
  | .sector n => n
  | .partner p => match p with | .control => 0 | .station => 1

/-- Detail of INVALID. -/
def Detail.number : Detail → Nat
  | .unordered => 0 | .overlap => 1 | .duplicate => 2 | .tooCostly => 3 | .range => 4

/-- Status values (R185). -/
inductive Status where
  | done | busy | outOfRange | unknownKind | sequence | checkMismatch | invalid | storeFault | protected_ | battery
  | storeHeld | ended | empty | notTripped | noTables | float | levelBad | tooHigh | held | lineHeld | guarded | full
  | tooLong | noReply | fieldError
  deriving DecidableEq, Repr

/-- The byte of a status (R185). -/
def Status.byte : Status → Byte
  | .done => 0x00#8 | .busy => 0x01#8 | .outOfRange => 0x02#8 | .unknownKind => 0x03#8 | .sequence => 0x04#8
  | .checkMismatch => 0x05#8 | .invalid => 0x06#8 | .storeFault => 0x07#8 | .protected_ => 0x08#8 | .battery => 0x09#8
  | .storeHeld => 0x0A#8 | .ended => 0x0B#8 | .empty => 0x0C#8 | .notTripped => 0x0D#8 | .noTables => 0x0E#8
  | .float => 0x0F#8 | .levelBad => 0x10#8 | .tooHigh => 0x11#8 | .held => 0x12#8 | .lineHeld => 0x13#8
  | .guarded => 0x14#8 | .full => 0x15#8 | .tooLong => 0x16#8 | .noReply => 0x17#8 | .fieldError => 0x18#8

/-! ### Elements (R185) -/

/-- An enumeration, index, number, code or count: 1 byte. -/
def enc1 (n : Nat) : List Byte := encU 1 n

/-- An enumeration, index, number, code or subject that may be absent: 1 byte, FFh absent. -/
def encOpt1 (o : Option Nat) : List Byte := encOpt 1 o

/-- A clock: day, minute, second; day FFh is UNSET, the values of the other bytes then not being stated (assumption 7). -/
def encClock (c : Option ClockTime) : List Byte :=
  match c with
  | some t => encU 1 t.day ++ encU 2 t.minute ++ encU 1 t.second
  | none => [0xFF#8, Config.blankByte 0, Config.blankByte 1, Config.blankByte 2]

/-- A rate; 8000h is UNKNOWN. -/
def encRate (r : Option Int) : List Byte :=
  match r with
  | some x => encS 2 x
  | none => [0x80#8, 0x00#8]

/-- A set of small numbers as bits. -/
def bitsOf (ns : List Nat) : Nat := ns.foldl (fun acc n => acc ||| 2 ^ n) 0

/-- The inhibit set: 2 bytes, bit i for the reason at position i of R103. -/
def encInhibit (rs : List Reason) : List Byte := encU 2 (bitsOf (rs.map Reason.number))

/-- A list of zones: 1 byte, bit z for zone z. -/
def encZones (zs : List Nat) : List Byte := encU 1 (bitsOf zs)

/-- A bank record; an empty bank has valid, overflow and unseen no and its other fields absent (R140). The auto-resume of an
empty bank is FFh and its severity FFh, as absent 1-byte elements are, and its absent clock is sent as an UNSET one, FFh and three free
bytes, since R185 gives the clock no other form without a time (the model's choices, assumption 7). -/
def encRecord (r : Option FaultRecord) : List Byte :=
  match r with
  | some x => encFlag true ++ encFlag x.overflow ++ enc1 x.severity.rank ++ enc1 x.code.position
      ++ encOpt1 (x.subject.map Subject.number) ++ encClock x.clock ++ encU 4 x.uptime ++ encFlag x.autoResume
      ++ encFlag x.unseen
  | none => encFlag false ++ encFlag false ++ encOpt1 none ++ encOpt1 none ++ encOpt1 none ++ encClock none
      ++ encOpt 4 none ++ encOpt1 none ++ encFlag false

/-! ### Report payloads -/

/-- A LEVEL report in the order of R129. -/
def LevelReport.payload (r : LevelReport) : List Byte :=
  encU 2 r.w ++ enc1 r.quality.number ++ encU 4 r.v ++ encRate r.rate ++ encU 2 r.projection ++ enc1 r.guard.number
    ++ enc1 r.fill.number ++ enc1 r.demand ++ encClock r.clock ++ encU 4 r.uptime

/-- A STATE report in the order of R132. Its clock state is sent as a flag is, 00h for UNSET and 01h for SET: R185 lists it neither among
the elements nor among the enumerations (the model's choice, assumption 7). -/
def StateReport.payload (r : StateReport) : List Byte :=
  let c := r.contents
  enc1 c.guard.number ++ encOpt1 (c.cause.map TripCause.number) ++ enc1 c.fill.number
    ++ encOpt1 (c.purpose.map Purpose.number) ++ enc1 c.order.number ++ encInhibit c.inhibit ++ enc1 c.tariff.number
    ++ encOpt1 (c.stationMode.map StationMode.number) ++ enc1 c.available ++ enc1 c.running ++ encZones c.frozen
    ++ encZones c.granted ++ encFlag c.watch ++ enc1 c.supply.number ++ encFlag c.islanded ++ encFlag c.clockSet
    ++ encClock r.clock ++ encU 4 r.uptime

/-- A TRIP report in the order of R134. -/
def TripReport.payload (r : TripReport) : List Byte :=
  enc1 r.cause.number ++ encU 2 r.w ++ encU 2 r.projection ++ encClock r.clock ++ encOpt1 r.number

/-- Kind, code, tag and payload of the frame of a place (R135, R183, R185); a waiting reservation has none. -/
def Place.parts : Place → Option (Byte × Byte × Byte × List Byte)
  | .frame (.level r) => some (0x03#8, 0x01#8, 0x00#8, r.payload)
  | .frame (.state r) => some (0x03#8, 0x02#8, 0x00#8, r.payload)
  | .frame (.fault b r) => some (0x03#8, 0x03#8, 0x00#8, enc1 b.number ++ encRecord (some r))
  | .frame (.trip r) => some (0x03#8, 0x04#8, 0x00#8, r.payload)
  | .frame (.demand pumps tag) => some (0x04#8, 0x00#8, BitVec.ofNat 8 tag, enc1 pumps)
  | .response _ code tag payload => some (0x02#8, code, tag, payload)
  | .reservation _ _ _ => none

/-- Whether a place is sent to the pump station: DEMAND frames are, all others go to the control room (R135). -/
def Place.toStation : Place → Bool
  | .frame (.demand _ _) => true
  | .frame (.level _) => false
  | .frame (.state _) => false
  | .frame (.fault _ _) => false
  | .frame (.trip _) => false
  | .response _ _ _ _ => false
  | .reservation _ _ _ => false

/-- The bytes of the frame of a place, under the station numbers in use (R153). -/
def Place.bytes (site : Option SiteSet) (p : Place) : List Byte :=
  let (own, control, station) := siteNumbers site
  match p.parts with
  | some (kind, code, tag, payload) =>
    TrunkFrame.bytes ⟨if p.toStation then station else control, own, kind, code, tag, payload⟩
  | none => []

end Sys2Proof.Machine
end

