-- ==== Sys2Proof/Machine/Points.lean ====
section
/-! DEFINITION. The Point Image and the Traffic Map (chapter 1): conversion of a sample (R4 to R6), updates and staleness (R7 to
R10), extraction (R12, R13), the gates (R14, R15) and the swaps of POINTS and MAP (R20, R21). -/

namespace Sys2Proof.Machine

/-! ### From item to value -/

/-- The raw value of an item under an EXTRACT entry's width and signedness (R4). -/
def rawValue (width : Nat) (signed : Bool) (item : Nat) : Int :=
  let bytes := if width = 1 then item % 256 else item % 65536
  if signed then toSigned width bytes else (bytes : Int)

/-- The value that a raw value inside the raw window gives a point: converted and saturated for a measured kind (R5), the raw
value itself for a kind that holds codes (R6). -/
def PointRecord.convert (r : PointRecord) (raw : Int) : Int :=
  if r.kind.engRange.isSome then clampInt r.engLow r.engHigh (r.offset + Int.tdiv (raw * r.gain) 4096) else raw

/-- Whether a raw value lies in the raw window, both ends belonging to it (R1). -/
def PointRecord.inWindow (r : PointRecord) (raw : Int) : Bool := decide (r.rawMin ≤ raw ∧ raw ≤ r.rawMax)

/-- A point state after a sample is taken into it (R5, R6, R7). -/
def PointRecord.take (r : PointRecord) (raw : Int) (source : Source) (now : Nat) (p : PointState) : PointState :=
  { value := if r.inWindow raw then r.convert raw else p.value
    quality := if r.inWindow raw then .good else .range
    updated := some now
    source := some source
    staleAt := some (now + r.staleSec * 1000) }

/-- A point made STALE: value, update time and source held, timer stopped (R8, R9). -/
def PointState.toStale (p : PointState) : PointState := { p with quality := .stale, staleAt := none }

/-! ### Extraction (R12, R13) -/

/-- The point, width and signedness of the EXTRACT entry for an item of a device, if there is one (R13). -/
def findExtract (address item : Nat) : List MapEntry → Option (Nat × Nat × Bool)
  | [] => none
  | e :: rest =>
    match e.action with
    | .extract p w sg => if e.address = address ∧ e.item = item then some (p, w, sg) else findExtract address item rest
    | .gate _ => findExtract address item rest

/-- The Traffic Map in use; no entries while MAP is EMPTY (R19). -/
def State.mapEntries (s : State) : List MapEntry := s.tables.map.getD []

/-- Takes one item into its point: the state after, and the point if one was updated (R13). -/
def State.takeItem (address item raw : Nat) (source : Source) (s : State) : State × List Nat :=
  match findExtract address item s.mapEntries with
  | none => (s, [])
  | some (p, w, sg) =>
    match s.pointRecord p with
    | none => (s, [])
    | some r =>
      if p < s.points.length then
        (s.updPoints fun ps => ps.set p (r.take (rawValue w sg raw) source s.now (s.point p)), [p])
      else (s, [])

/-- Takes the items of a reply in item order, `item` being the number of the first (R13). -/
def State.takeItems (address : Nat) (source : Source) : Nat → List Nat → State → State × List Nat
  | _, [], s => (s, [])
  | item, raw :: rest, s =>
    let first := s.takeItem address item raw source
    let more := State.takeItems address source (item + 1) rest first.1
    (more.1, first.2 ++ more.2)

/-- The Traffic Map takes an accepted DATA reply of the device at `address` and sends one point notice (R10, R13). -/
def State.extract (address : Nat) (source : Source) (start : Nat) (items : List Nat) (s : State) : State :=
  let r := s.takeItems address source start items
  r.1.pointNotice r.2 (some r.1.now)

/-! ### Staleness (R8, R9) -/

/-- The stale timer of a point runs out (R8). -/
def State.pointStale (p : Nat) (s : State) : State :=
  (s.updPoints fun ps => ps.set p (s.point p).toStale).pointNotice [p] none

/-- The address at which a channel's points are fed: its inner address if BEHIND (R9). -/
def ChannelRecord.polled (c : ChannelRecord) : Nat := if c.behind then c.inner else c.address

/-- The points of a channel under a map (R9). -/
def channelPoints (c : ChannelRecord) : List MapEntry → List Nat
  | [] => []
  | e :: rest =>
    match e.action with
    | .extract p _ _ =>
      if e.address = c.polled ∧ c.start ≤ e.item ∧ e.item ≤ c.start + c.count - 1 then p :: channelPoints c rest
      else channelPoints c rest
    | .gate _ => channelPoints c rest

/-- Whether a point is GOOD or RANGE. -/
def PointState.fresh (p : PointState) : Bool := p.quality == .good || p.quality == .range

/-- The halt notice of a channel: its GOOD and RANGE points become STALE, in one point notice (R9, R10). -/
def State.haltPoints (c : ChannelRecord) (s : State) : State :=
  let hit := (channelPoints c s.mapEntries).filter fun p => (s.point p).fresh
  (s.updPoints fun ps => hit.foldl (fun acc p => acc.set p (s.point p).toStale) ps).pointNotice hit none

/-! ### Gates (R14 to R17) -/

/-- The item and value of a pass-through command: a WRITE, SELECT or OPERATE (R14). -/
def DeviceRequest.command : DeviceRequest → Option (Nat × Nat)
  | .write item value => some (item, value)
  | .select item value => some (item, value)
  | .operate item value => some (item, value)
  | .read _ _ => none
  | .direct _ _ => none
  | .status => none

/-- The kind of the first GATE entry for an address and item, in table order (R14). -/
def findGate (address item : Nat) : List MapEntry → Option GateKind
  | [] => none
  | e :: rest =>
    match e.action with
    | .gate k => if e.address = address ∧ e.item = item then some k else findGate address item rest
    | .extract _ _ _ => findGate address item rest

/-- Whether a pass-through request to the device at `address` passes the gates now (R14, R15). -/
def State.gatePasses (address : Nat) (r : DeviceRequest) (s : State) : Bool :=
  match r.command with
  | none => true
  | some (item, value) =>
    match findGate address item s.mapEntries with
    | none => true
    | some .deny => false
    | some .inlet => value == 0 || s.guard.state == .armed

/-- Whether a pass-through request is a close that matches an INLET gate (R17). -/
def State.isManualClose (address : Nat) (r : DeviceRequest) (s : State) : Bool :=
  match r.command with
  | none => false
  | some (item, value) => findGate address item s.mapEntries == some .inlet && value == 0

/-! ### Swaps (R20, R21) -/

/-- A new POINTS table enters use: an index whose record differs takes the state NONE (R20). -/
def State.swapPoints (t : List PointRecord) (s : State) : State :=
  let old := s.tables.points.getD []
  let changed := (List.range 64).filter fun i => old[i]? != t[i]?
  let listed := changed.filter fun i => (s.point i).quality != .none
  ((s.updTables fun x => { x with points := some t }).updPoints fun ps =>
    changed.foldl (fun acc i => acc.set i {}) ps).pointNotice listed none

/-- A new Traffic Map enters use; the point states are not touched (R21). -/
def State.swapMap (t : List MapEntry) (s : State) : State := s.updTables fun x => { x with map := some t }

end Sys2Proof.Machine
end

