-- ==== Sys2Proof/Machine/Level.lean ====
section
/-! DEFINITION. The Level Unit (chapter 3): usability of the level points (R51), fusion (R53), the history ring and the rate
(R57 to R60), the volume (R61 to R64), the recomputation and its notice (R52, R55, R65), and the swaps (R67, R68). -/

namespace Sys2Proof.Machine

/-! ### Volume (R62, R63, R64) -/

/-- The segment of a level: the last breakpoint not above it, kept within the first and the last segment (R62). -/
def segmentOf (t : List Breakpoint) (w : Nat) : Nat :=
  min (t.length - 2) (t.countP (fun b => decide (b.level ≤ w)) - 1)

/-- Straight-line interpolation between two breakpoints, rounded down (R62). -/
def interpolate (x y : Breakpoint) (w : Nat) : Nat :=
  x.volume + (y.volume - x.volume) * (w - x.level) / (y.level - x.level)

/-- The volume at a level under a strapping table: the first volume below it, the last at or above its top (R62, R63). -/
def volumeOf (t : List Breakpoint) (w : Nat) : Nat :=
  let i := segmentOf t w
  match t[i]?, t[i + 1]? with
  | some x, some y => if w < x.level then x.volume else if y.level ≤ w then y.volume else interpolate x y w
  | _, _ => 0

/-- The level of the last breakpoint. -/
def lastLevel (t : List Breakpoint) : Option Nat := t.getLast?.map Breakpoint.level

/-- Volume and segment of a level under the strapping table in use; both 0 while STRAPPING is EMPTY (R62, R64). -/
def volumeAndSegment (t : Option (List Breakpoint)) (w : Nat) : Nat × Nat :=
  match t with
  | some t => (volumeOf t w, segmentOf t w)
  | none => (0, 0)

/-! ### The history ring and the rate (R57 to R60) -/

/-- The ring after an entry joins it: a full ring loses its oldest entry (R57). -/
def ringAppend (ring : List RingEntry) (e : RingEntry) : List RingEntry :=
  (if ring.length < 16 then ring else ring.drop 1) ++ [e]

/-- Whether an entry of the given time may join the ring (R58). -/
def ringTakes (ring : List RingEntry) (time : Nat) : Bool :=
  match ring.getLast? with
  | none => true
  | some newest => decide (newest.time + 8000 ≤ time)

/-- The rate across the ring whose newest entry is `n` (R59). -/
def ringRate (ring : List RingEntry) (n : RingEntry) : Option Int :=
  match ring.find? (fun e => decide (n.time ≤ e.time + 120000)) with
  | none => none
  | some o =>
    let dt := n.time - o.time
    if dt < 24000 then none
    else some (clampInt (-2000) 2000 (Int.tdiv (((n.w : Int) - (o.w : Int)) * 60000) (dt : Int)))

/-! ### Fusion (R51, R53) -/

/-- Whether a zone of kind SENSOR_HOUSING is frozen, as the Frost Unit's flag says (R51, R117). -/
def State.housingFrozen (s : State) : Bool := s.frost.flags.sensorHousing

/-- The value of a LEVEL point that is GOOD, as a level. -/
def State.levelValue (s : State) (i : Nat) : Option Nat := (s.goodOfKind .level i).map Int.toNat

/-- The value of point A while it is usable (R51). -/
def State.usableA (s : State) (g : GuardSet) : Option Nat := if s.housingFrozen then none else s.levelValue g.pointA

/-- The value of point B while it is usable (R51). -/
def State.usableB (s : State) (g : GuardSet) : Option Nat := s.levelValue g.pointB

/-- W, its quality and the condition that the usable points give (R53, R55). -/
def fuse (band held : Nat) (a b : Option Nat) : Nat × LevelQuality × LevelCondition :=
  match a, b with
  | some x, some y =>
    if max x y - min x y ≤ band then ((x + y) / 2, .good, .good) else (max x y, .split, .split)
  | some x, none => (x, .single, .missingB)
  | none, some y => (y, .single, .missingA)
  | none, none => (held, .lost, .lost)

/-- The fault that entering a condition logs, with its subject (R55). -/
def conditionFault (g : GuardSet) (a b : Option Nat) : LevelCondition → Option (FaultCode × Subject)
  | .good => none
  | .split => some (.sensorDisagree, .point (if a.getD 0 < b.getD 0 then g.pointA else g.pointB))
  | .missingA => some (.sensorLost, .point g.pointA)
  | .missingB => some (.sensorLost, .point g.pointB)
  | .lost => some (.levelLost, .point g.pointA)

/-! ### Recomputation (R52) -/

/-- The level notice (R65). -/
def State.levelNotice (qualityChanged appended : Bool) (s : State) : State :=
  s.broadcast [.guard, .fill, .telemetry] (.level s.level.record qualityChanged appended)

/-- Whether W stands at or above the last level of the table in use; as before while STRAPPING is EMPTY (R63, R64). -/
def State.beyondNow (s : State) (w : Nat) : Bool :=
  match s.tables.strapping.bind lastLevel with
  | some top => decide (top ≤ w)
  | none => s.level.beyond

/-- Judges the beyond-table condition and logs BEYOND_TABLE on its entry (R63). -/
def State.judgeBeyond (s : State) : State :=
  let before := s.level.beyond
  let after := s.beyondNow s.level.record.w
  let s := s.updLevel fun l => { l with beyond := after }
  if after && !before then s.fault .beyondTable (some (.kind .strapping)) else s

/-- The level block after a recomputation, before its faults and its notice, and whether an entry was appended (R53, R54, R57 to
R60, R62). `sample` is the sample time when the recomputation may append (R58). -/
def LevelBlock.recompute (l : LevelBlock) (strapping : Option (List Breakpoint)) (band now : Nat) (a b : Option Nat)
    (sample : Option Nat) : LevelBlock × Bool :=
  let old := l.record
  let (w, quality, condition) := fuse band old.w a b
  let lostSince : Option Nat := if quality = .lost then (if old.quality = .lost then old.lostSince else some now) else none
  let emptied := decide (quality = .lost ∧ old.quality ≠ .lost)
  let ring := if emptied then [] else l.ring
  let rate := if emptied then none else old.rate
  let (ring, rate, appended) :=
    match sample with
    | some t => if quality ≠ .lost ∧ ringTakes ring t = true
        then (ringAppend ring ⟨w, t⟩, ringRate (ringAppend ring ⟨w, t⟩) ⟨w, t⟩, true) else (ring, rate, false)
    | none => (ring, rate, false)
  let (v, segment) := volumeAndSegment strapping w
  ({ l with
      record := { w := w, quality := quality, v := v, segment := segment, rate := rate, lostSince := lostSince }
      ring := ring
      condition := condition }, appended)

/-- One recomputation of the working level record (R52). -/
def State.recompute (g : GuardSet) (sample : Option Nat) (s : State) : State :=
  let a := s.usableA g
  let b := s.usableB g
  let old := s.level
  let r := old.recompute s.tables.strapping g.agreeBand s.now a b sample
  let s := s.updLevel fun _ => r.1
  let s := if r.1.condition = old.condition then s
    else match conditionFault g a b r.1.condition with
      | some (code, subject) => s.fault code (some subject)
      | none => s
  let s := s.judgeBeyond
  s.levelNotice (r.1.record.quality != old.record.quality) r.2

/-- The sample time of a reply that updated a level point which is then usable (R58). -/
def State.sampleFor (g : GuardSet) (ps : List Nat) (sample : Option Nat) (s : State) : Option Nat :=
  if (ps.contains g.pointA && (s.usableA g).isSome) || (ps.contains g.pointB && (s.usableB g).isSome) then sample else none

/-- The Level Unit takes a point notice (R52). -/
def State.levelOnPoints (ps : List Nat) (sample : Option Nat) (s : State) : State :=
  match s.tables.guardSet with
  | none => s
  | some g => if ps.contains g.pointA || ps.contains g.pointB then s.recompute g (s.sampleFor g ps sample) else s

/-- The Level Unit takes the notice that the sensor housing's frozen flag has changed (R52). While GUARD_SET is EMPTY no points are named,
W stays as R50 says, and no recomputation is made and no level notice sent; R52 and R65 make no exception for it (the model's choice,
assumption 43). -/
def State.levelOnHousing (s : State) : State :=
  match s.tables.guardSet with
  | none => s
  | some g => s.recompute g none

/-! ### Swaps (R67, R68) -/

/-- A new STRAPPING table enters use (R67). -/
def State.swapStrapping (t : List Breakpoint) (s : State) : State :=
  let vs := volumeAndSegment (some t) s.level.record.w
  (((s.updTables fun x => { x with strapping := some t }).updLevel fun l => { l with
    record := { l.record with v := vs.1, segment := vs.2 } }).judgeBeyond).levelNotice false false

/-- The Level Unit's part of a GUARD_SET swap, the new table being in use; `old` is the one it replaced (R68). R68 compares with the
table replaced and is silent where there was none: the first GUARD_SET counts as one that changes points and band (the model's choice,
assumption 34). -/
def State.levelOnGuardSet (old : Option GuardSet) (g : GuardSet) (s : State) : State :=
  let pointsSame := old.any fun o => o.pointA == g.pointA && o.pointB == g.pointB
  let bandSame := old.any fun o => o.agreeBand == g.agreeBand
  if pointsSame && bandSame then s
  else
    let s := if pointsSame then s
      else s.updLevel fun l => { l with ring := [], record := { l.record with rate := none } }
    s.recompute g none

/-- The Level Unit after a reset, the tables being in use (R66). -/
def resetLevel (strapping : Option (List Breakpoint)) : LevelBlock :=
  let vs := volumeAndSegment strapping 0
  { record := { w := 0, quality := .lost, v := vs.1, segment := vs.2, rate := none, lostSince := some 0 } }

end Sys2Proof.Machine
end

