-- ==== Sys2Proof/Machine/Guard.lean ====
section
/-! DEFINITION. The Overflow Guard (chapter 4): coast, projection and thresholds (R71 to R73), evaluation, anticipation and
re-arming (R74 to R76), float and level hold (R77, R78), the trip (R79 to R81), the valve-confirm watch (R82), the reset (R83,
R84), the start state (R85) and the GUARD_SET swap (R86). -/

namespace Sys2Proof.Machine

/-! ### Numbers (R71, R72, R73) -/

/-- The coast level C of a segment (R71). -/
def coastLevel (t : Option (List Breakpoint)) (segment coastVolume : Nat) : Nat :=
  match t with
  | none => 0
  | some t =>
    match t[segment]?, t[segment + 1]? with
    | some x, some y => ceilDiv (coastVolume * (y.level - x.level)) (y.volume - x.volume)
    | _, _ => 0

/-- The rise term of the projection (R72). -/
def riseTerm (g : GuardSet) (rate : Option Int) (demand : Nat) : Nat :=
  match rate with
  | some r => (max r 0).toNat * g.stopLatency / 60
  | none => if 0 < demand then g.ratedRise * g.stopLatency / 60 else 0

/-- The projection P, capped at 40,000 mm (R72). -/
def projectionOf (g : GuardSet) (lr : LevelRecord) (demand coast : Nat) : Nat :=
  min Config.maxLevel (lr.w + riseTerm g lr.rate demand + coast)

/-- The frost extra that counts (R73). -/
def frostExtraOf (g : GuardSet) (flag : Bool) : Int := if flag then (g.frostExtra : Int) else 0

/-- The anticipate threshold T_a (R73). -/
def anticipateAt (g : GuardSet) (flag : Bool) : Int :=
  (g.overflow : Int) - (g.anticipateMargin : Int) - frostExtraOf g flag

/-- The trip level T_t (R73). -/
def tripAt (g : GuardSet) (flag : Bool) : Int := (g.overflow : Int) - (g.tripMargin : Int) - frostExtraOf g flag

/-- The reset level (R73). -/
def resetAt (g : GuardSet) (flag : Bool) : Int := tripAt g flag - (g.resetGap : Int)

/-- The re-arm level (R73). -/
def rearmAt (g : GuardSet) (flag : Bool) : Int := anticipateAt g flag - (g.hysteresis : Int)

/-- The guard's record after the numbers of an evaluation (R71, R72, R73). -/
def GuardBlock.withNumbers (g : GuardSet) (strapping : Option (List Breakpoint)) (lr : LevelRecord) (demand : Nat)
    (b : GuardBlock) : GuardBlock :=
  let coast := coastLevel strapping lr.segment g.coastVolume
  { b with
    coast := coast
    projection := projectionOf g lr demand coast
    anticipate := anticipateAt g b.frostExtra
    trip := tripAt g b.frostExtra
    resetLevel := resetAt g b.frostExtra
    rearm := rearmAt g b.frostExtra }

/-! ### Notices to the neighbours (R87, R129) -/

/-- Tells Level Telemetry the guard's state and cause (R87). -/
def State.tellGuard (s : State) : State := s.send .telemetry (.guardState s.guard.state s.guard.cause)

/-- The items that the Fill Planner passes to Level Telemetry (R129). -/
def FillBlock.items (f : FillBlock) : Notice := .fillItems f.state f.purpose f.order f.inhibit f.demand

/-- Passes the Fill Planner's items to Level Telemetry if an event changed them (R129). -/
def State.passFill (before : State) (s : State) : State :=
  if s.fill.items = before.fill.items then s else s.send .telemetry s.fill.items

/-- The guard sets the fill demand to 0 with the DEMAND frame of 0 at the head of the queue (R75, R137). -/
def State.guardZero (s : State) : State := State.passFill s s.zeroDemandHead

/-! ### The valve-confirm watch (R82) -/

/-- The code shown by the inlet valve's feedback point while it is a GOOD POSITION point (R1, R82). -/
def State.valvePosition (s : State) (g : GuardSet) : Option Int := s.goodOfKind .position g.feedback

/-- Starts the watch with a deadline of the valve travel; a feedback point already GOOD and CLOSED confirms it at once (R82). The travel
is that of the GUARD_SET in use when the watch starts: R86 names no effect of a new travel on a running deadline, which the model keeps
(the model's choice, assumption 35). The watch starts without a retry or a repeat: where a trip out of a reset in progress starts a watch
that is running (R84), a 2 s retry of a failed close and the 30 s repeats of a passed deadline fall away with the old deadline, and R82 does
not say whether they are still placed (the model's choice, assumption 35). -/
def State.startWatch (s : State) : State :=
  match s.tables.guardSet with
  | none => s.updGuard fun b => { b with watch := .idle }
  | some g =>
    let watch : ValveWatch :=
      if s.valvePosition g = some 0 then .confirmed else .running (some (s.now + g.valveTravel * 1000)) none none
    s.updGuard fun b => { b with watch := watch }

/-- The guard takes a point notice: the feedback point confirms the watch or starts it again (R82). -/
def State.guardOnPoints (ps : List Nat) (s : State) : State :=
  match s.tables.guardSet with
  | none => s
  | some g =>
    if s.guard.state ≠ .tripped ∨ ps.contains g.feedback = false then s
    else
      match s.guard.watch, s.valvePosition g with
      | .running _ _ _, some v => if v = 0 then s.updGuard fun b => { b with watch := .confirmed } else s
      | .confirmed, some v => if v = 0 then s else s.startWatch.placeUrgent
      | _, _ => s

/-- The deadline of the watch runs out (R82). A retry of a failed close that is still to come then falls away, the deadline's own close
and the 30 s placements taking its place: R82 does not say whether it is still placed (the model's choice, assumption 35). -/
def State.valveDeadline (s : State) : State :=
  match s.tables.guardSet with
  | none => s
  | some g =>
    let again := s.now + Config.closeRepeatMs
    ((s.updGuard fun b => { b with watch := .running none (some again) none }).fault .valveNotClosed
      (some (.point g.feedback))).placeUrgent

/-- The 30 s repeat period runs out (R82). -/
def State.valveRepeat (s : State) : State :=
  let again := s.now + Config.closeRepeatMs
  (s.updGuard fun b => { b with watch := .running none (some again) none }).placeUrgent

/-- The 2 s after a failed close have passed (R82). -/
def State.valveRetry (s : State) : State :=
  (s.updGuard fun b => { b with
    watch := match b.watch with
      | .running d r _ => .running d r none
      | .idle => .idle
      | .confirmed => .confirmed }).placeUrgent

/-- The guard is told the outcome of the urgent close (R42, R82): a failed close is placed again 2 s later before the deadline. -/
def State.guardOnUrgent (done : Bool) (s : State) : State :=
  let at2s := s.now + Config.closeRetryMs
  match done, s.guard.watch with
  | false, .running (some d) r _ => s.updGuard fun b => { b with watch := .running (some d) r (some at2s) }
  | _, _ => s

/-- The three times of the watch. -/
def ValveWatch.deadlineAt : ValveWatch → Option Nat
  | .running d _ _ => d | .idle => none | .confirmed => none

/-- The time of the next repeat. -/
def ValveWatch.repeatTime : ValveWatch → Option Nat
  | .running _ r _ => r | .idle => none | .confirmed => none

/-- The time of the retry of a failed close. -/
def ValveWatch.retryTime : ValveWatch → Option Nat
  | .running _ _ t => t | .idle => none | .confirmed => none

/-! ### The trip (R79, R80, R81) -/

/-- The fault of a trip cause, with its subject (R79); NO_TABLES is the cause of no trip. -/
def tripFault (pointA : Option Nat) : TripCause → Option (FaultCode × Option Subject)
  | .level => some (.tripLevel, pointA.map .point)
  | .float => some (.tripFloat, none)
  | .levelLost => some (.tripLevelLost, pointA.map .point)
  | .noTables => none

/-- A trip: one event of the guard (R79). R79 leaves the order of its acts open. The model sends the Fill Planner GUARD before the WITHDRAWN
of a removed entry, and queues the TRIP report before the FAULT report of the GUARD bank (the model's choice, assumption 44). -/
def State.trip (cause : TripCause) (lr : LevelRecord) (s : State) : State :=
  let p := s.guard.projection
  let report : TripReport := ⟨cause, lr.w, p, s.clockTime, none⟩
  let entry : TripEntry := .trip cause lr.w lr.quality p s.clockTime s.uptime
  let s := s.updGuard fun b => { b with
    state := .tripped
    cause := some cause
    tripLine := true
    tripFlag := .pending
    reset := none }
  let s := s.guardZero.send .fill (.inhibit [.guard] [])
  let s := (s.placeUrgent.startWatch).askTripWork entry
  let s := (s.offer (.trip report)).updTelemetry fun t => { t with lastTrip := some report }
  let s := match tripFault (s.tables.guardSet.map GuardSet.pointA) cause with
    | some (code, subject) => s.fault code subject
    | none => s
  s.tellGuard

/-- A trip condition arises: it trips from ARMED and ANTICIPATING; during a reset in progress the first one is remembered;
otherwise nothing follows (R79, R84). -/
def State.tripCondition (cause : TripCause) (lr : LevelRecord) (s : State) : State :=
  match s.guard.state, s.guard.reset with
  | .tripped, some _ => s.updGuard fun b => { b with
      reset := b.reset.map fun r => { r with seen := some (r.seen.getD cause) } }
  | .tripped, none => s
  | .armed, _ => s.trip cause lr
  | .anticipating, _ => s.trip cause lr

/-! ### Anticipation and re-arming (R75, R76) -/

/-- Moves to ANTICIPATING (R75). The Fill Planner is sent GUARD's joining of the inhibit set before the outcome of the CLOSE that the guard
places; R75 gives no order (the model's choice, assumption 44). -/
def State.anticipate (s : State) : State :=
  let s := ((s.updGuard fun b => { b with state := .anticipating }).guardZero).send .fill (.inhibit [.guard] [])
  let s := match s.tables.guardSet with
    | none => s
    | some g =>
      let r := s.placeCommand g.inletAddress g.inletItem g.feedback .fill 0
      r.1.send .fill (.command g.inletAddress g.inletItem 0 r.2)
  s.tellGuard

/-- Returns from ANTICIPATING to ARMED (R76). -/
def State.rearmGuard (s : State) : State :=
  ((s.updGuard fun b => { b with state := .armed }).send .fill (.inhibit [] [.guard])).tellGuard

/-- Pumps running as the guard counts them: 0 while the copy holds no STATION-STATUS (R74, R108). -/
def State.pumpsRunning (s : State) : Nat := match s.fill.station with | some c => c.running | none => 0

/-- One evaluation over the working level record `lr` (R74); none is made while GUARD_SET is EMPTY (R69). -/
def State.guardEvaluate (lr : LevelRecord) (s : State) : State :=
  match s.tables.guardSet with
  | none => s
  | some g =>
    let s := s.updGuard (GuardBlock.withNumbers g s.tables.strapping lr s.fill.demand)
    let s := s.send .telemetry (.projection s.guard.projection)
    let atTrip := decide (s.guard.trip ≤ (lr.w : Int)) && lr.quality != .lost
    match s.guard.state with
    | .armed =>
      if atTrip then s.trip .level lr
      else if s.guard.anticipate ≤ (s.guard.projection : Int) then s.anticipate else s
    | .anticipating =>
      if atTrip then s.trip .level lr
      else if (s.guard.projection : Int) ≤ s.guard.rearm ∧ s.pumpsRunning = 0 then s.rearmGuard else s
    | .tripped => if atTrip then s.tripCondition .level lr else s

/-! ### The level hold (R78) -/

/-- The level-hold timer runs out (R78). -/
def State.levelHoldEnds (s : State) : State :=
  (s.updGuard fun b => { b with holdAt := none }).tripCondition .levelLost s.level.record

/-- Aims the level-hold timer at a LOST-since time plus the hold; a time already past runs it out at once (R78). -/
def State.armHold (g : GuardSet) (since : Nat) (s : State) : State :=
  let aim := since + g.levelHold * 1000
  if aim ≤ s.now then s.levelHoldEnds else s.updGuard fun b => { b with holdAt := some aim }

/-- The level-hold timer at a level notice (R78). -/
def State.holdOnNotice (lr : LevelRecord) (s : State) : State :=
  match s.tables.guardSet with
  | none => s
  | some g =>
    match lr.quality, lr.lostSince with
    | .lost, some since => if s.guard.holdAt.isSome then s else s.armHold g since
    | .lost, none => s
    | _, _ => s.updGuard fun b => { b with holdAt := none }

/-! ### The float (R77) -/

/-- The debounce follows the float input as it now stands: it runs while the input differs from the float state (R77). -/
def State.floatInput (active : Bool) (s : State) : State :=
  let aim := if active = s.guard.floatActive then none else some (s.now + Config.floatDebounceMs)
  s.updGuard fun b => { b with floatAt := aim }

/-- The float state becomes ACTIVE (R77). While GUARD_SET is EMPTY no float level and no point A are named, and R77 is silent: W is compared
with nothing and no FLOAT_CONFLICT is logged (the model's choice, assumption 35). A float that both trips and conflicts sends TRIP_FLOAT
to its bank before FLOAT_CONFLICT; R77 and R145 order no faults of two banks (the model's choice, assumption 44). -/
def State.floatActivates (s : State) : State :=
  let lr := s.level.record
  let s := (s.updGuard fun b => { b with floatActive := true, floatAt := none }).tripCondition .float lr
  match s.tables.guardSet with
  | none => s
  | some g => if (lr.w : Int) < (g.floatLevel : Int) - 1000 then s.fault .floatConflict (some (.point g.pointA)) else s

/-- The float debounce runs out: the float state takes the input's level (R77). -/
def State.floatDebounced (s : State) : State :=
  if s.inputs.float then s.floatActivates
  else s.updGuard fun b => { b with floatActive := false, floatAt := none }

/-! ### Guard reset (R83, R84) -/

/-- Whether the four tables that the guard needs are in use (R83, R85). -/
def Tables.guardReady (t : Tables) : Bool :=
  t.strapping.isSome && t.guardSet.isSome && t.points.isSome && t.channels.isSome

/-- The first check of GUARD-RESET that fails, as its status (R83). -/
def State.guardResetCheck (s : State) : Option Status :=
  let lr := s.level.record
  if s.guard.state ≠ .tripped then some .notTripped
  else if s.tables.guardReady = false then some .noTables
  else if s.guard.tripFlag = .pending ∨ s.guard.reset.isSome = true then some .busy
  else if s.guard.floatActive = true then some .float
  else if lr.quality = .lost ∨ lr.quality = .split then some .levelBad
  else if s.guard.resetLevel ≤ (lr.w : Int) then some .tooHigh
  else if s.holds .level = true ∨ s.holds .guard = true then some .held
  else none

/-- A GUARD-RESET with its place `resv` (R83, R84). -/
def State.guardResetRequest (resv : Nat) (tag : Byte) (s : State) : State :=
  match s.guardResetCheck with
  | some status => s.respond resv [status.byte]
  | none =>
    (s.updGuard fun b => { b with reset := some ⟨resv, tag, none⟩ }).askTripWork
      (.marker s.level.record.w s.clockTime s.uptime)

/-- The status that refuses a reset during which a condition was seen (R84). -/
def seenStatus : TripCause → Status
  | .level => .tooHigh
  | .float => .float
  | .levelLost => .levelBad
  | .noTables => .noTables

/-- The reset marker has been programmed (R84). -/
def State.completeReset (s : State) : State :=
  match s.guard.reset with
  | none => s
  | some r =>
    match r.seen with
    | some cause =>
      ((s.updGuard fun b => { b with reset := none, tripFlag := .none }).respond r.resv [(seenStatus cause).byte]).trip
        cause s.level.record
    | none =>
      let s := s.updGuard fun b => { b with
        state := .armed
        cause := none
        tripLine := false
        tripFlag := .none
        watch := .idle
        reset := none }
      (((s.send .fill (.inhibit [] [.guard])).tellGuard).respond r.resv [Status.done.byte]).guardEvaluate s.level.record

/-- The Table Store reports trip work (R81, R84): a failed piece is asked for again at once. -/
def State.guardOnTripWork (e : TripEntry) (slot : Option Nat) (s : State) : State :=
  match slot with
  | none => s.askTripWork e
  | some n =>
    match e with
    | .trip _ _ _ _ _ _ =>
      (s.updGuard fun b => { b with tripFlag := .programmed }).send .telemetry (.tripNumber n)
    | .marker _ _ _ => s.completeReset

/-! ### Notices to the guard -/

/-- The guard takes a level notice (R74, R78). -/
def State.guardOnLevel (lr : LevelRecord) (s : State) : State := (s.holdOnNotice lr).guardEvaluate lr

/-- The guard takes the overflow pipe's frozen flag (R73, R74). -/
def State.guardOnPipe (flag : Bool) (s : State) : State :=
  (s.updGuard fun b => { b with frostExtra := flag }).guardEvaluate s.level.record

/-! ### Start-up and the swap (R85, R86) -/

/-- The guard's start state and what it places, the tables being in use and `newest` the newest intact record of the trip area
(R85). -/
def State.guardStart (newest : Option TripEntry) (s : State) : State :=
  let extra := s.frost.flags.overflowPipe
  let holdAt := s.tables.guardSet.map fun g => g.levelHold * 1000
  let start (state : GuardState) (cause : Option TripCause) (flag : TripFlag) : State :=
    s.updGuard fun b => { b with
      state := state
      cause := cause
      tripLine := state == .tripped
      tripFlag := flag
      frostExtra := extra
      holdAt := holdAt }
  let tripped (cause : TripCause) (flag : TripFlag) : State :=
    let s := (start .tripped (some cause) flag).send .fill (.inhibit [.guard] [])
    if s.tables.guardSet.isSome then s.placeUrgent.startWatch else s
  if s.tables.guardReady = false then tripped .noTables .none
  else
    match newest with
    | some (.trip cause _ _ _ _ _) => tripped cause .programmed
    | some (.marker _ _ _) => start .armed none .none
    | none => start .armed none .none

/-- The guard's part of a GUARD_SET swap, the new table being in use (R78, R86): the first GUARD_SET starts the level-hold timer
of a level that is lost, and a later one re-aims a running timer when it changes the hold. -/
def State.guardOnGuardSet (old : Option GuardSet) (g : GuardSet) (s : State) : State :=
  match s.level.record.lostSince with
  | none => s
  | some since =>
    if old.isNone || (s.guard.holdAt.isSome && old.any fun o => o.levelHold != g.levelHold) then s.armHold g since else s

end Sys2Proof.Machine
end

