-- ==== Sys2Proof/Machine/Fill.lean ====
section
/-! DEFINITION. The Fill Planner (chapter 5): the tariff calendar (R89, R90), the plan (R93, R94), the fill states (R96 to R102),
the inhibit set (R103, R104), outcomes of inlet commands (R105), FILL-ORDER (R106), the station exchange (R107 to R109), the rise
check (R110) and the swaps of its tables (R111). Where the manual leaves the order of two effects of one event open, the order
taken is that of assumption 14. -/

namespace Sys2Proof.Machine

/-! ### The tariff calendar (R89, R90) -/

/-- Whether a window of yesterday runs over midnight and still covers today's minute (R90, first step). -/
def TariffWindow.runsOver (w : TariffWindow) (minute : Nat) : Bool := decide (w.stop < w.start ∧ minute < w.stop)

/-- Whether a window of today covers today's minute on the day it starts (R90, second step). -/
def TariffWindow.coversToday (w : TariffWindow) (minute : Nat) : Bool :=
  decide (w.start ≤ minute) && (decide (minute < w.stop) || decide (w.stop < w.start))

/-- The window that gives the class of the present minute, if there is one (R90). -/
def currentWindow (site : Option SiteSet) (tariff : Option (List TariffWindow)) (clock : Option ClockTime) :
    Option TariffWindow :=
  match clock with
  | none => none
  | some t =>
    let ws := tariff.getD []
    let yesterday := siteDayType site ((t.day + 6) % 7)
    let today := siteDayType site t.day
    match ws.find? (fun w => w.dayType == yesterday && w.runsOver t.minute) with
    | some w => some w
    | none => ws.find? (fun w => w.dayType == today && w.coversToday t.minute)

/-- The class that a window gives (R90). -/
def windowClass : Option TariffWindow → TariffClass
  | some w => if w.cheap then .cheap else .peak
  | none => .standard

/-- The current window if it is CHEAP. -/
def cheapWindow (w : Option TariffWindow) : Option TariffWindow := w.filter TariffWindow.cheap

/-- Whether the present minute lies in a cheap window. -/
def FillBlock.inCheap (f : FillBlock) : Bool := (cheapWindow f.window).isSome

/-- Whether the present counts as inside a cheap window: in one, or under a FORCE (R96, R106). -/
def FillBlock.inWindow (f : FillBlock) : Bool := f.inCheap || f.order == .force

/-! ### The plan (R94) -/

/-- The draw rate of a day type and hour, 0 where no record gives one (R91). -/
def profileRate (profile : Option (List ProfileRecord)) (d : DayType) (hour : Nat) : Nat :=
  match (profile.getD []).find? (fun r => r.dayType == d && r.hour == hour) with
  | some r => r.rate
  | none => 0

/-- The forecast draw over `span` minutes from a clock time: for each clock hour overlapped, its rate times the minutes inside
the span, divided by 60 and truncated; the hours after midnight take the next day's type (R94 step 3). -/
def forecastDraw (site : Option SiteSet) (profile : Option (List ProfileRecord)) (t : ClockTime) (span : Nat) : Nat :=
  let stop := t.minute + span
  ((List.range (stop / 60 + 1)).map fun h =>
    let minutes := min (60 * (h + 1)) stop - max (60 * h) t.minute
    profileRate profile (siteDayType site ((t.day + h / 24) % 7)) (h % 24) * minutes / 60).sum

/-- The cap of R94 step 7: the smaller of the pumps available in the station copy and the site maximum. -/
def State.pumpCap (s : State) (fs : FillSet) : Nat :=
  min (match s.fill.station with | some c => c.available | none => 0) fs.siteMax

/-- The wanted count and Q of a need N with M minutes available (R94 steps 5, 6). -/
def wantedCount (fs : FillSet) (need : Nat) (m : Int) (oldFlow : Nat) : Nat × Nat :=
  if need = 0 then (0, oldFlow)
  else if 1 ≤ m then
    let q := ceilDiv need m.toNat
    (ceilDiv q fs.pumpFlow, q)
  else (fs.siteMax, oldFlow)

/-- The wanted count and k of a top-up (R94 step 8). -/
def State.topUpNumbers (s : State) (fs : FillSet) (n : PlanNumbers) : PlanNumbers :=
  { n with wanted := 1, k := min 1 (s.pumpCap fs), cut := decide (s.pumpCap fs < 1) }

/-- M0 and E in a cheap window or under a FORCE (R94 step 2); E is a free value under a FORCE with the clock UNSET (assumption
4). -/
def State.windowSpan (s : State) : Int × Nat :=
  match s.fill.order, s.fill.forceAt with
  | .force, some since =>
    let m0 : Int := (Config.forceMinutes : Int) - (((s.now - since) / 60000 : Nat) : Int)
    match s.clockTime with
    | some t => (m0, (((t.minute : Int) + m0) % 1440).toNat)
    | none => (m0, Config.openWindowEnd s.draws % 1440)
  | _, _ =>
    match cheapWindow s.fill.window, s.clockTime with
    | some w, some t => ((((w.stop : Int) - (t.minute : Int)) % 1440), w.stop)
    | _, _ => (0, s.fill.numbers.windowEnd)

/-- The numbers of an evaluation (R94). Numbers that a case does not compute keep their values (assumption 15). -/
def State.planNumbers (s : State) (fs : FillSet) : PlanNumbers :=
  let old := s.fill.numbers
  let target := (volumeAndSegment s.tables.strapping fs.target).1
  if s.fill.inWindow then
    let (m0, stop) := s.windowSpan
    let draw : Nat := if s.frost.flags.outlet then 0 else
      match s.clockTime with
      | some t => forecastDraw s.tables.siteSet s.tables.profile t m0.toNat
      | none => 0
    let need := (((target : Int) - (s.level.record.v : Int)) + (draw : Int)).toNat
    let m := m0 - (fs.finishReserve : Int)
    let wq := wantedCount fs need m old.flow
    let n : PlanNumbers := { vTarget := target, windowEnd := stop, m := m, draw := draw, need := need, flow := wq.2
                             wanted := wq.1, k := min wq.1 (s.pumpCap fs), cut := decide (s.pumpCap fs < wq.1) }
    if s.fill.purpose = some .topUp then s.topUpNumbers fs n else n
  else s.topUpNumbers fs { old with vTarget := target }

/-- Whether an evaluation draws a free value: under a FORCE with the clock UNSET (assumption 4). -/
def State.planDraws (s : State) : Nat := if s.fill.order = .force ∧ s.clockTime = none then 1 else 0

/-! ### Entering the fill states -/

/-- The fill takes a state and purpose; leaving FILLING ends a rise check (R110). -/
def State.setFill (state : FillState) (purpose : Option Purpose) (s : State) : State :=
  s.updFill fun f => { f with
    state := state
    purpose := purpose
    openWanted := false
    rise := if state = .filling then f.rise else none }

/-- Places the OPEN of the present OPENING; one not placed is placed again at the next evaluation (R98, R105). -/
def State.placeOpen (s : State) : State :=
  match s.tables.guardSet with
  | none => s.updFill fun f => { f with openWanted := true }
  | some g =>
    let r := s.placeCommand g.inletAddress g.inletItem g.feedback .fill 2
    r.1.updFill fun f => { f with openWanted := r.2 != .placed }

/-- Enters OPENING (R98): the OPEN is placed, a close is owed, and the close sequence is cancelled (R100). -/
def State.enterOpening (p : Purpose) (s : State) : State :=
  ((s.setFill .opening (some p)).updFill fun f => { f with
    closeOwed := true
    closePlaced := false
    stopWait := none
    stopAt := none
    hadDemand := false }).placeOpen

/-- Enters CLOSING (R101). -/
def State.enterClosing (s : State) : State :=
  ((s.setFill .closing none).setDemand 0).updFill fun f => { f with
    turnoverDone := f.turnoverDone && !f.hadDemand
    hadDemand := false
    order := if f.order = .force then .auto else f.order
    forceAt := none }

/-- Enters HELD (R104). -/
def State.enterHeld (s : State) : State := (s.setFill .held none).setDemand 0

/-- The demand of FILLING: k while the guard is ARMED and 0 while it is not (R99). -/
def State.fillingDemand (s : State) : State := s.setDemand (if s.guard.state = .armed then s.fill.numbers.k else 0)

/-- Takes the wanted count and k of step 8 for a top-up (R94, R96, R99). A top-up taken without an evaluation, at a level notice or at the
end of a window or of a FORCE, replaces these two numbers and no other: the kept cut flag stays the last evaluation's, and no SHORTFALL
is logged. R94 gives both for an evaluation and says nothing of them here (the model's choice, assumption 15). -/
def State.takeTopUp (fs : FillSet) (s : State) : State := s.updFill fun f => { f with
    numbers := { s.topUpNumbers fs f.numbers with cut := f.numbers.cut } }

/-! ### Acting on an evaluation (R96 to R99) -/

/-- Whether the record shows W below a level (R96). -/
def State.wBelow (s : State) (level : Nat) : Bool := decide (s.level.record.w < level)

/-- Whether W is LOST. -/
def State.wLost (s : State) : Bool := s.level.record.quality == .lost

/-- The window decision on the numbers kept (R96); `turned` says that turnover counts as done. A level of quality LOST bars the start of
a fill from IDLE or SATISFIED, and none of the table's other results. -/
def State.windowDecision (turned : Bool) (s : State) : State :=
  let n := s.fill.numbers
  if n.need = 0 then s.setFill .satisfied none
  else if n.k = 0 then s.setFill .idle none
  else if s.frost.watch && !turned then s.setFill .waitingTurnover none
  else if s.wLost && (s.fill.state == .idle || s.fill.state == .satisfied) then s
  else s.enterOpening (if s.fill.order = .force then .forced else .window)

/-- The top-up of an IDLE fill outside a window (R96). -/
def State.topUp (fs : FillSet) (s : State) : State :=
  if s.wBelow fs.minimum && !s.wLost && decide (0 < min 1 (s.pumpCap fs)) then (s.takeTopUp fs).enterOpening .topUp else s

/-- Acts on an evaluation according to the fill state (R93, R96 to R99); `forced` marks one caused by a FILL-ORDER FORCE. -/
def State.actOnPlan (fs : FillSet) (forced : Bool) (s : State) : State :=
  match s.fill.state with
  | .idle => if s.fill.inWindow then s.windowDecision s.fill.turnoverDone else s.topUp fs
  | .satisfied =>
    if s.fill.inWindow && (forced || s.wBelow (fs.target - fs.topUpBand)) then s.windowDecision s.fill.turnoverDone else s
  | .opening => if s.fill.openWanted then s.placeOpen else s
  | .filling => s.fillingDemand
  | .waitingTurnover => s
  | .closing => s
  | .held => s

/-- One evaluation of the plan (R93, R94); with FILL_SET EMPTY k is 0 and nothing else follows (R92). SHORTFALL is logged at a newly cut
evaluation in every fill state, as R94 says without exception, although R93 lets an evaluation in HELD or CLOSING change nothing but the
kept numbers (the model's choice, assumption 15). -/
def State.evaluatePlan (forced : Bool) (s : State) : State :=
  match s.tables.fillSet with
  | none => s.updFill fun f => { f with numbers := { f.numbers with k := 0, cut := false }, planAt := none }
  | some fs =>
    let n := s.planNumbers fs
    let logs := n.cut && !s.fill.numbers.cut
    let draws := s.planDraws
    let s := s.updFill fun f => { f with numbers := n, planAt := some (s.now + fs.planInterval * 60000) }
    let s := { s with draws := s.draws + draws }
    (if logs then s.fault .shortfall none else s).actOnPlan fs forced

/-! ### Windows (R90, R97 to R99) -/

/-- The end of a cheap window (`force` false) or of a FORCE (`force` true), which the order no longer shows (R96 to R99). The
end of a window leaves a SATISFIED or WAITING_TURNOVER fill alone while a FORCE stands. -/
def State.endWindow (force : Bool) (s : State) : State :=
  let minimum := match s.tables.fillSet with | some fs => fs.minimum | none => 0
  let low := s.wBelow minimum
  let mine : Bool := s.fill.purpose == some (if force then .forced else .window)
  match s.fill.state with
  | .satisfied => if s.fill.order = .force then s else s.setFill .idle none
  | .waitingTurnover => if s.fill.order = .force then s else s.setFill .idle none
  | .opening =>
    if mine then
      if low then
        match s.tables.fillSet with
        | some fs => (s.takeTopUp fs).updFill fun f => { f with purpose := some .topUp }
        | none => s.updFill fun f => { f with purpose := some .topUp }
      else s.enterClosing
    else s
  | .filling =>
    if mine then
      if low then
        match s.tables.fillSet with
        | some fs => ((s.takeTopUp fs).updFill fun f => { f with purpose := some .topUp }).fillingDemand
        | none => s.updFill fun f => { f with purpose := some .topUp }
      else s.enterClosing
    else s
  | .idle => s
  | .closing => s
  | .held => s

/-- The entry to a cheap window: a top-up in progress becomes a window fill, and the plan is evaluated (R93, R98, R99). -/
def State.enterWindow (s : State) : State :=
  (s.updFill fun f => { f with purpose := if f.purpose = some .topUp then some .window else f.purpose }).evaluatePlan false

/-- Recomputes the tariff class and its window, announces a change, and acts on the entry to or end of a cheap window (R90). -/
def State.recomputeTariff (s : State) : State :=
  let before := s.fill.window
  let after := currentWindow s.tables.siteSet s.tables.tariff s.clockTime
  let cls := windowClass after
  let changed := after != before || cls != s.fill.tariff
  let s := s.updFill fun f => { f with tariff := cls, window := after }
  let s := if changed then s.broadcast [.frost, .telemetry] (.tariff cls) else s
  let cheapBefore := cheapWindow before
  let cheapAfter := cheapWindow after
  if cheapBefore = cheapAfter then s
  else
    let s := if cheapBefore.isSome then s.endWindow false else s
    if cheapAfter.isSome then s.enterWindow else s

/-! ### The close sequence (R100) -/

/-- Whether the close sequence runs (R100). -/
def FillBlock.closeRuns (f : FillBlock) : Bool :=
  f.closeOwed && !f.inhibit.contains .valveFault && f.state != .opening && f.state != .filling

/-- Places the CLOSE of the close sequence (R100, R105); none while GUARD_SET is EMPTY (R69). -/
def State.placeClose (s : State) : State :=
  match s.tables.guardSet with
  | none => s
  | some g =>
    let r := s.placeCommand g.inletAddress g.inletItem g.feedback .fill 0
    match r.2 with
    | .placed => r.1.updFill fun f => { f with closePlaced := true, stopAt := none }
    | .urgent => r.1.updFill fun f => { f with closeOwed := false, closePlaced := false, stopWait := none, stopAt := none }
    | _ => r.1

/-- Whether the station copy reports 0 pumps running; an empty copy does not (R100). -/
def State.reportsStopped (s : State) : Bool := s.fill.station.any fun c => c.running == 0

/-- Carries the close sequence on after an event: the stop wait starts when the sequence begins, takes its end from the first
GUARD_SET in use, and gives way to the CLOSE (R69, R100). -/
def State.closeSequence (s : State) : State :=
  if s.fill.closeRuns = false then s.updFill fun f => { f with stopWait := none, stopAt := none }
  else if s.fill.closePlaced then s
  else
    let start := s.fill.stopWait.getD s.now
    let aim : Option Nat :=
      match s.fill.stopAt with
      | some t => some t
      | none => s.tables.guardSet.map fun g => start + (g.stopLatency + 60) * 1000
    let s := s.updFill fun f => { f with stopWait := some start, stopAt := aim }
    if s.reportsStopped || aim.any (fun t => decide (t ≤ s.now)) then s.placeClose else s

/-- One event of the Fill Planner: the close sequence goes on, and changed items pass to Level Telemetry (R100, R129). -/
def State.fillEvent (f : State → State) (s : State) : State := State.passFill s (f s).closeSequence

/-! ### The inhibit set (R103, R104) -/

/-- The set after reasons join and leave it, in the order of R103. -/
def inhibitAfter (add remove rs : List Reason) : List Reason :=
  Reason.all.filter fun r => (rs.contains r || add.contains r) && !remove.contains r

/-- Reasons join and leave the inhibit set in one change (R104). -/
def State.changeInhibit (add remove : List Reason) (s : State) : State :=
  let rs := inhibitAfter add remove s.fill.inhibit
  let was := s.fill.inhibit
  let s := s.updFill fun f => { f with inhibit := rs }
  if rs = [] then (if was = [] then s else (s.setFill .idle none).evaluatePlan false)
  else if was = [] then s.enterHeld else s

/-! ### Level notices (R96, R97, R99, R102) -/

/-- What a level notice does in the fill state (R96, R97, R99). -/
def State.fillOnLevelState (fs : FillSet) (lr : LevelRecord) (s : State) : State :=
  if lr.quality = .lost then s
  else
    match s.fill.state with
    | .idle => if s.fill.inWindow then s else s.topUp fs
    | .waitingTurnover => if lr.w < fs.minimum then s.windowDecision true else s
    | .filling =>
      let full := if s.fill.purpose = some .topUp then fs.minimum + fs.topUpBand else fs.target
      if full ≤ lr.w then s.enterClosing else s
    | .opening => s
    | .closing => s
    | .satisfied => s
    | .held => s

/-- The plan is evaluated at the setting of turnover done, with the window decision from WAITING_TURNOVER (R97, R102). -/
def State.turnoverBecomesDone (s : State) : State :=
  let s := (s.updFill fun f => { f with turnoverDone := true }).evaluatePlan false
  if s.fill.state = .waitingTurnover then s.windowDecision true else s

/-- The Fill Planner takes a level notice (R65). The record that its evaluation and its top-up read is the one that the notice carries:
no recomputation takes place before the three blocks have taken it (`Delivery.rank`). -/
def State.fillOnLevel (lr : LevelRecord) (s : State) : State :=
  match s.tables.fillSet with
  | none => s
  | some fs =>
    let turns := lr.quality != .lost && decide (lr.w ≤ fs.turnover) && !s.fill.turnoverDone
    State.fillOnLevelState fs lr (if turns then s.turnoverBecomesDone else s)

/-! ### Outcomes of inlet commands (R105) -/

/-- The inlet CLOSE is confirmed (R100, R101, R105); under a FORCE taken in CLOSING the present counts as inside a cheap window
(R106). -/
def State.closeConfirmed (s : State) : State :=
  let closing := decide (s.fill.state = .closing)
  let s := s.updFill fun f => { f with closeOwed := false, closePlaced := false, stopWait := none, stopAt := none }
  if closing then (s.setFill (if s.fill.inWindow then .satisfied else .idle) none).evaluatePlan false else s

/-- The Fill Planner takes the outcome of an inlet command (R105); the target tells OPEN (2) from CLOSE (0). -/
def State.fillOnCommand (target : Nat) (o : CommandOutcome) (s : State) : State :=
  let clear (s : State) : State :=
    s.updFill fun f => { f with closeOwed := false, closePlaced := false, stopWait := none, stopAt := none }
  let again (s : State) : State :=
    if s.fill.state = .opening then s.updFill fun f => { f with openWanted := true } else s
  match o with
  | .placed => if target = 0 then s.updFill fun f => { f with closePlaced := true, stopAt := none } else s
  | .confirmed =>
    if target = 0 then s.closeConfirmed
    else if s.fill.state = .opening then (s.setFill .filling s.fill.purpose).fillingDemand else s
  | .failed =>
    (s.updFill fun f => { f with closePlaced := false, closeOwed := true }).changeInhibit [.valveFault] []
  | .withdrawn => clear s
  | .urgent => if target = 0 then clear s else again s
  | .supply => if target = 0 then s else again s
  | .listFull => s

/-! ### FILL-ORDER (R106) -/

/-- A FORCE in force ends, the order being replaced by `order` (R106). -/
def State.replaceOrder (order : FillOrder) (s : State) : State :=
  let forced := decide (s.fill.order = .force)
  let s := s.updFill fun f => { f with order := order, forceAt := none }
  if forced then s.endWindow true else s

/-- FILL-ORDER AUTO (R106). -/
def State.orderAuto (s : State) : State := (s.replaceOrder .auto).changeInhibit [] [.orderHold, .manualClose]

/-- FILL-ORDER HOLD (R106). -/
def State.orderHold (s : State) : State := (s.changeInhibit [.orderHold] []).replaceOrder .hold

/-- FILL-ORDER FORCE (R106). -/
def State.orderForce (s : State) : State :=
  let rs := inhibitAfter [] [.orderHold] s.fill.inhibit
  let freed := decide (rs = [] ∧ s.fill.inhibit ≠ [])
  let now := s.now
  let s := s.updFill fun f => { f with
    order := .force
    forceAt := some now
    inhibit := rs
    purpose := if f.purpose.isSome then some .forced else none }
  (if freed then s.setFill .idle none else s).evaluatePlan true

/-- The lapse of a HOLD or FORCE on islanding (R106). -/
def State.orderLapses (s : State) : State :=
  if s.fill.order = .auto then s else (s.replaceOrder .auto).changeInhibit [] [.orderHold]

/-- The internal time at which the 360 minutes of the FORCE in force have passed (R106). -/
def FillBlock.forceEnd (f : FillBlock) : Option Nat := f.forceAt.map fun t => t + Config.forceMinutes * 60000

/-! ### The station (R107, R108, R110) -/

/-- The mode of a STATUS frame; an unknown mode is taken as FAULT (R108, R183). -/
def StationMode.ofByte (b : Byte) : StationMode := if b = 0x00#8 then .remote else if b = 0x01#8 then .localControl else .fault

/-- The station copy that a STATUS frame gives; a count above 4 is taken as 4 (R108). -/
def stationCopy (echoed mode available running : Byte) (flow : BitVec 16) : StationCopy :=
  { mode := StationMode.ofByte mode, available := min 4 available.toNat, running := min 4 running.toNat
    flow := flow.toNat, echoed := echoed.toNat }

/-- The rise check at a STATION-STATUS (R110). -/
def State.riseOnStatus (running : Nat) (s : State) : State :=
  if running = 0 then s.updFill fun f => { f with rise := none }
  else
    match s.fill.state, s.fill.rise, s.tables.fillSet with
    | .filling, none, some fs =>
      let check : RiseCheck := ⟨s.level.record.w, s.now + fs.riseCheck * 60000⟩
      s.updFill fun f => { f with rise := some check }
    | _, _, _ => s

/-- The mode and counts of a station copy, as Level Telemetry is told of them (R108, R132). -/
def copyItems (c : Option StationCopy) : Option StationMode × Nat × Nat :=
  match c with
  | some c => (some c.mode, c.available, c.running)
  | none => (none, 0, 0)

/-- A STATION-STATUS (R108). -/
def State.takeStatus (c : StationCopy) (s : State) : State :=
  let old := copyItems s.fill.station
  let new := copyItems (some c)
  let s := s.updFill fun f => { f with station := some c }
  let s := if c.mode = .remote then s.changeInhibit [] [.stationLocal, .stationSilent]
    else s.changeInhibit [.stationLocal] [.stationSilent]
  let s := if new.2.1 = old.2.1 then s else s.evaluatePlan false
  let s := (s.riseOnStatus c.running).send .guard .evaluate
  if new = old then s else s.send .telemetry (.station new.1 new.2.1 new.2.2)

/-- The rise check is judged (R110). -/
def State.judgeRise (check : RiseCheck) (s : State) : State :=
  let lr := s.level.record
  let stop (s : State) : State := s.updFill fun f => { f with rise := none }
  if s.pumpsRunning = 0 ∨ lr.quality = .lost then stop s
  else if lr.w < check.wStart + 50 then (stop s).fault .fillNoRise none
  else
    match s.tables.fillSet with
    | some fs =>
      let next : RiseCheck := ⟨lr.w, s.now + fs.riseCheck * 60000⟩
      s.updFill fun f => { f with rise := some next }
    | none => stop s

/-! ### The clock (R88) -/

/-- The clock takes a time at once; the next clock-minute event follows its seconds (R88). -/
def State.putClock (t : ClockTime) (s : State) : State :=
  let first := s.fill.clock.isNone
  let clock : ClockState := ⟨t, 0, s.now + (60 - t.second) * 1000⟩
  let s := s.updFill fun f => { f with clock := some clock }
  if first then s.send .telemetry .clockSet else s

/-- A new minute (R88). -/
def State.newMinute (s : State) : State :=
  (s.updFill fun f => { f with clock := f.clock.map fun c => { c with minuteAt := c.minuteAt + 60000 } }).recomputeTariff

/-! ### Swaps (R111) -/

/-- A new FILL_SET enters use (R111). -/
def State.swapFillSet (t : FillSet) (s : State) : State :=
  (s.updTables fun x => { x with fillSet := some t }).evaluatePlan false

/-- A new TARIFF enters use (R90, R111). -/
def State.swapTariff (t : List TariffWindow) (s : State) : State :=
  ((s.updTables fun x => { x with tariff := some t }).recomputeTariff).evaluatePlan false

/-- A new PROFILE enters use (R111). -/
def State.swapProfile (t : List ProfileRecord) (s : State) : State :=
  (s.updTables fun x => { x with profile := some t }).evaluatePlan false

end Sys2Proof.Machine
end

