-- ==== Sys2Proof/Machine/Frost.lean ====
section
/-! DEFINITION. The Frost Unit (chapter 6): requests and frozen flags (R115, R116), kind flags and frost watch (R117, R118), the
budget and the allocation (R119 to R121), heater states (R122 to R124), deferrals (R125), the FROST bank (R126), battery shedding
(R127) and the ZONES swap (R128). -/

namespace Sys2Proof.Machine

/-! ### Zones -/

/-- The zone records in use; none while ZONES is EMPTY (R112). -/
def State.zoneRecords (s : State) : List ZoneRecord := s.tables.zones.getD []

/-- Updates the state of one zone. -/
def State.updZone (i : Nat) (f : ZoneState → ZoneState) (s : State) : State :=
  s.updFrost fun b => { b with zones := b.zones.modify i f }

/-- The temperature of a zone whose probe is GOOD (R112). -/
def State.zoneTemp (s : State) (r : ZoneRecord) : Option Int := s.goodOfKind .temperature r.tempPoint

/-- The value of a zone's heater feedback point while it is GOOD (R112). -/
def State.zoneFeedback (s : State) (r : ZoneRecord) : Option Int := s.goodOfKind .state r.feedback

/-- The heater state that a feedback value tells (R123). -/
def heaterOf (v : Int) : Heater := if v = 0 then .off else .on

/-- Whether a heater is marked FAILED. -/
def Heater.isFailed : Heater → Bool
  | .failed _ => true | .off => false | .on => false | .commanding _ => false

/-! ### Requests and frozen flags (R115, R116, R126) -/

/-- A zone after its temperature point has been judged, `t` being its GOOD temperature (R115, R116). -/
def ZoneRecord.judge (r : ZoneRecord) (hold : Bool) (t : Option Int) (z : ZoneState) : ZoneState :=
  match t with
  | none => { z with probeRequest := true, request := true, frozen := true, probeLost := true, probeLogged := true
                     frozenLogged := true }
  | some t =>
    let probe := if t ≤ r.onTemp then true else if r.offTemp ≤ t then false else z.probeRequest
    let frozen := if t ≤ r.freezeTemp then true else if r.freezeTemp + 10 ≤ t then false else z.frozen
    { z with probeRequest := probe, request := hold || probe, frozen := frozen, probeLost := false, probeLogged := true
             frozenLogged := true }

/-- Whether a condition logs: on its entry, or while it stands and does not count as logged (R115, R116, R126). -/
def logsNow (was logged now_ : Bool) : Bool := now_ && (!was || !logged)

/-- Judges a zone and logs the faults its changes call for (R114, R115, R116, R145). -/
def State.judgeZone (i : Nat) (r : ZoneRecord) (s : State) : State :=
  match s.frost.zones[i]? with
  | none => s
  | some z =>
    let z' := r.judge s.frost.bankHold (s.zoneTemp r) z
    let s := s.updZone i fun _ => z'
    let s := if logsNow z.probeLost z.probeLogged z'.probeLost then s.fault .probeLost (some (.zone i)) else s
    if logsNow z.frozen z.frozenLogged z'.frozen then s.fault .zoneFrozen (some (.zone i)) else s

/-- Applies a step to every zone record in index order, the first having the index given. -/
def overZones (f : Nat → ZoneRecord → State → State) : Nat → List ZoneRecord → State → State
  | _, [], s => s
  | i, r :: rest, s => overZones f (i + 1) rest (f i r s)

/-- Judges the zones whose temperature point is listed. -/
def State.judgeListed (ps : List Nat) (s : State) : State :=
  overZones (fun i r s => if ps.contains r.tempPoint then s.judgeZone i r else s) 0 s.zoneRecords s

/-- The requests used for allocation, as the FROST bank's hold and the probes give them (R115, R126). -/
def State.setRequests (s : State) : State :=
  let hold := s.frost.bankHold
  s.updFrost fun b => { b with zones := b.zones.map fun z => { z with request := hold || z.probeRequest } }

/-! ### Kind flags and frost watch (R117, R118) -/

/-- Whether any zone of a kind is frozen (R117). -/
def kindFrozen (k : ZoneKind) (rs : List ZoneRecord) (zs : List ZoneState) : Bool :=
  (rs.zip zs).any fun p => p.1.kind == k && p.2.frozen

/-- The kind flags of the zones as they stand (R117). -/
def State.kindFlags (s : State) : KindFlags :=
  let flag (k : ZoneKind) : Bool := kindFrozen k s.zoneRecords s.frost.zones
  { riser := flag .riser, valveChamber := flag .valveChamber, overflowPipe := flag .overflowPipe, outlet := flag .outlet
    sensorHousing := flag .sensorHousing }

/-- Frost watch from the probes as they stand (R118). -/
def State.watchNow (s : State) : Bool :=
  s.zoneRecords.any fun r =>
    match s.zoneTemp r with
    | none => true
    | some t =>
      match s.tables.fillSet with
      | some fs => decide (t ≤ fs.frostWatchTemp)
      | none => false

/-- A reason joins the inhibit set when a flag is set and leaves it when it is clear (R103, R117). -/
def reasonNotice (flag : Bool) (r : Reason) : Notice := if flag then .inhibit [r] [] else .inhibit [] [r]

/-- Recomputes the kind flags and frost watch and sends the notices of those that changed (R114, R117, R118). All the flags are set first;
then the Fill Planner's notices of the event go in the order RISER, VALVE_CHAMBER, frost watch. R117 and R118 give them no order, and R104
lets an added reason and a removed one be taken either first; an evaluation that the first notice causes reads the new frost watch already
(the model's choice, assumption 56). -/
def State.frostFlags (s : State) : State :=
  let old := s.frost.flags
  let oldWatch := s.frost.watch
  let flags := s.kindFlags
  let watch := s.watchNow
  let s := s.updFrost fun b => { b with flags := flags, watch := watch }
  let s := if flags.riser = old.riser then s else s.send .fill (reasonNotice flags.riser .frozenRiser)
  let s := if flags.valveChamber = old.valveChamber then s else s.send .fill (reasonNotice flags.valveChamber .frozenValve)
  let s := if flags.overflowPipe = old.overflowPipe then s else s.send .guard (.overflowPipe flags.overflowPipe)
  let s := if flags.sensorHousing = old.sensorHousing then s else s.send .level .housing
  if watch = oldWatch then s else s.send .fill (.frostWatch watch)

/-! ### Allocation (R120, R121, R125) -/

/-- A zone that an allocation considers: its index, priority, deficit (absent without a GOOD probe) and rated power (R120). -/
structure Candidate where
  index : Nat
  priority : Nat
  deficit : Option Int
  power : Nat
  deriving DecidableEq, Repr

/-- Whether a candidate goes before another (R120): by priority, then a probe that is not GOOD, then the larger deficit, then the
lower index. -/
def Candidate.before (x y : Candidate) : Bool :=
  if x.priority ≠ y.priority then decide (x.priority < y.priority)
  else
    match x.deficit, y.deficit with
    | none, some _ => true
    | some _, none => false
    | none, none => decide (x.index < y.index)
    | some a, some b => if a ≠ b then decide (b < a) else decide (x.index < y.index)

/-- Inserts a candidate in the order of R120. -/
def insertCandidate (x : Candidate) : List Candidate → List Candidate
  | [] => [x]
  | y :: rest => if x.before y then x :: y :: rest else y :: insertCandidate x rest

/-- Candidates in the order of R120. -/
def sortCandidates (xs : List Candidate) : List Candidate := xs.foldr insertCandidate []

/-- The indexes granted down the order with the whole budget (R120). -/
def grants : Nat → List Candidate → List Nat
  | _, [] => []
  | left, x :: rest => if x.power ≤ left then x.index :: grants (left - x.power) rest else grants left rest

/-- The candidates among the zones, the first record having the index given (R120). -/
def candidatesFrom (temp : ZoneRecord → Option Int) : Nat → List ZoneRecord → List ZoneState → List Candidate
  | i, r :: rs, z :: zs =>
    let rest := candidatesFrom temp (i + 1) rs zs
    if z.request && !z.heater.isFailed then ⟨i, r.priority, (temp r).map fun t => r.onTemp - t, r.power⟩ :: rest else rest
  | _, [], _ => []
  | _, _, [] => []

/-- The zones that an allocation grants (R120). -/
def State.grantedZones (s : State) : List Nat :=
  grants s.frost.budget (sortCandidates (candidatesFrom s.zoneTemp 0 s.zoneRecords s.frost.zones))

/-- Sets the granted flags of the zones, the first having the index given. -/
def setGranted (gs : List Nat) : Nat → List ZoneState → List ZoneState
  | _, [] => []
  | i, z :: zs => { z with granted := gs.contains i } :: setGranted gs (i + 1) zs

/-- The target that brings a zone's heater into line, if a command is called for (R121). -/
def ZoneState.called (z : ZoneState) : Option Bool :=
  match z.granted, z.heater with
  | true, .off => some true
  | true, .commanding false => some true
  | false, .on => some false
  | false, .commanding true => some false
  | _, _ => none

/-- A zone after the list's answer to its command (R121, R122). -/
def ZoneState.answered (target : Bool) (o : CommandOutcome) (z : ZoneState) : ZoneState :=
  match o with
  | .placed => { z with heater := .commanding target, held := none }
  | .listFull => { z with held := some target }
  | .supply => { z with heater := .off, held := none }
  | .confirmed => z
  | .failed => z
  | .withdrawn => z
  | .urgent => { z with held := none }

/-- Places the command that a zone's heater calls for; a held command gives way to it (R121). -/
def State.placeHeater (i : Nat) (r : ZoneRecord) (s : State) : State :=
  match s.frost.zones[i]? with
  | none => s
  | some z =>
    match z.called with
    | none => s.updZone i fun z => { z with held := none }
    | some target =>
      let p := s.placeCommand r.heaterAddress r.heaterItem r.feedback .frost (if target then 1 else 0)
      p.1.updZone i (ZoneState.answered target p.2)

/-- Whether a zone is deferred (R125). -/
def ZoneState.isDeferred (mains : Bool) (z : ZoneState) : Bool := mains && z.request && !z.heater.isFailed && !z.granted

/-- A zone's deferral after an allocation (R125). -/
def ZoneState.defer (mains : Bool) (now : Nat) (z : ZoneState) : ZoneState :=
  if z.isDeferred mains then
    match z.deferredSince with
    | some _ => z
    | none => { z with deferredSince := some now, deferralAt := some (now + Config.deferralMs) }
  else { z with deferredSince := none, deferralAt := none, budgetShort := false }

/-- One allocation (R120, R121), after which deferrals begin and end (R125). -/
def State.allocate (s : State) : State :=
  let gs := s.grantedZones
  let s := s.updFrost fun b => { b with zones := setGranted gs 0 b.zones }
  let s := overZones State.placeHeater 0 s.zoneRecords s
  let mains := decide (s.supply.mode = .mains)
  let now := s.now
  s.updFrost fun b => { b with zones := b.zones.map (ZoneState.defer mains now) }

/-! ### One event of the Frost Unit (R114) -/

/-- The indexes of the zones of which a property holds, the first having the index given. -/
def zonesWhere (f : ZoneState → Bool) : Nat → List ZoneState → List Nat
  | _, [] => []
  | i, z :: zs => if f z then i :: zonesWhere f (i + 1) zs else zonesWhere f (i + 1) zs

/-- The items that the Frost Unit passes to Level Telemetry (R132). -/
def FrostBlock.items (b : FrostBlock) : Notice :=
  .frostItems (zonesWhere ZoneState.frozen 0 b.zones) (zonesWhere ZoneState.granted 0 b.zones) b.watch

/-- Passes the Frost Unit's items to Level Telemetry if an event changed them (R117, R118, R120). -/
def State.passFrost (before : State) (s : State) : State :=
  if s.frost.items = before.frost.items then s else s.send .telemetry s.frost.items

/-- The requests used for allocation. -/
def FrostBlock.requests (b : FrostBlock) : List Bool := b.zones.map ZoneState.request

/-- The rest of an event after its zones and heaters are updated: flags, then the allocation when the event calls for one, a change
of a request among the calls (R114, R120). -/
def State.frostSettle (before : State) (calls : Bool) (s : State) : State :=
  let s := s.frostFlags
  let s := if calls || s.frost.requests != before.frost.requests then s.allocate else s
  State.passFrost before s

/-! ### Heater states from feedback (R123, R124) -/

/-- A heater at a point notice that lists its feedback point, `v` being the point's GOOD value (R123, R124). -/
def Heater.learn (v : Option Int) (h : Heater) : Heater :=
  match v, h with
  | some x, .on => heaterOf x
  | some x, .off => heaterOf x
  | some x, .failed seen => if seen = some x then .failed seen else heaterOf x
  | some _, .commanding t => .commanding t
  | none, h => h

/-- The zones' heaters at a point notice (R123, R124); on battery feedback readings are ignored (R127). -/
def State.learnListed (ps : List Nat) (s : State) : State :=
  if s.supply.mode ≠ .mains then s
  else
    overZones (fun i r s =>
      if ps.contains r.feedback then
        let v := s.zoneFeedback r
        s.updZone i fun z => { z with heater := z.heater.learn v }
      else s) 0 s.zoneRecords s

/-- The heater states. -/
def FrostBlock.heaters (b : FrostBlock) : List Heater := b.zones.map ZoneState.heater

/-- The Frost Unit takes a point notice (R114). -/
def State.frostOnPoints (ps : List Nat) (s : State) : State :=
  if s.zoneRecords.any (fun r => ps.contains r.tempPoint || ps.contains r.feedback) then
    let after := (s.judgeListed ps).learnListed ps
    State.frostSettle s (after.frost.heaters != s.frost.heaters) after
  else s

/-! ### Outcomes of heater commands (R122) -/

/-- A zone's heater and grant after the outcome of its command (R122); `seen` is the feedback value at a failure. -/
def ZoneState.outcome (target : Bool) (o : CommandOutcome) (seen : Option Int) (z : ZoneState) : ZoneState :=
  match o with
  | .confirmed => { z with heater := if target then .on else .off }
  | .failed => { z with heater := .failed seen, granted := false, held := none }
  | .supply => { z with heater := .off }
  | .placed => { z with heater := .commanding target, held := none }
  | .listFull => { z with held := some target }
  | .withdrawn => z
  | .urgent => z

/-- Whether an outcome calls for an allocation (R120, R122). -/
def CommandOutcome.allocates : CommandOutcome → Bool
  | .confirmed => true | .failed => true
  | .placed => false | .listFull => false | .supply => false | .withdrawn => false | .urgent => false

/-- The Frost Unit takes the outcome of a command; one for an actuator of no zone is ignored (R122). -/
def State.frostOnCommand (address item target : Nat) (o : CommandOutcome) (s : State) : State :=
  match s.zoneRecords.findIdx? (fun r => r.heaterAddress == address && r.heaterItem == item) with
  | none => s
  | some i =>
    let seen := (s.zoneRecords[i]?).bind s.zoneFeedback
    State.frostSettle s o.allocates (s.updZone i (ZoneState.outcome (target == 1) o seen))

/-! ### Budget, supply and bank (R119, R126, R127) -/

/-- The budget of the moment (R119). -/
def State.budgetNow (s : State) : Nat :=
  if s.supply.mode = .mains then siteBudget s.tables.siteSet s.frost.tariff else 0

/-- Recomputes the budget; a change runs an allocation (R119, R120). -/
def State.setBudget (calls : Bool) (s : State) : State :=
  let b := s.budgetNow
  let changed := decide (b ≠ s.frost.budget)
  State.frostSettle s (calls || changed) (s.updFrost fun x => { x with budget := b })

/-- The Frost Unit takes the tariff class (R119). -/
def State.frostOnTariff (c : TariffClass) (s : State) : State :=
  (s.updFrost fun b => { b with tariff := c }).setBudget false

/-- A zone shed on battery (R127). -/
def ZoneState.shed (z : ZoneState) : ZoneState :=
  { z with granted := false, heater := .off, held := none, deferredSince := none, deferralAt := none, budgetShort := false }

/-- The Frost Unit takes an announcement of the supply mode (R127). -/
def State.frostOnSupply (mode before : SupplyMode) (s : State) : State :=
  if mode = .mains then s.setBudget true
  else if before = .mains then
    State.frostSettle s false (s.updFrost fun b => { b with budget := 0, zones := b.zones.map ZoneState.shed })
  else s

/-- A zone at a clearing of the FROST bank: a FAILED mark gives way to the feedback `v`, and standing conditions count as not
logged (R124, R126). -/
def ZoneState.cleared (v : Option Int) (z : ZoneState) : ZoneState :=
  { z with
    heater := match z.heater with
      | .failed _ => (match v with | some x => heaterOf x | none => .off)
      | .off => .off
      | .on => .on
      | .commanding t => .commanding t
    probeLogged := !z.probeLost
    frozenLogged := !z.frozen }

/-- The Frost Unit takes a notice of the FROST bank (R126): an allocation runs when a hold begins or ends, and when a clearing takes a
FAILED mark away (R120). -/
def State.frostOnBank (cleared holds : Bool) (s : State) : State :=
  let before := s
  let s := s.updFrost fun b => { b with bankHold := holds }
  let s := if cleared then
      overZones (fun i r s => let v := s.zoneFeedback r; s.updZone i (ZoneState.cleared v)) 0 s.zoneRecords s
    else s
  State.frostSettle before (holds != before.frost.bankHold || s.frost.heaters != before.frost.heaters) s.setRequests

/-! ### Deferral expiry (R125) -/

/-- The time at which a zone's deferral timer runs out. -/
def State.deferralAim (s : State) (zone : Nat) : Option Nat := (s.frost.zones[zone]?).bind ZoneState.deferralAt

/-- The deferral timer of a zone runs out (R125). -/
def State.deferralEnds (zone : Nat) (s : State) : State :=
  (s.updZone zone fun z => { z with deferralAt := none, budgetShort := true }).fault .budgetShort (some (.zone zone))

/-! ### Swaps and start-up (R113, R128) -/

/-- A new ZONES table enters use (R128). -/
def State.swapZones (t : List ZoneRecord) (s : State) : State :=
  let before := s
  let s := s.updTables fun x => { x with zones := some t }
  let fresh := t.map fun r =>
    ({ heater := match s.zoneFeedback r with | some v => heaterOf v | none => .off } : ZoneState)
  let s := s.updFrost fun b => { b with zones := fresh }
  State.frostSettle before true (overZones State.judgeZone 0 t s)

/-- The Frost Unit after a reset, the tables being in use: zones at their reset values, flags computed, budget set (R113, R119). -/
def State.frostStart (hold : Bool) (s : State) : State :=
  let tariff := s.fill.tariff
  let s := s.updFrost fun _ =>
    { zones := s.zoneRecords.map fun _ => ({} : ZoneState), tariff := tariff, bankHold := hold }
  let flags := s.kindFlags
  let watch := s.watchNow
  let s := s.updFrost fun b => { b with flags := flags, watch := watch }
  let budget := s.budgetNow
  s.updFrost fun b => { b with budget := budget }

end Sys2Proof.Machine
end

