-- ==== Sys2Proof/Machine/Telemetry.lean ====
section
/-! DEFINITION. Level Telemetry (chapter 7): the LEVEL report and its triggers (R129 to R131), the STATE report (R132), the record
number of a TRIP report (R134), and the sending of the outbound queue (R137 to R139). -/

namespace Sys2Proof.Machine

/-! ### The LEVEL report (R129 to R131) -/

/-- Whether the fast period is in force (R130). -/
def TelemetryBlock.fast (t : TelemetryBlock) : Bool :=
  t.contents.fill == .opening || t.contents.fill == .filling || t.contents.guard == .anticipating

/-- The period in force, in ms (R130). -/
def State.reportPeriod (s : State) : Nat :=
  let p := siteReporting s.tables.siteSet
  if s.telemetry.fast then p.2.1 else p.1

/-- The contents of a LEVEL report taken now (R129). -/
def State.levelReport (s : State) : LevelReport :=
  let t := s.telemetry
  { w := t.record.w, quality := t.record.quality, v := t.record.v, rate := t.record.rate, projection := t.projection
    guard := t.contents.guard, fill := t.contents.fill, demand := t.demand, clock := s.clockTime, uptime := s.uptime }

/-- Queues a LEVEL report, which sets the reference level and restarts the timer; the timer stands still on battery (R130,
R131). -/
def State.queueLevel (s : State) : State :=
  let now := s.now
  let aim := if s.telemetry.contents.supply = .mains then some (now + s.reportPeriod) else none
  (s.offer (.level s.levelReport)).updTelemetry fun t => { t with
    reference := some t.record.w
    lastReportAt := now
    periodAt := aim }

/-- Aims the period timer at the last LEVEL report plus the period in force; a time already past runs it out at once (R130,
R131). -/
def State.aimPeriod (s : State) : State :=
  let aim := s.telemetry.lastReportAt + s.reportPeriod
  if aim ≤ s.now then s.queueLevel else s.updTelemetry fun t => { t with periodAt := some aim }

/-- Re-aims the period timer when the period in force has changed since `before`; it does not run on battery (R130, R131). -/
def State.periodChanged (before : State) (s : State) : State :=
  if s.telemetry.contents.supply = .mains ∧ s.reportPeriod ≠ before.reportPeriod then s.aimPeriod else s

/-- Whether W differs from the reference level by the deadband or more (R130). -/
def State.beyondDeadband (s : State) (w : Nat) : Bool :=
  match s.telemetry.reference with
  | some r => decide ((siteReporting s.tables.siteSet).2.2 ≤ max r w - min r w)
  | none => false

/-- Level Telemetry takes a level notice (R130). -/
def State.telemetryOnLevel (lr : LevelRecord) (qualityChanged : Bool) (s : State) : State :=
  let s := s.updTelemetry fun t => { t with record := lr }
  if s.telemetry.contents.supply ≠ .batteryLow ∧ (qualityChanged = true ∨ s.beyondDeadband lr.w = true) then s.queueLevel
  else s

/-! ### The STATE report (R132) -/

/-- A STATE report taken now (R132). -/
def State.stateReport (s : State) : StateReport := ⟨s.telemetry.contents, s.clockTime, s.uptime⟩

/-- Queues a STATE report (R132). -/
def State.queueState (s : State) : State := s.offer (.state s.stateReport)

/-- An owner passes on contents of the STATE report: a change queues one, but not in BATTERY_LOW (R132); the period of the LEVEL
report may change with it (R130). Where the re-aimed period has already passed, the STATE report joins the queue before the LEVEL report;
R130 and R132 give no order (the model's choice, assumption 48). -/
def State.passContents (f : StateContents → StateContents) (s : State) : State :=
  let before := s
  let s := s.updTelemetry fun t => { t with contents := f t.contents }
  let s := if s.telemetry.contents ≠ before.telemetry.contents ∧ s.telemetry.contents.supply ≠ .batteryLow
    then s.queueState else s
  State.periodChanged before s

/-- Level Telemetry takes an announcement of the supply mode (R131, R132). At the return of the mains the STATE report joins the queue
before a LEVEL report whose period is already past; no rule orders them (the model's choice, assumption 48). -/
def State.telemetryOnSupply (mode : SupplyMode) (s : State) : State :=
  let before := s.telemetry.contents.supply
  let s := s.updTelemetry fun t => { t with contents := { t.contents with supply := mode } }
  let s := if before = mode then s else s.queueState
  if mode = .mains then (if before = .mains then s else s.aimPeriod)
  else s.updTelemetry fun t => { t with periodAt := none }

/-- Level Telemetry takes the Fill Planner's items (R129, R132). -/
def State.telemetryOnFill (state : FillState) (purpose : Option Purpose) (order : FillOrder) (inhibit : List Reason)
    (demand : Nat) (s : State) : State :=
  (s.updTelemetry fun t => { t with demand := demand }).passContents fun c => { c with
    fill := state
    purpose := purpose
    order := order
    inhibit := inhibit }

/-- A new SITE_SET changes the periods (R130). -/
def State.telemetryOnSite (before : State) (s : State) : State := State.periodChanged before s

/-! ### TRIP reports (R134) -/

/-- The trip-area record number reaches the TRIP report: written into one that waits, kept for the end of one in transmission, or
carried by a second one (R134, R136). -/
def State.tripNumbered (slot : Nat) (s : State) : State :=
  match s.telemetry.lastTrip with
  | none => s
  | some r =>
    let r := { r with number := some slot }
    (s.updTelemetry fun t => { t with lastTrip := some r }).offer (.trip r)

/-! ### Transmission (R139) -/

/-- Takes the first place ready to send out of the waiting places (R138, R139). -/
def takeReady : List Place → Option (Place × List Place)
  | [] => none
  | p :: rest =>
    if p.ready then some (p, rest)
    else
      match takeReady rest with
      | some (q, rest') => some (q, p :: rest')
      | none => none

/-- A transmission begins if none is in progress, clear-to-send is asserted and a frame is ready (R139, R153). -/
def State.startTransmission (s : State) : State :=
  if s.out.sending.isSome || !s.inputs.clearToSend then s
  else
    match takeReady s.out.waiting with
    | none => s
    | some (p, rest) =>
      let bytes := p.bytes s.tables.siteSet
      s.updOut fun o => { o with sending := some ⟨p, bytes⟩, waiting := rest }

/-- The frame in transmission leaves and contents held aside join (R136, R137, R139). -/
def Outbound.finishSending (o : Outbound) : Outbound :=
  { o with
    sending := none
    held := none
    waiting := match o.held with
      | none => o.waiting
      | some h => if h.atHead then .frame h.content :: o.waiting else o.waiting ++ [.frame h.content] }

end Sys2Proof.Machine
end

