-- ==== Sys2Proof/Machine/Store.lean ====
section
/-! DEFINITION. The Table Store (chapter 10): copies and their validity (R166), the store engine (R167), the in-band load (R168 to
R171), the trip area (R172, R173), the choice of the start-up load (R174) and TABLE-READ (R175). Points of order that the manual
leaves open follow assumption 16. -/

namespace Sys2Proof.Machine

/-! ### Copies (R166) -/

/-- A copy of a pair. -/
def CopyPair.get (p : CopyPair) : CopyName → Copy
  | .a => p.a | .b => p.b

/-- Replaces a copy of a pair. -/
def CopyPair.set (p : CopyPair) (n : CopyName) (c : Copy) : CopyPair :=
  match n with
  | .a => { p with a := c } | .b => { p with b := c }

/-- The spare copy of a kind: copy A while the kind is EMPTY (R166). -/
def KindUse.spare (u : KindUse) : CopyName :=
  match u.inUse with
  | some .a => .b | some .b => .a | none => .a

/-- Updates one copy of a kind in the store. -/
def State.updCopy (k : TableKind) (n : CopyName) (f : Copy → Copy) (s : State) : State :=
  s.updNv fun v => { v with copies := v.copies.set k ((v.copies.get k).set n (f ((v.copies.get k).get n))) }

/-- The copy in use of a kind, absent while the kind is EMPTY. -/
def State.copyInUse (s : State) (k : TableKind) : Option Copy :=
  ((s.use.get k).inUse).map fun n => (s.nv.copies.get k).get n

/-- Whether a copy is valid: its header was programmed whole, and its record check matches (R166). -/
def Copy.valid (c : Copy) : Bool :=
  match c.header with
  | some h => h.check == recordCheck c.records
  | none => false

/-! ### The trip area (R172) -/

/-- The sequence number that follows another (R172). -/
def nextSequence (n : Nat) : Nat := if n = 4294967295 then 1 else n + 1

/-- The intact records with their slots, the first slot having the number given. -/
def intactFrom : Nat → List TripSlot → List (Nat × Nat × TripEntry)
  | _, [] => []
  | i, .intact n e :: rest => (i, n, e) :: intactFrom (i + 1) rest
  | i, .erased :: rest => intactFrom (i + 1) rest
  | i, .spoilt :: rest => intactFrom (i + 1) rest

/-- The newest intact record: the one whose following number no intact record carries (R172). -/
def newestIntact (slots : List TripSlot) : Option (Nat × Nat × TripEntry) :=
  let xs := intactFrom 0 slots
  xs.find? fun x => !xs.any fun y => y.2.1 == nextSequence x.2.1

/-- The sequence number of the next record (R172). -/
def sequenceFor (slots : List TripSlot) : Nat :=
  match newestIntact slots with
  | some x => nextSequence x.2.1
  | none => 1

/-- The slots with those of one sector set to `x`. -/
def setSector (sector : Nat) (x : TripSlot) (slots : List TripSlot) : List TripSlot :=
  [0, 1, 2, 3].foldl (fun acc i => acc.set (4 * sector + i) x) slots

/-- The first erased slot of a list of slot numbers. -/
def firstErased (slots : List TripSlot) (ns : List Nat) : Option Nat :=
  ns.find? fun n => slots[n]? == some .erased

/-- The slot numbers of a sector. -/
def sectorSlots (sector : Nat) : List Nat := [4 * sector, 4 * sector + 1, 4 * sector + 2, 4 * sector + 3]

/-- The other sector. -/
def otherSector (sector : Nat) : Nat := 1 - sector

/-- The slot that the next record takes, spoilt slots being passed over (R172, R174): the next erased slot after the newest intact
record in its sector, or else the first erased one of the other sector; with no intact record sector 0 comes first. -/
def nextSlot (slots : List TripSlot) : Option Nat :=
  match newestIntact slots with
  | some (i, _, _) =>
    firstErased slots (((sectorSlots (i / 4)).filter fun n => decide (i < n)) ++ sectorSlots (otherSector (i / 4)))
  | none => firstErased slots (sectorSlots 0 ++ sectorSlots 1)

/-- The sector whose pre-erase runs or waits. -/
def EngineBlock.erasing (e : EngineBlock) : Option Nat :=
  match e.busy with
  | some ⟨.preErase n, _⟩ => some n
  | _ => e.preErase

/-- The slots as they will be once a pre-erase that runs or waits has ended. -/
def State.slotsAhead (s : State) : List TripSlot :=
  match s.engine.erasing with
  | some n => setSector n .erased s.nv.slots
  | none => s.nv.slots

/-- The slot of the next trip record or reset marker if it is ready: no pre-erase of its sector runs or waits (R167). An erased slot of a
sector whose pre-erase is due and still waits, as in a sector 1 that was never used, is not ready: R167 says so of a sector that is being
erased and not of one about to be, whose erase would remove the record (the model's choice, assumption 16). -/
def State.readySlot (s : State) : Option Nat :=
  (nextSlot s.slotsAhead).filter fun n => !(s.engine.erasing == some (n / 4))

/-- The sector that must be erased before any slot is free, when no pre-erase is due: the one after the newest record's (R172). -/
def State.sectorNeeded (s : State) : Option Nat :=
  match s.engine.erasing, nextSlot s.nv.slots with
  | none, none =>
    match newestIntact s.nv.slots with
    | some (i, _, _) => some (otherSector (i / 4))
    | none => some 0
  | _, _ => none

/-! ### The engine (R167) -/

/-- Time of a table job, in ms (R167). -/
def TableJob.timeMs : TableJob → Nat
  | .erase _ => Config.eraseMs
  | .record _ _ => Config.programMs
  | .header _ _ _ _ _ => Config.programMs

/-- Whether a table job is an erase. -/
def TableJob.isErase : TableJob → Bool
  | .erase _ => true | .record _ _ => false | .header _ _ _ _ _ => false

/-- Sets the engine to work that ends `ms` later. -/
def State.engineRun (job : EngineJob) (ms : Nat) (s : State) : State :=
  let done := s.now + ms
  s.updEngine fun e => { e with busy := some ⟨job, done⟩ }

/-- Begins a trip program: its slot is fixed now, and holds no whole record until the verify passes (R172, R173). -/
def State.beginTrip (slot : Nat) (entry : TripEntry) (rest : List TripEntry) (s : State) : State :=
  ((s.updEngine fun e => { e with tripWork := rest }).updNv fun v => { v with slots := v.slots.set slot .spoilt }).engineRun
    (.trip slot entry) Config.programMs

/-- Begins a pre-erase: its sector holds no intact record from now on (R172). -/
def State.beginPreErase (sector : Nat) (s : State) : State :=
  ((s.updEngine fun e => { e with preErase := none }).updNv fun v => { v with slots := setSector sector .spoilt v.slots }).engineRun
    (.preErase sector) Config.eraseMs

/-- Begins table work; an erase takes the copy that is spare now, which is no longer valid (R166, R168). -/
def State.beginTable (w : TableWork) (rest : List TableWork) (s : State) : State :=
  let s := s.updEngine fun e => { e with work := rest }
  let s := if w.job.isErase then
      let spare := (s.use.get w.kind).spare
      (s.updEngine fun e => { e with target := spare }).updCopy w.kind spare fun _ => {}
    else s
  s.engineRun (.table w false) w.job.timeMs

/-- A trip record or reset marker whose slot is ready suspends a table erase in progress (R167). -/
def State.suspendForTrip (s : State) : State :=
  match s.engine.busy, s.engine.tripWork with
  | some ⟨.table w ended, done⟩, _ :: _ =>
    if w.job.isErase && s.readySlot.isSome then
      let left := done - s.now
      s.updEngine fun e => { e with busy := none, suspended := some ⟨w, ended, left⟩ }
    else s
  | _, _ => s

/-- The pick of a free engine after the trip work: a waiting pre-erase, a suspended erase, the oldest table work (R167). -/
def State.pickOther (s : State) : State :=
  match s.engine.suspended, s.engine.preErase with
  | some x, _ => (s.updEngine fun e => { e with suspended := none }).engineRun (.table x.work x.ended) x.leftMs
  | none, some sector => s.beginPreErase sector
  | none, none =>
    match s.engine.work with
    | w :: rest => s.beginTable w rest
    | [] => s

/-- A sector that trip work needs and that no pre-erase frees becomes due for one. -/
def State.dueForTrip (s : State) : State :=
  match s.engine.tripWork, s.sectorNeeded with
  | _ :: _, some n => s.updEngine fun e => { e with preErase := some n }
  | _, _ => s

/-- The engine's pick (R167). -/
def State.enginePick (s : State) : State :=
  let s := s.suspendForTrip
  if s.engine.busy.isSome then s
  else
    let s := s.dueForTrip
    match s.engine.tripWork, s.readySlot with
    | entry :: rest, some slot => s.beginTrip slot entry rest
    | _, _ => s.pickOther

/-! ### Ending a load (R169, R171) -/

/-- The reservations that a job's end completes. -/
def TableJob.resvs : TableJob → List Nat
  | .erase r => [r]
  | .record _ rs => rs
  | .header _ _ _ _ r => [r]

/-- Fills several reservations with one payload. -/
def State.respondAll (rs : List Nat) (payload : List Byte) (s : State) : State := rs.foldl (fun s r => s.respond r payload) s

/-- Drops a load's table work that has not begun, header programs answered with `header` and the rest with ENDED; work begun, a
header program excepted, is marked ended (R169, R171). An erase dropped before it began leaves the spare copy as it stood, its old header
with it, although R171 says that the spare copy of an ended load has no valid header (the model's choice, assumption 58). -/
def State.dropLoad (load : Nat) (header : Status) (s : State) : State :=
  let dropped := s.engine.work.filter fun w => w.load == load
  let s := s.updEngine fun e => { e with
    work := e.work.filter fun w => w.load != load
    load := if e.load.any (fun l => l.load == load) then none else e.load
    busy := match e.busy with
      | some ⟨.table w ended, done⟩ =>
        let ends := w.load == load && (match w.job with | .header _ _ _ _ _ => false | .erase _ => true | .record _ _ => true)
        some ⟨.table w (ended || ends), done⟩
      | b => b
    suspended := e.suspended.map fun x => { x with ended := x.ended || x.work.load == load } }
  dropped.foldl (fun s w =>
    let status := match w.job with
      | .header _ _ _ _ _ => header
      | .erase _ => Status.ended
      | .record _ _ => Status.ended
    s.respondAll w.job.resvs [status.byte]) s

/-- The open load ends by TABLE-ABANDON, the protect input or loss of the mains (R171). -/
def State.endOpenLoad (s : State) : State :=
  match s.engine.load with
  | some l => s.dropLoad l.load .ended
  | none => s

/-- The protect input changes (R171). -/
def State.protectChange (active : Bool) (s : State) : State :=
  let s := s.updInputs fun i => { i with protect := active }
  if active then
    s.updEngine fun e => { e with
      load := e.load.map fun l => if l.kind.isProtected then { l with protectEnded := true } else l }
  else s

/-- Table work joins the engine's work (R167). -/
def State.addWork (w : TableWork) (s : State) : State := s.updEngine fun e => { e with work := e.work ++ [w] }

/-! ### Requests (R168 to R171, R175) -/

/-- TABLE-OPEN (R168). -/
def State.openTable (resv kind : Nat) (s : State) : State :=
  match TableKind.ofNumber kind with
  | none => s.respond resv [Status.outOfRange.byte]
  | some k =>
    if s.engine.load.isSome then s.respond resv [Status.busy.byte]
    else if k.isProtected && s.inputs.protect then s.respond resv [Status.protected_.byte]
    else if s.supply.mode ≠ .mains then s.respond resv [Status.battery.byte]
    else if s.holds .store then s.respond resv [Status.storeHeld.byte]
    else
      let n := s.engine.loads + 1
      (s.updEngine fun e => { e with
        loads := n
        load := some { load := n, kind := k, next := 0, check := 0xFFFF#16, last := none, protectEnded := false
                       erased := false, taken := [] } }).addWork ⟨n, k, .erase resv⟩

/-- Whether a record program of a load has not ended: it waits or runs. -/
def EngineBlock.recordOpen (e : EngineBlock) (load : Nat) : Bool :=
  let isRecord (w : TableWork) : Bool :=
    w.load == load && (match w.job with | .record _ _ => true | .erase _ => false | .header _ _ _ _ _ => false)
  e.work.any isRecord || (match e.busy with | some ⟨.table w _, _⟩ => isRecord w | _ => false)

/-- Adds a reservation to a record program. -/
def TableJob.addResv (r : Nat) : TableJob → TableJob
  | .record bs rs => .record bs (rs ++ [r])
  | .erase x => .erase x
  | .header n h d c x => .header n h d c x

/-- Adds a reservation to the last record program of a load among the work that waits. -/
def addToLast (load r : Nat) : List TableWork → List TableWork
  | [] => []
  | w :: rest =>
    if rest.any (fun x => x.load == load) then w :: addToLast load r rest
    else if w.load == load then { w with job := w.job.addResv r } :: rest
    else w :: addToLast load r rest

/-- A retried write waits for the end of the last record's program (R169). -/
def State.joinRecord (load resv : Nat) (s : State) : State :=
  s.updEngine fun e =>
    if e.work.any (fun w => w.load == load) then { e with work := addToLast load resv e.work }
    else
      match e.busy with
      | some ⟨.table w ended, done⟩ => { e with busy := some ⟨.table { w with job := w.job.addResv resv } ended, done⟩ }
      | _ => e

/-- SEQUENCE of a TABLE-WRITE, with the next index of the load or FFh where no load of the kind is open (R185). -/
def sequencePayload (next : Option Nat) : List Byte := Status.sequence.byte :: encOpt1 next

/-- TABLE-WRITE (R169, R171). With the protect-ended flag set while the erase has not ended, BUSY goes before PROTECTED and the load
stays, in the order of R169; R171 speaks of the next TABLE-WRITE without a condition (the model's choice, assumption 16). -/
def State.writeTable (resv kind index : Nat) (record : List Byte) (s : State) : State :=
  match s.engine.load with
  | none => s.respond resv (sequencePayload none)
  | some l =>
    if TableKind.ofNumber kind ≠ some l.kind then s.respond resv (sequencePayload none)
    else if l.erased = false then s.respond resv [Status.busy.byte]
    else if l.protectEnded then (s.respond resv [Status.protected_.byte]).endOpenLoad
    else if index = l.next ∧ index < l.kind.capacity then
      (s.updEngine fun e => { e with
        load := some { l with
          next := l.next + 1
          check := trunkCheckFrom l.check record
          last := some record
          taken := l.taken ++ [record] } }).addWork ⟨l.load, l.kind, .record record [resv]⟩
    else if index + 1 = l.next ∧ l.last = some record then
      if s.engine.recordOpen l.load then s.joinRecord l.load resv else s.respond resv [Status.done.byte]
    else s.respond resv (sequencePayload (some l.next))

/-- The open load is closed, its work standing (R170). -/
def State.closeLoad (s : State) : State := s.updEngine fun e => { e with load := none }

/-- The largest generation (R166). -/
def maxGeneration : Nat := 4294967295

/-- TABLE-CLOSE (R170, R171). The close ends the load, so that a header program which waits from then on belongs to no open load: a loss
of the mains does not drop it, and ABANDON finds no load (R170; that R171's exception names only a header program already begun leaves
it open, and this is the model's choice, assumption 16). -/
def State.closeTable (resv kind count : Nat) (check : Check) (s : State) : State :=
  match s.engine.load with
  | none => s.respond resv [Status.sequence.byte]
  | some l =>
    if TableKind.ofNumber kind ≠ some l.kind then s.closeLoad.respond resv [Status.sequence.byte]
    else if l.protectEnded then (s.respond resv [Status.protected_.byte]).endOpenLoad
    else if count ≠ l.next then s.closeLoad.respond resv [Status.sequence.byte]
    else if check ≠ l.check then
      (s.closeLoad.respond resv [Status.checkMismatch.byte]).fault .checkMismatch (some (.kind l.kind))
    else
      match validateTable s.line.rate.byteTimeUs l.kind l.taken with
      | .error d => s.closeLoad.respond resv (Status.invalid.byte :: enc1 d.number)
      | .ok (data, clamps) =>
        if (s.use.get l.kind).generation = maxGeneration then s.closeLoad.respond resv [Status.storeFault.byte]
        else s.closeLoad.addWork ⟨l.load, l.kind, .header l.next l.check data clamps resv⟩

/-- TABLE-ABANDON (R171). -/
def State.abandonTable (resv kind : Nat) (s : State) : State :=
  match s.engine.load with
  | none => s.respond resv [Status.sequence.byte]
  | some l =>
    if TableKind.ofNumber kind ≠ some l.kind then s.respond resv [Status.sequence.byte]
    else (s.respond resv [Status.done.byte]).endOpenLoad

/-- The response to TABLE-READ (R175). -/
def State.readTable (s : State) (kind index : Nat) : List Byte :=
  match TableKind.ofNumber kind with
  | none => [Status.outOfRange.byte]
  | some k =>
    match s.copyInUse k with
    | none => [Status.empty.byte]
    | some c =>
      match c.records[index]? with
      | none => [Status.outOfRange.byte]
      | some r => Status.done.byte :: (encU 4 (s.use.get k).generation ++ enc1 c.records.length ++ r)

/-! ### Ends of table work (R168 to R170) -/

/-- The engine is free. -/
def State.engineFree (s : State) : State := s.updEngine fun e => { e with busy := none }

/-- The erase of a spare copy ends (R168, R171); a failed one ends its load. -/
def State.eraseEnds (w : TableWork) (resv : Nat) (ended ok : Bool) (s : State) : State :=
  let s := if ok then s else s.fault .eraseFail (some (.kind w.kind))
  if ended then s.respond resv [Status.ended.byte]
  else if ok then
    (s.updEngine fun e => { e with
      load := e.load.map fun l => if l.load = w.load then { l with erased := true } else l }).respond resv [Status.done.byte]
  else (s.respond resv [Status.storeFault.byte]).dropLoad w.load .storeFault

/-- A record program ends (R169, R171); a failed one ends its load. -/
def State.recordEnds (w : TableWork) (bytes : List Byte) (resvs : List Nat) (ended ok : Bool) (s : State) : State :=
  let target := s.engine.target
  let s := if ok then s.updCopy w.kind target fun c => { c with records := c.records ++ [bytes] }
    else s.fault .programFail (some (.kind w.kind))
  if ended then s.respondAll resvs [Status.ended.byte]
  else if ok then s.respondAll resvs [Status.done.byte]
  else (s.respondAll resvs [Status.storeFault.byte]).dropLoad w.load .storeFault

/-- A header's copy enters use with its generation (R170); the table enters working memory with its owner's swap. -/
def State.copyEnters (k : TableKind) (h : Header) (s : State) : State :=
  let target := s.engine.target
  (s.updCopy k target fun c => { c with header := some h }).updUse fun u => u.set k ⟨some target, h.generation⟩

/-! ### Ends of trip work (R173) -/

/-- The other sector's pre-erase becomes due when a program has taken the last slot of a sector (R172, R173). -/
def State.preEraseAfter (slot : Nat) (s : State) : State :=
  if slot % 4 = 3 then s.updEngine fun e => { e with preErase := some (otherSector (slot / 4)) } else s

/-- A trip record or reset marker program ends (R173). -/
def State.tripProgramEnds (slot : Nat) (entry : TripEntry) (ok : Bool) (s : State) : State :=
  let number := sequenceFor s.nv.slots
  let s := s.engineFree
  if ok then
    ((s.updNv fun v => { v with slots := v.slots.set slot (.intact number entry) }).preEraseAfter slot).send .guard
      (.tripWork entry (some slot))
  else
    ((s.preEraseAfter slot).fault .programFail (some (.slot slot))).send .guard (.tripWork entry none)

/-- The pre-erase of a sector ends; a failed one is begun again at once (R173). -/
def State.preEraseEnds (sector : Nat) (ok : Bool) (s : State) : State :=
  let s := s.engineFree
  if ok then s.updNv fun v => { v with slots := setSector sector .erased v.slots }
  else (s.fault .eraseFail (some (.sector sector))).beginPreErase sector

/-! ### The start-up load (R174) -/

/-- A copy's table and generation, if it is valid and passes its owner's validation (R174). -/
def Copy.judge (byteTimeUs : Nat) (k : TableKind) (c : Copy) : Option (TableData × Nat) :=
  match c.header with
  | none => none
  | some h =>
    if c.valid then
      match validateTable byteTimeUs k c.records with
      | .ok (data, _) => some (data, h.generation)
      | .error _ => none
    else none

/-- The copy that the start-up load takes into use: the higher generation, or copy A if they are equal (R174). -/
def CopyPair.choose (byteTimeUs : Nat) (k : TableKind) (p : CopyPair) : Option (CopyName × TableData × Nat) :=
  match p.a.judge byteTimeUs k, p.b.judge byteTimeUs k with
  | some (d, g), some (d', g') => if g < g' then some (.b, d', g') else some (.a, d, g)
  | some (d, g), none => some (.a, d, g)
  | none, some (d', g') => some (.b, d', g')
  | none, none => none

/-- Tables and use after the start-up load of some kinds, from none (R174). -/
def loadKinds (byteTimeUs : Nat) (copies : PerKind CopyPair) (ks : List TableKind) (t : Tables) (u : PerKind KindUse) :
    Tables × PerKind KindUse :=
  ks.foldl (fun acc k =>
    match (copies.get k).choose byteTimeUs k with
    | some (n, d, g) => (acc.1.put d, acc.2.set k ⟨some n, g⟩)
    | none => acc) (t, u)

/-- Whether every slot of a sector is erased. -/
def sectorErased (slots : List TripSlot) (sector : Nat) : Bool := (sectorSlots sector).all fun n => slots[n]? == some .erased

/-- The sector whose pre-erase is due at start-up (R174): that of the slot the next record takes, spoilt slots passed over, when it is
not wholly erased. A slot behind the newest record in its sector lies in such a sector, and the pre-erase then removes that record,
which has given the guard its start state by then. With no intact record the last sentence of R174 on it alone is followed: sector 0 is
pre-erased only if none of its slots is erased, although the sentence before asks for one whenever the sector of the next slot is not
wholly erased (the model's choice, assumption 16). -/
def startPreErase (slots : List TripSlot) : Option Nat :=
  match newestIntact slots with
  | some (i, _, _) =>
    let behind := firstErased slots ((sectorSlots (i / 4)).filter fun n => decide (i < n))
    let sector := if behind.isSome then i / 4 else otherSector (i / 4)
    if sectorErased slots sector then none else some sector
  | none => if (firstErased slots (sectorSlots 0)).isSome then none else some 0

end Sys2Proof.Machine
end

