-- ==== Sys2Proof/Machine/Line.lean ====
section
/-! DEFINITION. The Field Line Scheduler (chapter 2): the pick and its order of turns (R26), channels (R28 to R33), the repeater (R34
to R36), the command list (R38 to R40), the urgent close (R41, R42), pass-through (R43 to R45), the line on battery (R46) and the
CHANNELS swap (R48). Points of order that the manual leaves open follow assumption 17. -/

namespace Sys2Proof.Machine

/-! ### Channels -/

/-- The channel records in use; none while CHANNELS is EMPTY (R27). -/
def State.channelRecords (s : State) : List ChannelRecord := s.tables.channels.getD []

/-- The record of a channel index, if it has one (R27). -/
def State.channelRecord (s : State) (i : Nat) : Option ChannelRecord := s.channelRecords[i]?

/-- The live part of a channel index (R27). -/
def State.channelLive (s : State) (i : Nat) : ChannelLive := s.line.live.getD i {}

/-- Updates the live part of a channel. -/
def State.updChannel (i : Nat) (f : ChannelLive → ChannelLive) (s : State) : State :=
  s.updLine fun l => { l with live := l.live.modify i f }

/-- The repeater's field address, 0 for none (R22, R49). -/
def State.repeater (s : State) : Nat := siteRepeater s.tables.siteSet

/-- Whether a channel is suspended on battery (R46). -/
def State.isSuspended (s : State) (c : ChannelRecord) : Bool := decide (c.cls = .normal ∧ s.supply.mode ≠ .mains)

/-- The request a channel makes of its device, by its mode (R28). -/
def ChannelRecord.request (c : ChannelRecord) (m : ChannelMode) : DeviceRequest :=
  match m with
  | .normal => .read c.start c.count
  | .probe => .status

/-- Whether a channel stands halted by failures (R31). -/
def ChannelLive.isHalted (l : ChannelLive) : Bool := !l.go && (l.condition == .shortReply || l.condition == .retryError)

/-! ### The pick (R26) -/

/-- Time left in the cycle, in microseconds; none before the first cycle (R25). -/
def State.cycleLeft (s : State) : Option Nat := s.line.cycleStartUs.map fun c => c + Config.cycleUs - s.timeUs

/-- The byte time in force (R22). -/
def State.byteTime (s : State) : Nat := s.line.rate.byteTimeUs

/-- Whether a transaction's worst-case cost fits the time left (R23, R26). -/
def State.fits (s : State) (left : Nat) (wake : Bool) (r : LineRequest) : Bool := decide (r.costUs s.byteTime wake ≤ left)

/-- Starts a transaction (R24). -/
def State.startTransaction (work : LineWork) (address : Nat) (wake : Bool) (r : LineRequest) (s : State) : State :=
  let t : Transaction := { work := work, address := address, request := r, wake := wake, startUs := s.timeUs
                           byteTimeUs := s.byteTime, lsbFirst := s.line.lsbFirst
                           bytes := requestBytes s.line.lsbFirst wake address r, superseded := false }
  s.updLine fun l => { l with inFlight := some t }

/-- Whether commands to a field address carry the wake burst (R38, R42). -/
def State.wakesAt (s : State) (address : Nat) : Bool := s.channelRecords.any fun c => c.address == address && c.wake

/-- A channel's turn (R26, R28): the state after, and whether a transaction started. A HANDED channel whose repeater is gone
returns to NONE (R49). Wherever the split phase returns to NONE, here and below, the model sets the PENDING count to 0 with it, of
which the rules speak for CHANNEL-START alone (the model's choice, assumption 33). A channel that has sent its COLLECT takes no other turn
in that cycle, as R28 says; so a BEHIND channel whose COLLECT wraps a READY makes its HAND-OFF of the READ in the next cycle at the
earliest, although R30 lets the READ follow at a later pick of the same cycle (the model's choice between the two, assumption 55). -/
def State.tryChannel (left i : Nat) (c : ChannelRecord) (s : State) : State × Bool :=
  let l := s.channelLive i
  if l.go = false ∨ s.isSuspended c = true ∨ l.collectCycle = some s.line.cycle then (s, false)
  else
    let inner := c.request l.mode
    let begin_ (address : Nat) (r : LineRequest) (s : State) : State × Bool :=
      if s.fits left c.wake r then (s.startTransaction (.channel i) address c.wake r, true) else (s, false)
    match l.handed with
    | some h =>
      if s.line.cycle ≤ h then (s, false)
      else if s.repeater = 0 then (s.updChannel i fun x => { x with handed := none, pendingCount := 0 }, false)
      else
        let r := begin_ s.repeater (.collect c.inner inner) s
        if r.2 then (r.1.updChannel i fun x => { x with collectCycle := some s.line.cycle }, true) else r
    | none =>
      if l.countdown ≠ 0 then (s, false)
      else if c.behind then
        if s.repeater = 0 ∨ 2 ≤ s.line.slots.length then (s, false) else begin_ s.repeater (.handOff c.inner inner) s
      else begin_ c.address (.device inner) s

/-- The turns of the channels of a class in index order, the first record having the index given (R26). -/
def tryChannels (left : Nat) (cls : ChannelClass) : Nat → List ChannelRecord → State → State × Bool
  | _, [], s => (s, false)
  | i, c :: rest, s =>
    if c.cls = cls then
      let r := s.tryChannel left i c
      if r.2 then r else tryChannels left cls (i + 1) rest r.1
    else tryChannels left cls (i + 1) rest s

/-- Updates the entry for an actuator. -/
def State.updCommand (address item : Nat) (f : CommandEntry → CommandEntry) (s : State) : State :=
  s.updLine fun l => { l with commands := l.commands.map fun e => if e.isFor address item then f e else e }

/-- The request of a command's next stage; an OPERATED entry takes no turn (R38). -/
def CommandEntry.request (e : CommandEntry) : Option DeviceRequest :=
  match e.stage with
  | .waiting => some (.select e.item e.target)
  | .selected => some (.operate e.item e.target)
  | .operated => none

/-- The turns of the command list from its head (R26, R38). -/
def tryCommands (left : Nat) : List CommandEntry → State → State × Bool
  | [], s => (s, false)
  | e :: rest, s =>
    match e.request with
    | none => tryCommands left rest s
    | some r =>
      let wake := s.wakesAt e.address
      if e.turnCycle = some s.line.cycle ∨ s.fits left wake (.device r) = false then tryCommands left rest s
      else
        let cycle := s.line.cycle
        ((s.startTransaction (.command e.address e.item) e.address wake (.device r)).updCommand e.address e.item fun x =>
          { x with turnCycle := some cycle }, true)

/-- The head leaves the pass queue and its response is completed (R45). -/
def State.leavePass (payload : List Byte) (s : State) : State :=
  match s.line.pass with
  | [] => s
  | e :: rest => (s.updLine fun l => { l with pass := rest }).respond e.resv payload

/-- Updates the head of the pass queue. -/
def State.updHead (f : PassEntry → PassEntry) (s : State) : State :=
  s.updLine fun l => { l with
    pass := match l.pass with
      | [] => []
      | e :: rest => f e :: rest }

/-- The device that a pass-through entry addresses, behind the repeater or not (R12, R14). -/
def PassEntry.device (e : PassEntry) : Nat := e.inner.getD e.address

/-- The turn of the pass queue's head (R16, R26, R44, R49); a head removed gives way to the next, `fuel` bounding the removals. The
model judges the gates at every HAND-OFF, one retried after FULL or BUSY included, since each is a start of the command's own: R16 and
R44 do not say whether the judgment before the first start is the last (the model's choice, assumption 17). A head that found no free slot
blocks the entries behind it, and is itself tried again at every later pick, so that a slot freed within the cycle lets it hand off in that
cycle: R34 lets it block the queue `for that cycle`, and R44 lets it hand off when a slot is free (the model's choice, assumption 51). -/
def State.tryPass (left : Nat) : Nat → State → State × Bool
  | 0, s => (s, false)
  | fuel + 1, s =>
    match s.line.pass with
    | [] => (s, false)
    | e :: _ =>
      match e.inner, e.handed with
      | some inner, some h =>
        if s.repeater = 0 then (s.leavePass [Status.noReply.byte]).tryPass left fuel
        else if s.line.cycle ≤ h ∨ e.collectCycle = some s.line.cycle then (s, false)
        else
          let r : LineRequest := .collect inner e.request
          let cycle := s.line.cycle
          if s.fits left e.wake r then
            ((s.startTransaction .pass s.repeater e.wake r).updHead fun x => { x with collectCycle := some cycle }, true)
          else (s, false)
      | some inner, none =>
        if s.repeater = 0 then (s.leavePass [Status.noReply.byte]).tryPass left fuel
        else if 2 ≤ s.line.slots.length ∨ s.fits left e.wake (.handOff inner e.request) = false then (s, false)
        else if s.gatePasses e.device e.request then
          (s.startTransaction .pass s.repeater e.wake (.handOff inner e.request), true)
        else (s.leavePass [Status.guarded.byte]).tryPass left fuel
      | none, _ =>
        if s.fits left e.wake (.device e.request) = false then (s, false)
        else if s.gatePasses e.device e.request then (s.startTransaction .pass e.address e.wake (.device e.request), true)
        else (s.leavePass [Status.guarded.byte]).tryPass left fuel

/-- The pick among the work bound by fit (R26). -/
def State.pickWork (left : Nat) (s : State) : State :=
  let a := tryChannels left .guard 0 s.channelRecords s
  if a.2 then a.1
  else
    let b := tryCommands left a.1.line.commands a.1
    if b.2 then b.1
    else
      let c := tryChannels left .normal 0 b.1.channelRecords b.1
      if c.2 then c.1 else (c.1.tryPass left (c.1.line.pass.length + 1)).1

/-- The pick of an idle line (R26, R42): the urgent slot first, whatever time is left; nothing is picked before the first cycle
after a reset (R25, R174). -/
def State.linePick (s : State) : State :=
  if s.line.inFlight.isSome then s
  else
    match s.cycleLeft with
    | none => s
    | some left =>
      match s.line.urgent with
      | some u =>
        (s.startTransaction .urgent u.address (s.wakesAt u.address) (.device (.direct u.item 0))).updLine fun l => { l with
          urgent := some { u with inFlight := true } }
      | none => s.pickWork left

/-! ### The cycle (R25, R32, R36) -/

/-- A channel's live part at a cycle start: its countdown falls, and the halted-cycle count of a halted GUARD-class channel rises
(R25, R32). -/
def ChannelLive.atCycle (cls : Option ChannelClass) (l : ChannelLive) : ChannelLive :=
  { l with
    countdown := l.countdown - 1
    haltedCycles := if cls = some .guard ∧ l.isHalted = true then l.haltedCycles + 1 else l.haltedCycles }

/-- A halted GUARD-class channel whose count has reached 40 restarts, outside BATTERY_LOW (R32). -/
def ChannelLive.restartAt (cls : Option ChannelClass) (batteryLow : Bool) (l : ChannelLive) : ChannelLive :=
  if cls = some .guard ∧ l.isHalted = true ∧ 40 ≤ l.haltedCycles ∧ batteryLow = false then {} else l

/-- The live parts at a cycle start, the first having the index given. -/
def livesAtCycle (cs : List ChannelRecord) (batteryLow : Bool) : Nat → List ChannelLive → List ChannelLive
  | _, [] => []
  | i, l :: rest =>
    let cls := (cs[i]?).map ChannelRecord.cls
    ((l.atCycle cls).restartAt cls batteryLow) :: livesAtCycle cs batteryLow (i + 1) rest

/-- What the release of a slot by time does to the work that holds it (R36, R44, assumption 33). -/
def State.slotRunsOut (x : RepeaterSlot) (s : State) : State :=
  match x.holder with
  | .channel i =>
    if (s.channelLive i).handed = some x.cycle then s.updChannel i fun l => { l with handed := none, pendingCount := 0 } else s
  | .pass =>
    match s.line.pass with
    | e :: _ => if e.handed = some x.cycle then s.leavePass [Status.noReply.byte] else s
    | [] => s
  | .nobody => s

/-- A line cycle starts (R22, R25, R32, R36). -/
def State.startCycle (s : State) : State :=
  let cycle := s.line.cycle + 1
  let now := s.timeUs
  let rate := siteRate s.tables.siteSet
  let lsb := siteLsbFirst s.tables.siteSet
  let low := decide (s.supply.mode = .batteryLow)
  let cs := s.channelRecords
  let old := s.line.slots.filter fun x => decide (x.cycle + 9 ≤ cycle)
  let s := s.updLine fun l => { l with
    cycle := cycle
    cycleStartUs := some now
    late := false
    rate := rate
    lsbFirst := lsb
    slots := l.slots.filter fun x => decide (cycle < x.cycle + 9)
    live := livesAtCycle cs low 0 l.live }
  old.foldl (fun s x => s.slotRunsOut x) s

/-- The time of the next cycle start: at once for the first cycle after a reset (R25). -/
def State.cycleDueUs (s : State) : Nat :=
  match s.line.cycleStartUs with
  | some c => c + Config.cycleUs
  | none => s.timeUs

/-- The cycle start comes due: with a transaction in flight the cycle starts at that transaction's end instead (R25). -/
def State.cycleComesDue (s : State) : State :=
  if s.line.inFlight.isSome then s.updLine fun l => { l with late := true } else s.startCycle

/-- The line goes on: a cycle start that was put off takes place once the line is idle, and an idle line picks (R25, R26). R26 says both
that the scheduler picks whenever work arrives while the line is idle and that, once no candidate fitted, the line stays idle until the
next cycle start or an urgent close. The model lets work that arrives, or that an event makes able to start, begin in the same cycle if
its cost fits the time left, whether or not an earlier pick of that cycle found nothing that fits (the model's choice, assumption 54). -/
def State.lineSettle (s : State) : State :=
  if s.line.inFlight.isSome then s else (if s.line.late then s.startCycle else s).linePick

/-! ### Channel outcomes (R29 to R31, R34, R35) -/

/-- A channel's live part after a failure short of the halt: condition and failure count, countdown reloaded (R29). -/
def ChannelLive.failed (condition : ChannelCondition) (interval : Nat) (l : ChannelLive) : ChannelLive :=
  { l with condition := condition, failures := l.failures + 1, countdown := interval }

/-- A channel's live part after its halt (R31); its PENDING count is 0 with the split phase NONE (assumption 33). -/
def ChannelLive.halted (condition : ChannelCondition) (interval : Nat) (l : ChannelLive) : ChannelLive :=
  { l with
    go := false
    condition := condition
    failures := 0
    haltedCycles := 0
    handed := none
    pendingCount := 0
    countdown := interval }

/-- A failure of a channel, the third of which halts it (R29, R31). -/
def State.channelFails (i : Nat) (c : ChannelRecord) (condition : ChannelCondition) (s : State) : State :=
  if (s.channelLive i).failures + 1 < 3 then s.updChannel i (ChannelLive.failed condition c.interval)
  else
    ((s.updChannel i (ChannelLive.halted condition c.interval)).haltPoints c).fault .channelHalted (some (.channel i))

/-- The outcome of a device's answer to a channel's request (R29, R30). The items of a third short reply are extracted and the channel
halted before any block takes the reply's notice, so that the points are STALE when it is taken; R10 and R31 do not say whether the
blocks act on that notice before the halt (the model's choice, assumption 17). -/
def State.channelAnswer (i : Nat) (c : ChannelRecord) (o : FieldOutcome) (s : State) : State :=
  match o with
  | .accepted (.data start items) _ =>
    let s := s.extract c.polled .polled start items
    if items.length = c.count then
      s.updChannel i fun l => { l with condition := .ok, failures := 0, countdown := c.interval }
    else s.channelFails i c .shortReply
  | .accepted .busy _ => s.updChannel i fun l => { l with mode := .probe, countdown := c.interval }
  | .accepted .ready _ => s.updChannel i fun l => { l with mode := .normal }
  | .accepted .refused _ =>
    (s.updChannel i fun l => { l with go := false, condition := .refused, countdown := c.interval }).fault .channelRefused
      (some (.channel i))
  | .accepted _ _ => s.channelFails i c .retryError
  | .noReply => s.channelFails i c .retryError
  | .bad _ => s.channelFails i c .retryError

/-- A TAKEN takes a repeater slot (R34). -/
def State.takeSlot (h : SlotHolder) (s : State) : State :=
  s.updLine fun l => if l.slots.length < 2 then { l with slots := l.slots ++ [⟨h, l.cycle⟩] } else l

/-- A COLLECT releases its slot, and that one alone: a slot that work let go of runs out by time, although work of the same channel may
have taken another in the same cycle (R35, R36). -/
def State.releaseSlot (h : SlotHolder) (cycle : Nat) (s : State) : State :=
  s.updLine fun l => { l with slots := l.slots.eraseP fun x => x.holder == h && x.cycle == cycle }

/-- The outcome of a channel's HAND-OFF (R34). -/
def State.channelHandOff (i : Nat) (c : ChannelRecord) (o : FieldOutcome) (s : State) : State :=
  match o with
  | .accepted .taken _ =>
    let cycle := s.line.cycle
    (s.takeSlot (.channel i)).updChannel i fun l => { l with handed := some cycle, pendingCount := 0 }
  | .accepted .full _ => s
  | .accepted .busy _ => s
  | o => s.channelAnswer i c o

/-- The outcome of a channel's COLLECT (R35); the PENDING count is 0 once the split phase is NONE (assumption 33). The fourth PENDING
reloads the countdown as the failures of R29 do: R35 calls it a failure, says of a PENDING that it does not reload, and does not name the
countdown for the fourth (the model's choice, assumption 50). -/
def State.channelCollect (i : Nat) (c : ChannelRecord) (inner : Nat) (r : DeviceRequest) (o : FieldOutcome) (s : State) : State :=
  match o with
  | .accepted (.carried bytes) _ =>
    let s := match (s.channelLive i).handed with
      | some h => s.releaseSlot (.channel i) h
      | none => s
    (s.updChannel i fun l => { l with handed := none, pendingCount := 0 }).channelAnswer i c (judgeInner inner r bytes)
  | _ =>
    if (s.channelLive i).pendingCount + 1 < 4 then
      s.updChannel i fun l => { l with pendingCount := l.pendingCount + 1 }
    else (s.updChannel i fun l => { l with handed := none, pendingCount := 0 }).channelFails i c .retryError

/-- What a superseded channel transaction still does: accepted DATA is extracted, and a TAKEN takes a slot that no work holds
(R33, R36, R48). A REFUSED then logs nothing: R33 and R48 speak of the channel's live part alone, and whether CHANNEL_REFUSED is still
logged they leave open (the model's choice, assumption 42). -/
def State.supersededOutcome (t : Transaction) (o : FieldOutcome) (s : State) : State :=
  match t.request, o with
  | .device _, .accepted (.data start items) _ => s.extract t.address .polled start items
  | .handOff _ _, .accepted .taken _ => s.takeSlot .nobody
  | .collect inner r, .accepted (.carried bytes) _ =>
    match judgeInner inner r bytes with
    | .accepted (.data start items) _ => s.extract inner .polled start items
    | _ => s
  | _, _ => s

/-- The outcome of a channel's transaction (R29, R33). -/
def State.channelOutcome (i : Nat) (t : Transaction) (o : FieldOutcome) (s : State) : State :=
  match t.superseded, s.channelRecord i with
  | false, some c =>
    match t.request with
    | .device _ => s.channelAnswer i c o
    | .handOff _ _ => s.channelHandOff i c o
    | .collect inner r => s.channelCollect i c inner r o
  | _, _ => s.supersededOutcome t o

/-! ### Command outcomes (R38 to R40) -/

/-- Tells the origin of a command its outcome (R37). -/
def State.tellOrigin (e : CommandEntry) (o : CommandOutcome) (s : State) : State :=
  s.send (match e.origin with | .fill => .fill | .frost => .frost) (.command e.address e.item e.target o)

/-- A failed step of a command, the third of which removes the entry (R40). -/
def State.commandFails (e : CommandEntry) (s : State) : State :=
  if e.attempts + 1 < 3 then
    s.updCommand e.address e.item fun x => { x with attempts := x.attempts + 1, stage := .waiting, deadline := none }
  else
    (((s.removeCommand e.address e.item).fault .commandFailed (some (.address e.address)))).tellOrigin e .failed

/-- The confirm deadline of an entry (R38). -/
def State.confirmTime (s : State) (e : CommandEntry) : Nat :=
  match e.origin, s.tables.guardSet with
  | .fill, some g => g.valveTravel * 1000
  | _, _ => Config.heaterConfirmMs

/-- The outcome of a command's stage (R38, R40). -/
def State.commandOutcome (address item : Nat) (t : Transaction) (o : FieldOutcome) (s : State) : State :=
  match t.superseded, s.line.commands.find? (CommandEntry.isFor address item) with
  | false, some e =>
    match e.stage, o with
    | .waiting, .accepted (.selected item' value) _ =>
      if item' = e.item ∧ value = e.target then s.updCommand address item fun x => { x with stage := .selected }
      else s.commandFails e
    | .selected, .accepted .done _ =>
      let aim := s.now + s.confirmTime e
      s.updCommand address item fun x => { x with stage := .operated, deadline := some aim }
    | _, _ => s.commandFails e
  | _, _ => s

/-- Whether an OPERATED entry is confirmed by a point notice (R39); a heater is confirmed by a STATE point alone (R112). -/
def State.confirms (s : State) (ps : List Nat) (e : CommandEntry) : Bool :=
  e.stage == .operated && ps.contains e.feedback &&
    (match e.origin with
      | .fill => s.goodValue e.feedback == some (e.target : Int)
      | .frost => s.goodOfKind .state e.feedback == some (e.target : Int))

/-- The scheduler takes a point notice (R39). -/
def State.lineOnPoints (ps : List Nat) (s : State) : State :=
  let hits := s.line.commands.filter (s.confirms ps)
  hits.foldl (fun s e => (s.removeCommand e.address e.item).tellOrigin e .confirmed) s

/-- The confirm deadline that runs for an actuator. -/
def State.commandDeadline (s : State) (address item : Nat) : Option Nat :=
  (s.line.commands.find? (CommandEntry.isFor address item)).bind CommandEntry.deadline

/-- The confirm deadline runs out (R40). -/
def State.deadlinePasses (address item : Nat) (s : State) : State :=
  match s.line.commands.find? (CommandEntry.isFor address item) with
  | some e => s.commandFails e
  | none => s

/-- The scheduler takes an announcement of the supply mode: entries other than an inlet close are removed (R46). -/
def State.lineOnSupply (mode : SupplyMode) (s : State) : State :=
  if mode = .mains then s
  else
    let gone := s.line.commands.filter fun e => !(s.isInlet e.address e.item && e.target == 0)
    gone.foldl (fun s e => (s.removeCommand e.address e.item).tellOrigin e .supply) s

/-! ### The urgent close and pass-through (R42, R44, R45) -/

/-- The DIRECT close ends: the slot empties and the guard is told (R42). -/
def State.urgentEnds (o : FieldOutcome) (s : State) : State :=
  let done := match o with | .accepted .done _ => true | _ => false
  (s.updLine fun l => { l with urgent := none }).send .guard (.urgentOutcome done)

/-- The most payload bytes that a trunk frame carries (R183). -/
def maxTrunkPayload : Nat := 200

/-- How many statuses there are, numbered from 00h (R185). -/
def statusCount : Nat := 25

/-- The response that carries the device's reply (R45, R185). A reply of more than 197 bytes does not fit the 200 of a trunk frame
(R183), and the manual states no response for it: then it begins with a status byte as every response does (R185), and which status that
is and what follows it, within the 200, are free (assumption 32). -/
def replyPayload (r : RawReply) : List Byte :=
  let whole := Status.done.byte :: r.code :: (enc1 r.payload.length ++ r.payload)
  if whole.length ≤ maxTrunkPayload then whole
  else BitVec.ofNat 8 (Config.overlongStatus whole % statusCount) :: (Config.overlongReply whole).take (maxTrunkPayload - 1)

/-- The response to a pass-through for the outcome of a device (R45). An inner frame of a CARRIED whose length byte disagrees with its
bytes is no frame from which a reply could be taken, and the entry is answered FIELD_ERROR (the model's choice, assumption 32). -/
def passPayload : FieldOutcome → List Byte
  | .accepted _ r => replyPayload r
  | .bad (some r) => replyPayload r
  | .bad none => [Status.fieldError.byte]
  | .noReply => [Status.noReply.byte]

/-- A pass-through entry ends with the outcome of its device; accepted DATA goes to the Traffic Map (R45). -/
def State.passEnds (device : Nat) (o : FieldOutcome) (s : State) : State :=
  let s := s.leavePass (passPayload o)
  match o with
  | .accepted (.data start items) _ => s.extract device .passed start items
  | _ => s

/-- The outcome of a pass-through transaction (R44). -/
def State.passOutcome (t : Transaction) (o : FieldOutcome) (s : State) : State :=
  match s.line.pass with
  | [] => s
  | e :: _ =>
    match t.request with
    | .device _ => s.passEnds e.device o
    | .handOff _ _ =>
      match o with
      | .accepted .taken _ =>
        let cycle := s.line.cycle
        (s.takeSlot .pass).updHead fun x => { x with handed := some cycle, pendingCount := 0 }
      | .accepted .full _ => s
      | .accepted .busy _ => s
      | o => s.leavePass (passPayload o)
    | .collect inner r =>
      match o with
      | .accepted (.carried bytes) _ =>
        (match e.handed with
          | some h => s.releaseSlot .pass h
          | none => s).passEnds inner (judgeInner inner r bytes)
      | _ =>
        if e.pendingCount + 1 < 4 then s.updHead fun x => { x with pendingCount := x.pendingCount + 1 }
        else s.leavePass [Status.noReply.byte]

/-- A transaction ends with an outcome, which goes to the work that started it (R24); a transaction that carried past the cycle's
end logs CYCLE_OVERRUN, and the next cycle starts at its end (R25). The fault comes before those of the outcome itself, for which R145
names no order (the model's choice, assumption 17). -/
def State.transactionEnds (t : Transaction) (o : FieldOutcome) (s : State) : State :=
  let ranOver := s.line.late || (s.line.cycleStartUs.any fun c => decide (c + Config.cycleUs < s.timeUs))
  let s := s.updLine fun l => { l with inFlight := none, late := ranOver }
  let s := if ranOver then s.fault .cycleOverrun (some (.address t.address)) else s
  match t.work with
  | .urgent => s.urgentEnds o
  | .channel i => s.channelOutcome i t o
  | .command a i => s.commandOutcome a i t o
  | .pass => s.passOutcome t o

/-- The time at which a transaction's reply window runs out (R24). -/
def Transaction.windowEndUs (t : Transaction) : Nat := t.startUs + t.bytes.length * t.byteTimeUs + Config.replyWindowUs

/-! ### Requests (R33, R43) -/

/-- A channel's transaction in flight is superseded (R33). -/
def State.supersedeChannel (i : Nat) (s : State) : State :=
  s.updLine fun l => { l with
    inFlight := l.inFlight.map fun t => if t.work = .channel i then { t with superseded := true } else t }

/-- CHANNEL-START (R33). -/
def State.startChannel (resv index : Nat) (s : State) : State :=
  match s.channelRecord index with
  | none => s.respond resv [Status.outOfRange.byte]
  | some _ => ((s.supersedeChannel index).updChannel index fun _ => {}).respond resv [Status.done.byte]

/-- CHANNEL-STOP (R33); its PENDING count is 0 with the split phase NONE (assumption 33). -/
def State.stopChannel (resv index : Nat) (s : State) : State :=
  match s.channelRecord index with
  | none => s.respond resv [Status.outOfRange.byte]
  | some _ =>
    ((s.supersedeChannel index).updChannel index fun l => { l with
      go := false
      condition := .stopped
      handed := none
      pendingCount := 0 }).respond resv [Status.done.byte]

/-- The request that a FIELD-PASS names; none if its function is not one of the five (R43, R183). -/
def passRequest (function : Byte) (item value : Nat) : Option DeviceRequest :=
  match function with
  | 0x31#8 => some (.read item value)
  | 0x32#8 => some (.write item value)
  | 0x33#8 => some (.select item value)
  | 0x34#8 => some (.operate item value)
  | 0x36#8 => some .status
  | _ => none

/-- Whether a request's own operands are in range (R43). -/
def DeviceRequest.inRange : DeviceRequest → Bool
  | .read start count => decide (1 ≤ count ∧ count ≤ 16 ∧ start ≤ 255)
  | _ => true

/-- Whether a field address is one (R43). -/
def isAddress (a : Nat) : Bool := decide (1 ≤ a ∧ a ≤ 31)

/-- The cost judged for a pass-through: for one with an inner address, the larger of its HAND-OFF and its COLLECT (R43). -/
def passCost (byteTimeUs : Nat) (wake : Bool) (inner : Option Nat) (r : DeviceRequest) : Nat :=
  match inner with
  | none => (LineRequest.device r).costUs byteTimeUs wake
  | some i => max ((LineRequest.handOff i r).costUs byteTimeUs wake) ((LineRequest.collect i r).costUs byteTimeUs wake)

/-- The first check of a FIELD-PASS that fails, as its status, or the request that passes them all (R43). -/
def State.passCheck (s : State) (function : Byte) (address innerByte item value : Nat) (wake : Bool) :
    Except Status DeviceRequest :=
  let inner : Option Nat := if innerByte = 0 then none else some innerByte
  let request := passRequest function item value
  if s.holds .line then .error .lineHeld
  else if request.any (fun r => !s.gatePasses (inner.getD address) r) then .error .guarded
  else if s.supply.mode ≠ .mains then .error .battery
  else
    match request with
    | none => .error .outOfRange
    | some r =>
      if isAddress address = false ∨ inner.any (fun i => !isAddress i) = true ∨ r.inRange = false
          ∨ (inner.isSome = true ∧ s.repeater = 0) then .error .outOfRange
      else if 4 ≤ s.line.pass.length then .error .full
      else if Config.cycleUs < passCost s.byteTime wake inner r then .error .tooLong
      else .ok r

/-- FIELD-PASS (R17, R43). -/
def State.passRequestTaken (resv : Nat) (function : Byte) (address innerByte : Nat) (wake : Bool) (item value : Nat) (s : State) :
    State :=
  match s.passCheck function address innerByte item value wake with
  | .error status => s.respond resv [status.byte]
  | .ok r =>
    let inner : Option Nat := if innerByte = 0 then none else some innerByte
    let e : PassEntry := { resv := resv, request := r, address := address, inner := inner, wake := wake }
    let s := s.updLine fun l => { l with pass := l.pass ++ [e] }
    if s.isManualClose e.device r then s.send .fill (.inhibit [.manualClose] []) else s

/-! ### The CHANNELS swap and the reset (R27, R48) -/

/-- The 24 live parts at their reset values (R27). -/
def freshLives : List ChannelLive := List.replicate 24 {}

/-- A new CHANNELS table enters use (R48). -/
def State.swapChannels (t : List ChannelRecord) (s : State) : State :=
  (s.updTables fun x => { x with channels := some t }).updLine fun l => { l with
    live := freshLives
    inFlight := l.inFlight.map fun x =>
      match x.work with
      | .channel _ => { x with superseded := true }
      | .urgent => x
      | .command _ _ => x
      | .pass => x }

end Sys2Proof.Machine
end

