-- ==== Sys2Proof/Machine/Supply.lean ====
section
/-! DEFINITION. The Supply Monitor (chapter 11): the mode at a reset (R176), the counts of the two inputs (R177, R178) and the
announcement of a change of mode (R179). -/

namespace Sys2Proof.Machine

/-- The battery mode that a battery-low state gives (R176, R177). -/
def batteryMode (low : Bool) : SupplyMode := if low then .batteryLow else .battery

/-- The monitor at a reset, from the inputs as they stand (R176). -/
def supplyStart (i : Inputs) : SupplyBlock :=
  { mode := if i.mains then .mains else batteryMode i.batteryLow, low := i.batteryLow }

/-- The supply mode changes and is announced (R179). -/
def State.changeMode (mode : SupplyMode) (s : State) : State :=
  let before := s.supply.mode
  (s.updSupply fun x => { x with mode := mode }).broadcast [.fill, .frost, .line, .store, .telemetry] (.supply mode before)

/-- The mains-present input changes (R177). -/
def State.mainsInput (active : Bool) (s : State) : State :=
  let count : MainsCount :=
    if s.supply.mode = .mains then (if active then .none else .loss (s.now + Config.lossCountMs))
    else (if active then .ret (s.now + Config.returnCountMs) else .none)
  (s.updInputs fun i => { i with mains := active }).updSupply fun x => { x with count := count }

/-- The time at which a loss count runs out. -/
def SupplyBlock.lossAt (x : SupplyBlock) : Option Nat :=
  match x.count with
  | .loss t => some t | .none => none | .ret _ => none

/-- The time at which a return count runs out. -/
def SupplyBlock.returnAt (x : SupplyBlock) : Option Nat :=
  match x.count with
  | .ret t => some t | .none => none | .loss _ => none

/-- The loss count runs out (R177). -/
def State.mainsLost (s : State) : State :=
  (s.updSupply fun x => { x with count := .none }).changeMode (batteryMode s.supply.low)

/-- The return count runs out (R177). -/
def State.mainsReturned (s : State) : State := (s.updSupply fun x => { x with count := .none }).changeMode .mains

/-- The battery-low input changes (R178). -/
def State.batteryInput (active : Bool) (s : State) : State :=
  let aim := if active = s.supply.low then none else some (s.now + Config.batteryLowCountMs)
  (s.updInputs fun i => { i with batteryLow := active }).updSupply fun x => { x with lowAt := aim }

/-- The battery-low count runs out: the state takes the input's level, and on battery the mode follows it (R178). -/
def State.batteryDebounced (s : State) : State :=
  let low := s.inputs.batteryLow
  let s := s.updSupply fun x => { x with low := low, lowAt := none }
  match s.supply.mode with
  | .mains => s
  | .battery => if low then s.changeMode .batteryLow else s
  | .batteryLow => if low then s else s.changeMode .battery

/-- The Table Store takes an announcement of the supply mode: an open load ends on loss of the mains (R171). -/
def State.storeOnSupply (mode : SupplyMode) (s : State) : State := if mode = .mains then s else s.endOpenLoad

end Sys2Proof.Machine
end

