-- ==== Sys2Proof/Machine/Reports.lean ====
section
/-! DEFINITION. The responses of the read requests: READ-POINTS (R18), READ-BANK (R149), READ-STATE (R160), READ-CHANNELS and
READ-ZONES (R161), READ-TRIPS (R162), with the encodings of R185 (assumption 7 where an element has no stated encoding). -/

namespace Sys2Proof.Machine

/-- A whole number of mm that is never negative in a valid state; a negative one has no stated encoding (assumption 5). -/
def encMm (i : Int) : List Byte :=
  if 0 ≤ i then encU 2 i.toNat else (List.range 2).map (Config.unfitByte i.natAbs)

/-- A time in whole seconds, or absent. -/
def encSeconds (ms : Option Nat) : List Byte := encOpt 4 (ms.map fun t => t / 1000)

/-! ### READ-POINTS (R18) -/

/-- A point entry (R18). -/
def State.pointEntry (s : State) (i : Nat) : List Byte :=
  let p := s.point i
  let r := s.pointRecord i
  let known := p.quality != .none
  enc1 i ++ encFlag r.isSome ++ encOpt1 (r.map fun x => x.kind.number) ++ encS 4 p.value ++ enc1 p.quality.number
    ++ encOpt1 (if known then p.source.map Source.number else none)
    ++ encSeconds (if known then p.updated.map fun t => s.now - t else none)

/-- The indexes of a run that stops after `count` or after the last of `total` (R18, R161). -/
def runOf (total first count : Nat) : List Nat := ((List.range total).drop first).take count

/-- The response to READ-POINTS (R18). -/
def State.readPointsPayload (s : State) (first count : Nat) : List Byte :=
  if 63 < first ∨ count = 0 ∨ 15 < count then [Status.outOfRange.byte]
  else Status.done.byte :: (runOf 64 first count).flatMap s.pointEntry

/-! ### READ-STATE (R160) -/

/-- The working level record (R160). -/
def encLevelRecord (r : LevelRecord) : List Byte :=
  encU 2 r.w ++ enc1 r.quality.number ++ encU 4 r.v ++ enc1 r.segment ++ encRate r.rate
    ++ encSeconds (if r.quality = .lost then r.lostSince else none)

/-- The guard's record (R160). -/
def encGuard (g : GuardBlock) : List Byte :=
  enc1 g.state.number ++ encOpt1 (g.cause.map TripCause.number) ++ encU 2 g.projection ++ encU 2 g.coast ++ encMm g.anticipate
    ++ encMm g.trip ++ encMm g.resetLevel ++ encFlag g.frostExtra ++ encFlag g.floatActive ++ enc1 g.tripFlag.number
    ++ encFlag g.reset.isSome

/-- The numbers of the last evaluation (R160). -/
def encNumbers (n : PlanNumbers) : List Byte :=
  encU 4 n.vTarget ++ encS 2 (n.windowEnd : Int) ++ encS 2 n.m ++ encU 4 n.draw ++ encU 4 n.need ++ encU 4 n.flow
    ++ enc1 n.wanted ++ enc1 n.k ++ encFlag n.cut

/-- The fill record (R160). -/
def encFill (f : FillBlock) : List Byte :=
  enc1 f.state.number ++ encOpt1 (f.purpose.map Purpose.number) ++ enc1 f.order.number ++ enc1 f.demand
    ++ encInhibit f.inhibit ++ encFlag f.turnoverDone ++ encFlag f.closeOwed ++ encNumbers f.numbers

/-- The station copy and the tag of the last DEMAND queued (R160). R185 gives an empty copy the mode FFh and says nothing of the rest: the
model sends pumps available and pumps running as 00h, the counts that R108 uses then, the flow as four free bytes, and the echoed tag as
absent, FFh (the model's choice, assumption 7). -/
def encStation (c : Option StationCopy) (tag : Nat) : List Byte :=
  (match c with
    | some c => enc1 c.mode.number ++ enc1 c.available ++ enc1 c.running ++ encU 4 c.flow ++ enc1 c.echoed
    | none => encOpt1 none ++ enc1 0 ++ enc1 0 ++ [3, 4, 5, 6].map Config.blankByte ++ encOpt1 none) ++ enc1 tag

/-- The clock, the tariff class and the day type of today (R160). While the clock is UNSET there is no today, and the model sends the day
type as absent, FFh (the model's choice, assumption 7). -/
def State.encToday (s : State) : List Byte :=
  encClock s.clockTime ++ enc1 s.fill.tariff.number
    ++ encOpt1 (s.clockTime.map fun t => (siteDayType s.tables.siteSet t.day).number)

/-- The Frost Unit's kind flags, frost watch and budget (R160). The kind flags are one byte each in the order of R185's numbers of the zone
kinds: RISER, VALVE_CHAMBER, OVERFLOW_PIPE, OUTLET, SENSOR_HOUSING. R160 and R185 give them no order, and R117's table has SENSOR_HOUSING
before OUTLET (the model's choice, assumption 7). -/
def encFrost (b : FrostBlock) : List Byte :=
  encFlag b.flags.riser ++ encFlag b.flags.valveChamber ++ encFlag b.flags.overflowPipe ++ encFlag b.flags.outlet
    ++ encFlag b.flags.sensorHousing ++ encFlag b.watch ++ encU 2 b.budget

/-- The response to READ-STATE (R160). Where R160 names several elements in one word the order is the model's: the control room's silent
flag before the station's, each bank's valid flag before its hold flag with the banks in the order of R185, and the generations in the
order of R174 (assumption 7). -/
def State.readStatePayload (s : State) : List Byte :=
  Status.done.byte :: (encLevelRecord s.level.record ++ encGuard s.guard ++ encFill s.fill
    ++ encStation s.fill.station s.fill.demandTag ++ s.encToday ++ encFrost s.frost
    ++ enc1 s.supply.mode.number ++ encFlag s.trunk.islanded ++ encFlag s.trunk.controlSilent ++ encFlag s.trunk.stationSilent
    ++ Bank.all.flatMap (fun b => encFlag (s.banks.get b).isSome ++ encFlag (s.holds b))
    ++ TableKind.all.flatMap (fun k => encU 4 (s.use.get k).generation)
    ++ encFlag s.trunk.restart.isSome ++ encU 4 s.uptime)

/-! ### READ-CHANNELS and READ-ZONES (R161) -/

/-- A channel entry (R161). -/
def State.channelEntry (s : State) (i : Nat) : List Byte :=
  match s.channelRecord i with
  | none => encFlag false
  | some c =>
    let l := s.channelLive i
    encFlag true ++ encFlag l.go ++ enc1 l.mode.number ++ enc1 l.condition.number ++ enc1 l.failures ++ enc1 l.countdown
      ++ encFlag l.handed.isSome ++ enc1 l.pendingCount ++ enc1 l.haltedCycles ++ encFlag (s.isSuspended c)

/-- The response to READ-CHANNELS (R161). -/
def State.readChannelsPayload (s : State) (first count : Nat) : List Byte :=
  if 23 < first ∨ count = 0 ∨ 12 < count then [Status.outOfRange.byte]
  else Status.done.byte :: ((runOf 24 first count).flatMap s.channelEntry ++ enc1 s.line.slots.length)

/-- A heater state with its target or the value seen at a failure (R161). -/
def encHeater : Heater → List Byte
  | .off => enc1 0 ++ encOpt1 none
  | .on => enc1 1 ++ encOpt1 none
  | .commanding t => enc1 2 ++ enc1 (if t then 1 else 0)
  | .failed seen => enc1 3 ++ encOpt1 (seen.map Int.toNat)

/-- A held command: none, OFF or ON (R185). -/
def encHeld : Option Bool → List Byte
  | none => enc1 0
  | some false => enc1 1
  | some true => enc1 2

/-- A zone entry (R161). -/
def State.zoneEntry (s : State) (i : Nat) : List Byte :=
  match s.zoneRecords[i]?, s.frost.zones[i]? with
  | some r, some z =>
    encFlag true ++ enc1 r.kind.number ++ encFlag z.probeRequest ++ encFlag z.request ++ encFlag z.granted
      ++ encHeater z.heater ++ encHeld z.held ++ encFlag z.frozen ++ encFlag z.probeLost
      ++ encSeconds (z.deferredSince.map fun t => s.now - t) ++ encFlag z.budgetShort
  | _, _ => encFlag false

/-- The response to READ-ZONES (R161). -/
def State.readZonesPayload (s : State) : List Byte :=
  Status.done.byte :: ((List.range 8).flatMap s.zoneEntry ++ encU 2 s.frost.budget ++ encFlag s.frost.watch)

/-! ### READ-BANK and CLEAR-BANK (R149, R150) -/

/-- The bank of a number (R185). -/
def Bank.ofNumber (n : Nat) : Option Bank := Bank.all[n]?

/-- The response to READ-BANK (R149). -/
def State.readBankPayload (s : State) (bank : Nat) : List Byte :=
  match Bank.ofNumber bank with
  | none => [Status.outOfRange.byte]
  | some b => Status.done.byte :: (encRecord (s.banks.get b) ++ encFlag (s.holds b))

/-- The notices of a clearing (R150): those to the Fill Planner go as one. R150 names two to the Frost Unit, that the bank is cleared and
that its hold has ended, and does not say whether they are one event: the model sends them as one notice, with one allocation (the
model's choice, assumption 45). -/
def State.clearNotices (b : Bank) (s : State) : State :=
  let four := b == .fill || b == .trunk || b == .level || b == .guard
  let holdGone : List Reason := if four && !s.fourHold then [.bankHold] else []
  let faultGone : List Reason := if b == .fill || b == .line then [.valveFault] else []
  let gone := holdGone ++ faultGone
  let s := if gone = [] then s else s.send .fill (.inhibit [] gone)
  if b = .frost then s.send .frost (.frostBank true (s.holds .frost)) else s

/-- CLEAR-BANK (R150). -/
def State.clearBank (resv bank : Nat) (s : State) : State :=
  match Bank.ofNumber bank with
  | none => s.respond resv [Status.outOfRange.byte]
  | some b =>
    let record := s.banks.get b
    State.clearNotices b ((s.updBanks fun x => x.set b none).respond resv (Status.done.byte :: encRecord record))

/-! ### READ-TRIPS (R162) -/

/-- The contents of a trip-area record, its type first (R162). -/
def encTripEntry : TripEntry → List Byte
  | .trip cause w q p c u => enc1 0 ++ enc1 cause.number ++ encU 2 w ++ enc1 q.number ++ encU 2 p ++ encClock c ++ encU 4 u
  | .marker w c u => enc1 1 ++ encU 2 w ++ encClock c ++ encU 4 u

/-- The intact records, oldest first in programming order: those of the sector that does not hold the newest come first (R162,
R172). -/
def tripsInOrder (slots : List TripSlot) : List (Nat × Nat × TripEntry) :=
  let xs := intactFrom 0 slots
  match newestIntact slots with
  | some (i, _, _) => (xs.filter fun x => x.1 / 4 != i / 4) ++ (xs.filter fun x => x.1 / 4 == i / 4)
  | none => xs

/-- The response to READ-TRIPS (R162). -/
def State.readTripsPayload (s : State) : List Byte :=
  Status.done.byte :: ((tripsInOrder s.nv.slots).flatMap (fun x => enc1 x.1 ++ encTripEntry x.2.2) ++ enc1 s.guard.tripFlag.number)

end Sys2Proof.Machine
end

