-- ==== Sys2Proof/Machine/Trunk.lean ====
section
/-! DEFINITION. The Trunk Port (chapter 9): addressing and dispatch (R153, R154), silence (R155 to R157), the taking of a request
(R138, R158), RESTART (R163) and the SITE_SET swap's silence timers (R165). -/

namespace Sys2Proof.Machine

/-! ### Valid frames and silence (R153 to R157) -/

/-- The partner whose valid frame this is: addressed to the part and from one of the two (R153). -/
def State.partnerOf (s : State) (f : TrunkFrame) : Option Partner :=
  let n := siteNumbers s.tables.siteSet
  if f.dest ≠ n.1 then none
  else if f.source = n.2.1 then some .control
  else if f.source = n.2.2 then some .station
  else none

/-- A valid frame of the control room arrives: its timer restarts and an islanding ends (R155, R156). -/
def State.controlFrame (s : State) : State :=
  let aim := s.now + (siteLimits s.tables.siteSet).1
  let was := s.trunk.islanded
  let s := s.updTrunk fun t => { t with controlAt := some aim, controlSilent := false, islanded := false }
  if was then s.send .telemetry (.islanded false) else s

/-- A valid frame of the pump station arrives (R155, R157). -/
def State.stationFrame (s : State) : State :=
  let aim := s.now + (siteLimits s.tables.siteSet).2
  s.updTrunk fun t => { t with stationAt := some aim, stationSilent := false }

/-- A valid frame of a partner arrives. -/
def State.partnerFrame (p : Partner) (s : State) : State :=
  match p with
  | .control => s.controlFrame
  | .station => s.stationFrame

/-- The control room's silence timer runs out (R156). Where CONTROL_SILENT makes the TRUNK bank hold, the Fill Planner takes BANK_HOLD
before the lapse of the order, so that a FORCED fill is HELD and does not pass through CLOSING; R147 and R156 put both in one event and
give no order (the model's choice, assumption 53). -/
def State.controlSilence (s : State) : State :=
  (((s.updTrunk fun t => { t with controlAt := none, controlSilent := true, islanded := true }).fault .controlSilent
    (some (.partner .control))).send .fill .lapse).send .telemetry (.islanded true)

/-- The pump station's silence timer runs out (R157). -/
def State.stationSilence (s : State) : State :=
  ((s.updTrunk fun t => { t with stationAt := none, stationSilent := true }).fault .stationSilent
    (some (.partner .station))).send .fill (.inhibit [.stationSilent] [])

/-- Whether a valid frame of a partner is dispatched to an owner (R154, R183): a REQUEST of the control room, a STATUS of the pump
station with a payload of 5 bytes. -/
def TrunkFrame.dispatched (f : TrunkFrame) : Partner → Bool
  | .control => f.kind == 0x01#8
  | .station => f.kind == 0x05#8 && f.payload.length == 5

/-- A bad frame is discarded (R152). -/
def State.badFrame (s : State) : State := s.fault .frameCheck none

/-! ### Taking a request (R138, R158) -/

/-- The number of responses and reservations the queue holds at most (R135). -/
def maxResponses : Nat := 5

/-- Whether a response place is free (R138). -/
def State.placeFree (s : State) : Bool := decide (s.out.responses < maxResponses)

/-- A request that finds its place: the frame counts for the silence timer, the place is reserved at the tail, a payload of another
length is answered OUT_OF_RANGE, and otherwise the owner judges it with the number of its reservation (R138, R155, R158). A
request that finds no place has the effects of its frame alone. The STATE report of an islanding that the frame ends joins the queue
when Level Telemetry takes its notice, behind the place reserved here: R138 and R156 give no order (the model's choice, assumption
29). -/
def State.takeRequest (code tag : Byte) (fits : Bool) (owner : Nat → State → State) (s : State) : State :=
  let s := s.controlFrame
  if s.placeFree then
    let resv := s.out.nextResv
    let s := s.updOut (Outbound.reserve code tag)
    if fits then owner resv s else s.respond resv [Status.outOfRange.byte]
  else s

/-- An immediate response with no other effect. -/
def answerWith (payload : State → List Byte) (resv : Nat) (s : State) : State := s.respond resv (payload s)

/-- The byte of a payload at an offset, as a number. -/
def arg (payload : List Byte) (off : Nat) : Nat := fieldU payload off 1

/-- The 2-byte number of a payload at an offset. -/
def arg2 (payload : List Byte) (off : Nat) : Nat := fieldU payload off 2

/-! ### SET-CLOCK and FILL-ORDER (R88, R106) -/

/-- SET-CLOCK (R88). -/
def State.setClockRequest (resv day minute second : Nat) (s : State) : State :=
  if 6 < day ∨ 1439 < minute ∨ 59 < second then s.respond resv [Status.outOfRange.byte]
  else
    State.fillEvent (fun s => ((s.putClock ⟨day, minute, second⟩).recomputeTariff).evaluatePlan false)
      (s.respond resv [Status.done.byte])

/-- FILL-ORDER (R106). -/
def State.fillOrderRequest (resv order : Nat) (s : State) : State :=
  match order with
  | 0 => State.fillEvent State.orderAuto (s.respond resv [Status.done.byte])
  | 1 => State.fillEvent State.orderHold (s.respond resv [Status.done.byte])
  | 2 => State.fillEvent State.orderForce (s.respond resv [Status.done.byte])
  | _ => s.respond resv [Status.outOfRange.byte]

/-! ### RESTART (R163) -/

/-- Whether a restart would lose work of the guard (R163). -/
def State.guardUnsafe (s : State) : Bool := s.guard.tripFlag == .pending || s.guard.reset.isSome

/-- RESTART (R163). -/
def State.restartRequest (resv : Nat) (s : State) : State :=
  if s.guardUnsafe || s.trunk.restart.isSome then s.respond resv [Status.busy.byte]
  else
    let limit := s.now + Config.restartLimitMs
    (s.respond resv [Status.done.byte]).updTrunk fun t => { t with restart := some ⟨some limit, resv, false⟩ }

/-- The time at which the limit of a pending RESTART runs out. -/
def TrunkBlock.limitAt (t : TrunkBlock) : Option Nat := t.restart.bind PendingRestart.limitAt

/-- Whether the event that the restart follows has come (R163). -/
def TrunkBlock.restartDue (t : TrunkBlock) : Bool := t.restart.any PendingRestart.due

/-- The event that the restart follows has come (R163). -/
def State.restartComesDue (s : State) : State :=
  s.updTrunk fun t => { t with restart := t.restart.map fun r => { r with limitAt := none, due := true } }

/-- Whether the pending restart takes place now (R163). -/
def State.restartReady (s : State) : Bool := s.trunk.restartDue && s.out.sending.isNone && !s.guardUnsafe

/-- The Trunk Port sends on; no transmission begins once a restart is due (R139, R163). -/
def State.trunkSettle (s : State) : State := if s.trunk.restartDue then s else s.startTransmission

/-- Whether a place is the response to the pending RESTART. -/
def TrunkBlock.isRestartResponse (t : TrunkBlock) : Place → Bool
  | .response resv _ _ _ => t.restart.any fun r => r.resv == resv
  | .frame _ => false
  | .reservation _ _ _ => false

/-- The last byte of the frame in transmission is handed to the modem (R139, R163). -/
def State.transmissionEnds (x : Sending) (s : State) : State :=
  let last := s.trunk.isRestartResponse x.place
  let s := s.updOut Outbound.finishSending
  if last then s.restartComesDue else s

/-! ### The SITE_SET swap (R165) -/

/-- Both silence timers restart with the new limits (R165). -/
def State.trunkOnSite (s : State) : State :=
  let limits := siteLimits s.tables.siteSet
  let now := s.now
  s.updTrunk fun t => { t with controlAt := some (now + limits.1), stationAt := some (now + limits.2) }

end Sys2Proof.Machine
end

