-- ==== Sys2Proof/Machine/Blocks.lean ====
section
/-! DEFINITION. The delivery of notices within one event (assumption 3), the swap of a table that enters use (R170), and what every
event ends with: the line, the engine and the trunk go on. -/

namespace Sys2Proof.Machine

/-! ### Swaps (R170) -/

/-- A new GUARD_SET enters use for the guard, the Level Unit and the close sequence (R68, R69, R86). The Level Unit recomputes W first, and
the level hold is re-aimed from the record as it stands after that, so that a swap which ends a LOST leaves no hold to run out; R68, R78
and R86 give no order (the model's choice, assumption 38). -/
def State.swapGuardSet (g : GuardSet) (s : State) : State :=
  let old := s.tables.guardSet
  let s := s.updTables fun x => { x with guardSet := some g }
  State.fillEvent (fun s => s) (State.guardOnGuardSet old g (State.levelOnGuardSet old g s))

/-- A new SITE_SET enters use: holds, silence timers, tariff class, budget and report periods (R49, R90, R119, R130, R142, R147,
R153, R165). The budget is recomputed, and an allocation run, under the tariff class as last announced; a class that the new day map
changes is announced by a notice, which recomputes it again (R90, R119 give no order: the model's choice, assumption 36). The notices of
holds that the new settings begin or end are taken after those effects, so that a fill enters or leaves a cheap window, and heaters are
allocated, under the holds as they stood; R142 and R147 judge the holds at once and give their notices no place among the swap's effects
(the model's choice, assumption 36). Level Telemetry takes the new report periods last of all, but before it is handed the items that the
swap changes in other blocks: where the new period has its timer already past, the LEVEL report joins the queue before the STATE report of
the same event. R130 and R132 give no order (the model's choice, assumption 57). -/
def State.swapSiteSet (x : SiteSet) (s : State) : State :=
  let before := s
  let s := State.holdNotices before (s.updTables fun t => { t with siteSet := some x })
  let s := State.fillEvent State.recomputeTariff s.trunkOnSite
  State.telemetryOnSite before (s.setBudget false)

/-- The owner's swap rule (R170). -/
def State.swapTable (d : TableData) (s : State) : State :=
  match d with
  | .points t => s.swapPoints t
  | .map t => s.swapMap t
  | .channels t => s.swapChannels t
  | .strapping t => s.swapStrapping t
  | .guardSet t => s.swapGuardSet t
  | .fillSet t =>
    -- The plan is evaluated before the Frost Unit judges frost watch by the new temperature (R111, R128; the model's choice, assumption 36).
    let s := State.fillEvent (State.swapFillSet t) s
    State.frostSettle s false s
  | .tariff t => State.fillEvent (State.swapTariff t) s
  | .profile t => State.fillEvent (State.swapProfile t) s
  | .zones t => s.swapZones t
  | .siteSet t => s.swapSiteSet t

/-- A header program ends (R170). Its generation is one greater than that of the copy it replaces, the one in use now (chapter 0,
Generation): an earlier header of the kind may have entered use since the close. If that one has taken the last generation, none is
left, and the close is answered STORE_FAULT as R170 does at the close itself (the model's choice, assumption 16). -/
def State.headerEnds (w : TableWork) (count : Nat) (check : Check) (d : TableData) (clamps resv : Nat) (ok : Bool) (s : State) :
    State :=
  let generation := (s.use.get w.kind).generation
  if ok then
    if generation = maxGeneration then s.respond resv [Status.storeFault.byte]
    else ((s.copyEnters w.kind ⟨generation + 1, count, check⟩).swapTable d).respond resv (Status.done.byte :: enc1 clamps)
  else (s.fault .programFail (some (.kind w.kind))).respond resv [Status.storeFault.byte]

/-! ### Notices (R10, R65, R87, R103, R117, R129, R132, R147, R156, R179) -/

/-- The Level Unit takes a notice. -/
def State.levelTakes (n : Notice) (s : State) : State :=
  match n with
  | .points ps sample => s.levelOnPoints ps sample
  | .housing => s.levelOnHousing
  | _ => s

/-- The Overflow Guard takes a notice. -/
def State.guardTakes (n : Notice) (s : State) : State :=
  match n with
  | .points ps _ => s.guardOnPoints ps
  | .level lr _ _ => s.guardOnLevel lr
  | .overflowPipe flag => s.guardOnPipe flag
  | .evaluate => s.guardEvaluate s.level.record
  | .urgentOutcome done => s.guardOnUrgent done
  | .tripWork e slot => s.guardOnTripWork e slot
  | _ => s

/-- The Fill Planner takes a notice. -/
def State.fillTakes (n : Notice) (s : State) : State :=
  match n with
  | .level lr _ _ => State.fillEvent (State.fillOnLevel lr) s
  | .inhibit add remove => State.fillEvent (State.changeInhibit add remove) s
  | .command _ _ target o => State.fillEvent (State.fillOnCommand target o) s
  | .frostWatch watch =>
    State.fillEvent (fun s =>
      if watch = false ∧ s.fill.state = .waitingTurnover then s.windowDecision s.fill.turnoverDone else s) s
  | .lapse => State.fillEvent State.orderLapses s
  | .supply mode _ =>
    State.fillEvent (if mode = .mains then State.changeInhibit [] [.battery] else State.changeInhibit [.battery] []) s
  | _ => s

/-- The Frost Unit takes a notice. -/
def State.frostTakes (n : Notice) (s : State) : State :=
  match n with
  | .points ps _ => s.frostOnPoints ps
  | .command address item target o => s.frostOnCommand address item target o
  | .tariff c => s.frostOnTariff c
  | .supply mode before => s.frostOnSupply mode before
  | .frostBank cleared holds => s.frostOnBank cleared holds
  | _ => s

/-- The Field Line Scheduler takes a notice. -/
def State.lineTakes (n : Notice) (s : State) : State :=
  match n with
  | .points ps _ => s.lineOnPoints ps
  | .supply mode _ => s.lineOnSupply mode
  | _ => s

/-- Level Telemetry takes a notice. -/
def State.telemetryTakes (n : Notice) (s : State) : State :=
  match n with
  | .level lr changed _ => s.telemetryOnLevel lr changed
  | .supply mode _ => s.telemetryOnSupply mode
  | .tariff c => s.passContents fun x => { x with tariff := c }
  | .guardState state cause => s.passContents fun x => { x with guard := state, cause := cause }
  | .projection p => s.updTelemetry fun t => { t with projection := p }
  | .fillItems state purpose order inhibit demand => s.telemetryOnFill state purpose order inhibit demand
  | .station mode available running =>
    s.passContents fun x => { x with stationMode := mode, available := available, running := running }
  | .frostItems frozen granted watch => s.passContents fun x => { x with frozen := frozen, granted := granted, watch := watch }
  | .islanded flag => s.passContents fun x => { x with islanded := flag }
  | .clockSet => s.passContents fun x => { x with clockSet := true }
  | .tripNumber slot => s.tripNumbered slot
  | _ => s

/-- The Table Store takes a notice. -/
def State.storeTakes (n : Notice) (s : State) : State :=
  match n with
  | .supply mode _ => s.storeOnSupply mode
  | _ => s

/-- A block takes a notice. -/
def State.deliver (d : Delivery) (s : State) : State :=
  match d.dest with
  | .level => s.levelTakes d.notice
  | .guard => s.guardTakes d.notice
  | .fill => s.fillTakes d.notice
  | .frost => s.frostTakes d.notice
  | .line => s.lineTakes d.notice
  | .telemetry => s.telemetryTakes d.notice
  | .store => s.storeTakes d.notice

/-- Whether a notice hands Level Telemetry an item of its reports, which it then has (R87, R129, R132). -/
def Notice.isItem : Notice → Bool
  | .guardState _ _ => true | .projection _ => true | .fillItems _ _ _ _ _ => true | .station _ _ _ => true
  | .frostItems _ _ _ => true | .tariff _ => true | .islanded _ => true | .clockSet => true | .tripNumber _ => true
  | .points _ _ => false | .level _ _ _ => false | .housing => false | .overflowPipe _ => false | .evaluate => false
  | .urgentOutcome _ => false | .tripWork _ _ => false | .inhibit _ _ => false | .command _ _ _ _ => false
  | .frostWatch _ => false | .lapse => false | .supply _ _ => false | .frostBank _ _ => false

/-- Whether a notice carries the working level record (R65). -/
def Notice.isLevel : Notice → Bool
  | .level _ _ _ => true
  | _ => false

/-- How soon a notice is taken (assumption 3): an item handed to Level Telemetry at once, so that a report queued by a notice that the
guard has taken first carries that evaluation's P (R129); then the level notices, so that every block has the record that its notice
carries before another recomputation (R65); then the rest. -/
def Delivery.rank (d : Delivery) : Nat :=
  if d.dest == .telemetry && d.notice.isItem then 0 else if d.notice.isLevel then 1 else 2

/-- The notices that may be taken next: those of the lowest rank that waits. -/
def inLine (ds : List Delivery) : List Delivery :=
  let rank := ds.foldl (fun r d => min r d.rank) 2
  ds.filter fun d => d.rank == rank

/-- The first notice with a property, and the rest (each block takes its notices of a rank in the order they were sent). -/
def takeFirst (f : Delivery → Bool) : List Delivery → Option (Delivery × List Delivery)
  | [] => none
  | d :: rest =>
    if f d then some (d, rest)
    else
      match takeFirst f rest with
      | some (e, rest') => some (e, d :: rest')
      | none => none

/-- One delivery: when notices in line are for several blocks, the free value `pick` says which block goes first (assumption 3). -/
def State.deliverOne (pick : Nat → Nat) (s : State) : State :=
  match inLine s.notices with
  | [] => s
  | d :: rest =>
    let several := rest.any fun e => e.dest != d.dest
    let block := if several then ((d :: rest).getD (pick s.draws % (d :: rest).length) d).dest else d.dest
    match takeFirst (fun e => e.rank == d.rank && e.dest == block) s.notices with
    | some (e, others) => State.deliver e { s with notices := others, draws := if several then s.draws + 1 else s.draws }
    | none => s

/-- Deliveries until no notice waits, at most `fuel` of them. -/
def State.drain (pick : Nat → Nat) : Nat → State → State
  | 0, s => s
  | fuel + 1, s => if s.notices = [] then s else State.drain pick fuel (s.deliverOne pick)

/-! ### Events -/

/-- What follows every event: the line, the store engine and the trunk go on (R26, R139, R167). A transmission therefore begins once all
blocks have taken the event's notices, so that a zero demand which the guard places in the same event goes first; when in an event it
begins, R139 does not say (the model's choice, assumption 47). -/
def State.settle (s : State) : State := s.lineSettle.enginePick.trunkSettle

/-- One event of the part: its effect, the notices it raises, and what follows; without power nothing takes place (R180). -/
def State.event (pick : Nat → Nat) (f : State → State) (s : State) : State :=
  if s.powered then (State.drain pick Config.deliveryFuel (f s)).settle else s

/-- One event that may find nothing to act on: then the state stays as it is (assumption 9). -/
def State.eventIf (pick : Nat → Nat) (happens : Bool) (f : State → State) (s : State) : State :=
  if happens then State.event pick f s else s

/-- The expiry of a timer: the event takes place only for the run of the timer that is aimed at `due`, at which internal time has
arrived (R8, R39, R78, R82, R130, R155, assumption 9). -/
def State.expiry (pick : Nat → Nat) (aim : Option Nat) (due : Nat) (f : State → State) (s : State) : State :=
  State.eventIf pick (aim == some due) (fun s => f (s.advanceTo due)) s

/-- A request of the control room (R158). -/
def State.request (pick : Nat → Nat) (code tag : Byte) (fits : Bool) (owner : Nat → State → State) (s : State) : State :=
  State.event pick (State.takeRequest code tag fits owner) s

end Sys2Proof.Machine
end

