-- ==== Sys2Proof/Machine/Startup.lean ====
section
/-! DEFINITION. Power and reset: the loss of power (R180), the power-on reset and the RESTART (R164), the start-up load (R174) and
the start values that each block takes from the tables in use (R66, R85, R95, R103, R113, R117, R130, R132, R135, R151, R165,
R176). Points of order that the manual leaves open follow assumption 18. -/

namespace Sys2Proof.Machine

/-! ### Working memory at its reset values -/

/-- One value for every bank. -/
def PerBank.all {α : Type} (x : α) : PerBank α := ⟨x, x, x, x, x, x, x⟩

/-- One value for every kind. -/
def PerKind.every {α : Type} (x : α) : PerKind α := ⟨x, x, x, x, x, x, x, x, x, x⟩

/-- The state with working memory lost: every block at its reset value, no table in use, time 0. The store, the inputs, the count of
free values drawn and the commands that wait stay (R3, R27, R66, R70, R135, R164, R180). The store stays whole: a load that is open here
and whose erase still waits in the engine's work leaves the old header of the spare copy valid. R168 fixes and erases that copy only when
the erase begins, although R180 says of a load open at a power loss that its spare copy has no valid header (the model's choice,
assumption 58). -/
def State.wiped (powered : Bool) (s : State) : State :=
  { powered := powered
    timeUs := 0
    inputs := s.inputs
    nv := s.nv
    tables := {}
    use := PerKind.every {}
    points := List.replicate 64 {}
    level := resetLevel none
    guard := {}
    fill := {}
    frost := {}
    banks := PerBank.all none
    line := { live := freshLives }
    telemetry := { record := (resetLevel none).record }
    out := {}
    trunk := {}
    supply := {}
    engine := {}
    notices := []
    draws := s.draws
    pending := s.pending }

/-! ### The start-up load (R174) -/

/-- The SITE_SET that the start-up load takes into use, by whose line rate the other kinds are validated (assumption 18). -/
def siteAtStart (nv : NvStore) : Option SiteSet := (loadKinds 0 nv.copies [.siteSet] {} (PerKind.every {})).1.siteSet

/-- The tables and generations that the start-up load puts in use (R174). -/
def startTables (nv : NvStore) : Tables × PerKind KindUse :=
  loadKinds (siteRate (siteAtStart nv)).byteTimeUs nv.copies TableKind.all {} (PerKind.every {})

/-- START_IMAGE_BAD for each kind that is EMPTY after the load, in the order of the kinds (R145, R174). -/
def State.imageFaults (s : State) : State :=
  TableKind.all.foldl (fun s k =>
    if ((s.use.get k).inUse).isNone then s.fault .startImageBad (some (.kind k)) else s) s

/-- The start-up load: tables in use, its faults, and the pre-erase that is due (R174). -/
def State.startLoad (s : State) : State :=
  let t := startTables s.nv
  let due := startPreErase s.nv.slots
  (({ s with tables := t.1, use := t.2 } : State).imageFaults).updEngine fun e => { e with preErase := due }

/-! ### Start values -/

/-- The inhibit set of the start, from the conditions as they stand (R103). -/
def State.startInhibit (s : State) : List Reason :=
  let has (b : Bool) (r : Reason) : List Reason := if b then [r] else []
  has (s.guard.state == .tripped) .guard ++ has s.frost.flags.riser .frozenRiser ++ has s.frost.flags.valveChamber .frozenValve
    ++ has (s.supply.mode != .mains) .battery ++ has s.fourHold .bankHold

/-- The Fill Planner's start values with the DEMAND frame of 0 and the close owed (R88, R90, R95, R100, R107). -/
def State.fillStart (s : State) : State :=
  let rs := s.startInhibit
  let planAt := s.tables.fillSet.map fun f => f.planInterval * 60000
  let s := s.updFill fun f => { f with
    state := if rs = [] then .idle else .held
    inhibit := rs
    planAt := planAt }
  let s := s.queueDemand.closeSequence
  if s.fill.inCheap then s.enterWindow.closeSequence else s

/-- The tariff class and its window at a reset, STANDARD while the clock is UNSET (R90). -/
def State.tariffStart (s : State) : State :=
  let w := currentWindow s.tables.siteSet s.tables.tariff s.clockTime
  s.updFill fun f => { f with tariff := windowClass w, window := w }

/-- The contents of the STATE report as the blocks pass them at the start (R132). -/
def State.startContents (s : State) : StateContents :=
  { guard := s.guard.state
    cause := s.guard.cause
    fill := s.fill.state
    purpose := s.fill.purpose
    order := s.fill.order
    inhibit := s.fill.inhibit
    tariff := s.fill.tariff
    stationMode := none
    available := 0
    running := 0
    frozen := zonesWhere ZoneState.frozen 0 s.frost.zones
    granted := zonesWhere ZoneState.granted 0 s.frost.zones
    watch := s.frost.watch
    supply := s.supply.mode
    islanded := false
    clockSet := s.fill.clock.isSome }

/-- Level Telemetry's start values and the STATE report of the start (R130 to R132). A start in BATTERY_LOW queues it too: R132 says both
that a reset queues one and that in BATTERY_LOW only the announcement of that mode does (the model's choice, assumption 39). -/
def State.telemetryStart (s : State) : State :=
  let contents := s.startContents
  let s := s.updTelemetry fun _ =>
    { record := s.level.record, projection := s.guard.projection, demand := s.fill.demand, contents := contents }
  let aim := if s.supply.mode = .mains then some s.reportPeriod else none
  (s.updTelemetry fun t => { t with periodAt := aim }).queueState

/-- The Trunk Port's silence timers, aimed at the reset plus the limits (R165). -/
def State.trunkStart (s : State) : State := s.trunkOnSite

/-- The scheduler's start values: the line rate and bit order of the SITE_SET in use (R22). -/
def State.lineStart (s : State) : State :=
  let rate := siteRate s.tables.siteSet
  let lsb := siteLsbFirst s.tables.siteSet
  s.updLine fun l => { l with rate := rate, lsbFirst := lsb }

/-- The guard's start: its state from the newest intact record of the trip area, and the debounce of a float that stands active
(R77, R85). -/
def State.guardStartUp (s : State) : State :=
  ((s.guardStart ((newestIntact s.nv.slots).map fun x => x.2.2))).floatInput s.inputs.float

/-- The acts of a start over a state whose clock and banks are those the reset leaves (R174, assumption 18): the Supply Monitor reads
its inputs, the load puts the tables in use, and each block takes its start values. The notices that the blocks send one another as
start values are those the values themselves are built from, and none is left. -/
def State.startUp (s : State) : State :=
  let s := s.updSupply fun _ => supplyStart s.inputs
  let s := s.startLoad.lineStart.trunkStart
  let s := s.tariffStart
  let s := s.frostStart (s.holds .frost)
  let s := s.updLevel fun _ => resetLevel s.tables.strapping
  let s := s.guardStartUp
  let s := s.fillStart.allocate.telemetryStart
  { s with notices := [] }

/-! ### Resets (R164) -/

/-- The power-on reset: every record of working memory takes its reset value, and the start-up load runs. -/
def State.powerOn (s : State) : State := (s.wiped true).startUp

/-- A clock kept over a RESTART: it goes on counting, and its next clock-minute event comes when its own second 59 has passed, whatever
events of the time before were still to be taken (R88, R164). -/
def ClockState.rebased (c : ClockState) : ClockState :=
  { c with minuteAt := (60 - c.time.second) * 1000 - c.subMs }

/-- The restart: a reset that keeps the clock and the fault banks (R164). -/
def State.restarted (s : State) : State :=
  let clock := s.fill.clock.map ClockState.rebased
  let banks := s.banks
  (((s.wiped true).updFill fun f => { f with clock := clock }).updBanks fun _ => banks).startUp

/-! ### Loss of power (R180) -/

/-- The part loses power altogether: working memory is lost. -/
def State.powerLost (s : State) : State := s.wiped false

/-- Whether the contact of the trip line is open: with the trip line asserted, or without power (R80, R186). -/
def State.contactOpen (s : State) : Bool := !s.powered || s.guard.tripLine

end Sys2Proof.Machine
end

