-- ==== Sys2Proof/Machine/Resets.lean ====
section
/-! DEFINITION. Meanings of the commands of power and reset (R163, R164, R180). -/

namespace Sys2Proof.Machine

/-- POWER_ON_RESET (R164): the reset takes place from any state, unpowered or not. -/
def execPowerOnReset (s : State) : Host.Outcome State Fault Refusal := .next s.powerOn.settle

/-- RESTART (R163). -/
def execRestart (tag : Byte) (payload : List Byte) (s : State) : Host.Outcome State Fault Refusal :=
  .next (State.request Config.pick 0x22#8 tag (payload.length == 0) State.restartRequest s)

/-- RESTART_LIMIT_EXPIRY (R163): the event that the restart follows has come. -/
def execRestartLimitExpiry (due : Nat) (s : State) : Host.Outcome State Fault Refusal :=
  .next (State.expiry Config.pick s.trunk.limitAt due State.restartComesDue s)

/-- RESTART_PERFORM (R164): a restart that is due takes place once no transmission, trip record or guard reset must end first
(R163). -/
def execRestartPerform (s : State) : Host.Outcome State Fault Refusal :=
  .next (if s.powered && s.restartReady then s.restarted.settle else s)

/-- POWER_LOSS (R180). -/
def execPowerLoss (s : State) : Host.Outcome State Fault Refusal := .next s.powerLost

end Sys2Proof.Machine
end

