-- ==== Sys2Proof/Machine/InputEvents.lean ====
section
/-! DEFINITION. Meanings of the input changes and of the counts that debounce them (R77, R139, R171, R177, R178), and of the end of a
transmission (R139). An input that already stands at the level named does not change. Without power the part tracks no input, and
only the level of the pin is kept. -/

namespace Sys2Proof.Machine

/-- MAINS_INPUT_CHANGE (R177). -/
def execMainsInputChange (active : Bool) (s : State) : Host.Outcome State Fault Refusal :=
  .next (if s.inputs.mains = active then s
    else if s.powered then State.event Config.pick (State.mainsInput active) s
    else s.updInputs fun i => { i with mains := active })

/-- MAINS_LOSS_COUNT_EXPIRY (R177). -/
def execMainsLossCountExpiry (due : Nat) (s : State) : Host.Outcome State Fault Refusal :=
  .next (State.expiry Config.pick s.supply.lossAt due State.mainsLost s)

/-- MAINS_RETURN_COUNT_EXPIRY (R177). -/
def execMainsReturnCountExpiry (due : Nat) (s : State) : Host.Outcome State Fault Refusal :=
  .next (State.expiry Config.pick s.supply.returnAt due State.mainsReturned s)

/-- BATTERY_LOW_INPUT_CHANGE (R178). -/
def execBatteryLowInputChange (active : Bool) (s : State) : Host.Outcome State Fault Refusal :=
  .next (if s.inputs.batteryLow = active then s
    else if s.powered then State.event Config.pick (State.batteryInput active) s
    else s.updInputs fun i => { i with batteryLow := active })

/-- BATTERY_LOW_COUNT_EXPIRY (R178). -/
def execBatteryLowCountExpiry (due : Nat) (s : State) : Host.Outcome State Fault Refusal :=
  .next (State.expiry Config.pick s.supply.lowAt due State.batteryDebounced s)

/-- The float input takes a level, and its debounce follows it (R77). -/
def State.floatChange (active : Bool) (s : State) : State :=
  (s.updInputs fun i => { i with float := active }).floatInput active

/-- FLOAT_INPUT_CHANGE (R77). -/
def execFloatInputChange (active : Bool) (s : State) : Host.Outcome State Fault Refusal :=
  .next (if s.inputs.float = active then s
    else if s.powered then State.event Config.pick (State.floatChange active) s
    else s.updInputs fun i => { i with float := active })

/-- FLOAT_DEBOUNCE_EXPIRY (R77). -/
def execFloatDebounceExpiry (due : Nat) (s : State) : Host.Outcome State Fault Refusal :=
  .next (State.expiry Config.pick s.guard.floatAt due State.floatDebounced s)

/-- PROTECT_INPUT_CHANGE (R171). -/
def execProtectInputChange (active : Bool) (s : State) : Host.Outcome State Fault Refusal :=
  .next (if s.inputs.protect = active then s
    else if s.powered then State.event Config.pick (State.protectChange active) s
    else s.updInputs fun i => { i with protect := active })

/-- CLEAR_TO_SEND_CHANGE (R139): the Trunk Port goes on at the end of the event. -/
def execClearToSendChange (asserted : Bool) (s : State) : Host.Outcome State Fault Refusal :=
  .next (if s.inputs.clearToSend = asserted then s
    else if s.powered then State.event Config.pick (State.updInputs fun i => { i with clearToSend := asserted }) s
    else s.updInputs fun i => { i with clearToSend := asserted })

/-- TRANSMISSION_END (R139): nothing ends while no frame is in transmission. -/
def execTransmissionEnd (s : State) : Host.Outcome State Fault Refusal :=
  .next (match s.out.sending with
    | some x => State.event Config.pick (State.transmissionEnds x) s
    | none => s)

end Sys2Proof.Machine
end

