-- ==== Sys2Proof/Machine/LineEvents.lean ====
section
/-! DEFINITION. Meanings of the field line's events (R24, R25) and of the timers of the points and the command list (R8, R40). -/

namespace Sys2Proof.Machine

/-- LINE_CYCLE_START (R25): internal time has reached the time at which the cycle comes due. A start put off behind a transaction
takes place at that transaction's end, and the command finds nothing to do. -/
def execLineCycleStart (s : State) : Host.Outcome State Fault Refusal :=
  .next (State.eventIf Config.pick (!s.line.late) (fun s => (s.advanceUs s.cycleDueUs).cycleComesDue) s)

/-- The transaction in flight ends `elapsedUs` after its start with the judgment of the bytes that came (R24). -/
def State.replyEnds (t : Transaction) (frame : List Byte) (elapsedUs : Nat) (s : State) : State :=
  (s.advanceUs (t.startUs + elapsedUs)).transactionEnds t (judgeReply t frame)

/-- FIELD_REPLY_RECEIVED (R24): there is no reply without a transaction in flight, nor without a byte. -/
def execFieldReplyReceived (frame : List Byte) (elapsedUs : Nat) (s : State) : Host.Outcome State Fault Refusal :=
  .next (match s.line.inFlight with
    | some t => State.eventIf Config.pick (frame != []) (State.replyEnds t frame elapsedUs) s
    | none => s)

/-- FIELD_REPLY_QUIET_END (R24): the bytes that came before the quiet are judged as the frame. -/
def execFieldReplyQuietEnd (frame : List Byte) (elapsedUs : Nat) (s : State) : Host.Outcome State Fault Refusal :=
  .next (match s.line.inFlight with
    | some t => State.eventIf Config.pick (frame != []) (State.replyEnds t frame elapsedUs) s
    | none => s)

/-- FIELD_REPLY_WINDOW_EXPIRY (R24). -/
def execFieldReplyWindowExpiry (s : State) : Host.Outcome State Fault Refusal :=
  .next (match s.line.inFlight with
    | some t => State.event Config.pick (fun s => (s.advanceUs t.windowEndUs).transactionEnds t .noReply) s
    | none => s)

/-- POINT_STALE_EXPIRY (R8). -/
def execPointStaleExpiry (point due : Nat) (s : State) : Host.Outcome State Fault Refusal :=
  .next (State.expiry Config.pick (s.point point).staleAt due (State.pointStale point) s)

/-- COMMAND_CONFIRM_DEADLINE_EXPIRY (R40). -/
def execCommandConfirmDeadlineExpiry (address item due : Nat) (s : State) : Host.Outcome State Fault Refusal :=
  .next (State.expiry Config.pick (s.commandDeadline address item) due (State.deadlinePasses address item) s)

end Sys2Proof.Machine
end

