-- ==== Sys2Proof/Machine/GuardEvents.lean ====
section
/-! DEFINITION. Meanings of the guard's timers (R78, R82) and of GUARD-RESET (R83). -/

namespace Sys2Proof.Machine

/-- LEVEL_HOLD_EXPIRY (R78). -/
def execLevelHoldExpiry (due : Nat) (s : State) : Host.Outcome State Fault Refusal :=
  .next (State.expiry Config.pick s.guard.holdAt due State.levelHoldEnds s)

/-- VALVE_CONFIRM_DEADLINE_EXPIRY (R82). -/
def execValveConfirmDeadlineExpiry (due : Nat) (s : State) : Host.Outcome State Fault Refusal :=
  .next (State.expiry Config.pick s.guard.watch.deadlineAt due State.valveDeadline s)

/-- VALVE_CLOSE_REPEAT_EXPIRY (R82). -/
def execValveCloseRepeatExpiry (due : Nat) (s : State) : Host.Outcome State Fault Refusal :=
  .next (State.expiry Config.pick s.guard.watch.repeatTime due State.valveRepeat s)

/-- VALVE_CLOSE_RETRY_EXPIRY (R82). -/
def execValveCloseRetryExpiry (due : Nat) (s : State) : Host.Outcome State Fault Refusal :=
  .next (State.expiry Config.pick s.guard.watch.retryTime due State.valveRetry s)

/-- GUARD_RESET (R83). -/
def execGuardReset (tag : Byte) (payload : List Byte) (s : State) : Host.Outcome State Fault Refusal :=
  .next (State.request Config.pick 0x20#8 tag (payload.length == 0) (fun resv => State.guardResetRequest resv tag) s)

end Sys2Proof.Machine
end

