-- ==== Sys2Proof/Machine/FillEvents.lean ====
section
/-! DEFINITION. Meanings of the Fill Planner's events: the clock (R88), the plan interval (R93), the FORCE and FILL-ORDER (R106), the
stop wait (R100), the DEMAND renewal (R107), the rise check (R110) and the station's STATUS (R108). -/

namespace Sys2Proof.Machine

/-- CLOCK_MINUTE (R88). -/
def execClockMinute (due : Nat) (s : State) : Host.Outcome State Fault Refusal :=
  .next (State.expiry Config.pick (s.fill.clock.map ClockState.minuteAt) due (State.fillEvent State.newMinute) s)

/-- SET_CLOCK (R88). -/
def execSetClock (tag : Byte) (payload : List Byte) (s : State) : Host.Outcome State Fault Refusal :=
  .next (State.request Config.pick 0x1F#8 tag (payload.length == 4)
    (fun resv => State.setClockRequest resv (arg payload 0) (arg2 payload 1) (arg payload 3)) s)

/-- PLAN_INTERVAL_EXPIRY (R93). -/
def execPlanIntervalExpiry (due : Nat) (s : State) : Host.Outcome State Fault Refusal :=
  .next (State.expiry Config.pick s.fill.planAt due (State.fillEvent (State.evaluatePlan false)) s)

/-- FORCE_EXPIRY (R106): the end of the FORCE counts as the end of the cheap window. -/
def execForceExpiry (due : Nat) (s : State) : Host.Outcome State Fault Refusal :=
  .next (State.expiry Config.pick s.fill.forceEnd due (State.fillEvent (State.replaceOrder .auto)) s)

/-- STOP_WAIT_EXPIRY (R100): the close sequence goes on, its stop wait having passed. -/
def execStopWaitExpiry (due : Nat) (s : State) : Host.Outcome State Fault Refusal :=
  .next (State.expiry Config.pick s.fill.stopAt due (State.fillEvent fun s => s) s)

/-- The time that a renewal expiry must name: that of the timer, or any while no period is in use (R107, assumption 6). -/
def RenewalTimer.aim (due : Nat) : RenewalTimer → Option Nat
  | .aimed t => some t
  | .openPeriod => some due

/-- DEMAND_RENEWAL_EXPIRY (R107). -/
def execDemandRenewalExpiry (due : Nat) (s : State) : Host.Outcome State Fault Refusal :=
  .next (State.expiry Config.pick (s.fill.renewal.aim due) due (State.fillEvent State.queueDemand) s)

/-- RISE_CHECK_EXPIRY (R110). -/
def execRiseCheckExpiry (due : Nat) (s : State) : Host.Outcome State Fault Refusal :=
  .next (match s.fill.rise with
    | some check => State.expiry Config.pick (some check.judgeAt) due (State.fillEvent (State.judgeRise check)) s
    | none => s)

/-- FILL_ORDER (R106). -/
def execFillOrder (tag : Byte) (payload : List Byte) (s : State) : Host.Outcome State Fault Refusal :=
  .next (State.request Config.pick 0x21#8 tag (payload.length == 1)
    (fun resv => State.fillOrderRequest resv (arg payload 0)) s)

/-- STATION_STATUS (R108): a valid frame of the pump station, handed to the Fill Planner. -/
def execStationStatus (echoed mode available running : Byte) (flow : BitVec 16) (s : State) :
    Host.Outcome State Fault Refusal :=
  .next (State.event Config.pick
    (fun s => State.fillEvent (State.takeStatus (stationCopy echoed mode available running flow)) s.stationFrame) s)

end Sys2Proof.Machine
end

