-- ==== Sys2Proof/Machine/ReportEvents.lean ====
section
/-! DEFINITION. Meanings of the deferral timer (R125), the period timer of the LEVEL report (R130), and the trunk's frames and silence
timers (R152 to R158). -/

namespace Sys2Proof.Machine

/-- DEFERRAL_EXPIRY (R125). -/
def execDeferralExpiry (zone due : Nat) (s : State) : Host.Outcome State Fault Refusal :=
  .next (State.expiry Config.pick (s.deferralAim zone) due (State.deferralEnds zone) s)

/-- LEVEL_PERIOD_EXPIRY (R130). -/
def execLevelPeriodExpiry (due : Nat) (s : State) : Host.Outcome State Fault Refusal :=
  .next (State.expiry Config.pick s.telemetry.periodAt due State.queueLevel s)

/-- TRUNK_BAD_FRAME (R152): bytes that do not end as a bad frame are none. -/
def execTrunkBadFrame (frame : List Byte) (s : State) : Host.Outcome State Fault Refusal :=
  .next (State.eventIf Config.pick (readTrunk frame == .bad) State.badFrame s)

/-- TRUNK_BYTE_TIMEOUT (R152): a frame that has begun and not ended is a bad frame. -/
def execTrunkByteTimeout (frame : List Byte) (s : State) : Host.Outcome State Fault Refusal :=
  .next (State.eventIf Config.pick (trunkBegun frame) State.badFrame s)

/-- TRUNK_FRAME_IGNORED (R153): an ignored frame is not logged, restarts no timer and is not answered. -/
def execTrunkFrameIgnored (_frame : List Byte) (s : State) : Host.Outcome State Fault Refusal := .next s

/-- TRUNK_FRAME_UNKNOWN_KIND (R154): the discarded frame counts for its partner's silence timer. -/
def execTrunkFrameUnknownKind (frame : List Byte) (s : State) : Host.Outcome State Fault Refusal :=
  .next (match readTrunk frame with
    | .good f =>
      match s.partnerOf f with
      | some p =>
        State.eventIf Config.pick (!f.dispatched p) (fun s => (s.partnerFrame p).fault .unknownKind none) s
      | none => s
    | .bad => s
    | .incomplete => s)

/-- REQUEST_NO_PLACE (R138): a request that finds no place has the effects of its frame alone. -/
def execRequestNoPlace (_code _tag : Byte) (_payload : List Byte) (s : State) : Host.Outcome State Fault Refusal :=
  .next (State.eventIf Config.pick (!s.placeFree) State.controlFrame s)

/-- Whether a code is one of the catalogue (R183). -/
def knownCode (code : Byte) : Bool := decide (0x10 ≤ code.toNat ∧ code.toNat ≤ 0x22)

/-- REQUEST_UNKNOWN_CODE (R158): the request is answered UNKNOWN_KIND, and UNKNOWN_KIND is logged. -/
def execRequestUnknownCode (code tag : Byte) (_payload : List Byte) (s : State) : Host.Outcome State Fault Refusal :=
  .next (State.eventIf Config.pick (!knownCode code)
    (State.takeRequest code tag true fun resv s => (s.respond resv [Status.unknownKind.byte]).fault .unknownKind none) s)

/-- CONTROL_SILENCE_EXPIRY (R156). -/
def execControlSilenceExpiry (due : Nat) (s : State) : Host.Outcome State Fault Refusal :=
  .next (State.expiry Config.pick s.trunk.controlAt due State.controlSilence s)

/-- STATION_SILENCE_EXPIRY (R157). -/
def execStationSilenceExpiry (due : Nat) (s : State) : Host.Outcome State Fault Refusal :=
  .next (State.expiry Config.pick s.trunk.stationAt due State.stationSilence s)

end Sys2Proof.Machine
end

