-- ==== Sys2Proof/Machine/Requests.lean ====
section
/-! DEFINITION. Meanings of the requests that read the part, of CLEAR-BANK, of the table load, of the channels and of FIELD-PASS
(chapter 9; codes and payload lengths from R183). -/

namespace Sys2Proof.Machine

/-- READ_POINTS (R18). -/
def execReadPoints (tag : Byte) (payload : List Byte) (s : State) : Host.Outcome State Fault Refusal :=
  .next (State.request Config.pick 0x10#8 tag (payload.length == 2)
    (answerWith fun s => s.readPointsPayload (arg payload 0) (arg payload 1)) s)

/-- READ_STATE (R160). -/
def execReadState (tag : Byte) (payload : List Byte) (s : State) : Host.Outcome State Fault Refusal :=
  .next (State.request Config.pick 0x11#8 tag (payload.length == 0) (answerWith State.readStatePayload) s)

/-- READ_CHANNELS (R161). -/
def execReadChannels (tag : Byte) (payload : List Byte) (s : State) : Host.Outcome State Fault Refusal :=
  .next (State.request Config.pick 0x12#8 tag (payload.length == 2)
    (answerWith fun s => s.readChannelsPayload (arg payload 0) (arg payload 1)) s)

/-- READ_ZONES (R161). -/
def execReadZones (tag : Byte) (payload : List Byte) (s : State) : Host.Outcome State Fault Refusal :=
  .next (State.request Config.pick 0x13#8 tag (payload.length == 0) (answerWith State.readZonesPayload) s)

/-- READ_BANK (R149). -/
def execReadBank (tag : Byte) (payload : List Byte) (s : State) : Host.Outcome State Fault Refusal :=
  .next (State.request Config.pick 0x14#8 tag (payload.length == 1)
    (answerWith fun s => s.readBankPayload (arg payload 0)) s)

/-- CLEAR_BANK (R150). -/
def execClearBank (tag : Byte) (payload : List Byte) (s : State) : Host.Outcome State Fault Refusal :=
  .next (State.request Config.pick 0x15#8 tag (payload.length == 1)
    (fun resv => State.clearBank resv (arg payload 0)) s)

/-- READ_TRIPS (R162). -/
def execReadTrips (tag : Byte) (payload : List Byte) (s : State) : Host.Outcome State Fault Refusal :=
  .next (State.request Config.pick 0x16#8 tag (payload.length == 0) (answerWith State.readTripsPayload) s)

/-- TABLE_READ (R175). -/
def execTableRead (tag : Byte) (payload : List Byte) (s : State) : Host.Outcome State Fault Refusal :=
  .next (State.request Config.pick 0x17#8 tag (payload.length == 2)
    (answerWith fun s => s.readTable (arg payload 0) (arg payload 1)) s)

/-- TABLE_OPEN (R168). -/
def execTableOpen (tag : Byte) (payload : List Byte) (s : State) : Host.Outcome State Fault Refusal :=
  .next (State.request Config.pick 0x18#8 tag (payload.length == 1)
    (fun resv => State.openTable resv (arg payload 0)) s)

/-- Whether a TABLE-WRITE payload holds a kind, an index and a record of the kind's length (R183); a kind that is none of the ten has
no record length. -/
def writeFits (payload : List Byte) : Bool :=
  match TableKind.ofNumber (arg payload 0) with
  | some k => payload.length == 2 + k.recordLength
  | none => false

/-- TABLE_WRITE (R169). -/
def execTableWrite (tag : Byte) (payload : List Byte) (s : State) : Host.Outcome State Fault Refusal :=
  .next (State.request Config.pick 0x19#8 tag (writeFits payload)
    (fun resv => State.writeTable resv (arg payload 0) (arg payload 1) (payload.drop 2)) s)

/-- TABLE_CLOSE (R170). -/
def execTableClose (tag : Byte) (payload : List Byte) (s : State) : Host.Outcome State Fault Refusal :=
  .next (State.request Config.pick 0x1A#8 tag (payload.length == 4)
    (fun resv => State.closeTable resv (arg payload 0) (arg payload 1) (BitVec.ofNat 16 (arg2 payload 2))) s)

/-- TABLE_ABANDON (R171). -/
def execTableAbandon (tag : Byte) (payload : List Byte) (s : State) : Host.Outcome State Fault Refusal :=
  .next (State.request Config.pick 0x1B#8 tag (payload.length == 1)
    (fun resv => State.abandonTable resv (arg payload 0)) s)

/-- CHANNEL_START (R33). -/
def execChannelStart (tag : Byte) (payload : List Byte) (s : State) : Host.Outcome State Fault Refusal :=
  .next (State.request Config.pick 0x1C#8 tag (payload.length == 1)
    (fun resv => State.startChannel resv (arg payload 0)) s)

/-- CHANNEL_STOP (R33). -/
def execChannelStop (tag : Byte) (payload : List Byte) (s : State) : Host.Outcome State Fault Refusal :=
  .next (State.request Config.pick 0x1D#8 tag (payload.length == 1)
    (fun resv => State.stopChannel resv (arg payload 0)) s)

/-- The WAKE flag of a FIELD-PASS (R183, assumption 19). -/
def passWake (n : Nat) : Bool := if n = 0 then false else if n = 1 then true else Config.oddWake n

/-- FIELD_PASS (R43). -/
def execFieldPass (tag : Byte) (payload : List Byte) (s : State) : Host.Outcome State Fault Refusal :=
  .next (State.request Config.pick 0x1E#8 tag (payload.length == 7)
    (fun resv => State.passRequestTaken resv (payload.getD 0 0#8) (arg payload 1) (arg payload 2) (passWake (arg payload 3))
      (arg payload 4) (arg2 payload 5)) s)

end Sys2Proof.Machine
end

