-- ==== Sys2Proof/Machine/StoreEvents.lean ====
section
/-! DEFINITION. Meanings of the ends of the store engine's work (R168 to R170, R173). The end of a work that the engine is not doing
finds nothing to act on. Internal time has reached the end of the work (R167). -/

namespace Sys2Proof.Machine

/-- The engine's work ends at its time, and the engine is free for what follows (R167). -/
def State.jobEnds (done : Nat) (f : State → State) (s : State) : State := f (s.advanceTo done).engineFree

/-- TABLE_ERASE_COMPLETE (R168). -/
def execTableEraseComplete (ok : Bool) (s : State) : Host.Outcome State Fault Refusal :=
  .next (match s.engine.busy with
    | some ⟨.table w ended, done⟩ =>
      match w.job with
      | .erase resv => State.event Config.pick (State.jobEnds done (State.eraseEnds w resv ended ok)) s
      | .record _ _ => s
      | .header _ _ _ _ _ => s
    | some ⟨.trip _ _, _⟩ => s
    | some ⟨.preErase _, _⟩ => s
    | none => s)

/-- TABLE_RECORD_PROGRAMMED (R169). -/
def execTableRecordProgrammed (ok : Bool) (s : State) : Host.Outcome State Fault Refusal :=
  .next (match s.engine.busy with
    | some ⟨.table w ended, done⟩ =>
      match w.job with
      | .record bytes resvs => State.event Config.pick (State.jobEnds done (State.recordEnds w bytes resvs ended ok)) s
      | .erase _ => s
      | .header _ _ _ _ _ => s
    | some ⟨.trip _ _, _⟩ => s
    | some ⟨.preErase _, _⟩ => s
    | none => s)

/-- TABLE_HEADER_PROGRAMMED (R170). -/
def execTableHeaderProgrammed (ok : Bool) (s : State) : Host.Outcome State Fault Refusal :=
  .next (match s.engine.busy with
    | some ⟨.table w _, done⟩ =>
      match w.job with
      | .header count check d clamps resv =>
        State.event Config.pick (State.jobEnds done (State.headerEnds w count check d clamps resv ok)) s
      | .erase _ => s
      | .record _ _ => s
    | some ⟨.trip _ _, _⟩ => s
    | some ⟨.preErase _, _⟩ => s
    | none => s)

/-- TRIP_WORK_PROGRAMMED (R173). -/
def execTripWorkProgrammed (ok : Bool) (s : State) : Host.Outcome State Fault Refusal :=
  .next (match s.engine.busy with
    | some ⟨.trip slot entry, done⟩ => State.event Config.pick (State.jobEnds done (State.tripProgramEnds slot entry ok)) s
    | some ⟨.table _ _, _⟩ => s
    | some ⟨.preErase _, _⟩ => s
    | none => s)

/-- TRIP_PRE_ERASE_COMPLETE (R173). -/
def execTripPreEraseComplete (ok : Bool) (s : State) : Host.Outcome State Fault Refusal :=
  .next (match s.engine.busy with
    | some ⟨.preErase sector, done⟩ => State.event Config.pick (State.jobEnds done (State.preEraseEnds sector ok)) s
    | some ⟨.table _ _, _⟩ => s
    | some ⟨.trip _ _, _⟩ => s
    | none => s)

end Sys2Proof.Machine
end

