-- ==== Sys2Proof/Machine/Dispatch.lean ====
section
/-! DEFINITION. The dispatch of commands: one arm for each constructor of `Instr`, one direct call of its meaning. -/

namespace Sys2Proof.Machine

/-- The effect of a command on everything but the queue of waiting commands. -/
def exec (i : Instr) (s : State) : Host.Outcome State Fault Refusal :=
  match i with
  | .powerOnReset => Sys2Proof.Machine.execPowerOnReset s
  | .restart tag payload => Sys2Proof.Machine.execRestart tag payload s
  | .restartLimitExpiry due => Sys2Proof.Machine.execRestartLimitExpiry due s
  | .restartPerform => Sys2Proof.Machine.execRestartPerform s
  | .mainsInputChange active => Sys2Proof.Machine.execMainsInputChange active s
  | .mainsLossCountExpiry due => Sys2Proof.Machine.execMainsLossCountExpiry due s
  | .mainsReturnCountExpiry due => Sys2Proof.Machine.execMainsReturnCountExpiry due s
  | .batteryLowInputChange active => Sys2Proof.Machine.execBatteryLowInputChange active s
  | .batteryLowCountExpiry due => Sys2Proof.Machine.execBatteryLowCountExpiry due s
  | .floatInputChange active => Sys2Proof.Machine.execFloatInputChange active s
  | .floatDebounceExpiry due => Sys2Proof.Machine.execFloatDebounceExpiry due s
  | .protectInputChange active => Sys2Proof.Machine.execProtectInputChange active s
  | .clearToSendChange asserted => Sys2Proof.Machine.execClearToSendChange asserted s
  | .transmissionEnd => Sys2Proof.Machine.execTransmissionEnd s
  | .lineCycleStart => Sys2Proof.Machine.execLineCycleStart s
  | .fieldReplyReceived frame elapsedUs => Sys2Proof.Machine.execFieldReplyReceived frame elapsedUs s
  | .fieldReplyQuietEnd frame elapsedUs => Sys2Proof.Machine.execFieldReplyQuietEnd frame elapsedUs s
  | .fieldReplyWindowExpiry => Sys2Proof.Machine.execFieldReplyWindowExpiry s
  | .pointStaleExpiry point due => Sys2Proof.Machine.execPointStaleExpiry point due s
  | .commandConfirmDeadlineExpiry address item due => Sys2Proof.Machine.execCommandConfirmDeadlineExpiry address item due s
  | .levelHoldExpiry due => Sys2Proof.Machine.execLevelHoldExpiry due s
  | .valveConfirmDeadlineExpiry due => Sys2Proof.Machine.execValveConfirmDeadlineExpiry due s
  | .valveCloseRepeatExpiry due => Sys2Proof.Machine.execValveCloseRepeatExpiry due s
  | .valveCloseRetryExpiry due => Sys2Proof.Machine.execValveCloseRetryExpiry due s
  | .guardReset tag payload => Sys2Proof.Machine.execGuardReset tag payload s
  | .clockMinute due => Sys2Proof.Machine.execClockMinute due s
  | .setClock tag payload => Sys2Proof.Machine.execSetClock tag payload s
  | .planIntervalExpiry due => Sys2Proof.Machine.execPlanIntervalExpiry due s
  | .forceExpiry due => Sys2Proof.Machine.execForceExpiry due s
  | .stopWaitExpiry due => Sys2Proof.Machine.execStopWaitExpiry due s
  | .demandRenewalExpiry due => Sys2Proof.Machine.execDemandRenewalExpiry due s
  | .riseCheckExpiry due => Sys2Proof.Machine.execRiseCheckExpiry due s
  | .fillOrder tag payload => Sys2Proof.Machine.execFillOrder tag payload s
  | .stationStatus echoed mode available running flow => Sys2Proof.Machine.execStationStatus echoed mode available running flow s
  | .deferralExpiry zone due => Sys2Proof.Machine.execDeferralExpiry zone due s
  | .levelPeriodExpiry due => Sys2Proof.Machine.execLevelPeriodExpiry due s
  | .trunkBadFrame frame => Sys2Proof.Machine.execTrunkBadFrame frame s
  | .trunkByteTimeout frame => Sys2Proof.Machine.execTrunkByteTimeout frame s
  | .trunkFrameIgnored frame => Sys2Proof.Machine.execTrunkFrameIgnored frame s
  | .trunkFrameUnknownKind frame => Sys2Proof.Machine.execTrunkFrameUnknownKind frame s
  | .requestNoPlace code tag payload => Sys2Proof.Machine.execRequestNoPlace code tag payload s
  | .requestUnknownCode code tag payload => Sys2Proof.Machine.execRequestUnknownCode code tag payload s
  | .controlSilenceExpiry due => Sys2Proof.Machine.execControlSilenceExpiry due s
  | .stationSilenceExpiry due => Sys2Proof.Machine.execStationSilenceExpiry due s
  | .readPoints tag payload => Sys2Proof.Machine.execReadPoints tag payload s
  | .readState tag payload => Sys2Proof.Machine.execReadState tag payload s
  | .readChannels tag payload => Sys2Proof.Machine.execReadChannels tag payload s
  | .readZones tag payload => Sys2Proof.Machine.execReadZones tag payload s
  | .readBank tag payload => Sys2Proof.Machine.execReadBank tag payload s
  | .clearBank tag payload => Sys2Proof.Machine.execClearBank tag payload s
  | .readTrips tag payload => Sys2Proof.Machine.execReadTrips tag payload s
  | .tableRead tag payload => Sys2Proof.Machine.execTableRead tag payload s
  | .tableOpen tag payload => Sys2Proof.Machine.execTableOpen tag payload s
  | .tableWrite tag payload => Sys2Proof.Machine.execTableWrite tag payload s
  | .tableClose tag payload => Sys2Proof.Machine.execTableClose tag payload s
  | .tableAbandon tag payload => Sys2Proof.Machine.execTableAbandon tag payload s
  | .channelStart tag payload => Sys2Proof.Machine.execChannelStart tag payload s
  | .channelStop tag payload => Sys2Proof.Machine.execChannelStop tag payload s
  | .fieldPass tag payload => Sys2Proof.Machine.execFieldPass tag payload s
  | .tableEraseComplete ok => Sys2Proof.Machine.execTableEraseComplete ok s
  | .tableRecordProgrammed ok => Sys2Proof.Machine.execTableRecordProgrammed ok s
  | .tableHeaderProgrammed ok => Sys2Proof.Machine.execTableHeaderProgrammed ok s
  | .tripWorkProgrammed ok => Sys2Proof.Machine.execTripWorkProgrammed ok s
  | .tripPreEraseComplete ok => Sys2Proof.Machine.execTripPreEraseComplete ok s
  | .powerLoss => Sys2Proof.Machine.execPowerLoss s

end Sys2Proof.Machine
end

