-- ==== Sys2Proof/Machine/Idle.lean ====
section
/-! DEFINITION. What the block does by itself on an empty queue (assumption 10): internal time goes on, and the events that its own
timers have brought due are put in the queue. The events that something outside the part brings about (a reply or its absence, the
end of a transmission, the end of work in the store) are commands of their own and are never put there. -/

namespace Sys2Proof.Machine

/-- The command of a timer that is due, its aim being at or before the present internal time. -/
def dueOf (now : Nat) (aim : Option Nat) (c : Nat → Instr) : List Instr :=
  match aim with
  | some t => if t ≤ now then [c t] else []
  | none => []

/-- The expiries of the stale timers that are due, the first point having the index given. -/
def dueStale (now : Nat) : Nat → List PointState → List Instr
  | _, [] => []
  | i, p :: rest => dueOf now p.staleAt (Instr.pointStaleExpiry i) ++ dueStale now (i + 1) rest

/-- The expiries of the deferral timers that are due, the first zone having the index given. -/
def dueDeferrals (now : Nat) : Nat → List ZoneState → List Instr
  | _, [] => []
  | i, z :: rest => dueOf now z.deferralAt (Instr.deferralExpiry i) ++ dueDeferrals now (i + 1) rest

/-- The expiries of the confirm deadlines that are due. -/
def dueDeadlines (now : Nat) (es : List CommandEntry) : List Instr :=
  es.flatMap fun e => dueOf now e.deadline (Instr.commandConfirmDeadlineExpiry e.address e.item)

/-- The aim of the DEMAND renewal timer; while no period is in use the timer is never due by itself (assumption 6). -/
def RenewalTimer.ownAim : RenewalTimer → Option Nat
  | .aimed t => some t
  | .openPeriod => none

/-- The events that the part's own timers have brought due, and the restart that has become ready. -/
def State.dueCommands (s : State) : List Instr :=
  let now := s.now
  (if s.restartReady then [.restartPerform] else [])
    ++ dueOf now s.trunk.limitAt .restartLimitExpiry
    ++ dueOf now s.supply.lossAt .mainsLossCountExpiry
    ++ dueOf now s.supply.returnAt .mainsReturnCountExpiry
    ++ dueOf now s.supply.lowAt .batteryLowCountExpiry
    ++ dueOf now s.guard.floatAt .floatDebounceExpiry
    ++ (if !s.line.late && decide (s.cycleDueUs ≤ s.timeUs) then [.lineCycleStart] else [])
    ++ dueStale now 0 s.points
    ++ dueDeadlines now s.line.commands
    ++ dueOf now s.guard.holdAt .levelHoldExpiry
    ++ dueOf now s.guard.watch.deadlineAt .valveConfirmDeadlineExpiry
    ++ dueOf now s.guard.watch.repeatTime .valveCloseRepeatExpiry
    ++ dueOf now s.guard.watch.retryTime .valveCloseRetryExpiry
    ++ dueOf now (s.fill.clock.map ClockState.minuteAt) .clockMinute
    ++ dueOf now s.fill.planAt .planIntervalExpiry
    ++ dueOf now s.fill.forceEnd .forceExpiry
    ++ dueOf now s.fill.stopAt .stopWaitExpiry
    ++ dueOf now s.fill.renewal.ownAim .demandRenewalExpiry
    ++ dueOf now (s.fill.rise.map RiseCheck.judgeAt) .riseCheckExpiry
    ++ dueDeferrals now 0 s.frost.zones
    ++ dueOf now s.telemetry.periodAt .levelPeriodExpiry
    ++ dueOf now s.trunk.controlAt .controlSilenceExpiry
    ++ dueOf now s.trunk.stationAt .stationSilenceExpiry

/-- The microsecond to which one idle step goes: 1 ms on, or the next line cycle's start if that comes first. -/
def State.tickEnd (s : State) : Nat :=
  if s.timeUs < s.cycleDueUs then min s.cycleDueUs (s.timeUs + 1000) else s.timeUs + 1000

/-- One idle step: internal time and the clock go on, and what has come due joins the queue; nothing happens without power. -/
def State.idle (s : State) : State :=
  if s.powered then
    let s := s.advanceUs s.tickEnd
    { s with pending := s.pending ++ s.dueCommands }
  else s

end Sys2Proof.Machine
end

