-- ==== Sys2Proof/Safety.lean ====
section
/-! DEFINITION. The words in which statements speak of a safe run: the parts of a state and what an event leaves of them, the laws of
the manual that every step keeps, and the places of the outbound queue. -/

namespace Sys2Proof.Machine

/-! ### The parts of a state -/

/-- The parts of a state. -/
inductive Part where
  | powered | timeUs | inputs | nv | tables | use | points | level | guard | fill | frost | banks | line | telemetry | out
  | trunk | supply | engine | notices | draws | pending
  deriving DecidableEq, Repr

/-- The type of a part. -/
abbrev Part.Ty : Part → Type
  | .powered => Bool | .timeUs => Nat | .inputs => Inputs | .nv => NvStore | .tables => Tables | .use => PerKind KindUse
  | .points => List PointState | .level => LevelBlock | .guard => GuardBlock | .fill => FillBlock | .frost => FrostBlock
  | .banks => PerBank (Option FaultRecord) | .line => LineBlock | .telemetry => TelemetryBlock | .out => Outbound
  | .trunk => TrunkBlock | .supply => SupplyBlock | .engine => EngineBlock | .notices => List Delivery | .draws => Nat
  | .pending => List Instr

/-- One part of a state. -/
def Part.read : (p : Part) → State → p.Ty
  | .powered, s => s.powered | .timeUs, s => s.timeUs | .inputs, s => s.inputs | .nv, s => s.nv | .tables, s => s.tables
  | .use, s => s.use | .points, s => s.points | .level, s => s.level | .guard, s => s.guard | .fill, s => s.fill
  | .frost, s => s.frost | .banks, s => s.banks | .line, s => s.line | .telemetry, s => s.telemetry | .out, s => s.out
  | .trunk, s => s.trunk | .supply, s => s.supply | .engine, s => s.engine | .notices, s => s.notices | .draws, s => s.draws
  | .pending, s => s.pending

/-- The parts that the line, the store engine and the modem may go on with at the end of any event (R26, R139, R167). -/
def goingOn : List Part := [.nv, .line, .out, .engine]

/-- The parts that the notices of an event may reach, besides those that go on at the end of any event. -/
def reached : List Part := [.level, .guard, .fill, .frost, .banks, .line, .telemetry, .out, .engine, .notices, .draws]

/-- The part has power, and no notice of an earlier event waits to be taken (none waits between two events). -/
def State.Ready (s : State) : Prop := s.powered = true ∧ s.notices = []

/-- The line has nothing to begin: a transaction is in flight (R26), or no cycle has begun since the reset and none is overdue; that no
transaction, an urgent close included, starts before the first cycle after a reset is the model's choice (R25, R42, log entry 17). -/
def State.lineWaits (s : State) : Prop := s.line.inFlight.isSome ∨ (s.line.late = false ∧ s.line.cycleStartUs = none)

/-- The store engine has nothing to begin: no trip work waits, and it is busy or nothing at all waits (R167). -/
def State.engineWaits (s : State) : Prop :=
  s.engine.tripWork = [] ∧
    (s.engine.busy.isSome ∨ (s.engine.suspended = none ∧ s.engine.preErase = none ∧ s.engine.work = []))

/-- The Trunk Port has nothing to begin: a frame is in transmission, the modem is not clear to send, a restart is due, or no frame
is ready (R139, R163). -/
def State.modemWaits (s : State) : Prop :=
  s.out.sending.isSome ∨ s.inputs.clearToSend = false ∨ s.trunk.restartDue = true ∨ takeReady s.out.waiting = none

/-- An event from `s` to `t` whose own effect is on the parts `ps` leaves everything else as it was, but for what the line, the store
engine and the modem had to go on with. -/
structure Kept (ps : List Part) (s t : State) : Prop where
  others : ∀ p, p ∉ ps → p ∉ goingOn → p.read t = p.read s
  line : .line ∉ ps → s.lineWaits → t.line = s.line
  engine : .engine ∉ ps → s.engineWaits → t.engine = s.engine
  nv : .nv ∉ ps → .engine ∉ ps → s.engineWaits → t.nv = s.nv
  out : .out ∉ ps → .line ∉ ps → s.lineWaits → s.modemWaits → t.out = s.out

/-! ### The outbound queue -/

/-- A place stands in the queue, waiting or in transmission (R135). -/
def Outbound.Carries (p : Place) (o : Outbound) : Prop := p ∈ o.waiting ∨ ∃ x, o.sending = some x ∧ x.place = p

/-- The places of the queue, the frame in transmission first (R135). -/
def Outbound.places (o : Outbound) : List Place := (o.sending.map Sending.place).toList ++ o.waiting

/-- How many frames of the kind (and bank) of `c` the queue holds. -/
def Outbound.count (c : Content) (o : Outbound) : Nat := o.places.countP (Place.holds c)

/-- Contents that the queue has taken: a frame that holds them stands in the queue, or they are held aside (R136). -/
def Outbound.Offers (c : Content) (o : Outbound) : Prop := .frame c ∈ o.places ∨ ∃ h, o.held = some h ∧ h.content = c

/-! ### Requests of the control room -/

/-- The part can act on a request and has a response place free (R138). -/
def State.Serves (s : State) : Prop := s.Ready ∧ s.placeFree = true

/-- What a request of the control room leaves when its own effect is on the parts `ps`: its frame restarts the control room's silence
timer and ends an islanding (R155, R156), the queue takes the response, Level Telemetry is told of the end of an islanding and of
nothing else, and every other part is as it was. -/
structure Served (ps : List Part) (s t : State) : Prop where
  trunk : t.trunk = { s.trunk with
    controlAt := some (s.now + (siteLimits s.tables.siteSet).1)
    controlSilent := false
    islanded := false }
  kept : Kept (.trunk :: .out :: .telemetry :: ps) s t
  telemetry : s.trunk.islanded = false → t.telemetry = s.telemetry

/-- The nineteen requests of the catalogue with their codes (R183). -/
def requestsOf (tag : Byte) (payload : List Byte) : List (Byte × Instr) :=
  [(0x10#8, .readPoints tag payload), (0x11#8, .readState tag payload), (0x12#8, .readChannels tag payload),
    (0x13#8, .readZones tag payload), (0x14#8, .readBank tag payload), (0x15#8, .clearBank tag payload),
    (0x16#8, .readTrips tag payload), (0x17#8, .tableRead tag payload), (0x18#8, .tableOpen tag payload),
    (0x19#8, .tableWrite tag payload), (0x1A#8, .tableClose tag payload), (0x1B#8, .tableAbandon tag payload),
    (0x1C#8, .channelStart tag payload), (0x1D#8, .channelStop tag payload), (0x1E#8, .fieldPass tag payload),
    (0x1F#8, .setClock tag payload), (0x20#8, .guardReset tag payload), (0x21#8, .fillOrder tag payload),
    (0x22#8, .restart tag payload)]

/-- The payload lengths of the requests but TABLE-WRITE (R183). -/
def requestLength (code : Byte) : Nat :=
  match code.toNat with
  | 0x10 => 2 | 0x11 => 0 | 0x12 => 2 | 0x13 => 0 | 0x14 => 1 | 0x15 => 1 | 0x16 => 0 | 0x17 => 2 | 0x18 => 1 | 0x1A => 4
  | 0x1B => 1 | 0x1C => 1 | 0x1D => 1 | 0x1E => 7 | 0x1F => 4 | 0x20 => 0 | 0x21 => 1 | _ => 0

/-! ### Faults -/

/-- The banks after a fault has reached its bank, unless the bank ignores it (R143, R144). -/
def State.banksAfter (code : FaultCode) (subject : Option Subject) (s : State) : PerBank (Option FaultRecord) :=
  if ignores (bankSettings s.tables.siteSet code.bank) code then s.banks
  else s.banks.set code.bank (some (arrive code subject s.clockTime s.uptime (s.banks.get code.bank)).1)

/-! ### The guard's zero demand -/

/-- What the guard's zero demand leaves of the fill and the queue (R75, R107, R137): a demand of 0 and a DEMAND frame of 0 with the next
tag, at the head of the queue behind a frame in transmission, or held aside for the head while that one is a DEMAND frame. -/
structure State.DemandZeroed (s t : State) : Prop where
  fill : t.fill = { s.fill with
    demand := 0
    demandTag := (s.fill.demandTag + 1) % 256
    renewal := s.renewalTimer }
  sending : t.out.sending = s.out.sending
  head : s.out.sends (.demand 0 ((s.fill.demandTag + 1) % 256)) = false →
    ∃ rest, t.out.waiting = .frame (.demand 0 ((s.fill.demandTag + 1) % 256)) :: rest ∧
      ∀ p ∈ rest, p.holds (.demand 0 ((s.fill.demandTag + 1) % 256)) = false
  aside : s.out.sends (.demand 0 ((s.fill.demandTag + 1) % 256)) = true →
    t.out.held = some ⟨.demand 0 ((s.fill.demandTag + 1) % 256), true⟩

/-! ### The store engine -/

/-- The engine is at work that nothing interrupts: not a table erase that waiting trip work would suspend (R167). -/
def State.engineAtWork (s : State) : Prop :=
  ∃ b, s.engine.busy = some b ∧ ∀ w ended, b.job = .table w ended → w.job.isErase = false

/-- The engine is idle and nothing waits for it (R167). -/
def State.engineIdle (s : State) : Prop :=
  s.engine.busy = none ∧ s.engine.suspended = none ∧ s.engine.work = [] ∧ s.engine.tripWork = [] ∧ s.engine.preErase = none

/-- Nothing but the work in progress waits for the engine (R167). -/
def State.noWorkWaits (s : State) : Prop :=
  s.engine.suspended = none ∧ s.engine.work = [] ∧ s.engine.tripWork = [] ∧ s.engine.preErase = none

/-- Every stored copy but copy `n` of kind `k` is as it was, the copies in use among them (R166). -/
def State.OtherCopiesStay (k : TableKind) (n : CopyName) (s t : State) : Prop :=
  ∀ k' n', k' ≠ k ∨ n' ≠ n → (t.nv.copies.get k').get n' = (s.nv.copies.get k').get n'

/-- A load of `s` that a failure has ended: it is open no longer, none of its work waits, and of what waited each request is answered,
a close with STORE_FAULT and the others with ENDED (R168, R169). A reservation is spoken of that waits for one work alone and is not
among `own`, those of the failed work. -/
structure State.LoadDropped (s : State) (load : Nat) (own : List Nat) (t : State) : Prop where
  closed : ∀ l, t.engine.load = some l → l.load ≠ load
  dropped : ∀ v ∈ t.engine.work, v.load ≠ load
  answered : ∀ v ∈ s.engine.work, v.load = load → ∀ (resv : Nat) (code tag : Byte), resv ∈ v.job.resvs → resv ∉ own →
    (∀ v' ∈ s.engine.work, resv ∈ v'.job.resvs → v' = v) → .reservation resv code tag ∈ s.out.waiting →
    ((∀ n c d k r, v.job ≠ .header n c d k r) → t.out.Carries (.response resv code tag [Status.ended.byte])) ∧
    ∀ n c d k r, v.job = .header n c d k r → t.out.Carries (.response resv code tag [Status.storeFault.byte])

/-! ### The field line -/

/-- The transaction in flight `x` ends by the command `cmd` with the outcome `o`, no reply or the judgment of a frame in either form of its
end, at the time `ends` (R24). -/
structure State.Ends (s : State) (x : Transaction) (cmd : Instr) (o : FieldOutcome) (ends : Nat) : Prop where
  ready : s.Ready
  inFlight : s.line.inFlight = some x
  how : (cmd = .fieldReplyWindowExpiry ∧ o = .noReply ∧ ends = x.windowEndUs) ∨
    ∃ frame elapsed, (cmd = .fieldReplyReceived frame elapsed ∨ cmd = .fieldReplyQuietEnd frame elapsed) ∧ frame ≠ [] ∧
      o = judgeReply x frame ∧ ends = x.startUs + elapsed

/-- The transaction ends so before the line cycle does (R25). -/
structure State.Concludes (s : State) (x : Transaction) (cmd : Instr) (o : FieldOutcome) (ends : Nat) : Prop
    extends State.Ends s x cmd o ends where
  inCycle : s.line.late = false ∧ ∀ b, s.line.cycleStartUs = some b → max s.timeUs ends ≤ b + 250000

/-- The outcome `a` of a device that the outcome `o` of the transaction `x` brings (R29, R34, R35, R44): of a request to the device `o`
itself; of a HAND-OFF that was not TAKEN and found the repeater neither FULL nor BUSY `o` too; of a COLLECT that brought an inner reply
the judgment of that. -/
def Transaction.DeviceOutcome (x : Transaction) (o a : FieldOutcome) : Prop :=
  ((∃ r, x.request = .device r) ∧ a = o) ∨
  ((∃ inner r, x.request = .handOff inner r) ∧ a = o ∧
    ∀ raw, o ≠ .accepted .taken raw ∧ o ≠ .accepted .full raw ∧ o ≠ .accepted .busy raw) ∨
  ∃ inner r bytes raw, x.request = .collect inner r ∧ o = .accepted (.carried bytes) raw ∧ a = judgeInner inner r bytes

/-- The entries of the command list, but for the cycle of the last turn of each. -/
def State.entries (s : State) : List CommandEntry := s.line.commands.map fun e => { e with turnCycle := none }

/-- The transaction in flight is the urgent close of the slot `u` (R41, R42): a DIRECT with the value 0, behind the wake burst where a
channel with its address asks for it. -/
def State.Closes (s : State) (u : UrgentClose) : Prop :=
  ∃ y, s.line.inFlight = some y ∧ y.work = .urgent ∧ y.address = u.address ∧ y.request = .device (.direct u.item 0) ∧
    y.startUs = s.timeUs ∧ y.superseded = false ∧ (y.wake = true ↔ ∃ c ∈ s.channelRecords, c.address = u.address ∧ c.wake = true)

/-- The action of the first GATE entry of the Traffic Map for an address and item, in table order (R14). -/
def State.FirstGate (s : State) (address item : Nat) (kind : GateKind) : Prop :=
  ∃ before after, s.tables.map = some (before ++ ⟨address, item, .gate kind⟩ :: after) ∧
    ∀ e ∈ before, ∀ k, e ≠ ⟨address, item, .gate k⟩

/-! ### Payloads (R185) -/

/-- The number that `len` bytes of a payload spell from an offset on, the more significant byte first. -/
def numberAt (payload : List Byte) (off len : Nat) : Nat :=
  ((payload.drop off).take len).foldl (fun n b => n * 256 + b.toNat) 0

/-- The flag at an offset of a payload. -/
def flagAt (payload : List Byte) (off : Nat) (b : Bool) : Prop := numberAt payload off 1 = if b then 1 else 0

/-- The value that the byte at an offset numbers in the order given, from 00h. -/
def valueAt {α : Type} (values : List α) (payload : List Byte) (off : Nat) (v : α) : Prop :=
  values[numberAt payload off 1]? = some v

/-- The value, if there is one, that the byte at an offset numbers in the order given; FFh absent. -/
def optionAt {α : Type} (values : List α) (payload : List Byte) (off : Nat) (v : Option α) : Prop :=
  match v with
  | some v => valueAt values payload off v
  | none => numberAt payload off 1 = 255

/-- The clock in the 4 bytes at an offset: day, minute, second, each where it fits, or day FFh while UNSET. -/
def clockAt (payload : List Byte) (off : Nat) (c : Option ClockTime) : Prop :=
  match c with
  | some c => (c.day < 256 → numberAt payload off 1 = c.day) ∧ (c.minute < 65536 → numberAt payload (off + 1) 2 = c.minute) ∧
      (c.second < 256 → numberAt payload (off + 3) 1 = c.second)
  | none => numberAt payload off 1 = 255

/-! ### A start of the part (R164, R174) -/

/-- The sector of the slot that the next trip record takes at a start (R172, R174): that of the newest intact record while an erased slot
follows it there, the other one after that, and sector 0 with no intact record. -/
def startSector (slots : List TripSlot) (x : Nat) : Prop :=
  match newestIntact slots with
  | some (i, _, _) =>
    (x = i / 4 ∧ ∃ n, i < n ∧ n / 4 = i / 4 ∧ slots[n]? = some .erased) ∨
      (x = 1 - i / 4 ∧ ∀ n, i < n → n / 4 = i / 4 → slots[n]? ≠ some .erased)
  | none => x = 0

/-- The pre-erase that is due at a start (R174): of that sector when it is not wholly erased, and with no intact record only when none of
its slots is erased (log entry 16, the model's choice). -/
def preEraseDue (slots : List TripSlot) (x : Nat) : Prop :=
  startSector slots x ∧
    if (newestIntact slots).isSome then ∃ n, n / 4 = x ∧ slots[n]? ≠ some .erased else ∀ n < 4, slots[n]? ≠ some .erased

/-- The guard's state at a start (R77, R80, R85): with one of the STRAPPING, GUARD_SET, POINTS and CHANNELS tables missing it is TRIPPED
with NO_TABLES; otherwise the newest intact record says, a trip record leaving it TRIPPED with that cause, a reset marker or no record
ARMED. The trip line follows. A TRIPPED start watches the valve, whose point is not GOOD yet (R82); the level hold runs (R78). -/
structure GuardStarted (s t : State) : Prop where
  line : t.guard.tripLine = true ↔ t.guard.state = .tripped
  noTables : t.tables.guardReady = false → t.guard.state = .tripped ∧ t.guard.cause = some .noTables ∧ t.guard.tripFlag = .none
  newest : t.tables.guardReady = true → ∀ i n e, newestIntact s.nv.slots = some (i, n, e) →
    match e with
    | .trip cause _ _ _ _ _ => t.guard.state = .tripped ∧ t.guard.cause = some cause ∧ t.guard.tripFlag = .programmed
    | .marker _ _ _ => t.guard.state = .armed ∧ t.guard.cause = none ∧ t.guard.tripFlag = .none
  noRecord : t.tables.guardReady = true → newestIntact s.nv.slots = none →
    t.guard.state = .armed ∧ t.guard.cause = none ∧ t.guard.tripFlag = .none
  others : t.guard.floatActive = false ∧ t.guard.floatAt = (if s.inputs.float then some 2000 else none) ∧ t.guard.reset = none ∧
    t.guard.frostExtra = t.frost.flags.overflowPipe ∧ t.guard.holdAt = t.tables.guardSet.map fun g => g.levelHold * 1000
  watch : t.guard.watch =
    match t.guard.state, t.tables.guardSet with
    | .tripped, some g => .running (some (g.valveTravel * 1000)) none none
    | _, _ => .idle

/-- The fill at a start (R90, R95, R100, R103, R107): the inhibit set holds the reasons whose conditions stand, the fill is HELD with one
of them and IDLE with none (SATISFIED where the start lies in a cheap window and nothing is needed), nothing is demanded and the first
DEMAND frame is renewed after its period, a close is owed and its stop wait runs, and the plan timer counts from the reset. -/
structure FillStarted (t : State) : Prop where
  inhibit : t.fill.inhibit.Nodup ∧ ∀ r, r ∈ t.fill.inhibit ↔
    (r = .guard ∧ t.guard.state = .tripped) ∨ (r = .frozenRiser ∧ t.frost.flags.riser = true) ∨
    (r = .frozenValve ∧ t.frost.flags.valveChamber = true) ∨ (r = .battery ∧ t.supply.mode ≠ .mains) ∨
    (r = .bankHold ∧ ∃ b, (b = .fill ∨ b = .trunk ∨ b = .level ∨ b = .guard) ∧ t.holds b = true)
  held : t.fill.inhibit ≠ [] → t.fill.state = .held
  free : t.fill.inhibit = [] → t.fill.state = .idle ∨ (t.fill.state = .satisfied ∧ cheapWindow t.fill.window ≠ none)
  window : t.fill.window = currentWindow t.tables.siteSet t.tables.tariff t.clockTime ∧ t.fill.tariff = windowClass t.fill.window
  demand : t.fill.demand = 0 ∧ t.fill.demandTag = 1 ∧ t.fill.renewal =
    match t.tables.fillSet with
    | some f => .aimed (f.renewal * 1000)
    | none => .openPeriod
  order : t.fill.order = .auto ∧ t.fill.forceAt = none ∧ t.fill.purpose = none ∧ t.fill.station = none ∧ t.fill.turnoverDone = false ∧
    t.fill.rise = none
  close : t.fill.closeOwed = true ∧ t.fill.closePlaced = false ∧ t.fill.stopWait = some 0 ∧
    t.fill.stopAt = t.tables.guardSet.map fun g => (g.stopLatency + 60) * 1000
  plan : t.fill.planAt = t.tables.fillSet.map fun f => f.planInterval * 60000

/-- The Frost Unit at a start (R113, R117 to R121): every zone asks for heat and counts as frozen with its probe lost, the kind flags and
frost watch follow, the budget is that of the class on the mains and 0 on battery, and the first allocation has asked the command list
for the heaters that it granted, and for nothing else. -/
structure FrostStarted (t : State) : Prop where
  zones : t.frost.zones.length = t.zoneRecords.length ∧
    ∀ z ∈ t.frost.zones, z.probeRequest = true ∧ z.request = true ∧ z.frozen = true ∧ z.probeLost = true ∧
      (z.granted = false → z.heater = .off ∧ z.held = none)
  flags : (t.frost.flags.riser = true ↔ ∃ r ∈ t.zoneRecords, r.kind = .riser) ∧
    (t.frost.flags.valveChamber = true ↔ ∃ r ∈ t.zoneRecords, r.kind = .valveChamber) ∧
    (t.frost.flags.overflowPipe = true ↔ ∃ r ∈ t.zoneRecords, r.kind = .overflowPipe) ∧
    (t.frost.flags.outlet = true ↔ ∃ r ∈ t.zoneRecords, r.kind = .outlet) ∧
    (t.frost.flags.sensorHousing = true ↔ ∃ r ∈ t.zoneRecords, r.kind = .sensorHousing)
  watch : t.frost.watch = true ↔ t.zoneRecords ≠ []
  budget : t.frost.tariff = t.fill.tariff ∧ t.frost.bankHold = t.holds .frost ∧
    t.frost.budget = if t.supply.mode = .mains then siteBudget t.tables.siteSet t.fill.tariff else 0
  commands : ∀ e ∈ t.line.commands, t.supply.mode = .mains ∧ ∃ (i : Nat) (r : ZoneRecord) (z : ZoneState),
    t.zoneRecords[i]? = some r ∧ t.frost.zones[i]? = some z ∧ z.granted = true ∧
    e = { address := r.heaterAddress, item := r.heaterItem, feedback := r.feedback, origin := .frost, target := 1 }

/-- What a reset makes of `s` besides the clock and the banks (R164): the pins, the stored copies and the waiting commands stay, and every
record of working memory takes its reset value. The outbound queue, cleared, holds a FAULT frame of the STORE bank where the start-up
load queued one, then the DEMAND frame of 0, a FAULT frame of the FILL bank where the start lies in a cheap window and queued one, and
the STATE report, in the model's order (log entry 18); a start in BATTERY_LOW queues it too (log entry 39). A TRIPPED start has its
close in the urgent slot, waiting for the first line cycle (R41, log entry 17). The stored copies stay whole, also for a load that was open
with its erase still to begin (log entry 58). -/
structure Started (s t : State) : Prop where
  power : t.powered = true ∧ t.timeUs = 0
  kept : t.inputs = s.inputs ∧ t.pending = s.pending ∧ t.nv.copies = s.nv.copies
  supply : t.supply = {
    mode := if s.inputs.mains then .mains else if s.inputs.batteryLow then .batteryLow else .battery
    low := s.inputs.batteryLow }
  points : t.points = List.replicate 64 {}
  level : t.level = resetLevel t.tables.strapping
  guard : GuardStarted s t
  fill : FillStarted t
  frost : FrostStarted t
  line : t.line = {
    rate := siteRate t.tables.siteSet
    lsbFirst := siteLsbFirst t.tables.siteSet
    live := List.replicate 24 {}
    commands := t.line.commands
    urgent := if t.guard.state = .tripped then t.tables.guardSet.map fun g => ⟨g.inletAddress, g.inletItem, false⟩ else none }
  trunk : t.trunk = { controlAt := some (siteLimits t.tables.siteSet).1, stationAt := some (siteLimits t.tables.siteSet).2 }
  due : ∀ x, preEraseDue s.nv.slots x →
    t.engine = { busy := some ⟨.preErase x, 350⟩ } ∧ t.nv.slots = setSector x .spoilt s.nv.slots
  notDue : (∀ x, ¬ preEraseDue s.nv.slots x) → t.engine = {} ∧ t.nv.slots = s.nv.slots
  telemetry : t.telemetry = {
    record := t.level.record
    projection := t.guard.projection
    contents := t.startContents
    periodAt := if t.supply.mode = .mains then some t.reportPeriod else none }
  queue : t.out.held = none ∧ ∃ store fill,
    t.out.places = store ++ .frame (.demand 0 1) :: (fill ++ [.frame (.state ⟨t.telemetry.contents, t.clockTime, 0⟩)]) ∧
    (∀ p ∈ store, ∃ r, p = .frame (.fault .store r)) ∧ (∀ p ∈ fill, ∃ r, p = .frame (.fault .fill r)) ∧
    (cheapWindow t.fill.window = none → fill = [])
  notices : t.notices = []

/-! ### Laws that every step keeps -/

/-- The trip line is asserted when and only when the guard is TRIPPED (R80). -/
def State.TripLineLaw (s : State) : Prop := s.powered = true → (s.guard.tripLine = true ↔ s.guard.state = .tripped)

/-- The fill demand is zero while the guard is not ARMED (R75, R99, R104). -/
def State.DemandLaw (s : State) : Prop := s.powered = true → s.guard.state ≠ .armed → s.fill.demand = 0

/-- Every DEMAND frame that waits in the queue, and one held aside, carries the fill demand as it stands (R75, R107, R136, R137). -/
def State.DemandFrameLaw (s : State) : Prop :=
  s.powered = true → (∀ n tag, .frame (.demand n tag) ∈ s.out.waiting → n = s.fill.demand) ∧
    ∀ h n tag, s.out.held = some h → h.content = .demand n tag → n = s.fill.demand

/-- The fill demand never exceeds the pumps that the last evaluation found, these neither the pumps available in the station copy (0 while
it is empty) nor the site maximum, and only a FILLING fill demands any; with FILL_SET EMPTY no fill is OPENING or FILLING (R92, R94, R98,
R99, R104). -/
def State.CapLaw (s : State) : Prop :=
  s.powered = true → s.fill.demand ≤ s.fill.numbers.k ∧ (s.fill.state ≠ .filling → s.fill.demand = 0) ∧
    match s.tables.fillSet with
    | some f => s.fill.numbers.k ≤ (match s.fill.station with | some c => c.available | none => 0) ∧ s.fill.numbers.k ≤ f.siteMax
    | none => s.fill.numbers.k = 0 ∧ s.fill.state ≠ .opening ∧ s.fill.state ≠ .filling

/-- With reasons in the inhibit set the fill is HELD with no demand (R104). -/
def State.InhibitLaw (s : State) : Prop := s.powered = true → s.fill.inhibit ≠ [] → s.fill.state = .held ∧ s.fill.demand = 0

/-- The history ring holds at most 16 entries, each at least 8,000 ms after the one before it (R57). -/
def State.RingLaw (s : State) : Prop :=
  s.level.ring.length ≤ 16 ∧ s.level.ring.Pairwise fun x y => x.time + 8000 ≤ y.time

/-- The command list holds at most 8 entries and at most one for an actuator (R37). -/
def State.CommandLaw (s : State) : Prop :=
  s.line.commands.length ≤ 8 ∧ s.line.commands.Pairwise fun x y => (x.address, x.item) ≠ (y.address, y.item)

/-- At most 2 repeater slots are in use and the pass queue holds at most 4 entries (R34, R43). -/
def State.LineLaw (s : State) : Prop := s.line.slots.length ≤ 2 ∧ s.line.pass.length ≤ 4

/-- The queue holds at most one frame of a kind (of a bank, for FAULT) and at most five responses and reservations (R135), and contents
are held aside only while a frame of their kind is in transmission (R136). -/
def State.QueueLaw (s : State) : Prop :=
  (∀ c, s.out.count c ≤ 1) ∧ s.out.responses ≤ 5 ∧ ∀ h, s.out.held = some h → s.out.sends h.content = true

/-- The clock shows a day from 0 to 6, a minute from 0 to 1,439 and a second from 0 to 59 (R88). -/
def State.ClockLaw (s : State) : Prop :=
  ∀ c, s.fill.clock = some c → c.time.day ≤ 6 ∧ c.time.minute ≤ 1439 ∧ c.time.second ≤ 59

/-- A bank whose unseen flag is set has its overflow flag set as well (R144). -/
def State.BankLaw (s : State) : Prop := ∀ b r, s.banks.get b = some r → r.unseen = true → r.overflow = true

/-- The rated powers of the granted zones sum to no more than the budget of the moment (R120). -/
def State.GrantLaw (s : State) : Prop :=
  ((s.zoneRecords.zip s.frost.zones).map fun p => if p.2.granted then p.1.power else 0).sum ≤ s.frost.budget

/-- The 64 points, the 24 channels and the 8 slots of the trip area are there (R3, R27, R172). -/
def State.SizeLaw (s : State) : Prop := s.points.length = 64 ∧ s.line.live.length = 24 ∧ s.nv.slots.length = 8

end Sys2Proof.Machine
end

