-- ==== Sys2Proof/Certificates/Slice0/Obligations.lean ====
section
/-! DEFINITION. The statements for the provers. Each is `∀` over every state; what a premise asks of the state or the operands is said in
the docstring. A statement about what an event leaves alone uses `Kept` (see Safety.lean): every part but the listed ones is unchanged,
and the line, the store engine and the modem are unchanged wherever they had nothing to go on with. -/

open Sys2Proof Sys2Proof.Machine

/-! ### The machine -/

/-- A step runs the command at the front of the queue: it answers what `exec` answers on the state with the queue's rest. -/
def Obligations.StepRunsTheFrontCommand : Prop :=
  ∀ (c : Instr) (rest : List Instr) (s : State), step { s with pending := c :: rest } = exec c { s with pending := rest }

/-- With an empty queue the block goes on by itself (log entry 10, the model's choice): without power nothing changes; with power
internal time goes on by at least 1 and at most 1,000 microseconds, the clock with it, the queue takes the expiries of the timers
that are due (the float debounce is named as one of them), and nothing else changes. -/
def Obligations.IdleStepLetsTimeGoOn : Prop :=
  ∀ s : State, s.pending = [] →
    (s.powered = false → step s = .next s) ∧
    (s.powered = true → ∃ t, step s = .next t ∧ s.timeUs < t.timeUs ∧ t.timeUs ≤ s.timeUs + 1000 ∧
      t.fill = { s.fill with clock := s.fill.clock.map fun c => c.advance (t.timeUs / 1000 - s.timeUs / 1000) } ∧
      (∀ p, p ∉ [Part.timeUs, .fill, .pending] → p.read t = p.read s) ∧
      t.pending = (s.advanceUs s.tickEnd).dueCommands ∧
      ∀ d, s.guard.floatAt = some d → d ≤ t.timeUs / 1000 → .floatDebounceExpiry d ∈ t.pending)

/-- POWER_ON_RESET from every state: what every start leaves (`Started`, R3, R22, R27, R37, R41, R66, R77, R80, R85, R90, R95, R100, R103,
R107, R113, R117 to R121, R130, R132, R135, R164, R165, R172, R174, R176), the clock UNSET (R88), and every bank empty but for
START_IMAGE_BAD in the STORE bank for each kind left EMPTY (R174). `Started` speaks of the pins, the stored copies and the waiting
commands, which stay; of the points, the level, the guard's start state, the fill with its inhibit set, the frost zones and the first
allocation, the line with the command list and the urgent close of a TRIPPED start, the trunk timers, the pre-erase that is due and the
slots it takes, the reports and the queue. The model's own there: the order of the frames (log entry 18), the urgent close waiting for the
first line cycle (log entry 17), the pre-erase with no intact record (log entry 16), the report of a start in BATTERY_LOW (log entry 39),
which values no rule states (log entry 1), and that the stored copies stay whole even where a load was open whose erase had not begun (log
entry 58). Premise: none. -/
def Obligations.PowerOnResetForgets : Prop :=
  ∀ s : State, ∃ t, exec .powerOnReset s = .next t ∧ Started s t ∧ t.fill.clock = none ∧
    (∀ b, b ≠ .store → t.banks.get b = none) ∧
    t.banks.get .store = TableKind.all.foldl (fun r k =>
      if (t.use.get k).inUse = none ∧ ignores (bankSettings t.tables.siteSet .store) .startImageBad = false
      then some (arrive .startImageBad (some (.kind k)) none 0 r).1 else r) none

/-- The start-up load (R166, R174): of a kind's copies that are valid (header programmed whole, record check matching) and pass their
owner's validation at the line rate of the SITE_SET loaded with them (log entry 18), the one with the higher generation is in use, copy
A where the generations are equal, with its generation and its clamped table; a kind with none is EMPTY with generation 0. -/
def Obligations.StartUpLoadTakesTheNewerCopy : Prop :=
  ∀ s : State, ∃ t, exec .powerOnReset s = .next t ∧ ∀ (k : TableKind) (good : CopyName → TableData → Nat → Prop),
    (∀ n d g, good n d g ↔ ∃ h clamps, ((s.nv.copies.get k).get n).header = some h ∧
      recordCheck ((s.nv.copies.get k).get n).records = h.check ∧
      validateTable (siteRate t.tables.siteSet).byteTimeUs k ((s.nv.copies.get k).get n).records = .ok (d, clamps) ∧
      h.generation = g) →
    (∀ n d g, good n d g → (∀ m d' g', m ≠ n → good m d' g' → g' < g ∨ (g' = g ∧ n = .a)) →
      t.use.get k = ⟨some n, g⟩ ∧ t.tables.put d = t.tables) ∧
    ((∀ n d g, ¬ good n d g) → t.use.get k = ⟨none, 0⟩ ∧
      ∀ bytes d clamps, validateTable (siteRate t.tables.siteSet).byteTimeUs k bytes = .ok (d, clamps) → t.tables.put d ≠ t.tables)

/-- RESTART_PERFORM with a restart that is ready (R88, R163, R164): what every start leaves (`Started`, as for a power-on reset), so that
the pending RESTART is forgotten with the queue, the line, the zones and every other record of working memory, but the clock and the banks
are kept. The clock goes on with the part of its second (log entry 30), its next minute coming when its own minute ends. Every bank keeps
its record whole, but for the faults of the start itself (R164, R174, R94; their order is log entry 18): START_IMAGE_BAD for each kind
left EMPTY, and a SHORTFALL where the start lies in a cheap window. That the stored copies stay whole even where a load was open whose
erase had not begun is log entry 58, the model's choice. Premises: power, and a restart that is ready, which is the model's way to say
R163's conditions (log entry 30). -/
def Obligations.RestartKeepsClockAndBanks : Prop :=
  ∀ s : State, s.powered = true → s.restartReady = true → ∃ t, exec .restartPerform s = .next t ∧ Started s t ∧
    t.fill.clock = s.fill.clock.map (fun c => { c with minuteAt := (60 - c.time.second) * 1000 - c.subMs }) ∧
    (∀ b, b ≠ .store → b ≠ .fill → t.banks.get b = s.banks.get b) ∧
    t.banks.get .store = TableKind.all.foldl (fun r k =>
      if (t.use.get k).inUse = none ∧ ignores (bankSettings t.tables.siteSet .store) .startImageBad = false
      then some (arrive .startImageBad (some (.kind k)) s.clockTime 0 r).1 else r) (s.banks.get .store) ∧
    (cheapWindow t.fill.window = none → t.banks.get .fill = s.banks.get .fill) ∧
    (t.banks.get .fill = s.banks.get .fill ∨
      t.banks.get .fill = some (arrive .shortfall none s.clockTime 0 (s.banks.get .fill)).1)

/-- The RESTART request with its place (R163): BUSY while a trip record is pending, a guard reset is in progress or a restart is pending;
otherwise DONE, and the restart follows at the latest 60 s later. The limit's expiry makes it due. -/
def Obligations.RestartRequestAndItsLimit : Prop :=
  (∀ (s : State) (tag : Byte), s.Serves → ∃ t, exec (.restart tag []) s = .next t ∧ Kept [.trunk, .out, .telemetry] s t ∧
    (if s.guard.tripFlag = .pending ∨ s.guard.reset ≠ none ∨ s.trunk.restart ≠ none
      then t.trunk.restart = s.trunk.restart ∧ t.out.Carries (.response s.out.nextResv 0x22#8 tag [Status.busy.byte])
      else t.trunk.restart = some ⟨some (s.now + 60000), s.out.nextResv, false⟩ ∧
        t.out.Carries (.response s.out.nextResv 0x22#8 tag [Status.done.byte]))) ∧
  (∀ (s : State) (r : PendingRestart) (due : Nat), s.Ready → s.trunk.restart = some r → r.limitAt = some due →
    ∃ t, exec (.restartLimitExpiry due) s = .next t ∧
      t.trunk = { s.trunk with restart := some { r with limitAt := none, due := true } } ∧
      Kept [.trunk, .out] (s.advanceTo due) t)

/-- POWER_LOSS (R180, R186): every record of working memory is lost, the tables with their use, the points, the level, the guard, the fill
with its clock, the frost zones, the fault banks, the line with its commands, the urgent close and the pass queue, the outbound queue, the
trunk's timers, a pending RESTART and an open load with the engine's work; the store stays, also for a load whose erase has not begun (log
entry 58, the model's choice), and the trip-line contact is open. What a lost record shows until the next power-on reset is its value
before a start, which no rule states and nothing reads. That the pins keep their levels over the loss is the model's reading (log entry
11). Without power no command but POWER_ON_RESET does anything (R180), except that the model keeps the level of the pins (log entry 11). -/
def Obligations.PowerLossOpensTheContact : Prop :=
  (∀ s : State, ∃ t, exec .powerLoss s = .next t ∧ t.powered = false ∧ t.contactOpen = true ∧ t.nv = s.nv ∧ t.inputs = s.inputs ∧
    t.pending = s.pending ∧ t.tables = {} ∧ (∀ k, t.use.get k = ⟨none, 0⟩) ∧ t.points = List.replicate 64 {} ∧ t.level = resetLevel none ∧
    t.guard = {} ∧ t.fill = {} ∧ t.fill.clock = none ∧ t.frost = {} ∧ (∀ b, t.banks.get b = none) ∧
    t.line = { live := List.replicate 24 {} } ∧ t.line.commands = [] ∧ t.line.urgent = none ∧ t.out = {} ∧ t.trunk = {} ∧
    t.engine = {} ∧ t.notices = []) ∧
  (∀ (c : Instr) (s : State), s.powered = false → c ≠ .powerOnReset → c ≠ .powerLoss →
    ∃ t, exec c s = .next t ∧ ∀ p, p ≠ Part.inputs → p.read t = p.read s)

/-! ### Inputs, supply and the modem -/

/-- An input that changes starts the count that debounces it (R77, R177, R178): a mains loss counts 200 ms while the mode is MAINS, a
return 30 s while it is not, a change back cancels the count; a level unlike the battery-low state counts 5 s, one unlike the float state
2 s. The counts run out (R177, R178): a loss takes the mode to BATTERY or BATTERY_LOW by the battery-low state, a return to MAINS, and the
battery-low count gives the state the input's level, which on battery the mode follows. Points, tables, timers of the trunk and inputs
stay. -/
def Obligations.InputCountsStartAndRunOut : Prop :=
  (∀ (s : State) (active : Bool), s.Ready → s.inputs.mains ≠ active → ∃ t, exec (.mainsInputChange active) s = .next t ∧
    t.inputs = { s.inputs with mains := active } ∧
    t.supply = { s.supply with
      count := if s.supply.mode = .mains then (if active then .none else .loss (s.now + 200))
        else (if active then .ret (s.now + 30000) else .none) } ∧
    Kept [.inputs, .supply] s t) ∧
  (∀ (s : State) (active : Bool), s.Ready → s.inputs.batteryLow ≠ active → ∃ t, exec (.batteryLowInputChange active) s = .next t ∧
    t.inputs = { s.inputs with batteryLow := active } ∧
    t.supply = { s.supply with lowAt := if active = s.supply.low then none else some (s.now + 5000) } ∧
    Kept [.inputs, .supply] s t) ∧
  (∀ (s : State) (active : Bool), s.Ready → s.inputs.float ≠ active → ∃ t, exec (.floatInputChange active) s = .next t ∧
    t.inputs = { s.inputs with float := active } ∧
    t.guard = { s.guard with floatAt := if active = s.guard.floatActive then none else some (s.now + 2000) } ∧
    Kept [.inputs, .guard] s t) ∧
  (∀ (s : State) (due : Nat), s.Ready → s.supply.count = .loss due → ∃ t, exec (.mainsLossCountExpiry due) s = .next t ∧
    t.supply = { s.supply with count := .none, mode := if s.supply.low then .batteryLow else .battery } ∧
    Kept (.supply :: reached) (s.advanceTo due) t) ∧
  (∀ (s : State) (due : Nat), s.Ready → s.supply.count = .ret due → ∃ t, exec (.mainsReturnCountExpiry due) s = .next t ∧
    t.supply = { s.supply with count := .none, mode := .mains } ∧ Kept (.supply :: reached) (s.advanceTo due) t) ∧
  (∀ (s : State) (due : Nat), s.Ready → s.supply.lowAt = some due → ∃ t, exec (.batteryLowCountExpiry due) s = .next t ∧
    t.supply = { s.supply with
      low := s.inputs.batteryLow
      lowAt := none
      mode := if s.supply.mode = .mains then .mains else if s.inputs.batteryLow then .batteryLow else .battery } ∧
    Kept (.supply :: reached) (s.advanceTo due) t)

/-- PROTECT_INPUT_CHANGE (R171): the input takes its level, and its assertion marks the open load of a protected kind, which ends at its
next request; nothing else of the engine or of any other part changes. The announcement of a supply mode (R46, R127, R131, R171,
R179): a loss of the mains ends the open load with its work, removes every command but an inlet close, sheds every heater with a
budget of 0, holds the fill for BATTERY with no demand, and stops the period of the LEVEL report; a return of the mains frees the fill
of BATTERY and gives the budget of the tariff class. The blocks act on the announcement in any order; these clauses speak of the
event's end, when no notice waits (at most 400 are taken in one command, log entry 3). Premise for the loss: the inhibit law of
R104. -/
def Obligations.ProtectInputAndSupplyMode : Prop :=
  (∀ (s : State) (active : Bool), s.Ready → s.inputs.protect ≠ active → ∃ t, exec (.protectInputChange active) s = .next t ∧
    t.inputs = { s.inputs with protect := active } ∧
    t.engine.load = s.engine.load.map (fun l => if active && l.kind.isProtected then { l with protectEnded := true } else l) ∧
    (s.engineWaits → t.engine = { s.engine with
      load := s.engine.load.map fun l => if active && l.kind.isProtected then { l with protectEnded := true } else l }) ∧
    (s.engineWaits → t.nv = s.nv) ∧ Kept [.inputs, .engine] s t) ∧
  (∀ (s : State) (due : Nat), s.Ready → s.supply.count = .loss due → s.supply.mode = .mains → s.InhibitLaw →
    ∃ t, exec (.mainsLossCountExpiry due) s = .next t ∧ (t.notices = [] →
      t.supply.mode ≠ .mains ∧ t.engine.load = none ∧
      (∀ l, s.engine.load = some l → ∀ w ∈ t.engine.work, w.load ≠ l.load) ∧
      (∀ e ∈ t.line.commands, t.isInlet e.address e.item = true ∧ e.target = 0) ∧
      t.frost.budget = 0 ∧
      (∀ z ∈ t.frost.zones, z.granted = false ∧ z.heater = .off ∧ z.held = none ∧ z.deferralAt = none) ∧
      .battery ∈ t.fill.inhibit ∧ t.fill.state = .held ∧ t.fill.demand = 0 ∧
      t.telemetry.contents.supply = t.supply.mode ∧ t.telemetry.periodAt = none)) ∧
  (∀ (s : State) (due : Nat), s.Ready → s.supply.count = .ret due →
    ∃ t, exec (.mainsReturnCountExpiry due) s = .next t ∧ (t.notices = [] →
      .battery ∉ t.fill.inhibit ∧ t.frost.budget = siteBudget t.tables.siteSet t.frost.tariff ∧
      t.telemetry.contents.supply = .mains))

/-- CLEAR_TO_SEND_CHANGE (R139): with no frame in transmission and no restart due, clear-to-send begins the transmission of the first
place that is ready, the reservations before it being passed over; a modem not clear to send begins nothing. Premise for the queue's
clauses: the line has nothing to begin. TRANSMISSION_END (R136, R137, R139): the frame leaves the queue, and contents held aside join it,
at the head for the guard's zero demand and at the tail otherwise; with the modem not clear to send nothing else is begun. The end of the
response to a pending RESTART makes the restart due (R163). -/
def Obligations.TransmissionsBeginAndEnd : Prop :=
  (∀ (s : State) (asserted : Bool), s.Ready → s.inputs.clearToSend ≠ asserted → ∃ t, exec (.clearToSendChange asserted) s = .next t ∧
    t.inputs = { s.inputs with clearToSend := asserted } ∧ Kept [.inputs, .out] s t ∧
    (s.lineWaits → asserted = false → t.out = s.out) ∧
    (s.lineWaits → asserted = true → s.out.sending = none → s.trunk.restartDue = false →
      ∀ before p rest, s.out.waiting = before ++ p :: rest → (∀ q ∈ before, q.ready = false) → p.ready = true →
        t.out = { s.out with sending := some ⟨p, p.bytes s.tables.siteSet⟩, waiting := before ++ rest })) ∧
  (∀ (s : State) (x : Sending), s.Ready → s.out.sending = some x → ∃ t, exec .transmissionEnd s = .next t ∧
    Kept [.out, .trunk] s t ∧
    t.trunk.restart = (if s.trunk.isRestartResponse x.place
      then s.trunk.restart.map (fun r => { r with limitAt := none, due := true }) else s.trunk.restart) ∧
    (s.lineWaits → s.inputs.clearToSend = false →
      t.out.sending = none ∧ t.out.held = none ∧
      t.out.waiting = match s.out.held with
        | none => s.out.waiting
        | some h => if h.atHead then .frame h.content :: s.out.waiting else s.out.waiting ++ [.frame h.content]))

/-! ### The field line and the points -/

/-- LINE_CYCLE_START (R22, R25, R36): on an idle line the next cycle starts at the time it is due, with the rate and bit order of the
SITE_SET in use, the slots TAKEN nine or more cycles ago are released, and each channel that runs counts down by one; with a transaction in
flight the start waits for its end. A transaction that ends after the cycle does (R25): the next cycle starts at that end, and
CYCLE_OVERRUN with the transaction's address reaches the LINE bank, alone there where the transaction was the urgent close's, a
pass-through's or superseded (that a superseded channel's REFUSED logs nothing beside it is log entry 42, that a superseded command's
outcome fails no entry is log entry 12: the model's choices); where another fault of the LINE bank may follow in the event (that it follows
is log entry 17) and the bank was empty, its record is that fault or one that overflowed it. The urgent close's own end (R42): the slot is
empty, and the guard, told DONE, goes on as it was, or, told FAILED before its watch's deadline, retries 2 s later (R82); any outcome but
DONE counts as FAILED. The urgent close takes the first turn, whatever time is left (R41, R42): at a cycle start on an idle line, and at
the end of any other transaction once a cycle has begun (none starts before the first cycle, log entry 17). -/
def Obligations.LineCycleStarts : Prop :=
  (∀ s : State, s.Ready → s.line.late = false → s.line.inFlight = none → ∃ t, exec .lineCycleStart s = .next t ∧
    t.line.cycle = s.line.cycle + 1 ∧ t.line.cycleStartUs = some t.timeUs ∧ t.timeUs = max s.timeUs s.cycleDueUs ∧
    t.line.rate = siteRate s.tables.siteSet ∧ t.line.lsbFirst = siteLsbFirst s.tables.siteSet ∧ t.line.late = false ∧
    t.line.slots = s.line.slots.filter (fun x => decide (s.line.cycle + 1 < x.cycle + 9)) ∧
    (∀ (i : Nat) (l : ChannelLive), s.line.live[i]? = some l → l.go = true → ∃ l' : ChannelLive, t.line.live[i]? = some l' ∧ l'.go = true ∧
      l'.countdown = l.countdown - 1 ∧ l'.failures = l.failures ∧ l'.condition = l.condition ∧ l'.mode = l.mode) ∧
    Kept [.line, .out] (s.advanceUs s.cycleDueUs) t) ∧
  (∀ s : State, s.Ready → s.line.late = false → s.line.inFlight.isSome → ∃ t, exec .lineCycleStart s = .next t ∧
    t.line = { s.line with late := true } ∧ Kept [.line] (s.advanceUs s.cycleDueUs) t) ∧
  (∀ (s : State) (x : Transaction) (cmd : Instr) (o : FieldOutcome) (ends : Nat), s.Ends x cmd o ends →
    s.line.late = true ∨ (∃ b, s.line.cycleStartUs = some b ∧ b + 250000 < max s.timeUs ends) →
    ∃ t, exec cmd s = .next t ∧ t.timeUs = max s.timeUs ends ∧ t.line.cycle = s.line.cycle + 1 ∧
      t.line.cycleStartUs = some t.timeUs ∧ t.line.late = false ∧ t.line.rate = siteRate s.tables.siteSet ∧
      t.line.lsbFirst = siteLsbFirst s.tables.siteSet ∧
      (x.work = .urgent ∨ x.work = .pass ∨ x.superseded = true →
        t.banks.get .line = ((s.advanceUs ends).banksAfter .cycleOverrun (some (.address x.address))).get .line) ∧
      (ignores (bankSettings s.tables.siteSet .line) .cycleOverrun = false → s.banks.get .line = none →
        ∃ r, t.banks.get .line = some r ∧
          ((r.code = .cycleOverrun ∧ r.severity = .note ∧ r.subject = some (.address x.address)) ∨ r.overflow = true)) ∧
      Kept (.points :: reached) (s.advanceUs ends) t) ∧
  (∀ (s : State) (x : Transaction) (cmd : Instr) (o : FieldOutcome) (ends : Nat) (done : Prop), s.Ends x cmd o ends →
    x.work = .urgent → (done ↔ ∃ raw, o = .accepted .done raw) → ∃ t, exec cmd s = .next t ∧ t.line.urgent = none ∧
      (done → t.guard = s.guard) ∧
      (¬ done → ∀ d r q, s.guard.watch = .running (some d) r q →
        t.guard = { s.guard with watch := .running (some d) r (some ((s.advanceUs ends).now + 2000)) }) ∧
      (¬ done → (∀ d r q, s.guard.watch ≠ .running (some d) r q) → t.guard = s.guard) ∧
      (s.line.late = false → (∀ b, s.line.cycleStartUs = some b → max s.timeUs ends ≤ b + 250000) → t.banks = s.banks) ∧
      Kept [.line, .out, .guard, .banks] (s.advanceUs ends) t) ∧
  (∀ (s : State) (u : UrgentClose), s.line.urgent = some u →
    (s.Ready → s.line.late = false → s.line.inFlight = none → ∃ t, exec .lineCycleStart s = .next t ∧ t.Closes u) ∧
    (∀ (x : Transaction) (cmd : Instr) (o : FieldOutcome) (ends : Nat), s.Ends x cmd o ends → x.work ≠ .urgent →
      s.line.cycleStartUs ≠ none → ∃ t, exec cmd s = .next t ∧ t.Closes u))

/-- A DATA reply to a channel's READ that carries every item asked for (R4 to R7, R13, R29), in either form of the frame's end, before the
cycle ends: an item with an EXTRACT entry gives its point the raw value as R5 to R7 say (for a point that two items of the reply feed,
the manual's item order decides, and this statement says nothing), a point that no item feeds keeps its state, and the channel is OK
with no failures and its countdown reloaded. -/
def Obligations.DataReplyFillsPoints : Prop :=
  ∀ (s : State) (x : Transaction) (i : Nat) (c : ChannelRecord) (frame : List Byte) (elapsed start : Nat) (items : List Nat)
    (raw : RawReply) (cmd : Instr), s.Ready →
    cmd = .fieldReplyReceived frame elapsed ∨ cmd = .fieldReplyQuietEnd frame elapsed → frame ≠ [] →
    s.line.inFlight = some x → x.work = .channel i → x.superseded = false → s.channelRecord i = some c →
    x.request = .device (.read c.start c.count) → judgeReply x frame = .accepted (.data start items) raw → items.length = c.count →
    s.line.late = false → (∀ b, s.line.cycleStartUs = some b → max s.timeUs (x.startUs + elapsed) ≤ b + 250000) →
    ∃ t, exec cmd s = .next t ∧ t.timeUs = max s.timeUs (x.startUs + elapsed) ∧
      (∀ k v p w sg r, items[k]? = some v → findExtract c.polled (start + k) s.mapEntries = some (p, w, sg) →
        s.pointRecord p = some r → p < s.points.length →
        (∀ j < items.length, j ≠ k → ∀ w' sg', findExtract c.polled (start + j) s.mapEntries ≠ some (p, w', sg')) →
        t.points[p]? = some (r.take (rawValue w sg v) .polled t.now (s.point p))) ∧
      (∀ p, (∀ j < items.length, ∀ w sg, findExtract c.polled (start + j) s.mapEntries ≠ some (p, w, sg)) →
        t.points[p]? = s.points[p]?) ∧
      (∀ l : ChannelLive, s.line.live[i]? = some l → ∃ l' : ChannelLive, t.line.live[i]? = some l' ∧ l'.condition = .ok ∧ l'.failures = 0 ∧
        l'.countdown = c.interval ∧ l'.go = l.go ∧ l'.mode = l.mode) ∧
      Kept (.points :: reached) (s.advanceUs (x.startUs + elapsed)) t

/-- A channel's transaction that ends without a reply, or with a bad one in either form of the frame's end, before the cycle ends (R24,
R29, R31): short of the third failure the failure is counted with RETRY_ERROR and the countdown reloaded, and no point changes; the
third halts the channel, sends CHANNEL_HALTED with the channel to the LINE bank unless the bank ignores it, and makes its points that are
GOOD or RANGE STALE with their values held (R9). -/
def Obligations.FailedTransactionsHaltAChannel : Prop :=
  ∀ (s : State) (x : Transaction) (i : Nat) (c : ChannelRecord) (l : ChannelLive) (r : DeviceRequest) (frame : List Byte)
    (elapsed ends : Nat) (cmd : Instr), s.Ready →
    s.line.inFlight = some x → x.work = .channel i → x.superseded = false → s.channelRecord i = some c →
    x.request = .device r → s.line.live[i]? = some l →
    (cmd = .fieldReplyWindowExpiry ∧ ends = x.windowEndUs) ∨
      ((cmd = .fieldReplyReceived frame elapsed ∨ cmd = .fieldReplyQuietEnd frame elapsed) ∧ frame ≠ [] ∧
        (∃ raw, judgeReply x frame = .bad raw) ∧ ends = x.startUs + elapsed) →
    s.line.late = false → (∀ b, s.line.cycleStartUs = some b → max s.timeUs ends ≤ b + 250000) →
    ∃ (t : State) (l' : ChannelLive), exec cmd s = .next t ∧ t.timeUs = max s.timeUs ends ∧ t.line.live[i]? = some l' ∧
      l'.condition = .retryError ∧ l'.countdown = c.interval ∧
      (if l.failures + 1 < 3 then l'.failures = l.failures + 1 ∧ l'.go = l.go ∧ t.points = s.points ∧ t.banks = s.banks
        else l'.failures = 0 ∧ l'.go = false ∧
          t.banks.get .line = ((s.advanceUs ends).banksAfter .channelHalted (some (.channel i))).get .line ∧
          ∀ p < s.points.length, t.points[p]? = some (if p ∈ channelPoints c s.mapEntries ∧ (s.point p).fresh = true
            then (s.point p).toStale else s.point p)) ∧
      Kept (.points :: reached) (s.advanceUs ends) t

/-- What the end of a channel's transaction does to its channel, before the cycle ends (R29, R30, R34, R35). The outcome of its device,
which comes directly or as the inner reply of a COLLECT: DATA with the items asked for, with fewer (SHORT_REPLY), BUSY (mode PROBE), READY
(mode NORMAL, the channel still due, its next turn after a COLLECT being in the next cycle by log entry 55), REFUSED (GO cleared,
CHANNEL_REFUSED), no reply or a bad one (RETRY_ERROR); a third failure halts it. A HAND-OFF answered TAKEN takes a slot and makes the
channel HANDED; FULL and BUSY leave it as it was. A COLLECT that brings the inner reply releases its slot; one that does not counts as
PENDING, and the fourth is a failure that releases none; that it reloads the countdown is log entry 50, the model's choice. The PENDING
count 0 of a channel that is no longer HANDED is log entry 33. A superseded transaction changes no channel (R33, R48), and leaves the LINE
bank as it was whatever its outcome: that a REFUSED logs nothing then is log entry 42, the model's choice. Premises of the clauses on
HAND-OFF and COLLECT: a channel hands off while it is not HANDED, and collects once in a cycle. -/
def Obligations.ChannelTakesItsOutcome : Prop :=
  (∀ (s : State) (x : Transaction) (cmd : Instr) (o a : FieldOutcome) (ends i : Nat) (c : ChannelRecord) (l : ChannelLive),
    s.Concludes x cmd o ends → x.work = .channel i → x.superseded = false → s.channelRecord i = some c → s.line.live[i]? = some l →
    x.DeviceOutcome o a → ∃ (t now : State) (l' : ChannelLive), now = s.advanceUs ends ∧ exec cmd s = .next t ∧
      t.line.live[i]? = some l' ∧ Kept (.points :: reached) now t ∧
      (∀ start items raw, a = .accepted (.data start items) raw →
        (items.length = c.count → l'.condition = .ok ∧ l'.failures = 0 ∧ l'.countdown = c.interval ∧ l'.go = l.go ∧ l'.mode = l.mode) ∧
        (items.length ≠ c.count → l'.condition = .shortReply ∧ l'.countdown = c.interval ∧ l'.mode = l.mode ∧
          (l.failures + 1 < 3 → l'.failures = l.failures + 1 ∧ l'.go = l.go)) ∧
        (items.length = c.count ∨ l.failures + 1 < 3 → t.points = (now.extract c.polled .polled start items).points)) ∧
      (∀ raw, a = .accepted .busy raw → l'.mode = .probe ∧ l'.countdown = c.interval ∧ l'.failures = l.failures ∧
        l'.condition = l.condition ∧ l'.go = l.go ∧ t.points = s.points ∧ t.banks = s.banks) ∧
      (∀ raw, a = .accepted .ready raw → l'.mode = .normal ∧ l'.countdown = l.countdown ∧ l'.failures = l.failures ∧
        l'.condition = l.condition ∧ l'.go = l.go ∧ t.points = s.points ∧ t.banks = s.banks) ∧
      (∀ raw, a = .accepted .refused raw → l'.go = false ∧ l'.condition = .refused ∧ l'.countdown = c.interval ∧
        l'.failures = l.failures ∧ t.points = s.points ∧
        t.banks.get .line = (now.banksAfter .channelRefused (some (.channel i))).get .line) ∧
      (a = .noReply ∨ (∃ raw, a = .bad raw) → l'.condition = .retryError ∧ l'.countdown = c.interval ∧ l'.mode = l.mode ∧
        (l.failures + 1 < 3 → l'.failures = l.failures + 1 ∧ l'.go = l.go ∧ t.points = s.points ∧ t.banks = s.banks)) ∧
      (3 ≤ l.failures + 1 → a = .noReply ∨ (∃ raw, a = .bad raw) ∨
          (∃ start items raw, a = .accepted (.data start items) raw ∧ items.length ≠ c.count) →
        l'.failures = 0 ∧ l'.go = false ∧
        t.banks.get .line = (now.banksAfter .channelHalted (some (.channel i))).get .line) ∧
      (∀ inner r, x.request = .collect inner r → l'.handed = none ∧ l'.pendingCount = 0 ∧
        ∀ h, l.handed = some h → t.line.slots = s.line.slots.eraseP fun y => y.holder == .channel i && y.cycle == h)) ∧
  (∀ (s : State) (x : Transaction) (cmd : Instr) (o : FieldOutcome) (ends i inner : Nat) (r : DeviceRequest) (raw : RawReply)
    (c : ChannelRecord) (l : ChannelLive), s.Concludes x cmd o ends → x.work = .channel i → x.superseded = false →
    s.channelRecord i = some c → s.line.live[i]? = some l → x.request = .handOff inner r → l.handed = none →
    (o = .accepted .taken raw → ∃ t, exec cmd s = .next t ∧ Kept [.line, .out] (s.advanceUs ends) t ∧
      t.line.live[i]? = some { l with handed := some s.line.cycle, pendingCount := 0 } ∧
      t.line.slots = if s.line.slots.length < 2 then s.line.slots ++ [⟨.channel i, s.line.cycle⟩] else s.line.slots) ∧
    (o = .accepted .full raw ∨ o = .accepted .busy raw → ∃ t, exec cmd s = .next t ∧ Kept [.line, .out] (s.advanceUs ends) t ∧
      t.line.live[i]? = some l ∧ t.line.slots = s.line.slots)) ∧
  (∀ (s : State) (x : Transaction) (cmd : Instr) (o : FieldOutcome) (ends i inner : Nat) (r : DeviceRequest) (c : ChannelRecord)
    (l : ChannelLive), s.Concludes x cmd o ends → x.work = .channel i → x.superseded = false → s.channelRecord i = some c →
    s.line.live[i]? = some l → x.request = .collect inner r → l.collectCycle = some s.line.cycle →
    (∀ bytes raw, o ≠ .accepted (.carried bytes) raw) → ∃ t, exec cmd s = .next t ∧ t.line.slots = s.line.slots ∧
      (l.pendingCount + 1 < 4 → t.line.live[i]? = some { l with pendingCount := l.pendingCount + 1 } ∧
        Kept [.line, .out] (s.advanceUs ends) t) ∧
      (4 ≤ l.pendingCount + 1 → ∃ l' : ChannelLive, t.line.live[i]? = some l' ∧ l'.handed = none ∧ l'.condition = .retryError ∧
        l'.countdown = c.interval ∧ (if l.failures + 1 < 3 then l'.failures = l.failures + 1 ∧ l'.go = l.go
          else l'.failures = 0 ∧ l'.go = false))) ∧
  (∀ (s : State) (x : Transaction) (cmd : Instr) (o : FieldOutcome) (ends i : Nat), s.Concludes x cmd o ends → x.work = .channel i →
    x.superseded = true → ∃ t, exec cmd s = .next t ∧ t.banks.get .line = s.banks.get .line ∧
      ∀ (j : Nat) (l : ChannelLive), s.line.live[j]? = some l → ∃ l' : ChannelLive, t.line.live[j]? = some l' ∧ l'.go = l.go ∧
        l'.condition = l.condition ∧ l'.failures = l.failures ∧ l'.countdown = l.countdown ∧ l'.mode = l.mode)

/-- POINT_STALE_EXPIRY (R8): at the end of its stale timer a point becomes STALE; its value, update time and source are held, its timer
stops, and no other point changes. -/
def Obligations.StaleTimerMakesAPointStale : Prop :=
  ∀ (s : State) (p due : Nat), s.Ready → p < s.points.length → (s.point p).staleAt = some due →
    ∃ t, exec (.pointStaleExpiry p due) s = .next t ∧
      t.points[p]? = some { s.point p with quality := .stale, staleAt := none } ∧
      (∀ q, q ≠ p → t.points[q]? = s.points[q]?) ∧ Kept (.points :: reached) (s.advanceTo due) t

/-- COMMAND_CONFIRM_DEADLINE_EXPIRY (R40): short of the third failure the entry goes back to WAITING with one attempt more and no deadline
(premise for that clause: the line has nothing to begin). The third failure removes the entry, so that any entry for its actuator
afterwards is a fresh one; COMMAND_FAILED with its address reaches the LINE bank, unless the bank ignores it; and its origin is told
FAILED: the fill is inhibited by VALVE_FAULT (R105), the zone of the heater is marked FAILED with the feedback seen and loses its
grant (R122). -/
def Obligations.ConfirmDeadlineFailsACommand : Prop :=
  ∀ (s : State) (a i due : Nat) (e : CommandEntry), s.Ready → s.line.commands.find? (CommandEntry.isFor a i) = some e →
    e.deadline = some due → ∃ t, exec (.commandConfirmDeadlineExpiry a i due) s = .next t ∧
      (e.attempts + 1 < 3 → s.lineWaits → t.line = { s.line with
        commands := s.line.commands.map fun x =>
          if x.isFor a i then { x with attempts := x.attempts + 1, stage := .waiting, deadline := none } else x }) ∧
      (e.attempts + 1 < 3 → Kept [.line, .out] (s.advanceTo due) t) ∧
      (3 ≤ e.attempts + 1 →
        (∀ x ∈ t.line.commands, x.isFor a i = true → x.attempts = 0 ∧ x.stage = .waiting ∧ x.deadline = none) ∧
        t.banks.get .line = ((s.advanceTo due).banksAfter .commandFailed (some (.address a))).get .line ∧
        (e.origin = .fill → .valveFault ∈ t.fill.inhibit) ∧
        (e.origin = .frost → ∀ (j : Nat) (r : ZoneRecord) (z : ZoneState),
          s.zoneRecords.findIdx? (fun r => r.heaterAddress == a && r.heaterItem == i) = some j → s.zoneRecords[j]? = some r →
          s.frost.zones[j]? = some z → ∃ z', t.frost.zones[j]? = some z' ∧ z'.heater = .failed (s.zoneFeedback r) ∧
            z'.granted = false)) ∧
      Kept reached (s.advanceTo due) t

/-- The stages of a command (R26, R38, R39, R40). The turn: at a line cycle start on an idle line the first entry of the list that is not
OPERATED sends SELECT in WAITING and OPERATE in SELECTED, with the item and target, behind the wake burst where a channel with its address
asks for it (premise: no close waits and no GUARD-class channel, whose turns come first, is there). The end of its transaction before the
cycle ends: the echo of item and value makes it SELECTED, DONE makes it OPERATED with its confirm deadline (valve travel, or 10 s),
anything else is a failed step, the third of which removes it and sends COMMAND_FAILED to the LINE bank; it takes no second turn in that
cycle, and no channel's failure count changes. The confirmation: at a point notice that lists its feedback point, an OPERATED entry whose
feedback is GOOD at the target (for a heater a STATE point, R112, log entry 23) leaves the list and its origin is told CONFIRMED; every
other entry stays. Premise: the law of R37, at most one entry for an actuator. -/
def Obligations.CommandStagesAndConfirmation : Prop :=
  (∀ (s : State) (before rest : List CommandEntry) (e : CommandEntry), s.Ready → s.line.late = false → s.line.inFlight = none →
    s.line.urgent = none → (∀ c ∈ s.channelRecords, c.cls ≠ .guard) → s.line.commands = before ++ e :: rest →
    (∀ b ∈ before, b.stage = .operated) → e.stage ≠ .operated → e.turnCycle ≠ some (s.line.cycle + 1) →
    ∃ t x, exec .lineCycleStart s = .next t ∧ Kept [.line, .out] (s.advanceUs s.cycleDueUs) t ∧ t.line.inFlight = some x ∧
      x.work = .command e.address e.item ∧ x.address = e.address ∧ x.superseded = false ∧ x.startUs = t.timeUs ∧
      x.request = .device (if e.stage = .waiting then .select e.item e.target else .operate e.item e.target) ∧
      (x.wake = true ↔ ∃ c ∈ s.channelRecords, c.address = e.address ∧ c.wake = true)) ∧
  (∀ (s : State) (x : Transaction) (cmd : Instr) (o : FieldOutcome) (ends a i : Nat) (e : CommandEntry) (good : Prop),
    s.Concludes x cmd o ends → x.work = .command a i → x.superseded = false → s.CommandLaw →
    s.line.commands.find? (CommandEntry.isFor a i) = some e → e.turnCycle = some s.line.cycle →
    (good ↔ (e.stage = .waiting ∧ ∃ raw, o = .accepted (.selected e.item e.target) raw) ∨
      (e.stage = .selected ∧ ∃ raw, o = .accepted .done raw)) →
    ∃ t, exec cmd s = .next t ∧ t.timeUs = max s.timeUs ends ∧ Kept reached (s.advanceUs ends) t ∧
      (good → e.stage = .waiting → t.line.commands.find? (CommandEntry.isFor a i) = some { e with stage := .selected }) ∧
      (good → e.stage = .selected → t.line.commands.find? (CommandEntry.isFor a i) = some { e with
        stage := .operated
        deadline := some (t.now + match e.origin, s.tables.guardSet with
          | .fill, some g => g.valveTravel * 1000
          | _, _ => 10000) }) ∧
      (¬ good → e.attempts + 1 < 3 → t.line.commands.find? (CommandEntry.isFor a i) =
        some { e with attempts := e.attempts + 1, stage := .waiting, deadline := none }) ∧
      (good ∨ e.attempts + 1 < 3 → t.banks = s.banks ∧ ∀ y, t.line.inFlight = some y → y.work ≠ .command a i) ∧
      (¬ good → 3 ≤ e.attempts + 1 →
        (∀ y ∈ t.line.commands, y.isFor a i = true → y.attempts = 0 ∧ y.stage = .waiting ∧ y.deadline = none) ∧
        t.banks.get .line = ((s.advanceUs ends).banksAfter .commandFailed (some (.address a))).get .line) ∧
      ∀ (j : Nat) (l : ChannelLive), s.line.live[j]? = some l → ∃ l' : ChannelLive, t.line.live[j]? = some l' ∧
        l'.failures = l.failures ∧ l'.condition = l.condition) ∧
  (∀ (s t : State) (ps : List Nat), t = s.lineOnPoints ps → s.CommandLaw →
    (∀ p, p ∉ [Part.line, .notices] → p.read t = p.read s) ∧ t.line.live = s.line.live ∧ t.line.slots = s.line.slots ∧
    t.line.pass = s.line.pass ∧ t.line.urgent = s.line.urgent ∧
    ∀ e ∈ s.line.commands, ∀ confirmed : Prop,
      (confirmed ↔ e.stage = .operated ∧ e.feedback ∈ ps ∧ (s.point e.feedback).quality = .good ∧
        (s.point e.feedback).value = e.target ∧
        (e.origin = .frost → ∃ r, s.pointRecord e.feedback = some r ∧ r.kind = .state)) →
      (confirmed → (∀ y ∈ t.line.commands, y.isFor e.address e.item = false) ∧
        ⟨match e.origin with | .fill => .fill | .frost => .frost, .command e.address e.item e.target .confirmed⟩ ∈ t.notices) ∧
      (¬ confirmed → e ∈ t.line.commands))

/-! ### Samples and the level -/

/-- The raw value of an item (R4) under each width and signedness: the whole item or its less significant byte, the signed forms in two's
complement. What a sample makes of a point (R5, R6, R7): inside the raw window a LEVEL, TEMPERATURE or FLOW point takes the offset plus the
product of raw value and gain divided by 4,096 and truncated toward zero, saturated to the engineering range, and any other kind the
raw value itself; the point is GOOD. Outside the window it is RANGE with its value held. Either way time and source are the sample's,
and the stale timer starts afresh. Premise for the converted kinds: the engineering range is in order, as R2 makes sure for them. -/
def Obligations.SampleIsConverted : Prop :=
  (∀ item : Nat, item < 65536 →
    rawValue 2 false item = item ∧ rawValue 1 false item = (item % 256 : Nat) ∧
    (item < 32768 → rawValue 2 true item = item) ∧ (32768 ≤ item → rawValue 2 true item = (item : Int) - 65536) ∧
    (item % 256 < 128 → rawValue 1 true item = (item % 256 : Nat)) ∧
    (128 ≤ item % 256 → rawValue 1 true item = ((item % 256 : Nat) : Int) - 256)) ∧
  ∀ (r : PointRecord) (raw : Int) (src : Source) (now : Nat) (p : PointState),
    (r.take raw src now p).updated = some now ∧ (r.take raw src now p).source = some src ∧
    (r.take raw src now p).staleAt = some (now + r.staleSec * 1000) ∧
    (raw < r.rawMin ∨ r.rawMax < raw → (r.take raw src now p).quality = .range ∧ (r.take raw src now p).value = p.value) ∧
    (r.rawMin ≤ raw → raw ≤ r.rawMax → (r.take raw src now p).quality = .good ∧
      (r.kind = .position ∨ r.kind = .state ∨ r.kind = .switch → (r.take raw src now p).value = raw) ∧
      (r.kind = .level ∨ r.kind = .temperature ∨ r.kind = .flow → r.engLow ≤ r.engHigh → ∀ v : Int,
        v = r.offset + (raw * r.gain).tdiv 4096 →
        (v < r.engLow → (r.take raw src now p).value = r.engLow) ∧
        (r.engHigh < v → (r.take raw src now p).value = r.engHigh) ∧
        (r.engLow ≤ v → v ≤ r.engHigh → (r.take raw src now p).value = v)))

/-- A recomputation of the working level (R53): the mean of both points within the agree band, the greater beyond it, the one usable
point, or the level held. Where the usable points and the level held are at most 40,000 mm, so is the new level. -/
def Obligations.LevelFollowsTheUsablePoints : Prop :=
  ∀ (s : State) (g : GuardSet) (sample : Option Nat),
    (∀ a b, s.usableA g = some a → s.usableB g = some b → a ≤ b + g.agreeBand → b ≤ a + g.agreeBand →
      (s.recompute g sample).level.record.w = (a + b) / 2 ∧ (s.recompute g sample).level.record.quality = .good) ∧
    (∀ a b, s.usableA g = some a → s.usableB g = some b → b + g.agreeBand < a ∨ a + g.agreeBand < b →
      (s.recompute g sample).level.record.w = max a b ∧ (s.recompute g sample).level.record.quality = .split) ∧
    (∀ x, (s.usableA g = some x ∧ s.usableB g = none) ∨ (s.usableA g = none ∧ s.usableB g = some x) →
      (s.recompute g sample).level.record.w = x ∧ (s.recompute g sample).level.record.quality = .single) ∧
    (s.usableA g = none → s.usableB g = none →
      (s.recompute g sample).level.record.w = s.level.record.w ∧ (s.recompute g sample).level.record.quality = .lost) ∧
    ((∀ a, s.usableA g = some a → a ≤ 40000) → (∀ b, s.usableB g = some b → b ≤ 40000) → s.level.record.w ≤ 40000 →
      (s.recompute g sample).level.record.w ≤ 40000)

/-- The rate when an entry `n` is appended (R59) is the rate across the ring that it ends: with `o` the oldest entry no earlier than
120,000 ms before `n`, the rise in mm per minute between them, truncated toward zero and kept within 2,000, and UNKNOWN for less than
24,000 ms. -/
def Obligations.RateAcrossTheRing : Prop :=
  (∀ (l : LevelBlock) (strapping : Option (List Breakpoint)) (band now time : Nat) (a b : Option Nat),
    (l.recompute strapping band now a b (some time)).2 = true →
    (l.recompute strapping band now a b (some time)).1.ring.getLast? =
      some ⟨(l.recompute strapping band now a b (some time)).1.record.w, time⟩ ∧
    (l.recompute strapping band now a b (some time)).1.record.rate =
      ringRate (l.recompute strapping band now a b (some time)).1.ring
        ⟨(l.recompute strapping band now a b (some time)).1.record.w, time⟩) ∧
  ∀ (before after : List RingEntry) (o n : RingEntry), (before ++ o :: after).getLast? = some n →
    (∀ e ∈ before, e.time + 120000 < n.time) → n.time ≤ o.time + 120000 →
    (n.time < o.time + 24000 → ringRate (before ++ o :: after) n = none) ∧
    (o.time + 24000 ≤ n.time → ∃ r : Int, ringRate (before ++ o :: after) n = some r ∧ -2000 ≤ r ∧ r ≤ 2000 ∧
      ∀ q : Int, q = (((n.w : Int) - o.w) * 60000).tdiv (n.time - o.time : Nat) →
        (2000 < q → r = 2000) ∧ (q < -2000 → r = -2000) ∧ (-2000 ≤ q → q ≤ 2000 → r = q))

/-! ### The guard -/

/-- One evaluation over the level record `lr` (R74). Its numbers (R71, R72, R73): thresholds from the GUARD_SET in use and the frost-extra
flag, the coast volume as a height in the record's segment, rounded up, and the projection from the level, the rise term and that height,
capped at 40,000 mm. What it does with them: a level at or above the trip level that is not LOST trips the guard with cause LEVEL from
ARMED and from ANTICIPATING, and during a reset in progress is remembered as the first condition seen; short of that a projection at or
above the anticipate threshold moves ARMED to ANTICIPATING with the effects of R75 (the zero demand at the queue's head, GUARD to the
inhibit set, the CLOSE of the inlet valve in the command list with its outcome told to the Fill Planner, the notice to Level Telemetry),
and a projection at or below the re-arm level with no pump running moves ANTICIPATING to ARMED (R76); in every other case the state stays
and nothing but the guard's numbers changes. Premise for the CLOSE in the list: no close stands in the urgent slot, which takes its place
(R37, R41), and an entry for the valve or a free one of the 8 places is there. That the DEMAND frame takes the next tag and restarts the
renewal whatever the demand was is log entry 24. -/
def Obligations.EvaluationComputesTheGuardsNumbers : Prop :=
  ∀ (s t : State) (g : GuardSet) (lr : LevelRecord) (extra : Int) (high stopped : Prop), t = s.guardEvaluate lr →
    s.tables.guardSet = some g → extra = (if s.guard.frostExtra then (g.frostExtra : Int) else 0) →
    (high ↔ t.guard.trip ≤ lr.w ∧ lr.quality ≠ .lost) → (stopped ↔ ∀ c, s.fill.station = some c → c.running = 0) →
    t.guard.anticipate = g.overflow - g.anticipateMargin - extra ∧
    t.guard.trip = g.overflow - g.tripMargin - extra ∧
    t.guard.resetLevel = g.overflow - g.tripMargin - extra - g.resetGap ∧
    t.guard.rearm = g.overflow - g.anticipateMargin - extra - g.hysteresis ∧
    (s.tables.strapping = none → t.guard.coast = 0) ∧
    (∀ bs x y, s.tables.strapping = some bs → bs[lr.segment]? = some x → bs[lr.segment + 1]? = some y → x.volume < y.volume →
      g.coastVolume * (y.level - x.level) ≤ t.guard.coast * (y.volume - x.volume) ∧
      t.guard.coast * (y.volume - x.volume) < g.coastVolume * (y.level - x.level) + (y.volume - x.volume)) ∧
    t.guard.projection = min 40000 (lr.w + t.guard.coast +
      match lr.rate with
      | some r => r.toNat * g.stopLatency / 60
      | none => if 0 < s.fill.demand then g.ratedRise * g.stopLatency / 60 else 0) ∧
    ⟨.telemetry, .projection t.guard.projection⟩ ∈ t.notices ∧
    (high → s.guard.state ≠ .tripped → t.guard.state = .tripped ∧ t.guard.cause = some .level ∧ t.guard.tripLine = true ∧
      t.guard.tripFlag = .pending ∧ t.guard.reset = none ∧ s.DemandZeroed t ∧
      t.banks = s.banksAfter .tripLevel (some (.point g.pointA))) ∧
    (¬ high → s.guard.state = .armed → t.guard.anticipate ≤ t.guard.projection →
      t.guard.state = .anticipating ∧ t.guard.cause = s.guard.cause ∧ t.guard.tripLine = s.guard.tripLine ∧ s.DemandZeroed t ∧
      ⟨.fill, .inhibit [.guard] []⟩ ∈ t.notices ∧ ⟨.telemetry, .guardState .anticipating s.guard.cause⟩ ∈ t.notices ∧
      (s.line.urgent = none →
        (∃ e, s.line.commands.find? (CommandEntry.isFor g.inletAddress g.inletItem) = some e) ∨ s.line.commands.length < 8 →
        ⟨.fill, .command g.inletAddress g.inletItem 0 .placed⟩ ∈ t.notices ∧
        ∃ e, t.line.commands.find? (CommandEntry.isFor g.inletAddress g.inletItem) = some e ∧ e.target = 0 ∧ e.origin = .fill ∧
          e.feedback = g.feedback ∧ e.stage = .waiting ∧ e.attempts = 0 ∧ e.deadline = none) ∧
      (s.line.urgent ≠ none → t.line = s.line) ∧
      (∀ p, p ∉ [Part.guard, .fill, .out, .line, .notices] → p.read t = p.read s)) ∧
    (¬ high → s.guard.state = .anticipating → t.guard.projection ≤ t.guard.rearm → stopped →
      t.guard.state = .armed ∧ t.guard.cause = s.guard.cause ∧ ⟨.fill, .inhibit [] [.guard]⟩ ∈ t.notices ∧
      ⟨.telemetry, .guardState .armed s.guard.cause⟩ ∈ t.notices ∧ (∀ p, p ∉ [Part.guard, .notices] → p.read t = p.read s)) ∧
    (¬ high ∧ s.guard.state = .armed ∧ t.guard.projection < t.guard.anticipate ∨
        ¬ high ∧ s.guard.state = .anticipating ∧ (t.guard.rearm < t.guard.projection ∨ ¬ stopped) ∨ s.guard.state = .tripped →
      t.guard.state = s.guard.state ∧ t.guard.cause = s.guard.cause ∧ t.guard.tripLine = s.guard.tripLine ∧
      (¬ high ∨ s.guard.reset = none → t.guard.reset = s.guard.reset) ∧
      (∀ r, high → s.guard.state = .tripped → s.guard.reset = some r →
        t.guard.reset = some { r with seen := some (r.seen.getD .level) }) ∧
      (∀ p, p ∉ [Part.guard, .notices] → p.read t = p.read s))

/-- A trip is one event of the guard (R79, R80, R41, R75, R137): the state with its cause, the trip line, the pending trip record asked of
the store, a fill demand of 0 with its DEMAND frame at the head of the queue (held aside for the head while a DEMAND frame is in
transmission; that this frame takes the next tag and restarts the renewal whatever the demand was is log entry 24), the notice that adds
GUARD to the inhibit set, the notice to Level Telemetry, the close in the urgent slot with the removal of the inlet valve's entry and its
WITHDRAWN, the valve-confirm watch, the TRIP report, and the fault of the cause with its subject, which nothing masks. The three timers of
the watch while the guard is TRIPPED (R82): the deadline logs VALVE_NOT_CLOSED with the feedback point and starts the 30 s repeat (a retry
still to come falls away, log entry 35), the repeat restarts itself, the retry of a failed close ends; each places the close in the urgent
slot. That the watch of a trip starts without a retry or a repeat, even where one of a watch before it still waits, is log entry 35, the
model's choice. With GUARD_SET EMPTY no valve is named, and the deadline does nothing (log entry 27). -/
def Obligations.TripAndItsWatch : Prop :=
  (∀ (s t : State) (cause : TripCause) (lr : LevelRecord), cause ≠ .noTables → t = s.trip cause lr →
    t.guard.state = .tripped ∧ t.guard.cause = some cause ∧ t.guard.tripLine = true ∧ t.guard.tripFlag = .pending ∧
    t.guard.reset = none ∧ s.DemandZeroed t ∧
    t.engine.tripWork = s.engine.tripWork ++ [.trip cause lr.w lr.quality s.guard.projection s.clockTime s.uptime] ∧
    t.telemetry.lastTrip = some ⟨cause, lr.w, s.guard.projection, s.clockTime, none⟩ ∧
    t.out.Offers (.trip ⟨cause, lr.w, s.guard.projection, s.clockTime, none⟩) ∧
    ⟨.fill, .inhibit [.guard] []⟩ ∈ t.notices ∧ ⟨.telemetry, .guardState .tripped (some cause)⟩ ∈ t.notices ∧
    (cause = .level → t.banks = s.banksAfter .tripLevel (s.tables.guardSet.map fun g => .point g.pointA)) ∧
    (cause = .float → t.banks = s.banksAfter .tripFloat none) ∧
    (cause = .levelLost → t.banks = s.banksAfter .tripLevelLost (s.tables.guardSet.map fun g => .point g.pointA)) ∧
    (∀ g, s.tables.guardSet = some g →
      (s.line.urgent = none → t.line.urgent = some ⟨g.inletAddress, g.inletItem, false⟩ ∧
        (∀ e ∈ t.line.commands, e.isFor g.inletAddress g.inletItem = false) ∧
        (∀ e ∈ s.line.commands, e.isFor g.inletAddress g.inletItem = false → e ∈ t.line.commands) ∧
        (∀ e, s.line.commands.find? (CommandEntry.isFor g.inletAddress g.inletItem) = some e →
          ⟨.fill, .command g.inletAddress g.inletItem e.target .withdrawn⟩ ∈ t.notices)) ∧
      (s.line.urgent ≠ none → t.line = s.line) ∧
      t.guard.watch = if s.valvePosition g = some 0 then .confirmed
        else .running (some (s.now + g.valveTravel * 1000)) none none) ∧
    (∀ p, p ∉ [Part.guard, .fill, .engine, .telemetry, .out, .banks, .line, .notices] → p.read t = p.read s)) ∧
  (∀ (s : State) (due : Nat) (r t' : Option Nat) (g : GuardSet), s.Ready → s.guard.state = .tripped →
    s.guard.watch = .running (some due) r t' → s.tables.guardSet = some g →
    ∃ t, exec (.valveConfirmDeadlineExpiry due) s = .next t ∧
      t.guard.watch = .running none (some ((s.advanceTo due).now + 30000)) none ∧
      t.banks.get .guard = ((s.advanceTo due).banksAfter .valveNotClosed (some (.point g.feedback))).get .guard ∧
      (∃ u, t.line.urgent = some u ∧ (s.line.urgent = none → u.address = g.inletAddress ∧ u.item = g.inletItem)) ∧
      t.guard.state = .tripped ∧ t.guard.tripLine = s.guard.tripLine ∧
      Kept reached (s.advanceTo due) t) ∧
  (∀ (s : State) (due : Nat), s.Ready → s.guard.watch.deadlineAt = some due → s.tables.guardSet = none →
    ∃ t, exec (.valveConfirmDeadlineExpiry due) s = .next t ∧ Kept [] (s.advanceTo due) t) ∧
  (∀ (s : State) (due : Nat) (d t' : Option Nat), s.Ready → s.guard.state = .tripped →
    s.guard.watch = .running d (some due) t' → ∃ t, exec (.valveCloseRepeatExpiry due) s = .next t ∧
      t.guard.watch = .running none (some ((s.advanceTo due).now + 30000)) none ∧
      (∀ g, s.tables.guardSet = some g →
        ∃ u, t.line.urgent = some u ∧ (s.line.urgent = none → u.address = g.inletAddress ∧ u.item = g.inletItem)) ∧
      Kept reached (s.advanceTo due) t) ∧
  (∀ (s : State) (due : Nat) (d r : Option Nat), s.Ready → s.guard.state = .tripped →
    s.guard.watch = .running d r (some due) → ∃ t, exec (.valveCloseRetryExpiry due) s = .next t ∧
      t.guard.watch = .running d r none ∧
      (∀ g, s.tables.guardSet = some g →
        ∃ u, t.line.urgent = some u ∧ (s.line.urgent = none → u.address = g.inletAddress ∧ u.item = g.inletItem)) ∧
      Kept reached (s.advanceTo due) t)

/-- FLOAT_DEBOUNCE_EXPIRY (R77): with the input inactive only the float state changes; an active one trips an ARMED or ANTICIPATING guard
with cause FLOAT, is remembered by a reset in progress, and logs FLOAT_CONFLICT with
point A when W lies more than 1,000 mm below the float level. A trip sends TRIP_FLOAT without a subject to the GUARD bank. With GUARD_SET
EMPTY no float level is named and nothing is compared (log entry 35). -/
def Obligations.FloatDebounceTrips : Prop :=
  ∀ (s : State) (due : Nat), s.Ready → s.guard.floatAt = some due → ∃ t, exec (.floatDebounceExpiry due) s = .next t ∧
    (s.inputs.float = false → t.guard = { s.guard with floatActive := false, floatAt := none } ∧ Kept [.guard] (s.advanceTo due) t) ∧
    (s.inputs.float = true → s.guard.state ≠ .tripped →
      t.guard.state = .tripped ∧ t.guard.cause = some .float ∧ t.guard.tripLine = true ∧ t.guard.tripFlag = .pending ∧
      t.guard.reset = none ∧ t.guard.floatActive = true ∧ t.guard.floatAt = none ∧ 
      t.banks.get .guard = ((s.advanceTo due).banksAfter .tripFloat none).get .guard) ∧
    (s.inputs.float = true → s.guard.state = .tripped →
      (∀ g, s.tables.guardSet = some g → (g.floatLevel : Int) - 1000 ≤ s.level.record.w) →
      t.guard = { s.guard with
        floatActive := true
        floatAt := none
        reset := s.guard.reset.map fun r => { r with seen := some (r.seen.getD .float) } } ∧
      Kept [.guard] (s.advanceTo due) t) ∧
    (s.inputs.float = true → ∀ g, s.tables.guardSet = some g → (s.level.record.w : Int) < g.floatLevel - 1000 →
      t.banks.get .level = ((s.advanceTo due).banksAfter .floatConflict (some (.point g.pointA))).get .level) ∧
    Kept reached (s.advanceTo due) t

/-- LEVEL_HOLD_EXPIRY (R78): a lost level trips an ARMED or ANTICIPATING guard with cause LEVEL_LOST, is remembered by a reset in
progress, and otherwise does nothing more than stop the timer. A trip sends TRIP_LEVEL_LOST with point A to the GUARD bank. -/
def Obligations.LevelHoldTrips : Prop :=
  ∀ (s : State) (due : Nat), s.Ready → s.guard.holdAt = some due → ∃ t, exec (.levelHoldExpiry due) s = .next t ∧
    (s.guard.state ≠ .tripped →
      t.guard.state = .tripped ∧ t.guard.cause = some .levelLost ∧ t.guard.tripLine = true ∧ t.guard.tripFlag = .pending ∧
      t.guard.reset = none ∧ t.banks.get .guard =
        ((s.advanceTo due).banksAfter .tripLevelLost (s.tables.guardSet.map fun g => .point g.pointA)).get .guard) ∧
    (s.guard.state = .tripped →
      t.guard = { s.guard with
        holdAt := none
        reset := s.guard.reset.map fun r => { r with seen := some (r.seen.getD .levelLost) } } ∧
      Kept [.guard] (s.advanceTo due) t) ∧
    Kept reached (s.advanceTo due) t

/-- GUARD_RESET with its place (R83, R84): the first check that fails gives the response and the guard stays as it is; when all pass the
reset is in progress under the reservation, still TRIPPED, and a reset marker is asked of the store. -/
def Obligations.GuardResetChecksAndStarts : Prop :=
  ∀ (s : State) (tag : Byte) (refused : Option Status), s.Serves →
    refused = (if s.guard.state ≠ .tripped then some .notTripped
      else if s.tables.strapping = none ∨ s.tables.guardSet = none ∨ s.tables.points = none ∨ s.tables.channels = none
        then some .noTables
      else if s.guard.tripFlag = .pending ∨ s.guard.reset ≠ none then some .busy
      else if s.guard.floatActive = true then some .float
      else if s.level.record.quality = .lost ∨ s.level.record.quality = .split then some .levelBad
      else if s.guard.resetLevel ≤ s.level.record.w then some .tooHigh
      else if s.holds .level = true ∨ s.holds .guard = true then some .held else none) →
    ∃ t, exec (.guardReset tag []) s = .next t ∧
      (∀ status, refused = some status →
        t.out.Carries (.response s.out.nextResv 0x20#8 tag [status.byte]) ∧ Served [] s t) ∧
      (refused = none → t.guard = { s.guard with reset := some ⟨s.out.nextResv, tag, none⟩ } ∧
        (s.engineAtWork → t.engine = { s.engine with
          tripWork := s.engine.tripWork ++ [.marker s.level.record.w s.clockTime s.uptime] }) ∧
        (s.lineWaits → .reservation s.out.nextResv 0x20#8 tag ∈ t.out.waiting) ∧ Served [.guard, .engine, .nv] s t)

/-! ### The clock, the plan and the fill -/

/-- SET_CLOCK with its place and a payload of day, minute (2 bytes) and second (R88): a value outside its range is answered OUT_OF_RANGE and
changes nothing; otherwise the clock takes the three values at once, its next minute follows its seconds, the tariff class is that of
the window it now shows (R90), and the response is DONE. CLOCK_MINUTE aims the next minute and recomputes the class. -/
def Obligations.ClockIsSetAndTicks : Prop :=
  (∀ (s : State) (tag d hi lo sec : Byte), s.Serves → ∃ t, exec (.setClock tag [d, hi, lo, sec]) s = .next t ∧
    (6 < d.toNat ∨ 1439 < hi.toNat * 256 + lo.toNat ∨ 59 < sec.toNat →
      t.out.Carries (.response s.out.nextResv 0x1F#8 tag [Status.outOfRange.byte]) ∧ Served [] s t) ∧
    (d.toNat ≤ 6 → hi.toNat * 256 + lo.toNat ≤ 1439 → sec.toNat ≤ 59 →
      t.fill.clock = some ⟨⟨d.toNat, hi.toNat * 256 + lo.toNat, sec.toNat⟩, 0, s.now + (60 - sec.toNat) * 1000⟩ ∧
      t.fill.window = currentWindow s.tables.siteSet s.tables.tariff (some ⟨d.toNat, hi.toNat * 256 + lo.toNat, sec.toNat⟩) ∧
      t.fill.tariff = windowClass t.fill.window ∧
      t.out.Carries (.response s.out.nextResv 0x1F#8 tag [Status.done.byte]) ∧ Kept (.trunk :: reached) s t)) ∧
  (∀ (s : State) (c : ClockState), s.Ready → (s.advanceTo c.minuteAt).fill.clock = some c → ∃ t,
    exec (.clockMinute c.minuteAt) s = .next t ∧ t.fill.clock = some { c with minuteAt := c.minuteAt + 60000 } ∧
    t.fill.window = currentWindow s.tables.siteSet s.tables.tariff (some c.time) ∧ t.fill.tariff = windowClass t.fill.window ∧
    Kept reached (s.advanceTo c.minuteAt) t)

/-- The window of the present minute (R90): a window of yesterday's day type that runs over midnight and is not over, or else one of
today's type that has started and is not over or runs over midnight; with no such window, or with the clock UNSET, none. -/
def Obligations.WindowOfTheMinute : Prop :=
  ∀ (site : Option SiteSet) (ws : List TariffWindow) (c : ClockTime) (yesterday today : DayType), c.day ≤ 6 →
    yesterday = siteDayType site (if c.day = 0 then 6 else c.day - 1) → today = siteDayType site c.day →
    currentWindow site (some ws) none = none ∧
    (∀ w, currentWindow site (some ws) (some c) = some w → w ∈ ws ∧
      ((w.dayType = yesterday ∧ w.stop < w.start ∧ c.minute < w.stop) ∨
        (w.dayType = today ∧ w.start ≤ c.minute ∧ (c.minute < w.stop ∨ w.stop < w.start)))) ∧
    (∀ w ∈ ws, w.dayType = yesterday → w.stop < w.start → c.minute < w.stop →
      ∃ v ∈ ws, currentWindow site (some ws) (some c) = some v ∧ v.dayType = yesterday ∧ v.stop < v.start ∧ c.minute < v.stop) ∧
    (currentWindow site (some ws) (some c) = none →
      ∀ w ∈ ws, w.dayType = today → w.start ≤ c.minute → w.stop ≤ c.minute ∧ w.start ≤ w.stop)

/-- FORCE_EXPIRY (R106): the order is AUTO again, and a fill that the end of the window sends to IDLE is IDLE (R96, R97). STOP_WAIT_EXPIRY
(R100): the close sequence places its CLOSE at the tail of the command list, or with the close in the urgent slot owes none. Premises
of that clause: the sequence runs, its CLOSE is not placed, a GUARD_SET names the valve, and the list holds no entry for it.
RISE_CHECK_EXPIRY (R110): with no pump running or the level LOST the check ends; a level less than 50 mm above its start sends
FILL_NO_RISE to the FILL bank, unless the bank ignores it, and ends it; otherwise a new check begins at once. -/
def Obligations.FillTimersRunOut : Prop :=
  (∀ (s : State) (due : Nat), s.Ready → s.fill.forceEnd = some due → ∃ t, exec (.forceExpiry due) s = .next t ∧
    t.fill.order = .auto ∧ t.fill.forceAt = none ∧
    (s.fill.order = .force → s.fill.state = .satisfied ∨ s.fill.state = .waitingTurnover → t.fill.state = .idle) ∧
    Kept reached (s.advanceTo due) t) ∧
  (∀ (s : State) (due : Nat) (g : GuardSet), s.Ready → s.fill.stopAt = some due → s.fill.closeOwed = true →
    s.fill.inhibit.contains .valveFault = false → s.fill.state ≠ .opening → s.fill.state ≠ .filling → s.fill.closePlaced = false →
    s.tables.guardSet = some g → s.line.commands.find? (CommandEntry.isFor g.inletAddress g.inletItem) = none →
    s.line.commands.length < 8 → ∃ t, exec (.stopWaitExpiry due) s = .next t ∧
      (s.line.urgent = none → t.fill = { (s.advanceTo due).fill with
          stopWait := some (s.fill.stopWait.getD (s.advanceTo due).now)
          closePlaced := true
          stopAt := none } ∧
        (s.lineWaits → t.line = { s.line with commands := s.line.commands ++
          [{ address := g.inletAddress, item := g.inletItem, feedback := g.feedback, origin := .fill, target := 0 }] })) ∧
      (s.line.urgent ≠ none → t.fill = { (s.advanceTo due).fill with closeOwed := false, stopWait := none, stopAt := none } ∧
        (s.lineWaits → t.line = s.line)) ∧
      Kept [.fill, .line, .out] (s.advanceTo due) t) ∧
  (∀ (s : State) (check : RiseCheck) (f : FillSet), s.Ready → s.fill.rise = some check → s.tables.fillSet = some f →
    ∃ t, exec (.riseCheckExpiry check.judgeAt) s = .next t ∧ Kept reached (s.advanceTo check.judgeAt) t ∧
      (s.pumpsRunning = 0 ∨ s.level.record.quality = .lost →
        t.fill.rise = none ∧ Kept [.fill, .line, .out] (s.advanceTo check.judgeAt) t) ∧
      (s.pumpsRunning ≠ 0 → s.level.record.quality ≠ .lost → s.level.record.w < check.wStart + 50 → t.fill.rise = none ∧
        t.banks.get .fill = ((s.advanceTo check.judgeAt).banksAfter .fillNoRise none).get .fill) ∧
      (s.pumpsRunning ≠ 0 → s.level.record.quality ≠ .lost → check.wStart + 50 ≤ s.level.record.w →
        t.fill.rise = some ⟨s.level.record.w, (s.advanceTo check.judgeAt).now + f.riseCheck * 60000⟩ ∧
        Kept [.fill, .line, .out] (s.advanceTo check.judgeAt) t))

/-- PLAN_INTERVAL_EXPIRY (R92 to R99): one evaluation of the plan. With FILL_SET EMPTY k is 0 and nothing runs. Otherwise the timer
restarts; in a cheap window or under a FORCE the fill record takes V_target, E, M, D, N, Q, the wanted count and k as R94 gives (E
under a FORCE with the clock UNSET is free, log entry 4), for a top-up and outside both the wanted count 1 and its k (the other numbers
then stay, log entry 15); a newly cut k sends SHORTFALL to the FILL bank. From IDLE, and from SATISFIED below the top-up band, the
decision is that of R96; the entry to OPENING places the OPEN of the inlet valve in the command list, target 2, with origin FILL (R98;
premise of that clause: mains, no close in the urgent slot, and an entry for the valve or a free one of the 8 places); a FILLING fill with
the guard ARMED takes k as its demand (R99); the other states stay. Premises: the laws of R104 and R75. The confirmation of the OPEN, as
the Fill Planner takes its notice (R98, R99, R105), moves OPENING to FILLING with its purpose and a demand of k with the guard ARMED and of
0 otherwise, a DEMAND frame queued and the guard told where the demand changes; in the other states it changes neither state nor demand. -/
def Obligations.PlanIsEvaluated : Prop :=
  (∀ (s now : State) (due : Nat), s.Ready → s.InhibitLaw → s.DemandLaw → s.fill.planAt = some due → now = s.advanceTo due →
    ∃ t, exec (.planIntervalExpiry due) s = .next t ∧ Kept reached now t ∧
    (s.tables.fillSet = none → t.fill.numbers.k = 0 ∧ t.fill.planAt = none ∧ t.fill.state = s.fill.state ∧
      t.banks.get .fill = s.banks.get .fill) ∧
    ∀ (f : FillSet) (cap : Nat) (inside : Bool), s.tables.fillSet = some f →
      cap = min (match s.fill.station with | some c => c.available | none => 0) f.siteMax →
      (inside = true ↔ (∃ w, s.fill.window = some w ∧ w.cheap = true) ∨ s.fill.order = .force) →
      t.fill.planAt = some (now.now + f.planInterval * 60000) ∧
      t.fill.numbers.vTarget = (match s.tables.strapping with | some bs => volumeOf bs f.target | none => 0) ∧
      (∀ (m0 : Int) (e : Option Nat),
        (∃ w c, s.fill.order ≠ .force ∧ s.fill.window = some w ∧ w.cheap = true ∧ now.clockTime = some c ∧
          m0 = ((w.stop : Int) - c.minute) % 1440 ∧ e = some w.stop) ∨
        (∃ since : Nat, s.fill.order = .force ∧ s.fill.forceAt = some since ∧
          m0 = (360 : Int) - ((now.now - since) / 60000 : Nat) ∧
          e = now.clockTime.map fun c => (((c.minute : Int) + m0) % 1440).toNat) →
        (∀ x, e = some x → t.fill.numbers.windowEnd = x) ∧
        t.fill.numbers.m = m0 - f.finishReserve ∧
        (s.frost.flags.outlet = true ∨ now.clockTime = none → t.fill.numbers.draw = 0) ∧
        (∀ c, s.frost.flags.outlet = false → now.clockTime = some c →
          t.fill.numbers.draw = ((List.range ((c.minute + m0.toNat) / 60 + 1)).map fun h =>
            profileRate s.tables.profile (siteDayType s.tables.siteSet ((c.day + h / 24) % 7)) (h % 24) *
              ((List.range' c.minute m0.toNat).countP fun x => x / 60 == h) / 60).sum) ∧
        (t.fill.numbers.need : Int) = max 0 ((t.fill.numbers.vTarget : Int) - s.level.record.v + t.fill.numbers.draw) ∧
        (t.fill.numbers.need = 0 ∨ t.fill.numbers.m < 1 → t.fill.numbers.flow = s.fill.numbers.flow) ∧
        (t.fill.numbers.need ≠ 0 → 1 ≤ t.fill.numbers.m →
          t.fill.numbers.flow = (t.fill.numbers.need + t.fill.numbers.m.toNat - 1) / t.fill.numbers.m.toNat) ∧
        (s.fill.purpose ≠ some .topUp → t.fill.numbers.wanted =
          if t.fill.numbers.need = 0 then 0
          else if 1 ≤ t.fill.numbers.m then (t.fill.numbers.flow + f.pumpFlow - 1) / f.pumpFlow else f.siteMax)) ∧
      (inside = false ∨ s.fill.purpose = some .topUp → t.fill.numbers.wanted = 1) ∧
      t.fill.numbers.k = min t.fill.numbers.wanted cap ∧ t.fill.numbers.cut = decide (cap < t.fill.numbers.wanted) ∧
      t.banks.get .fill = (if t.fill.numbers.cut = true ∧ s.fill.numbers.cut = false
        then (now.banksAfter .shortfall none).get .fill else s.banks.get .fill) ∧
      (inside = true → s.fill.state = .idle ∨ (s.fill.state = .satisfied ∧ s.level.record.w < f.target - f.topUpBand) →
        (t.fill.numbers.need = 0 → t.fill.state = .satisfied) ∧
        (t.fill.numbers.need ≠ 0 → t.fill.numbers.k = 0 → t.fill.state = .idle) ∧
        (t.fill.numbers.need ≠ 0 → t.fill.numbers.k ≠ 0 →
          (s.frost.watch = true ∧ s.fill.turnoverDone = false → t.fill.state = .waitingTurnover) ∧
          (s.frost.watch = false ∨ s.fill.turnoverDone = true →
            (s.level.record.quality = .lost → t.fill.state = s.fill.state) ∧
            (s.level.record.quality ≠ .lost → t.fill.state = .opening ∧ t.fill.closeOwed = true ∧
              t.fill.purpose = some (if s.fill.order = .force then .forced else .window))))) ∧
      (inside = false → s.fill.state = .idle →
        (s.level.record.w < f.minimum ∧ s.level.record.quality ≠ .lost ∧ t.fill.numbers.k ≠ 0 →
          t.fill.state = .opening ∧ t.fill.purpose = some .topUp ∧ t.fill.closeOwed = true) ∧
        (f.minimum ≤ s.level.record.w ∨ s.level.record.quality = .lost ∨ t.fill.numbers.k = 0 → t.fill.state = .idle)) ∧
      (s.fill.state = .satisfied → inside = false ∨ f.target - f.topUpBand ≤ s.level.record.w → t.fill.state = .satisfied) ∧
      (s.fill.state = .filling → t.fill.demand ≤ t.fill.numbers.k ∧
        (s.guard.state = .armed → t.guard.state = .armed → t.fill.state = .filling ∧ t.fill.demand = t.fill.numbers.k)) ∧
      (t.fill.state = .opening → s.fill.state ≠ .opening → s.supply.mode = .mains → s.line.urgent = none → ∀ g : GuardSet,
        s.tables.guardSet = some g →
        (∃ e, s.line.commands.find? (CommandEntry.isFor g.inletAddress g.inletItem) = some e) ∨ s.line.commands.length < 8 →
        ∃ e, t.line.commands.find? (CommandEntry.isFor g.inletAddress g.inletItem) = some e ∧ e.target = 2 ∧ e.origin = .fill ∧
          e.feedback = g.feedback ∧ e.stage = .waiting ∧ e.attempts = 0 ∧ e.deadline = none) ∧
      (s.fill.state = .opening ∨ s.fill.state = .closing ∨ s.fill.state = .waitingTurnover ∨ s.fill.state = .held →
        t.fill.state = s.fill.state ∧ t.fill.purpose = s.fill.purpose ∧ t.fill.demand = s.fill.demand)) ∧
  (∀ (s t : State) (address item : Nat), t = State.deliver ⟨.fill, .command address item 2 .confirmed⟩ s →
    (s.fill.state = .opening → t.fill.state = .filling ∧ t.fill.purpose = s.fill.purpose ∧
      t.fill.demand = (if s.guard.state = .armed then s.fill.numbers.k else 0) ∧
      (t.fill.demand ≠ s.fill.demand → t.fill.demandTag = (s.fill.demandTag + 1) % 256 ∧
        t.out.Offers (.demand t.fill.demand t.fill.demandTag) ∧ ⟨.guard, .evaluate⟩ ∈ t.notices)) ∧
    (s.fill.state ≠ .opening → t.fill.state = s.fill.state ∧ t.fill.demand = s.fill.demand))

/-- DEMAND_RENEWAL_EXPIRY (R107): whatever the demand, a DEMAND frame with the next tag is queued, the tag after 255 being 0, and the
renewal period begins afresh. While FILL_SET is EMPTY there is no period (log entry 6, the model's choice). -/
def Obligations.DemandIsRenewed : Prop :=
  ∀ (s : State) (due : Nat), s.Ready → s.fill.renewal = .aimed due ∨ s.fill.renewal = .openPeriod →
    ∃ t, exec (.demandRenewalExpiry due) s = .next t ∧ t.fill.demand = s.fill.demand ∧
      t.fill.demandTag = (s.fill.demandTag + 1) % 256 ∧
      t.fill.renewal = (match s.tables.fillSet with
        | some f => .aimed ((s.advanceTo due).now + f.renewal * 1000)
        | none => .openPeriod) ∧
      t.out.Offers (.demand s.fill.demand ((s.fill.demandTag + 1) % 256)) ∧
      Kept [.fill, .line, .out] (s.advanceTo due) t

/-- FILL_ORDER with its place (R106): an order outside the three is answered OUT_OF_RANGE and changes nothing; the others are answered
DONE. After AUTO the order is AUTO and neither ORDER_HOLD nor MANUAL_CLOSE stands in the inhibit set; after HOLD the order is HOLD,
ORDER_HOLD stands in the set, and the fill is HELD with no demand; after FORCE the order is FORCE, its 360 minutes counting from that
moment, ORDER_HOLD does not stand in the set, and the plan has been evaluated, its timer restarted. A HOLD and an AUTO end a FORCE.
The FORCE itself takes no other reason away. Premise for the clause of HOLD: the inhibit law of R104. -/
def Obligations.FillOrderIsTaken : Prop :=
  (∀ (s : State) (tag n : Byte), s.Serves → ∃ t, exec (.fillOrder tag [n]) s = .next t ∧
    (2 < n.toNat → t.out.Carries (.response s.out.nextResv 0x21#8 tag [Status.outOfRange.byte]) ∧ Served [] s t) ∧
    (n.toNat ≤ 2 → t.out.Carries (.response s.out.nextResv 0x21#8 tag [Status.done.byte]) ∧ Kept (.trunk :: reached) s t) ∧
    (n.toNat = 0 → t.fill.order = .auto ∧ t.fill.forceAt = none ∧ .orderHold ∉ t.fill.inhibit ∧
      .manualClose ∉ t.fill.inhibit) ∧
    (n.toNat = 1 → t.fill.order = .hold ∧ t.fill.forceAt = none ∧ .orderHold ∈ t.fill.inhibit ∧
      (s.InhibitLaw → t.fill.state = .held ∧ t.fill.demand = 0)) ∧
    (n.toNat = 2 → t.fill.order = .force ∧ t.fill.forceAt = some s.now ∧ .orderHold ∉ t.fill.inhibit ∧
      (∀ f, s.tables.fillSet = some f → t.fill.planAt = some (s.now + f.planInterval * 60000)))) ∧
  (∀ s : State, ∀ r, r ≠ .orderHold → (r ∈ s.fill.inhibit ↔ r ∈ s.orderForce.fill.inhibit))

/-- STATION_STATUS (R108, R155, R157): the station copy takes mode, counts (a count above 4 as 4), flow and tag; a mode that is neither
REMOTE nor LOCAL is FAULT; the station's silence timer restarts and its silent flag clears. STATION_LOCAL stands in the inhibit set exactly
for a mode other than REMOTE, when the fill is HELD with no demand (R103, R104; premise of that: the inhibit law), and STATION_SILENT
has left it (R109). -/
def Obligations.StationStatusIsCopied : Prop :=
  ∀ (s : State) (tag mode available running : Byte) (flow : BitVec 16), s.Ready →
    ∃ t, exec (.stationStatus tag mode available running flow) s = .next t ∧
      t.fill.station = some {
        mode := if mode = 0x00#8 then .remote else if mode = 0x01#8 then .localControl else .fault
        available := min 4 available.toNat
        running := min 4 running.toNat
        flow := flow.toNat
        echoed := tag.toNat } ∧
      (.stationLocal ∈ t.fill.inhibit ↔ mode ≠ 0x00#8) ∧ .stationSilent ∉ t.fill.inhibit ∧
      (mode ≠ 0x00#8 → s.InhibitLaw → t.fill.state = .held ∧ t.fill.demand = 0) ∧
      t.trunk = { s.trunk with stationAt := some (s.now + (siteLimits s.tables.siteSet).2), stationSilent := false } ∧
      Kept (.trunk :: reached) s t

/-! ### Frost, telemetry and the trunk -/

/-- Every step keeps the rated powers of the granted zones within the budget of the moment (R120). An allocation grants only zones that
asked for heat and are not FAILED, and a zone it passed over did not fit what was left; whatever was granted before, its grants sum to
no more than the budget. -/
def Obligations.GrantsStayWithinTheBudget : Prop :=
  (∀ s t : State, s.GrantLaw → step s = .next t → t.GrantLaw) ∧
  ∀ s : State,
    s.allocate.GrantLaw ∧
    (∀ (i : Nat) (z z' : ZoneState), s.frost.zones[i]? = some z → s.allocate.frost.zones[i]? = some z' → z'.granted = true →
      z.request = true ∧ z.heater.isFailed = false) ∧
    (∀ (i : Nat) (z z' : ZoneState) (r : ZoneRecord), s.frost.zones[i]? = some z → s.allocate.frost.zones[i]? = some z' →
      s.zoneRecords[i]? = some r → z.request = true → z.heater.isFailed = false → z'.granted = false →
      s.frost.budget < r.power + ((List.range s.frost.zones.length).map fun j =>
        match s.allocate.frost.zones[j]?, s.zoneRecords[j]? with
        | some x, some q => if x.granted then q.power else 0
        | _, _ => 0).sum)

/-- The zones follow their probes, feedbacks and commands (R115 to R118, R122 to R124, R126). At a point notice that lists its temperature
point, a zone whose probe is not GOOD requests heat, is frozen and has its probe lost; otherwise the request follows the on and off
temperatures and the frozen flag the freeze temperature with 10 steps of hysteresis, and the request used is also set while the FROST
bank holds; a zone whose point is not listed keeps all four. The kind flags and frost watch follow. PROBE_LOST and ZONE_FROZEN reach
the FROST bank on entry, and again once a clearing has made the standing condition count as not logged. A listed feedback point that
is GOOD tells the heater's state on the mains, but not of a heater being commanded, nor of a FAILED one whose value is still the one
seen at the failure. The outcome of a heater's command is taken by the first zone with that actuator. -/
def Obligations.FrostZonesFollowTheirProbes : Prop :=
  (∀ (s t : State) (ps : List Nat) (i : Nat) (r : ZoneRecord) (z : ZoneState), t = s.frostOnPoints ps →
    s.zoneRecords[i]? = some r → s.frost.zones[i]? = some z → ∃ z', t.frost.zones[i]? = some z' ∧
      (r.tempPoint ∈ ps → s.zoneTemp r = none →
        z'.probeRequest = true ∧ z'.request = true ∧ z'.frozen = true ∧ z'.probeLost = true) ∧
      (∀ x, r.tempPoint ∈ ps → s.zoneTemp r = some x → z'.probeLost = false ∧
        z'.probeRequest = (if x ≤ r.onTemp then true else if r.offTemp ≤ x then false else z.probeRequest) ∧
        z'.request = (s.frost.bankHold || z'.probeRequest) ∧
        z'.frozen = (if x ≤ r.freezeTemp then true else if r.freezeTemp + 10 ≤ x then false else z.frozen)) ∧
      (r.tempPoint ∉ ps → z'.probeRequest = z.probeRequest ∧ z'.request = z.request ∧ z'.frozen = z.frozen ∧
        z'.probeLost = z.probeLost)) ∧
  (∀ (s t : State) (ps : List Nat), t = s.frostOnPoints ps →
    (∃ r ∈ s.zoneRecords, r.tempPoint ∈ ps ∨ r.feedback ∈ ps) →
    let frozen (k : ZoneKind) : Prop :=
      ∃ (i : Nat) (r : ZoneRecord) (z : ZoneState), t.zoneRecords[i]? = some r ∧ t.frost.zones[i]? = some z ∧ r.kind = k ∧ z.frozen = true
    (t.frost.flags.riser = true ↔ frozen .riser) ∧ (t.frost.flags.valveChamber = true ↔ frozen .valveChamber) ∧
    (t.frost.flags.overflowPipe = true ↔ frozen .overflowPipe) ∧ (t.frost.flags.outlet = true ↔ frozen .outlet) ∧
    (t.frost.flags.sensorHousing = true ↔ frozen .sensorHousing) ∧
    (t.frost.watch = true ↔ ∃ r ∈ s.zoneRecords, s.zoneTemp r = none ∨
      ∃ x f, s.zoneTemp r = some x ∧ s.tables.fillSet = some f ∧ x ≤ f.frostWatchTemp)) ∧
  (∀ (s u : State) (i : Nat) (r : ZoneRecord) (z z' : ZoneState), s.frost.zones[i]? = some z →
    (s.judgeZone i r).frost.zones[i]? = some z' →
    u = (if z'.probeLost = true ∧ (z.probeLost = false ∨ z.probeLogged = false)
      then { s with banks := s.banksAfter .probeLost (some (.zone i)) } else s) →
    (s.judgeZone i r).banks = if z'.frozen = true ∧ (z.frozen = false ∨ z.frozenLogged = false)
      then u.banksAfter .zoneFrozen (some (.zone i)) else u.banks) ∧
  (∀ (s : State) (ps : List Nat), (s.supply.mode ≠ .mains → s.learnListed ps = s) ∧
    (s.supply.mode = .mains → ∀ (i : Nat) (r : ZoneRecord) (z : ZoneState), s.zoneRecords[i]? = some r → s.frost.zones[i]? = some z →
      ∃ z', (s.learnListed ps).frost.zones[i]? = some z' ∧
        (r.feedback ∉ ps ∨ s.zoneFeedback r = none ∨ (∃ b, z.heater = .commanding b) ∨
          z.heater = .failed (s.zoneFeedback r) → z' = z) ∧
        (∀ v, r.feedback ∈ ps → s.zoneFeedback r = some v → (∀ b, z.heater ≠ .commanding b) → z.heater ≠ .failed (some v) →
          z' = { z with heater := if v = 0 then .off else .on }))) ∧
  (∀ (s t : State) (a i target j : Nat) (o : CommandOutcome) (r : ZoneRecord) (z : ZoneState), t = s.frostOnCommand a i target o →
    s.zoneRecords.findIdx? (fun r => r.heaterAddress == a && r.heaterItem == i) = some j → s.zoneRecords[j]? = some r →
    s.frost.zones[j]? = some z → ∃ z', t.frost.zones[j]? = some z' ∧
      (o = .confirmed → target = 1 → z'.granted = true → z'.heater = .on) ∧
      (o = .confirmed → target ≠ 1 → z'.granted = false → z'.heater = .off) ∧
      (o = .failed → z'.heater = .failed (s.zoneFeedback r) ∧ z'.granted = false ∧ z'.held = none))

/-- DEFERRAL_EXPIRY (R125): BUDGET_SHORT reaches the FROST bank with the zone as subject, the zone's budget-short flag is set, and the zone
stays deferred; nothing else changes. -/
def Obligations.DeferralRunsOut : Prop :=
  ∀ (s : State) (zone due : Nat) (z : ZoneState), s.Ready → s.frost.zones[zone]? = some z → z.deferralAt = some due →
    ∃ t, exec (.deferralExpiry zone due) s = .next t ∧
      t.frost = { s.frost with zones := s.frost.zones.set zone { z with deferralAt := none, budgetShort := true } } ∧
      t.banks = (s.advanceTo due).banksAfter .budgetShort (some (.zone zone)) ∧
      Kept [.frost, .banks, .out] (s.advanceTo due) t

/-- LEVEL_PERIOD_EXPIRY (R129, R130): a LEVEL report of the contents last passed joins the queue, its level is the new reference, and on
mains the timer restarts with the period in force. -/
def Obligations.LevelReportIsQueued : Prop :=
  ∀ (s : State) (due : Nat), s.Ready → s.telemetry.periodAt = some due → ∃ t, exec (.levelPeriodExpiry due) s = .next t ∧
    t.telemetry = { s.telemetry with
      reference := some s.telemetry.record.w
      lastReportAt := (s.advanceTo due).now
      periodAt := if s.telemetry.contents.supply = .mains then some ((s.advanceTo due).now + s.reportPeriod) else none } ∧
    t.out.Offers (.level {
      w := s.telemetry.record.w, quality := s.telemetry.record.quality, v := s.telemetry.record.v, rate := s.telemetry.record.rate
      projection := s.telemetry.projection, guard := s.telemetry.contents.guard, fill := s.telemetry.contents.fill
      demand := s.telemetry.demand, clock := (s.advanceTo due).clockTime, uptime := (s.advanceTo due).now / 1000 }) ∧
    Kept [.telemetry, .out] (s.advanceTo due) t

/-- Frames that reach no owner (R152, R153, R154): a bad frame and one broken off send FRAME_CHECK to the TRUNK bank and nothing more; an
ignored frame changes nothing; a valid frame of a kind that its partner may not send counts for its partner's silence timer, ends an
islanding if the control room sent it, and sends UNKNOWN_KIND. A STATUS of another length than R183 gives is such a frame; which frames are
ignored, arriving whole, and that a frame begins with its whole sync pair, is log entry 22. -/
def Obligations.FramesThatReachNoOwner : Prop :=
  (∀ (s : State) (frame : List Byte) (cmd : Instr), s.Ready →
    (cmd = .trunkBadFrame frame ∧ readTrunk frame = .bad) ∨ (cmd = .trunkByteTimeout frame ∧ trunkBegun frame = true) →
    ∃ t, exec cmd s = .next t ∧ t.banks = s.banksAfter .frameCheck none ∧ Kept [.banks, .out] s t) ∧
  (∀ (s : State) (frame : List Byte), exec (.trunkFrameIgnored frame) s = .next s) ∧
  (∀ (s : State) (frame : List Byte) (f : TrunkFrame), s.Ready → readTrunk frame = .good f →
    f.dest = (siteNumbers s.tables.siteSet).1 → ∃ t, exec (.trunkFrameUnknownKind frame) s = .next t ∧
      (f.source = (siteNumbers s.tables.siteSet).2.1 → f.kind ≠ 0x01#8 →
        t.banks = s.banksAfter .unknownKind none ∧ Served [.banks] s t) ∧
      (f.source ≠ (siteNumbers s.tables.siteSet).2.1 → f.source = (siteNumbers s.tables.siteSet).2.2 →
        f.kind ≠ 0x05#8 ∨ f.payload.length ≠ 5 →
        t.banks = s.banksAfter .unknownKind none ∧
        t.trunk = { s.trunk with stationAt := some (s.now + (siteLimits s.tables.siteSet).2), stationSilent := false } ∧
        Kept [.trunk, .banks, .out] s t))

/-- The silence timers (R156, R157): the silent flag is set, the timer stops until the next valid frame, the control room's silence
islands the part, and the fault of the partner, its subject, reaches the TRUNK bank unless the bank ignores it. The blocks that are told act
in any order; at the event's end, when no notice waits (at most 400 are taken in one command, log entry 3), a HOLD or FORCE has lapsed
to AUTO with ORDER_HOLD gone from the inhibit set and every other reason of the operator's left there (R106, R156), the STATE report
shows the islanding, and after the pump station's silence STATION_SILENT stands in the set and the fill is HELD with no demand (R109,
R157; premise of that: the inhibit law). -/
def Obligations.SilenceRunsOut : Prop :=
  (∀ (s : State) (due : Nat), s.Ready → s.trunk.controlAt = some due → ∃ t, exec (.controlSilenceExpiry due) s = .next t ∧
    t.trunk = { s.trunk with controlAt := none, controlSilent := true, islanded := true } ∧
    t.banks.get .trunk = ((s.advanceTo due).banksAfter .controlSilent (some (.partner .control))).get .trunk ∧
    (t.notices = [] → t.telemetry.contents.islanded = true ∧
      (.manualClose ∈ s.fill.inhibit → .manualClose ∈ t.fill.inhibit) ∧
      (s.fill.order = .auto → t.fill.order = .auto) ∧
      (s.fill.order ≠ .auto → t.fill.order = .auto ∧ t.fill.forceAt = none ∧ .orderHold ∉ t.fill.inhibit)) ∧
    Kept (.trunk :: reached) (s.advanceTo due) t) ∧
  (∀ (s : State) (due : Nat), s.Ready → s.trunk.stationAt = some due → ∃ t, exec (.stationSilenceExpiry due) s = .next t ∧
    t.trunk = { s.trunk with stationAt := none, stationSilent := true } ∧
    t.banks.get .trunk = ((s.advanceTo due).banksAfter .stationSilent (some (.partner .station))).get .trunk ∧
    (t.notices = [] → .stationSilent ∈ t.fill.inhibit ∧ (s.InhibitLaw → t.fill.state = .held ∧ t.fill.demand = 0)) ∧
    Kept (.trunk :: reached) (s.advanceTo due) t)

/-- Requests that no owner takes (R138, R158): one that finds no response place has the effects of its frame alone and is not answered;
one with a code outside the catalogue is answered UNKNOWN_KIND, and UNKNOWN_KIND reaches the TRUNK bank. A request of the catalogue whose
payload has another length is answered OUT_OF_RANGE and does nothing else (R138, R158, R183). That a TABLE_WRITE of an unknown kind, or
with an empty payload, has no right length and so this answer is log entry 26 (DEDUCED). -/
def Obligations.RequestsThatNoOwnerTakes : Prop :=
  (∀ (s : State) (code tag : Byte) (payload : List Byte), s.Ready → s.placeFree = false →
    ∃ t, exec (.requestNoPlace code tag payload) s = .next t ∧ Served [] s t ∧ t.out.nextResv = s.out.nextResv ∧
      (s.trunk.islanded = false → s.lineWaits → s.modemWaits → t.out = s.out)) ∧
  (∀ (s : State) (code tag : Byte) (payload : List Byte), s.Serves → code.toNat < 0x10 ∨ 0x22 < code.toNat →
    ∃ t, exec (.requestUnknownCode code tag payload) s = .next t ∧
      t.out.Carries (.response s.out.nextResv code tag [Status.unknownKind.byte]) ∧
      t.banks = s.banksAfter .unknownKind none ∧ Served [.banks] s t) ∧
  (∀ (s : State) (code tag : Byte) (payload : List Byte) (c : Instr), s.Serves → (code, c) ∈ requestsOf tag payload →
    (if code = 0x19#8 then
      ∀ k kind, payload[0]? = some k → TableKind.ofNumber k.toNat = some kind → payload.length ≠ 2 + kind.recordLength
    else payload.length ≠ requestLength code) →
    ∃ t, exec c s = .next t ∧ t.out.Carries (.response s.out.nextResv code tag [Status.outOfRange.byte]) ∧ Served [] s t)

/-- The read requests (R18, R149, R160, R161, R162, R175): each is answered at once, the request's own frame counted, and changes nothing
else; an index, count, bank or kind outside its range is answered OUT_OF_RANGE, and a kind without a table EMPTY. The place of the slot
count behind the channel entries, of the trip flag, the bytes of absent elements and of an empty station copy, and the order of the kind
flags, of the two silent flags, of the generations and of each bank's two flags are log entry 7 (DEDUCED and the model's choice). The
contents of the payloads (R18, R160 to R162, encodings R185), each number where it fits its bytes (log entry 5): READ_STATE from the level
record to the uptime; a point entry of 13 bytes; a channel entry of 10; a zone entry of 15; of the trip area every intact record with its
number, type and contents, those of one sector in slot order and the sector with the newest record last, and the flag at the end. -/
def Obligations.ReadsAreAnswered : Prop :=
  (∀ (s : State) (tag x n : Byte), s.Serves → ∃ t, exec (.readPoints tag [x, n]) s = .next t ∧ Served [] s t ∧
    t.out.Carries (.response s.out.nextResv 0x10#8 tag
      (if 63 < x.toNat ∨ n.toNat = 0 ∨ 15 < n.toNat then [Status.outOfRange.byte]
        else Status.done.byte :: (List.range' x.toNat (min n.toNat (64 - x.toNat))).flatMap s.pointEntry))) ∧
  (∀ (s : State) (tag : Byte), s.Serves → ∃ t, exec (.readState tag []) s = .next t ∧ Served [] s t ∧
    t.out.Carries (.response s.out.nextResv 0x11#8 tag (s.updTrunk fun x => { x with
      controlAt := some (s.now + (siteLimits s.tables.siteSet).1)
      controlSilent := false
      islanded := false }).readStatePayload)) ∧
  (∀ (s : State) (tag x n : Byte), s.Serves → ∃ t, exec (.readChannels tag [x, n]) s = .next t ∧ Served [] s t ∧
    t.out.Carries (.response s.out.nextResv 0x12#8 tag
      (if 23 < x.toNat ∨ n.toNat = 0 ∨ 12 < n.toNat then [Status.outOfRange.byte]
        else Status.done.byte :: ((List.range' x.toNat (min n.toNat (24 - x.toNat))).flatMap s.channelEntry
          ++ enc1 s.line.slots.length)))) ∧
  (∀ (s : State) (tag : Byte), s.Serves → ∃ t, exec (.readZones tag []) s = .next t ∧ Served [] s t ∧
    t.out.Carries (.response s.out.nextResv 0x13#8 tag
      (Status.done.byte :: ((List.range 8).flatMap s.zoneEntry ++ encU 2 s.frost.budget ++ encFlag s.frost.watch)))) ∧
  (∀ (s : State) (tag n : Byte), s.Serves → ∃ t, exec (.readBank tag [n]) s = .next t ∧ Served [] s t ∧
    (6 < n.toNat → t.out.Carries (.response s.out.nextResv 0x14#8 tag [Status.outOfRange.byte])) ∧
    (∀ b, n.toNat = Bank.number b → t.out.Carries (.response s.out.nextResv 0x14#8 tag
      (Status.done.byte :: (encRecord (s.banks.get b) ++ encFlag (s.holds b)))))) ∧
  (∀ (s : State) (tag : Byte), s.Serves → ∃ t, exec (.readTrips tag []) s = .next t ∧ Served [] s t ∧
    t.out.Carries (.response s.out.nextResv 0x16#8 tag s.readTripsPayload)) ∧
  (∀ (s : State) (tag n i : Byte), s.Serves → ∃ t, exec (.tableRead tag [n, i]) s = .next t ∧ Served [] s t ∧
    (9 < n.toNat → t.out.Carries (.response s.out.nextResv 0x17#8 tag [Status.outOfRange.byte])) ∧
    (∀ k, n.toNat = TableKind.number k →
      ((s.use.get k).inUse = none → t.out.Carries (.response s.out.nextResv 0x17#8 tag [Status.empty.byte])) ∧
      (∀ c, (s.use.get k).inUse = some c → t.out.Carries (.response s.out.nextResv 0x17#8 tag
        (match ((s.nv.copies.get k).get c).records[i.toNat]? with
          | some r => Status.done.byte :: (encU 4 (s.use.get k).generation ++ enc1 ((s.nv.copies.get k).get c).records.length ++ r)
          | none => [Status.outOfRange.byte]))))) ∧
  (∀ (s : State) (p : List Byte), p = s.readStatePayload → p.length = 148 ∧ numberAt p 0 1 = 0 ∧
    (s.level.record.w < 65536 → numberAt p 1 2 = s.level.record.w) ∧
    valueAt [LevelQuality.good, .split, .single, .lost] p 3 s.level.record.quality ∧
    (s.level.record.v < 4294967296 → numberAt p 4 4 = s.level.record.v) ∧
    (s.level.record.segment < 256 → numberAt p 8 1 = s.level.record.segment) ∧
    (∀ r, s.level.record.rate = some r → 0 ≤ r → r < 32768 → (numberAt p 9 2 : Int) = r) ∧
    (∀ r, s.level.record.rate = some r → r < 0 → -32768 < r → (numberAt p 9 2 : Int) = r + 65536) ∧
    (s.level.record.rate = none → numberAt p 9 2 = 0x8000) ∧
    (s.level.record.quality ≠ .lost → numberAt p 11 4 = 0xFFFFFFFF) ∧
    (∀ n, s.level.record.quality = .lost → s.level.record.lostSince = some n → n / 1000 < 4294967296 → numberAt p 11 4 = n / 1000) ∧
    valueAt [GuardState.armed, .anticipating, .tripped] p 15 s.guard.state ∧
    optionAt [TripCause.level, .float, .levelLost, .noTables] p 16 s.guard.cause ∧
    (s.guard.projection < 65536 → numberAt p 17 2 = s.guard.projection) ∧ (s.guard.coast < 65536 → numberAt p 19 2 = s.guard.coast) ∧
    (∀ n : Nat, n < 65536 → (s.guard.anticipate = n → numberAt p 21 2 = n) ∧ (s.guard.trip = n → numberAt p 23 2 = n) ∧
      (s.guard.resetLevel = n → numberAt p 25 2 = n)) ∧
    flagAt p 27 s.guard.frostExtra ∧ flagAt p 28 s.guard.floatActive ∧
    valueAt [TripFlag.none, .pending, .programmed] p 29 s.guard.tripFlag ∧ flagAt p 30 s.guard.reset.isSome ∧
    valueAt [FillState.idle, .waitingTurnover, .opening, .filling, .closing, .satisfied, .held] p 31 s.fill.state ∧
    optionAt [Purpose.window, .topUp, .forced] p 32 s.fill.purpose ∧ valueAt [FillOrder.auto, .hold, .force] p 33 s.fill.order ∧
    (s.fill.demand < 256 → numberAt p 34 1 = s.fill.demand) ∧
    (∀ (i : Nat) (r : Reason), [Reason.guard, .frozenRiser, .frozenValve, .stationLocal, .stationSilent, .battery, .bankHold, .orderHold,
      .manualClose, .valveFault][i]? = some r → ((numberAt p 35 2).testBit i = true ↔ r ∈ s.fill.inhibit)) ∧
    flagAt p 37 s.fill.turnoverDone ∧ flagAt p 38 s.fill.closeOwed ∧
    (s.fill.numbers.vTarget < 4294967296 → numberAt p 39 4 = s.fill.numbers.vTarget) ∧
    (s.fill.numbers.windowEnd < 32768 → numberAt p 43 2 = s.fill.numbers.windowEnd) ∧
    (∀ m : Nat, m < 32768 → s.fill.numbers.m = m → numberAt p 45 2 = m) ∧
    (s.fill.numbers.draw < 4294967296 → numberAt p 47 4 = s.fill.numbers.draw) ∧
    (s.fill.numbers.need < 4294967296 → numberAt p 51 4 = s.fill.numbers.need) ∧
    (s.fill.numbers.flow < 4294967296 → numberAt p 55 4 = s.fill.numbers.flow) ∧
    (s.fill.numbers.wanted < 256 → numberAt p 59 1 = s.fill.numbers.wanted) ∧
    (s.fill.numbers.k < 256 → numberAt p 60 1 = s.fill.numbers.k) ∧ flagAt p 61 s.fill.numbers.cut ∧
    optionAt [StationMode.remote, .localControl, .fault] p 62 (s.fill.station.map StationCopy.mode) ∧
    (∀ c, s.fill.station = some c → (c.available < 256 → numberAt p 63 1 = c.available) ∧
      (c.running < 256 → numberAt p 64 1 = c.running) ∧ (c.flow < 4294967296 → numberAt p 65 4 = c.flow) ∧
      (c.echoed < 256 → numberAt p 69 1 = c.echoed)) ∧
    (s.fill.demandTag < 256 → numberAt p 70 1 = s.fill.demandTag) ∧ clockAt p 71 s.clockTime ∧
    valueAt [TariffClass.cheap, .standard, .peak] p 75 s.fill.tariff ∧
    (∀ c, s.clockTime = some c → valueAt [DayType.work, .rest] p 76 (siteDayType s.tables.siteSet c.day)) ∧
    flagAt p 77 s.frost.flags.riser ∧ flagAt p 78 s.frost.flags.valveChamber ∧ flagAt p 79 s.frost.flags.overflowPipe ∧
    flagAt p 80 s.frost.flags.outlet ∧ flagAt p 81 s.frost.flags.sensorHousing ∧ flagAt p 82 s.frost.watch ∧
    (s.frost.budget < 65536 → numberAt p 83 2 = s.frost.budget) ∧
    valueAt [SupplyMode.mains, .battery, .batteryLow] p 85 s.supply.mode ∧ flagAt p 86 s.trunk.islanded ∧
    flagAt p 87 s.trunk.controlSilent ∧ flagAt p 88 s.trunk.stationSilent ∧
    (∀ (i : Nat) (b : Bank), [Bank.level, .guard, .fill, .frost, .line, .trunk, .store][i]? = some b →
      flagAt p (89 + 2 * i) (s.banks.get b).isSome ∧ flagAt p (90 + 2 * i) (s.holds b)) ∧
    (∀ (i : Nat) (k : TableKind), [TableKind.points, .map, .channels, .strapping, .guardSet, .fillSet, .tariff, .profile, .zones,
      .siteSet][i]? = some k → (s.use.get k).generation < 4294967296 → numberAt p (103 + 4 * i) 4 = (s.use.get k).generation) ∧
    flagAt p 143 s.trunk.restart.isSome ∧ (s.uptime < 4294967296 → numberAt p 144 4 = s.uptime)) ∧
  (∀ (s : State) (i : Nat) (p : List Byte) (x : PointState), p = s.pointEntry i → x = s.point i → p.length = 13 ∧
    (i < 256 → numberAt p 0 1 = i) ∧ flagAt p 1 (s.pointRecord i).isSome ∧
    optionAt [PointKind.level, .temperature, .flow, .position, .state, .switch] p 2 ((s.pointRecord i).map PointRecord.kind) ∧
    (0 ≤ x.value → x.value < 2147483648 → (numberAt p 3 4 : Int) = x.value) ∧
    (x.value < 0 → -2147483648 ≤ x.value → (numberAt p 3 4 : Int) = x.value + 4294967296) ∧
    valueAt [Quality.none, .good, .range, .stale] p 7 x.quality ∧
    (x.quality = .none → numberAt p 8 1 = 255 ∧ numberAt p 9 4 = 0xFFFFFFFF) ∧
    (x.quality ≠ .none → optionAt [Source.polled, .passed] p 8 x.source ∧
      ∀ u, x.updated = some u → (s.now - u) / 1000 < 4294967296 → numberAt p 9 4 = (s.now - u) / 1000)) ∧
  (∀ (s : State) (i : Nat) (p : List Byte) (l : ChannelLive), p = s.channelEntry i → s.line.live[i]? = some l →
    (s.channelRecord i = none → p = [0#8]) ∧
    ∀ c, s.channelRecord i = some c → p.length = 10 ∧ flagAt p 0 true ∧ flagAt p 1 l.go ∧
      valueAt [ChannelMode.normal, .probe] p 2 l.mode ∧
      valueAt [ChannelCondition.none, .ok, .shortReply, .retryError, .refused, .stopped] p 3 l.condition ∧
      (l.failures < 256 → numberAt p 4 1 = l.failures) ∧ (l.countdown < 256 → numberAt p 5 1 = l.countdown) ∧
      flagAt p 6 l.handed.isSome ∧ (l.pendingCount < 256 → numberAt p 7 1 = l.pendingCount) ∧
      (l.haltedCycles < 256 → numberAt p 8 1 = l.haltedCycles) ∧
      flagAt p 9 (decide (c.cls = .normal ∧ s.supply.mode ≠ .mains))) ∧
  (∀ (s : State) (i : Nat) (p : List Byte), p = s.zoneEntry i → (s.zoneRecords[i]? = none → p = [0#8]) ∧
    ∀ r z, s.zoneRecords[i]? = some r → s.frost.zones[i]? = some z → p.length = 15 ∧ flagAt p 0 true ∧
      valueAt [ZoneKind.riser, .valveChamber, .overflowPipe, .outlet, .sensorHousing] p 1 r.kind ∧ flagAt p 2 z.probeRequest ∧
      flagAt p 3 z.request ∧ flagAt p 4 z.granted ∧
      (z.heater = .off → numberAt p 5 2 = 0x00FF) ∧ (z.heater = .on → numberAt p 5 2 = 0x01FF) ∧
      (∀ b, z.heater = .commanding b → numberAt p 5 2 = if b then 0x0201 else 0x0200) ∧
      (z.heater = .failed none → numberAt p 5 2 = 0x03FF) ∧
      (∀ n : Nat, n < 256 → z.heater = .failed (some n) → numberAt p 5 2 = 0x0300 + n) ∧
      valueAt [none, some false, some true] p 7 z.held ∧ flagAt p 8 z.frozen ∧ flagAt p 9 z.probeLost ∧
      (z.deferredSince = none → numberAt p 10 4 = 0xFFFFFFFF) ∧
      (∀ d, z.deferredSince = some d → (s.now - d) / 1000 < 4294967296 → numberAt p 10 4 = (s.now - d) / 1000) ∧
      flagAt p 14 z.budgetShort) ∧
  (∀ (s : State) (p : List Byte), p = s.readTripsPayload →
    p.length = 2 + (s.nv.slots.map fun x => match x with
      | .intact _ (.trip _ _ _ _ _ _) => 16
      | .intact _ (.marker _ _ _) => 12
      | .erased => 0
      | .spoilt => 0).sum ∧
    numberAt p 0 1 = 0 ∧ valueAt [TripFlag.none, .pending, .programmed] p (p.length - 1) s.guard.tripFlag ∧
    (s.nv.slots.length = 8 → ∃ block : Nat → List Byte,
      p = 0#8 :: ((match newestIntact s.nv.slots with
        | some (i, _, _) => if i / 4 = 0 then [4, 5, 6, 7, 0, 1, 2, 3] else [0, 1, 2, 3, 4, 5, 6, 7]
        | none => [0, 1, 2, 3, 4, 5, 6, 7]).flatMap block) ++ p.drop (p.length - 1) ∧
      ∀ (i : Nat) (x : TripSlot), s.nv.slots[i]? = some x → match x with
        | .intact _ (.trip c w q pr k u) => (block i).length = 16 ∧ numberAt (block i) 0 2 = i * 256 ∧
          valueAt [TripCause.level, .float, .levelLost, .noTables] (block i) 2 c ∧ (w < 65536 → numberAt (block i) 3 2 = w) ∧
          valueAt [LevelQuality.good, .split, .single, .lost] (block i) 5 q ∧ (pr < 65536 → numberAt (block i) 6 2 = pr) ∧
          clockAt (block i) 8 k ∧ (u < 4294967296 → numberAt (block i) 12 4 = u)
        | .intact _ (.marker w k u) => (block i).length = 12 ∧ numberAt (block i) 0 2 = i * 256 + 1 ∧
          (w < 65536 → numberAt (block i) 2 2 = w) ∧ clockAt (block i) 4 k ∧ (u < 4294967296 → numberAt (block i) 8 4 = u)
        | .erased => block i = []
        | .spoilt => block i = []))

/-- CLEAR_BANK with its place (R150): a name that is none of the seven is answered OUT_OF_RANGE; otherwise the response carries DONE and
the record as it stood (how the absent fields of an empty bank's record are sent is log entry 7, the model's choice). The STORE bank, and a
LEVEL, GUARD or TRUNK bank while another of the four still holds, becomes empty with no other effect; for every bank the clearing itself
leaves it empty. -/
def Obligations.ClearBankEmptiesIt : Prop :=
  (∀ (s : State) (tag n : Byte), s.Serves → ∃ t, exec (.clearBank tag [n]) s = .next t ∧ Kept (.trunk :: reached) s t ∧
    (6 < n.toNat → t.out.Carries (.response s.out.nextResv 0x15#8 tag [Status.outOfRange.byte]) ∧ Served [] s t) ∧
    (∀ b, n.toNat = Bank.number b →
      t.out.Carries (.response s.out.nextResv 0x15#8 tag (Status.done.byte :: encRecord (s.banks.get b))) ∧
      (b = .store ∨ (b = .level ∨ b = .guard ∨ b = .trunk) ∧
        (∃ b', b' ≠ b ∧ (b' = .fill ∨ b' = .trunk ∨ b' = .level ∨ b' = .guard) ∧ s.holds b' = true) →
        t.banks = s.banks.set b none ∧ Served [.banks] s t))) ∧
  (∀ (s : State) (resv : Nat) (b : Bank), (State.clearBank resv b.number s).banks = s.banks.set b none ∧
    (∀ c, c ≠ b → (State.clearBank resv b.number s).banks.get c = s.banks.get c))

/-! ### Table loads -/

/-- TABLE_OPEN with its place (R168): the first check that fails gives the response and nothing else changes; otherwise the load is open
with next index 0, running check FFFFh and no record, and the erase of the spare copy joins the work: with the engine at work it waits
last, with the engine idle it begins. It empties the spare copy; every other copy, the one in use among them, and the trip area stay
(R166). -/
def Obligations.TableOpenBeginsALoad : Prop :=
  ∀ (s : State) (tag n : Byte) (refused : Option Status), s.Serves →
    refused = (match TableKind.ofNumber n.toNat with
      | none => some Status.outOfRange
      | some k => if s.engine.load ≠ none then some .busy
        else if (k = .points ∨ k = .strapping ∨ k = .guardSet) ∧ s.inputs.protect = true then some .protected_
        else if s.supply.mode ≠ .mains then some .battery
        else if s.holds .store = true then some .storeHeld else none) →
    ∃ t, exec (.tableOpen tag [n]) s = .next t ∧
      (∀ status, refused = some status →
        t.out.Carries (.response s.out.nextResv 0x18#8 tag [status.byte]) ∧ Served [] s t) ∧
      (refused = none → Served [.engine, .nv] s t ∧ ∀ k, n.toNat = TableKind.number k →
        t.engine.load = some { load := s.engine.loads + 1, kind := k, next := 0, check := 0xFFFF#16, last := none
                               protectEnded := false, erased := false, taken := [] } ∧
        (s.lineWaits → .reservation s.out.nextResv 0x18#8 tag ∈ t.out.waiting) ∧
        (s.engine.busy.isSome = true → s.engine.tripWork = [] →
          t.engine.work = s.engine.work ++ [⟨s.engine.loads + 1, k, .erase s.out.nextResv⟩] ∧ t.engine.busy = s.engine.busy ∧
          t.nv = s.nv) ∧
        (s.engineIdle → t.engine.busy = some ⟨.table ⟨s.engine.loads + 1, k, .erase s.out.nextResv⟩ false, s.now + 350⟩ ∧
          t.engine.target = (if (s.use.get k).inUse = some .a then .b else .a) ∧
          (t.nv.copies.get k).get t.engine.target = {} ∧ s.OtherCopiesStay k t.engine.target t ∧ t.nv.slots = s.nv.slots))

/-- TABLE_WRITE with its place and a record of its kind's length (R169, R171, R185): SEQUENCE with FFh where no load of the kind is open
(the FFh is log entry 16, the model's reading),
BUSY before the erase has ended, PROTECTED with the end of the load once its protect-ended flag is set, and otherwise the record of the
next index is taken: it joins the check and the work. The last record sent again is answered DONE if its program has ended; while that
program waits or runs, the reservation joins it, to be answered at its end with the others (`TableWorkEnds`). Any other index is
answered SEQUENCE with the next one. That BUSY goes before PROTECTED is log entry 16 (the model's choice). -/
def Obligations.TableWriteTakesTheNextRecord : Prop :=
  ∀ (s : State) (tag n i : Byte) (record : List Byte) (k : TableKind), s.Serves → TableKind.ofNumber n.toNat = some k →
    record.length = k.recordLength → ∃ t, exec (.tableWrite tag (n :: i :: record)) s = .next t ∧
      (s.engine.load = none ∨ (∃ l, s.engine.load = some l ∧ l.kind ≠ k) →
        t.out.Carries (.response s.out.nextResv 0x19#8 tag [Status.sequence.byte, 0xFF#8]) ∧ Served [] s t) ∧
      (∀ l : OpenLoad, s.engine.load = some l → l.kind = k → l.erased = false →
        t.out.Carries (.response s.out.nextResv 0x19#8 tag [Status.busy.byte]) ∧ Served [] s t) ∧
      (∀ l : OpenLoad, s.engine.load = some l → l.kind = k → l.erased = true → l.protectEnded = true →
        t.out.Carries (.response s.out.nextResv 0x19#8 tag [Status.protected_.byte]) ∧ t.engine.load = none ∧
        Served [.engine, .nv] s t) ∧
      (∀ l : OpenLoad, s.engine.load = some l → l.kind = k → l.erased = true → l.protectEnded = false →
        (i.toNat = l.next → l.next < k.capacity →
          t.engine.load = some { l with
            next := l.next + 1
            check := trunkCheckFrom l.check record
            last := some record
            taken := l.taken ++ [record] } ∧
          (s.engine.busy.isSome = true → s.engine.tripWork = [] →
            t.engine.work = s.engine.work ++ [⟨l.load, k, .record record [s.out.nextResv]⟩] ∧ t.engine.busy = s.engine.busy) ∧
          (s.engineIdle → t.engine.busy = some ⟨.table ⟨l.load, k, .record record [s.out.nextResv]⟩ false, s.now + 2⟩) ∧
          Served [.engine, .nv] s t) ∧
        (i.toNat + 1 = l.next → l.last = some record → s.engine.recordOpen l.load = false →
          t.out.Carries (.response s.out.nextResv 0x19#8 tag [Status.done.byte]) ∧ Served [] s t) ∧
        (i.toNat + 1 = l.next → l.last = some record → s.engine.recordOpen l.load = true →
          t.engine.load = some l ∧ Served [.engine, .nv] s t ∧
          (s.lineWaits → .reservation s.out.nextResv 0x19#8 tag ∈ t.out.waiting) ∧
          (s.engine.busy.isSome = true → s.engine.tripWork = [] →
            (∀ before w after bytes resvs, s.engine.work = before ++ w :: after → w.load = l.load →
              (∀ v ∈ after, v.load ≠ l.load) → w.job = .record bytes resvs →
              t.engine.work = before ++ { w with job := .record bytes (resvs ++ [s.out.nextResv]) } :: after ∧
              t.engine.busy = s.engine.busy) ∧
            (∀ w ended doneAt bytes resvs, (∀ v ∈ s.engine.work, v.load ≠ l.load) →
              s.engine.busy = some ⟨.table w ended, doneAt⟩ → w.job = .record bytes resvs →
              t.engine.busy = some ⟨.table { w with job := .record bytes (resvs ++ [s.out.nextResv]) } ended, doneAt⟩ ∧
              t.engine.work = s.engine.work))) ∧
        (¬ (i.toNat = l.next ∧ l.next < k.capacity) → ¬ (i.toNat + 1 = l.next ∧ l.last = some record) → l.next < 256 →
          t.out.Carries (.response s.out.nextResv 0x19#8 tag [Status.sequence.byte, BitVec.ofNat 8 l.next]) ∧ Served [] s t))

/-- TABLE_CLOSE with its place (R170, R171): SEQUENCE without an open load; otherwise the load ends, with SEQUENCE for another kind or
count, CHECK_MISMATCH for another check, INVALID with the detail of the validation, STORE_FAULT at the last generation, or the header
program with the count and the check, which waits with the engine at work and begins with the engine idle. TABLE_ABANDON (R171) ends a
load of its kind with DONE. Premise for the clauses of the protect-ended flag: the kind is the load's, since the kind is looked at first
(log entry 16, the model's choice). -/
def Obligations.LoadsAreClosedAndAbandoned : Prop :=
  (∀ (s : State) (tag n count hi lo : Byte), s.Serves → ∃ t, exec (.tableClose tag [n, count, hi, lo]) s = .next t ∧
    t.engine.load = none ∧ Served [.engine, .nv, .banks] s t ∧
    (s.engine.load = none → t.out.Carries (.response s.out.nextResv 0x1A#8 tag [Status.sequence.byte]) ∧ Served [] s t) ∧
    (∀ l : OpenLoad, s.engine.load = some l → n.toNat ≠ l.kind.number →
      t.out.Carries (.response s.out.nextResv 0x1A#8 tag [Status.sequence.byte]) ∧ t.banks = s.banks) ∧
    (∀ l : OpenLoad, s.engine.load = some l → n.toNat = l.kind.number → l.protectEnded = true →
      t.out.Carries (.response s.out.nextResv 0x1A#8 tag [Status.protected_.byte]) ∧ t.banks = s.banks) ∧
    (∀ l : OpenLoad, s.engine.load = some l → n.toNat = l.kind.number → l.protectEnded = false →
      (count.toNat ≠ l.next → t.out.Carries (.response s.out.nextResv 0x1A#8 tag [Status.sequence.byte]) ∧ t.banks = s.banks) ∧
      (count.toNat = l.next → hi ++ lo ≠ l.check →
        t.out.Carries (.response s.out.nextResv 0x1A#8 tag [Status.checkMismatch.byte]) ∧
        t.banks = s.banksAfter .checkMismatch (some (.kind l.kind))) ∧
      (count.toNat = l.next → hi ++ lo = l.check →
        (∀ d, validateTable s.line.rate.byteTimeUs l.kind l.taken = .error d →
          t.out.Carries (.response s.out.nextResv 0x1A#8 tag (Status.invalid.byte :: enc1 d.number)) ∧ t.banks = s.banks) ∧
        (∀ data clamps, validateTable s.line.rate.byteTimeUs l.kind l.taken = .ok (data, clamps) →
          ((s.use.get l.kind).generation = 4294967295 →
            t.out.Carries (.response s.out.nextResv 0x1A#8 tag [Status.storeFault.byte]) ∧ t.banks = s.banks) ∧
          ((s.use.get l.kind).generation ≠ 4294967295 → s.engine.busy.isSome = true → s.engine.tripWork = [] →
            t.engine.work = s.engine.work ++ [⟨l.load, l.kind, .header l.next l.check data clamps s.out.nextResv⟩] ∧
            t.engine.busy = s.engine.busy ∧ t.banks = s.banks) ∧
          ((s.use.get l.kind).generation ≠ 4294967295 → s.engineIdle →
            t.engine.busy = some ⟨.table ⟨l.load, l.kind, .header l.next l.check data clamps s.out.nextResv⟩ false, s.now + 2⟩ ∧
            t.banks = s.banks))))) ∧
  (∀ (s : State) (tag n : Byte), s.Serves → ∃ t, exec (.tableAbandon tag [n]) s = .next t ∧
    (s.engine.load = none ∨ (∃ l, s.engine.load = some l ∧ n.toNat ≠ l.kind.number) →
      t.out.Carries (.response s.out.nextResv 0x1B#8 tag [Status.sequence.byte]) ∧ Served [] s t) ∧
    (∀ l : OpenLoad, s.engine.load = some l → n.toNat = l.kind.number →
      t.out.Carries (.response s.out.nextResv 0x1B#8 tag [Status.done.byte]) ∧ t.engine.load = none ∧
      (∀ w ∈ t.engine.work, w.load ≠ l.load) ∧ Served [.engine, .nv] s t))

/-- The end of an erase or of a record program of a load that has not ended (R168, R169): a success is answered DONE, marks the load ready
for records, or adds the record to the spare copy; a failure is answered STORE_FAULT, ends the load, drops its waiting work with the
answers of R169 (`LoadDropped`), and sends its fault with the kind to the STORE bank unless the bank ignores it. R169 says of a record that
the waiting work falls away with those answers; that it does so at a failed erase too, a header that waits then being answered STORE_FAULT,
is log entry 16, the model's choice. Of a load that has ended each is answered ENDED. With nothing else waiting for the engine a record
changes no copy but the spare one, and nothing else here changes the store (R166). -/
def Obligations.TableWorkEnds : Prop :=
  (∀ (s : State) (w : TableWork) (resv doneAt : Nat) (code tag : Byte) (ended ok : Bool), s.Ready →
    s.engine.busy = some ⟨.table w ended, doneAt⟩ → w.job = .erase resv → .reservation resv code tag ∈ s.out.waiting →
    ∃ t, exec (.tableEraseComplete ok) s = .next t ∧
      t.out.Carries (.response resv code tag
        [if ended then Status.ended.byte else if ok then Status.done.byte else Status.storeFault.byte]) ∧
      (ok = true → Kept [.engine, .nv, .out] (s.advanceTo doneAt) t ∧
        t.engine.load = if ended then s.engine.load
          else s.engine.load.map fun l => if l.load = w.load then { l with erased := true } else l) ∧
      (ok = false → ended = false → s.LoadDropped w.load [resv] t) ∧ (s.noWorkWaits → t.nv = s.nv) ∧
      (ok = false → t.banks = (s.advanceTo doneAt).banksAfter .eraseFail (some (.kind w.kind))) ∧
      Kept (.nv :: reached) (s.advanceTo doneAt) t) ∧
  (∀ (s : State) (w : TableWork) (bytes : List Byte) (resvs : List Nat) (doneAt : Nat) (ended ok : Bool), s.Ready →
    s.engine.busy = some ⟨.table w ended, doneAt⟩ → w.job = .record bytes resvs →
    ∃ t, exec (.tableRecordProgrammed ok) s = .next t ∧
      (∀ (resv : Nat) (code tag : Byte), resv ∈ resvs → .reservation resv code tag ∈ s.out.waiting → t.out.Carries (.response resv code tag
        [if ended then Status.ended.byte else if ok then Status.done.byte else Status.storeFault.byte])) ∧
      (ok = true → Kept [.engine, .nv, .out] (s.advanceTo doneAt) t ∧ t.engine.load = s.engine.load ∧
        (s.noWorkWaits → s.OtherCopiesStay w.kind s.engine.target t ∧ t.nv.slots = s.nv.slots ∧
          (t.nv.copies.get w.kind).get s.engine.target =
            { (s.nv.copies.get w.kind).get s.engine.target with
              records := ((s.nv.copies.get w.kind).get s.engine.target).records ++ [bytes] })) ∧
      (ok = false → ended = false → s.LoadDropped w.load resvs t) ∧ (ok = false → s.noWorkWaits → t.nv = s.nv) ∧
      (ok = false → t.banks = (s.advanceTo doneAt).banksAfter .programFail (some (.kind w.kind))) ∧
      Kept (.nv :: reached) (s.advanceTo doneAt) t)

/-- The end of a header program (R170): its copy is in use with a generation one greater than that of the copy it replaces (chapter 0),
the clamped table is in working memory, and the response carries DONE with the number of clamped fields; a failed one is answered
STORE_FAULT, sends PROGRAM_FAIL with the kind to the STORE bank, and leaves use and tables as they were. With nothing else waiting for the
engine no copy changes but by its header, and the trip area stays unless the swap itself has made trip work (R78). Where a header that
ended since the close has taken the last generation, it is answered STORE_FAULT as at the close (log entry 16, the model's choice). -/
def Obligations.HeaderPutsATableInUse : Prop :=
  ∀ (s : State) (w : TableWork) (count : Nat) (check : Check) (d : TableData) (clamps resv doneAt generation : Nat) (code tag : Byte)
    (ended ok : Bool), s.Ready → s.engine.busy = some ⟨.table w ended, doneAt⟩ → w.job = .header count check d clamps resv →
    .reservation resv code tag ∈ s.out.waiting → generation = (s.use.get w.kind).generation →
    ∃ t, exec (.tableHeaderProgrammed ok) s = .next t ∧ t.timeUs = (s.advanceTo doneAt).timeUs ∧ t.inputs = s.inputs ∧
      t.trunk.restart = s.trunk.restart ∧
      (ok = true → generation ≠ 4294967295 → t.tables = s.tables.put d ∧
        t.use = s.use.set w.kind ⟨some s.engine.target, generation + 1⟩ ∧
        t.out.Carries (.response resv code tag (Status.done.byte :: enc1 clamps)) ∧
        (s.noWorkWaits → s.OtherCopiesStay w.kind s.engine.target t ∧ (t.engine.busy = none → t.nv.slots = s.nv.slots) ∧
          (t.nv.copies.get w.kind).get s.engine.target =
            { (s.nv.copies.get w.kind).get s.engine.target with header := some ⟨generation + 1, count, check⟩ })) ∧
      (ok = false ∨ generation = 4294967295 → s.noWorkWaits → t.nv = s.nv) ∧
      (ok = true → generation = 4294967295 → t.tables = s.tables ∧ t.use = s.use ∧ t.banks = s.banks ∧
        t.out.Carries (.response resv code tag [Status.storeFault.byte]) ∧ Kept [.engine, .nv, .out] (s.advanceTo doneAt) t) ∧
      (ok = false → t.tables = s.tables ∧ t.use = s.use ∧
        t.banks = (s.advanceTo doneAt).banksAfter .programFail (some (.kind w.kind)) ∧
        t.out.Carries (.response resv code tag [Status.storeFault.byte]) ∧ Kept (.nv :: reached) (s.advanceTo doneAt) t)

/-- The owners' rules at a swap (R20, R21, R48, R67, R68, R78, R86, R111, R112, R119, R128, R165), as the header's end runs them. MAP: the
table alone. STRAPPING: volume and segment of the held level, the rest of its record and the ring untouched, BEYOND_TABLE on entry.
POINTS: an index whose
record differs takes the state NONE, every other keeps its own, and one notice lists those that were not NONE. CHANNELS: every channel
takes its reset values, a channel's transaction in flight is superseded, and nothing else changes. GUARD_SET: the level record is left
alone where points and agree band stay, and recomputed with them otherwise, the ring emptied and the rate UNKNOWN where a point changed;
the hold is re-aimed from the record as it then stands (log entries 34 and 38); with the hold still to come the guard's state and the
urgent slot stay. FILL_SET, PROFILE and TARIFF: the plan is evaluated, station copy and inhibit set stay, and a HELD fill changes its
numbers only; FILL_SET and PROFILE leave the order and a check in progress too. ZONES: new zones judged at once by their
probes, heaters by their feedback; entries for actuators that the new table does not name are left to run. SITE_SET: the budget of the
class as announced (log entry 36), and both silence timers from now. -/
def Obligations.TablesEnterTheirOwners : Prop :=
  (∀ (s t : State) (recs : List PointRecord) (changed : Nat → Prop), t = s.swapTable (.points recs) → s.points.length = 64 →
    (∀ i, changed i ↔ i < 64 ∧ (s.tables.points.getD [])[i]? ≠ recs[i]?) →
    t.tables = s.tables.put (.points recs) ∧ (∀ p, p ∉ [Part.tables, .points, .notices] → p.read t = p.read s) ∧
    (∀ i, changed i → t.points[i]? = some {}) ∧ (∀ i, ¬ changed i → t.points[i]? = s.points[i]?) ∧
    ((∀ i, changed i → (s.point i).quality = .none) → t.notices = s.notices) ∧
    ∀ i, changed i → (s.point i).quality ≠ .none → ∃ ps, (∀ j, j ∈ ps ↔ changed j ∧ (s.point j).quality ≠ .none) ∧
      t.notices = s.notices ++ [⟨.level, .points ps none⟩, ⟨.guard, .points ps none⟩, ⟨.frost, .points ps none⟩,
        ⟨.line, .points ps none⟩]) ∧
  (∀ (s t : State) (recs : List MapEntry), t = s.swapTable (.map recs) → t.tables = s.tables.put (.map recs) ∧
    ∀ p, p ≠ Part.tables → p.read t = p.read s) ∧
  (∀ (s t : State) (bs : List Breakpoint) (w : Nat), t = s.swapTable (.strapping bs) → w = s.level.record.w →
    t.tables = s.tables.put (.strapping bs) ∧
    t.level = { s.level with
      record := { s.level.record with v := t.level.record.v, segment := t.level.record.segment }
      beyond := t.level.beyond } ∧
    (∀ d, d = .guard ∨ d = .fill ∨ d = .telemetry → ⟨d, .level t.level.record false false⟩ ∈ t.notices) ∧
    (∀ p, p ∉ [Part.tables, .level, .banks, .out, .notices] → p.read t = p.read s) ∧
    t.banks = (if t.level.beyond = true ∧ s.level.beyond = false
      then s.banksAfter .beyondTable (some (.kind .strapping)) else s.banks) ∧
    ∀ first last, bs.head? = some first → bs.getLast? = some last → 2 ≤ bs.length →
      (∀ i x y, bs[i]? = some x → bs[i + 1]? = some y → x.level < y.level) →
      (t.level.beyond = true ↔ last.level ≤ w) ∧
      (w < first.level → t.level.record.v = first.volume ∧ t.level.record.segment = 0) ∧
      (last.level ≤ w → t.level.record.v = last.volume ∧ t.level.record.segment = bs.length - 2) ∧
      ∀ i x y, bs[i]? = some x → bs[i + 1]? = some y → x.level ≤ w → w < y.level → t.level.record.segment = i ∧
        t.level.record.v = x.volume + (y.volume - x.volume) * (w - x.level) / (y.level - x.level)) ∧
  (∀ (s t : State) (recs : List ChannelRecord), t = s.swapTable (.channels recs) → t.tables = s.tables.put (.channels recs) ∧
    t.line.live = List.replicate 24 {} ∧ (∀ p, p ∉ [Part.tables, .line] → p.read t = p.read s) ∧
    t.line = { s.line with live := t.line.live, inFlight := t.line.inFlight } ∧
    (s.line.inFlight = none → t.line.inFlight = none) ∧
    ∀ x, s.line.inFlight = some x → (∀ i, x.work = .channel i → t.line.inFlight = some { x with superseded := true }) ∧
      ((∀ i, x.work ≠ .channel i) → t.line.inFlight = some x)) ∧
  (∀ (s t now : State) (g : GuardSet), t = s.swapTable (.guardSet g) → now = { s with tables := s.tables.put (.guardSet g) } →
    t.tables = now.tables ∧ t.points = s.points ∧ t.engine.load = s.engine.load ∧
    (∀ o, s.tables.guardSet = some o → o.pointA = g.pointA → o.pointB = g.pointB →
      (o.agreeBand = g.agreeBand → t.level = s.level) ∧
      (o.agreeBand ≠ g.agreeBand → t.level = (now.recompute g none).level)) ∧
    ((∀ o, s.tables.guardSet = some o → o.pointA ≠ g.pointA ∨ o.pointB ≠ g.pointB) → t.level.ring = [] ∧ t.level.record.rate = none ∧
      t.level.record.w = (now.recompute g none).level.record.w ∧
      t.level.record.quality = (now.recompute g none).level.record.quality) ∧
    (t.level.record.lostSince = none → t.guard = s.guard ∧ t.line.urgent = s.line.urgent) ∧
    (∀ since, t.level.record.lostSince = some since → s.now < since + g.levelHold * 1000 →
      t.line.urgent = s.line.urgent ∧
      t.guard = { s.guard with holdAt :=
        match s.tables.guardSet, s.guard.holdAt with
        | some o, some due => some (if o.levelHold = g.levelHold then due else since + g.levelHold * 1000)
        | some _, none => none
        | none, _ => some (since + g.levelHold * 1000) })) ∧
  (∀ (s t : State) (d : TableData), t = s.swapTable d →
    (∃ f, d = .fillSet f) ∨ (∃ rs, d = .profile rs) ∨ (∃ ws, d = .tariff ws) →
    t.tables = s.tables.put d ∧ t.fill.station = s.fill.station ∧ t.fill.inhibit = s.fill.inhibit ∧
    t.fill.planAt = t.tables.fillSet.map (fun f => s.now + f.planInterval * 60000) ∧
    ((∀ ws, d ≠ .tariff ws) → t.fill.order = s.fill.order ∧ t.fill.turnoverDone = s.fill.turnoverDone ∧
      t.fill.window = s.fill.window ∧ (s.fill.state = .filling → t.fill.state = .filling ∧ t.fill.rise = s.fill.rise)) ∧
    (∀ ws, d = .tariff ws → t.fill.window = currentWindow s.tables.siteSet (some ws) s.clockTime ∧
      t.fill.tariff = windowClass t.fill.window) ∧
    (s.fill.state = .held → t.fill.state = .held ∧ t.fill.demand = s.fill.demand ∧ t.fill.order = s.fill.order) ∧
    ∀ f, d = .fillSet f → (t.frost.watch = true ↔ ∃ r ∈ s.zoneRecords, s.zoneTemp r = none ∨
      ∃ x, s.zoneTemp r = some x ∧ x ≤ f.frostWatchTemp)) ∧
  (∀ (s t : State) (recs : List ZoneRecord), t = s.swapTable (.zones recs) → t.tables = s.tables.put (.zones recs) ∧
    t.banks = s.banks ∧ t.frost.zones.length = recs.length ∧
    (∀ e ∈ s.line.commands, (∀ r ∈ recs, e.isFor r.heaterAddress r.heaterItem = false) → e ∈ t.line.commands) ∧
    ∀ (i : Nat) (r : ZoneRecord) (z : ZoneState), recs[i]? = some r → t.frost.zones[i]? = some z →
      (s.zoneTemp r = none → z.probeRequest = true ∧ z.request = true ∧ z.frozen = true ∧ z.probeLost = true) ∧
      (∀ x, s.zoneTemp r = some x → z.probeLost = false ∧ z.probeRequest = decide (x ≤ r.onTemp ∨ x < r.offTemp) ∧
        z.request = (s.frost.bankHold || z.probeRequest) ∧ z.frozen = decide (x < r.freezeTemp + 10)) ∧
      (z.granted = true → z.heater ≠ .off ∨ z.held = some true ∨ s.supply.mode ≠ .mains ∨
        (s.isInlet r.heaterAddress r.heaterItem = true ∧ s.line.urgent.isSome = true)) ∧
      (z.granted = false → s.zoneFeedback r = none ∨ s.zoneFeedback r = some 0 → z.heater = .off) ∧
      (∀ b, z.heater = .commanding b → z.granted = b)) ∧
  (∀ (s t : State) (x : SiteSet), t = s.swapTable (.siteSet x) → t.tables = s.tables.put (.siteSet x) ∧
    t.frost.tariff = s.frost.tariff ∧
    t.frost.budget = (if s.supply.mode = .mains then siteBudget (some x) s.frost.tariff else 0) ∧
    t.trunk = { s.trunk with
      controlAt := some (s.now + (siteLimits (some x)).1)
      stationAt := some (s.now + (siteLimits (some x)).2) })

/-- The end of trip work (R81, R84, R172, R173): a trip record programmed leaves its slot intact with the sequence number that follows the
newest one's, and the guard's flag PROGRAMMED; a marker during which a trip condition was seen refuses the reset and trips the guard
again, and one during which none was seen arms the guard and releases the trip line. Premises of that last clause: the evaluation that
follows finds the level and the projection below their thresholds, and another reason keeps the fill held. A failed program sends
PROGRAM_FAIL with its slot and is asked for again. The end of a pre-erase leaves its sector erased, and a failed one sends ERASE_FAIL with
the sector and begins again. Premise for the store's clauses: nothing else waits for the engine. -/
def Obligations.TripWorkEnds : Prop :=
  (∀ (s : State) (slot doneAt : Nat) (entry : TripEntry), s.Ready → s.engine.busy = some ⟨.trip slot entry, doneAt⟩ → slot < 8 →
    s.nv.slots.length = 8 → ∃ t, exec (.tripWorkProgrammed true) s = .next t ∧
      (slot % 4 ≠ 3 → s.engine.suspended = none → s.engine.work = [] → s.engine.tripWork = [] → s.engine.preErase = none →
        (∃ c w q p k u, entry = .trip c w q p k u) →
        t.nv.slots = s.nv.slots.set slot (.intact (sequenceFor s.nv.slots) entry)) ∧
      (∀ c w q p k u, entry = .trip c w q p k u → t.guard = { s.guard with tripFlag := .programmed } ∧
        Kept [.guard, .engine, .nv, .telemetry, .out] (s.advanceTo doneAt) t) ∧
      (∀ w k u (r : ResetInProgress), entry = .marker w k u → s.guard.reset = some r →
        (∀ cause, r.seen = some cause → t.guard.state = .tripped ∧ t.guard.cause = some cause ∧ t.guard.tripLine = true ∧
          t.guard.tripFlag = .pending ∧ t.guard.reset = none ∧ (.reservation r.resv 0x20#8 r.tag ∈ s.out.waiting →
            t.out.Carries (.response r.resv 0x20#8 r.tag [(seenStatus cause).byte]))) ∧
        (∀ (g : GuardSet) (b : GuardBlock), r.seen = none → s.tables.guardSet = some g →
          b = s.guard.withNumbers g s.tables.strapping s.level.record s.fill.demand →
          (s.level.record.w : Int) < b.trip → (b.projection : Int) < b.anticipate → (∃ x ∈ s.fill.inhibit, x ≠ Reason.guard) →
          t.guard = { b with
            state := .armed
            cause := none
            tripLine := false
            tripFlag := .none
            watch := .idle
            reset := none } ∧
          (.reservation r.resv 0x20#8 r.tag ∈ s.out.waiting →
            t.out.Carries (.response r.resv 0x20#8 r.tag [Status.done.byte])))) ∧
      Kept (.nv :: reached) (s.advanceTo doneAt) t) ∧
  (∀ (s : State) (slot doneAt : Nat) (entry : TripEntry), s.Ready → s.engine.busy = some ⟨.trip slot entry, doneAt⟩ →
    ∃ t, exec (.tripWorkProgrammed false) s = .next t ∧
      t.banks = (s.advanceTo doneAt).banksAfter .programFail (some (.slot slot)) ∧
      (entry ∈ t.engine.tripWork ∨ ∃ n, t.engine.busy = some ⟨.trip n entry, (s.advanceTo doneAt).now + 2⟩) ∧
      Kept (.nv :: reached) (s.advanceTo doneAt) t) ∧
  (∀ (s : State) (sector doneAt : Nat), s.Ready → s.engine.busy = some ⟨.preErase sector, doneAt⟩ →
    ∃ t, exec (.tripPreEraseComplete true) s = .next t ∧ Kept [.engine, .nv] (s.advanceTo doneAt) t ∧
      (s.engine.suspended = none → s.engine.work = [] → s.engine.tripWork = [] → s.engine.preErase = none →
        t.nv = { s.nv with slots := setSector sector .erased s.nv.slots } ∧ t.engine = { s.engine with busy := none })) ∧
  (∀ (s : State) (sector doneAt : Nat), s.Ready → s.engine.busy = some ⟨.preErase sector, doneAt⟩ →
    ∃ t, exec (.tripPreEraseComplete false) s = .next t ∧
      t.engine.busy = some ⟨.preErase sector, (s.advanceTo doneAt).now + 350⟩ ∧
      t.banks = (s.advanceTo doneAt).banksAfter .eraseFail (some (.sector sector)) ∧
      Kept (.nv :: reached) (s.advanceTo doneAt) t)

/-! ### Channels and pass-through -/

/-- CHANNEL_START and CHANNEL_STOP with their place (R33): a channel without a record is answered OUT_OF_RANGE and nothing changes;
otherwise DONE, the channel has its reset values or is stopped, and its transaction in flight is superseded. That a stop sets the PENDING
count to 0 with the split phase NONE is the model's choice (log entry 33). Premise of the whole
line's clause: the line has nothing to begin. -/
def Obligations.ChannelsStartAndStop : Prop :=
  ∀ (s : State) (tag n : Byte) (start : Bool) (cmd : Instr) (code : Byte), s.Serves →
    (start = true ∧ cmd = .channelStart tag [n] ∧ code = 0x1C#8) ∨ (start = false ∧ cmd = .channelStop tag [n] ∧ code = 0x1D#8) →
    ∃ t, exec cmd s = .next t ∧
      (s.channelRecord n.toNat = none →
        t.out.Carries (.response s.out.nextResv code tag [Status.outOfRange.byte]) ∧ Served [] s t) ∧
      (∀ (c : ChannelRecord) (l : ChannelLive), s.channelRecord n.toNat = some c → s.line.live[n.toNat]? = some l →
        t.out.Carries (.response s.out.nextResv code tag [Status.done.byte]) ∧ Served [.line] s t ∧
        (s.lineWaits → t.line = { s.line with
          live := s.line.live.set n.toNat (if start then {}
            else { l with go := false, condition := .stopped, handed := none, pendingCount := 0 })
          inFlight := s.line.inFlight.map fun x => if x.work = .channel n.toNat then { x with superseded := true } else x }) ∧
        (s.line.late = false → ∃ l' : ChannelLive, t.line.live[n.toNat]? = some l' ∧ l'.go = start ∧
          l'.condition = (if start then .none else .stopped) ∧ (start = true → l'.countdown = 0 ∧ l'.failures = 0)))

/-- FIELD_PASS with its place and a WAKE of 0 or 1 (R14, R15, R17, R43): the first check that fails gives the response and nothing else
changes; a request that passes them all joins the tail of the pass queue under its reservation. A close of the inlet valve does so too,
and MANUAL_CLOSE stands in the inhibit set at the event's end (R17, R103). Premise of the queue's clause: the line has nothing to begin.
What the gates say of a request (R14, R15, R17): the first GATE entry of the map for the address and item of a WRITE, SELECT or OPERATE
decides, DENY refusing it and INLET passing the value 0, which is a manual close, and any other value with the guard ARMED alone; a READ,
a STATUS, and a command that no entry matches, with an EMPTY map every one, pass and are no manual close. -/
def Obligations.FieldPassIsCheckedInOrder : Prop :=
  (∀ (s : State) (tag f a i w x hi lo : Byte) (inner : Option Nat) (r : Option DeviceRequest) (refused : Option Status), s.Serves →
    w = 0x00#8 ∨ w = 0x01#8 → inner = (if i = 0x00#8 then none else some i.toNat) →
    r = (if f = 0x31#8 then some (.read x.toNat (hi.toNat * 256 + lo.toNat))
      else if f = 0x32#8 then some (.write x.toNat (hi.toNat * 256 + lo.toNat))
      else if f = 0x33#8 then some (.select x.toNat (hi.toNat * 256 + lo.toNat))
      else if f = 0x34#8 then some (.operate x.toNat (hi.toNat * 256 + lo.toNat))
      else if f = 0x36#8 then some .status else none) →
    refused = (if s.holds .line = true then some Status.lineHeld
      else if r.any (fun r => !s.gatePasses (inner.getD a.toNat) r) then some .guarded
      else if s.supply.mode ≠ .mains then some .battery
      else if r = none ∨ a.toNat < 1 ∨ 31 < a.toNat ∨ 31 < i.toNat ∨ (i ≠ 0x00#8 ∧ s.repeater = 0) ∨
        (f = 0x31#8 ∧ (hi.toNat * 256 + lo.toNat < 1 ∨ 16 < hi.toNat * 256 + lo.toNat)) then some .outOfRange
      else if 4 ≤ s.line.pass.length then some .full
      else if r.any (fun r => decide (250000 < passCost s.byteTime (w == 0x01#8) inner r)) then some .tooLong else none) →
    ∃ t, exec (.fieldPass tag [f, a, i, w, x, hi, lo]) s = .next t ∧
      (∀ status, refused = some status →
        t.out.Carries (.response s.out.nextResv 0x1E#8 tag [status.byte]) ∧ Served [] s t) ∧
      (refused = none → ∀ q, r = some q →
        (s.lineWaits → s.isManualClose (inner.getD a.toNat) q = false → t.line = { s.line with pass := s.line.pass ++
          [{ resv := s.out.nextResv, request := q, address := a.toNat, inner := inner, wake := w == 0x01#8 }] } ∧
          Served [.line] s t) ∧
        (s.isManualClose (inner.getD a.toNat) q = true → .manualClose ∈ t.fill.inhibit ∧
          (s.InhibitLaw → t.fill.state = .held ∧ t.fill.demand = 0) ∧
          (s.lineWaits → t.line.pass = s.line.pass ++
            [{ resv := s.out.nextResv, request := q, address := a.toNat, inner := inner, wake := w == 0x01#8 }])) ∧
        Kept (.trunk :: reached) s t)) ∧
  (∀ (s : State) (address item v : Nat) (r : DeviceRequest),
    (r = .write item v ∨ r = .select item v ∨ r = .operate item v →
      (s.FirstGate address item .deny → s.gatePasses address r = false ∧ s.isManualClose address r = false) ∧
      (s.FirstGate address item .inlet → (s.gatePasses address r = true ↔ v = 0 ∨ s.guard.state = .armed) ∧
        (s.isManualClose address r = true ↔ v = 0)) ∧
      ((∀ kind, ¬ s.FirstGate address item kind) → s.gatePasses address r = true ∧ s.isManualClose address r = false)) ∧
    (r = .read item v ∨ r = .status ∨ s.tables.map = none → s.gatePasses address r = true ∧ s.isManualClose address r = false))

/-- The way of a pass-through entry out of the queue (R16, R34, R35, R36, R44, R45). The head whose device's outcome is in, directly or as
the inner reply of a COLLECT, leaves the queue, and its response carries the device's reply with DONE, NO_REPLY or FIELD_ERROR; accepted
DATA feeds its points as PASSED; a reply too long for a trunk frame gives a response of at most 200 bytes that begins with some status
(log entry 32). A HAND-OFF answered TAKEN takes a slot and keeps the head; FULL and BUSY keep it too (the gates judge each start, log
entry 17); a COLLECT without an inner reply counts as PENDING, and the fourth ends it with NO_REPLY. At a line cycle start a head whose
slot is released by time leaves with NO_REPLY, and one that a gate refuses before it starts with GUARDED (premise: no other work is there,
and its cost fits). No channel's failures change; where no point is fed no entry of the command list changes either, but for the cycle of
a turn that it takes next. -/
def Obligations.PassThroughEnds : Prop :=
  (∀ (s : State) (x : Transaction) (cmd : Instr) (o a : FieldOutcome) (ends : Nat) (e : PassEntry) (rest : List PassEntry)
    (code tag : Byte), s.Concludes x cmd o ends → x.work = .pass → s.line.pass = e :: rest →
    .reservation e.resv code tag ∈ s.out.waiting → x.DeviceOutcome o a → ∃ (t now : State), now = s.advanceUs ends ∧
      exec cmd s = .next t ∧ Kept (.points :: reached) now t ∧ t.line.pass.map PassEntry.resv <:+ rest.map PassEntry.resv ∧
      (∀ r, (∃ q, a = .accepted q r) ∨ a = .bad (some r) →
        (r.payload.length ≤ 197 → t.out.Carries (.response e.resv code tag
          (Status.done.byte :: r.code :: BitVec.ofNat 8 r.payload.length :: r.payload))) ∧
        (197 < r.payload.length → ∃ (status : Byte) (p : List Byte), status.toNat < 25 ∧ p.length < 200 ∧
          t.out.Carries (.response e.resv code tag (status :: p)))) ∧
      (a = .bad none → t.out.Carries (.response e.resv code tag [Status.fieldError.byte])) ∧
      (a = .noReply → t.out.Carries (.response e.resv code tag [Status.noReply.byte])) ∧
      (∀ start items raw device, a = .accepted (.data start items) raw →
        ((∃ r, x.request = .device r) ∧ device = e.inner.getD e.address) ∨ (∃ r, x.request = .collect device r) →
        t.points = (now.extract device .passed start items).points) ∧
      ((∀ start items raw, a ≠ .accepted (.data start items) raw) → t.points = s.points ∧ t.banks = s.banks ∧
        t.entries = s.entries) ∧
      (∀ inner r h, x.request = .collect inner r → e.handed = some h →
        t.line.slots = s.line.slots.eraseP fun y => y.holder == .pass && y.cycle == h) ∧
      (∀ (j : Nat) (l : ChannelLive), s.line.live[j]? = some l → ∃ l' : ChannelLive, t.line.live[j]? = some l' ∧
        l'.failures = l.failures ∧ l'.condition = l.condition ∧ l'.countdown = l.countdown ∧ l'.go = l.go)) ∧
  (∀ (s : State) (x : Transaction) (cmd : Instr) (o : FieldOutcome) (ends inner : Nat) (e : PassEntry) (rest : List PassEntry)
    (r : DeviceRequest) (raw : RawReply), s.Concludes x cmd o ends → x.work = .pass → s.line.pass = e :: rest →
    e.inner = some inner → x.request = .handOff inner r → s.repeater ≠ 0 →
    (o = .accepted .taken raw → ∃ t, exec cmd s = .next t ∧ Kept [.line, .out] (s.advanceUs ends) t ∧ t.entries = s.entries ∧
      t.line.pass = { e with handed := some s.line.cycle, pendingCount := 0 } :: rest ∧
      t.line.slots = if s.line.slots.length < 2 then s.line.slots ++ [⟨.pass, s.line.cycle⟩] else s.line.slots) ∧
    (o = .accepted .full raw ∨ o = .accepted .busy raw → e.handed = none → s.gatePasses inner e.request = true →
      ∃ t, exec cmd s = .next t ∧ Kept [.line, .out] (s.advanceUs ends) t ∧ t.line.pass = s.line.pass ∧
        t.line.slots = s.line.slots ∧ t.entries = s.entries)) ∧
  (∀ (s : State) (x : Transaction) (cmd : Instr) (o : FieldOutcome) (ends inner : Nat) (e : PassEntry) (rest : List PassEntry)
    (r : DeviceRequest) (code tag : Byte), s.Concludes x cmd o ends → x.work = .pass → s.line.pass = e :: rest →
    x.request = .collect inner r → (∀ bytes raw, o ≠ .accepted (.carried bytes) raw) →
    ∃ t, exec cmd s = .next t ∧ Kept [.line, .out] (s.advanceUs ends) t ∧ t.line.slots = s.line.slots ∧ t.entries = s.entries ∧
      (e.pendingCount + 1 < 4 → e.inner = some inner → e.handed.isSome = true → e.collectCycle = some s.line.cycle →
        s.repeater ≠ 0 → t.line.pass = { e with pendingCount := e.pendingCount + 1 } :: rest) ∧
      (4 ≤ e.pendingCount + 1 → .reservation e.resv code tag ∈ s.out.waiting →
        t.out.Carries (.response e.resv code tag [Status.noReply.byte]) ∧
        t.line.pass.map PassEntry.resv <:+ rest.map PassEntry.resv)) ∧
  (∀ (s : State) (e : PassEntry) (rest : List PassEntry) (code tag : Byte), s.Ready → s.line.late = false → s.line.inFlight = none →
    s.line.pass = e :: rest → .reservation e.resv code tag ∈ s.out.waiting →
    (∀ h, e.handed = some h → ⟨.pass, h⟩ ∈ s.line.slots → h + 9 ≤ s.line.cycle + 1 → ∃ t, exec .lineCycleStart s = .next t ∧
      Kept [.line, .out] (s.advanceUs s.cycleDueUs) t ∧ t.entries = s.entries ∧
      t.out.Carries (.response e.resv code tag [Status.noReply.byte]) ∧ t.line.pass.map PassEntry.resv <:+ rest.map PassEntry.resv) ∧
    (e.inner = none → e.handed = none → s.gatePasses e.address e.request = false → s.line.urgent = none → s.line.commands = [] →
      s.channelRecords = [] →
      (LineRequest.device e.request).costUs (siteRate s.tables.siteSet).byteTimeUs e.wake ≤ 250000 →
      ∃ t, exec .lineCycleStart s = .next t ∧ Kept [.line, .out] (s.advanceUs s.cycleDueUs) t ∧ t.entries = s.entries ∧
        t.out.Carries (.response e.resv code tag [Status.guarded.byte]) ∧
        t.line.pass.map PassEntry.resv <:+ rest.map PassEntry.resv))

/-! ### Laws that every step keeps -/

/-- The machine right after reset is what a power-on reset makes of it (R164), and it obeys every law of Safety.lean. -/
def Obligations.ResetObeysTheLaws : Prop :=
  exec .powerOnReset State.reset = .next State.reset ∧
  State.reset.TripLineLaw ∧ State.reset.DemandLaw ∧ State.reset.InhibitLaw ∧ State.reset.RingLaw ∧ State.reset.CommandLaw ∧
    State.reset.LineLaw ∧ State.reset.QueueLaw ∧ State.reset.ClockLaw ∧ State.reset.BankLaw ∧ State.reset.SizeLaw ∧
    State.reset.GrantLaw ∧ State.reset.DemandFrameLaw ∧ State.reset.CapLaw

/-- The trip line is asserted when and only when the guard is TRIPPED (R80): every step keeps it so, and with power the contact of the
relay is open exactly then (R186). -/
def Obligations.TripLineFollowsTheGuard : Prop :=
  ∀ s t : State, s.TripLineLaw → step s = .next t → t.TripLineLaw ∧ (t.contactOpen = true ↔ t.powered = false ∨ t.guard.state = .tripped)

/-- The fill demand is zero while the guard is not ARMED, and while a reason stands in the inhibit set, when the fill is HELD (R75, R99,
R104): every step keeps both. Every DEMAND frame that waits in the queue, and one held aside, carries the demand as it stands (R75,
R107), so 0 while the guard is not ARMED; a frame whose transmission has begun goes on as it was built (R75, R139). Every step keeps
that in a queue within its caps (`QueueKeepsItsCaps`). The demand never exceeds the smaller of the pumps available in the station copy
and the site maximum (R104): every step keeps it so, through the k of the last evaluation (R94, R99), given the inhibit law. -/
def Obligations.NoDemandAgainstTheGuard : Prop :=
  (∀ s t : State, s.DemandLaw → step s = .next t → t.DemandLaw) ∧ (∀ s t : State, s.InhibitLaw → step s = .next t → t.InhibitLaw) ∧
  (∀ s t : State, s.QueueLaw → s.DemandFrameLaw → step s = .next t → t.DemandFrameLaw) ∧
  (∀ s : State, s.powered = true → s.guard.state ≠ .armed → s.DemandLaw → s.DemandFrameLaw →
    (∀ n tag, .frame (.demand n tag) ∈ s.out.waiting → n = 0) ∧
    ∀ h n tag, s.out.held = some h → h.content = .demand n tag → n = 0) ∧
  (∀ s t : State, s.InhibitLaw → s.CapLaw → step s = .next t → t.CapLaw) ∧
  ∀ (s : State) (f : FillSet), s.powered = true → s.CapLaw → s.tables.fillSet = some f →
    s.fill.demand ≤ f.siteMax ∧ s.fill.demand ≤ match s.fill.station with | some c => c.available | none => 0

/-- The outbound queue keeps its caps through every step (R135, R136), and a queue within them holds at most 16 frames. -/
def Obligations.QueueKeepsItsCaps : Prop :=
  (∀ s t : State, s.QueueLaw → step s = .next t → t.QueueLaw) ∧ (∀ s : State, s.QueueLaw → s.out.places.length ≤ 16)

/-- The history ring keeps its length and its spacing (R57), and the clock its ranges (R88), through every step. -/
def Obligations.RingAndClockStayInRange : Prop :=
  (∀ s t : State, s.RingLaw → step s = .next t → t.RingLaw) ∧ (∀ s t : State, s.ClockLaw → step s = .next t → t.ClockLaw)

/-- The command list, the repeater slots and the pass queue keep their bounds through every step (R34, R37, R43). -/
def Obligations.LineQueuesKeepTheirBounds : Prop :=
  (∀ s t : State, s.CommandLaw → step s = .next t → t.CommandLaw) ∧ (∀ s t : State, s.LineLaw → step s = .next t → t.LineLaw)

/-- A bank whose unseen flag is set has overflow set as well (R144), and points, channels and trip-area slots keep their numbers, through
every step. -/
def Obligations.BanksAndSizesAreKept : Prop :=
  (∀ s t : State, s.BankLaw → step s = .next t → t.BankLaw) ∧ (∀ s t : State, s.SizeLaw → step s = .next t → t.SizeLaw)

/-- A fault acts on its bank as R144 says: an empty bank logs it; a higher severity replaces the record and sets overflow; an equal or
lower one sets overflow alone, and unseen as well when a SEVERE record meets another SEVERE fault. The record's severity is at least
the fault's and the old record's, and unseen goes with overflow. -/
def Obligations.FaultsActOnTheRecord : Prop :=
  ∀ (s : State) (code : FaultCode) (subject : Option Subject), ignores (bankSettings s.tables.siteSet code.bank) code = false →
    ((s.fault code subject).banks.get code.bank = some (match s.banks.get code.bank with
      | none => ⟨false, code.severity, code, subject, s.clockTime, s.uptime, code.autoResume, false⟩
      | some r => if r.severity.rank < code.severity.rank
        then ⟨true, code.severity, code, subject, s.clockTime, s.uptime, code.autoResume, r.unseen⟩
        else { r with
          overflow := true
          unseen := r.unseen ||
            decide (r.severity = .severe ∧ code.severity = .severe ∧ (r.code ≠ code ∨ r.subject ≠ subject)) })) ∧
    (∃ r', (s.fault code subject).banks.get code.bank = some r' ∧ code.severity.rank ≤ r'.severity.rank ∧
      (∀ r, s.banks.get code.bank = some r → r.severity.rank ≤ r'.severity.rank) ∧
      ((∀ r, s.banks.get code.bank = some r → r.unseen = true → r.overflow = true) → r'.unseen = true → r'.overflow = true)) ∧
    (∀ b, b ≠ code.bank → (s.fault code subject).banks.get b = s.banks.get b) ∧
    (∀ r, s.banks.get code.bank = some r → ¬ r.severity.rank < code.severity.rank → (s.fault code subject).out = s.out)

/-! ### Encoding -/

/-- Frames read back. The bytes of a trunk frame (R183), whatever its kind, code, tag and payload, are a good frame with the same contents.
A field frame with its check (R181, R182), in either bit order, is read as the code and payload it carries. -/
def Obligations.FramesReadBack : Prop :=
  (∀ f : TrunkFrame, f.dest < 256 → f.source < 256 → f.payload.length ≤ 200 → readTrunk f.bytes = .good f) ∧
  (∀ (lsb : Bool) (address : Nat) (code : Byte) (payload : List Byte), address < 256 → payload.length ≤ 40 →
    rawReply lsb address (frameBody address code payload ++ fieldCheck lsb (frameBody address code payload)) =
      some ⟨code, payload⟩)
end

