-- ==== Sys2Proof/Laws/Parts.lean ====
section
/-! SUPPORT. Frames: which parts of the state each operation leaves as they were. `Part.read p s` is one part of a state; the lemma of
an operation says that it leaves every part but the listed ones. With a named part it is an equation of that field:
`fault_read (p := .guard) (by decide)` says that a fault leaves the guard. -/

namespace Sys2Proof.Laws

open Sys2Proof.Machine

variable {part : Part}

/-- Two states with all parts equal are equal. -/
theorem state_ext {s t : State} (h : ∀ p : Part, p.read t = p.read s) : t = s := by
  have h1 := h .powered; have h2 := h .timeUs; have h3 := h .inputs; have h4 := h .nv; have h5 := h .tables
  have h6 := h .use; have h7 := h .points; have h8 := h .level; have h9 := h .guard; have h10 := h .fill
  have h11 := h .frost; have h12 := h .banks; have h13 := h .line; have h14 := h .telemetry; have h15 := h .out
  have h16 := h .trunk; have h17 := h .supply; have h18 := h .engine; have h19 := h .notices; have h20 := h .draws
  have h21 := h .pending
  cases s; cases t; simp only [Part.read] at *
  simp only [h1, h2, h3, h4, h5, h6, h7, h8, h9, h10, h11, h12, h13, h14, h15, h16, h17, h18, h19, h20, h21]

/-- A fold of operations that each leave a part leaves it. -/
theorem foldl_read {α : Type} (f : State → α → State) (hf : ∀ s x, part.read (f s x) = part.read s) (xs : List α) (s : State) :
    part.read (xs.foldl f s) = part.read s := by
  induction xs generalizing s with
  | nil => rfl
  | cons x xs ih => rw [List.foldl_cons, ih, hf]

@[simp] theorem setDraws_read (h : part ∉ [.draws]) (s : State) (n : Nat) :
    part.read { s with draws := n } = part.read s := by
  cases part <;> first | rfl | simp at h

@[simp] theorem setNotices_read (h : part ∉ [.notices]) (s : State) (ns : List Delivery) :
    part.read { s with notices := ns } = part.read s := by
  cases part <;> first | rfl | simp at h

@[simp] theorem setNoticesDraws_read (h : part ∉ [.notices, .draws]) (s : State) (ns : List Delivery) (n : Nat) :
    part.read { s with notices := ns, draws := n } = part.read s := by
  cases part <;> first | rfl | simp at h

@[simp] theorem setPending_read (h : part ∉ [.pending]) (s : State) (cs : List Instr) :
    part.read { s with pending := cs } = part.read s := by
  cases part <;> first | rfl | simp at h

@[simp] theorem updInputs_read (h : part ∉ [.inputs]) (f : Inputs → Inputs) (s : State) :
    part.read (State.updInputs f s) = part.read s := by
  cases part <;> first | rfl | exact absurd (List.mem_singleton.mpr rfl) h

@[simp] theorem updNv_read (h : part ∉ [.nv]) (f : NvStore → NvStore) (s : State) :
    part.read (State.updNv f s) = part.read s := by
  cases part <;> first | rfl | exact absurd (List.mem_singleton.mpr rfl) h

@[simp] theorem updTables_read (h : part ∉ [.tables]) (f : Tables → Tables) (s : State) :
    part.read (State.updTables f s) = part.read s := by
  cases part <;> first | rfl | exact absurd (List.mem_singleton.mpr rfl) h

@[simp] theorem updUse_read (h : part ∉ [.use]) (f : PerKind KindUse → PerKind KindUse) (s : State) :
    part.read (State.updUse f s) = part.read s := by
  cases part <;> first | rfl | exact absurd (List.mem_singleton.mpr rfl) h

@[simp] theorem updPoints_read (h : part ∉ [.points]) (f : List PointState → List PointState) (s : State) :
    part.read (State.updPoints f s) = part.read s := by
  cases part <;> first | rfl | exact absurd (List.mem_singleton.mpr rfl) h

@[simp] theorem updLevel_read (h : part ∉ [.level]) (f : LevelBlock → LevelBlock) (s : State) :
    part.read (State.updLevel f s) = part.read s := by
  cases part <;> first | rfl | exact absurd (List.mem_singleton.mpr rfl) h

@[simp] theorem updGuard_read (h : part ∉ [.guard]) (f : GuardBlock → GuardBlock) (s : State) :
    part.read (State.updGuard f s) = part.read s := by
  cases part <;> first | rfl | exact absurd (List.mem_singleton.mpr rfl) h

@[simp] theorem updFill_read (h : part ∉ [.fill]) (f : FillBlock → FillBlock) (s : State) :
    part.read (State.updFill f s) = part.read s := by
  cases part <;> first | rfl | exact absurd (List.mem_singleton.mpr rfl) h

@[simp] theorem updFrost_read (h : part ∉ [.frost]) (f : FrostBlock → FrostBlock) (s : State) :
    part.read (State.updFrost f s) = part.read s := by
  cases part <;> first | rfl | exact absurd (List.mem_singleton.mpr rfl) h

@[simp] theorem updBanks_read (h : part ∉ [.banks]) (f : PerBank (Option FaultRecord) → PerBank (Option FaultRecord)) (s : State) :
    part.read (State.updBanks f s) = part.read s := by
  cases part <;> first | rfl | exact absurd (List.mem_singleton.mpr rfl) h

@[simp] theorem updLine_read (h : part ∉ [.line]) (f : LineBlock → LineBlock) (s : State) :
    part.read (State.updLine f s) = part.read s := by
  cases part <;> first | rfl | exact absurd (List.mem_singleton.mpr rfl) h

@[simp] theorem updTelemetry_read (h : part ∉ [.telemetry]) (f : TelemetryBlock → TelemetryBlock) (s : State) :
    part.read (State.updTelemetry f s) = part.read s := by
  cases part <;> first | rfl | exact absurd (List.mem_singleton.mpr rfl) h

@[simp] theorem updOut_read (h : part ∉ [.out]) (f : Outbound → Outbound) (s : State) :
    part.read (State.updOut f s) = part.read s := by
  cases part <;> first | rfl | exact absurd (List.mem_singleton.mpr rfl) h

@[simp] theorem updTrunk_read (h : part ∉ [.trunk]) (f : TrunkBlock → TrunkBlock) (s : State) :
    part.read (State.updTrunk f s) = part.read s := by
  cases part <;> first | rfl | exact absurd (List.mem_singleton.mpr rfl) h

@[simp] theorem updSupply_read (h : part ∉ [.supply]) (f : SupplyBlock → SupplyBlock) (s : State) :
    part.read (State.updSupply f s) = part.read s := by
  cases part <;> first | rfl | exact absurd (List.mem_singleton.mpr rfl) h

@[simp] theorem updEngine_read (h : part ∉ [.engine]) (f : EngineBlock → EngineBlock) (s : State) :
    part.read (State.updEngine f s) = part.read s := by
  cases part <;> first | rfl | exact absurd (List.mem_singleton.mpr rfl) h

@[simp] theorem advanceUs_read (h : part ∉ [.timeUs, .fill]) (us : Nat) (s : State) :
    part.read (State.advanceUs us s) = part.read s := by
  unfold State.advanceUs
  split
  · rfl
  · cases part <;> first | rfl | simp at h

@[simp] theorem advanceTo_read (h : part ∉ [.timeUs, .fill]) (ms : Nat) (s : State) :
    part.read (State.advanceTo ms s) = part.read s := by
  unfold State.advanceTo
  simp_all

@[simp] theorem send_read (h : part ∉ [.notices]) (dest : BlockName) (n : Notice) (s : State) :
    part.read (State.send dest n s) = part.read s := by
  cases part <;> first | rfl | simp at h

@[simp] theorem broadcast_read (h : part ∉ [.notices]) (ds : List BlockName) (n : Notice) (s : State) :
    part.read (State.broadcast ds n s) = part.read s := by
  cases part <;> first | rfl | simp at h

@[simp] theorem pointNotice_read (h : part ∉ [.notices]) (ps : List Nat) (sample : Option Nat) (s : State) :
    part.read (State.pointNotice ps sample s) = part.read s := by
  unfold State.pointNotice
  split <;> simp_all

@[simp] theorem respond_read (h : part ∉ [.out]) (resv : Nat) (payload : List Byte) (s : State) :
    part.read (State.respond resv payload s) = part.read s := by
  unfold State.respond
  simp_all

@[simp] theorem offer_read (h : part ∉ [.out]) (c : Content) (s : State) :
    part.read (State.offer c s) = part.read s := by
  unfold State.offer
  simp_all

@[simp] theorem holdNotices_read (h : part ∉ [.notices]) (before : State) (s : State) :
    part.read (State.holdNotices before s) = part.read s := by
  unfold State.holdNotices
  dsimp only
  repeat' split
  all_goals simp_all

@[simp] theorem fault_read (h : part ∉ [.banks, .out, .notices]) (code : FaultCode) (subject : Option Subject) (s : State) :
    part.read (State.fault code subject s) = part.read s := by
  unfold State.fault
  dsimp only
  repeat' split
  all_goals simp_all

@[simp] theorem supersedeCommand_read (h : part ∉ [.line]) (address : Nat) (item : Nat) (s : State) :
    part.read (State.supersedeCommand address item s) = part.read s := by
  unfold State.supersedeCommand
  simp_all

@[simp] theorem removeCommand_read (h : part ∉ [.line]) (address : Nat) (item : Nat) (s : State) :
    part.read (State.removeCommand address item s) = part.read s := by
  unfold State.removeCommand
  simp_all

@[simp] theorem placeCommand_read (h : part ∉ [.line]) (address : Nat) (item : Nat) (feedback : Nat) (origin : Origin) (target : Nat) (s : State) :
    part.read (State.placeCommand address item feedback origin target s).1 = part.read s := by
  unfold State.placeCommand
  dsimp only
  repeat' split
  all_goals simp_all

@[simp] theorem placeUrgent_read (h : part ∉ [.line, .notices]) (s : State) :
    part.read (State.placeUrgent s) = part.read s := by
  unfold State.placeUrgent
  repeat' split
  all_goals simp_all

@[simp] theorem queueDemand_read (h : part ∉ [.fill, .out]) (s : State) :
    part.read (State.queueDemand s) = part.read s := by
  unfold State.queueDemand
  simp_all

@[simp] theorem zeroDemandHead_read (h : part ∉ [.fill, .out]) (s : State) :
    part.read (State.zeroDemandHead s) = part.read s := by
  unfold State.zeroDemandHead
  simp_all

@[simp] theorem setDemand_read (h : part ∉ [.fill, .out, .notices]) (d : Nat) (s : State) :
    part.read (State.setDemand d s) = part.read s := by
  unfold State.setDemand
  split <;> simp_all

@[simp] theorem askTripWork_read (h : part ∉ [.engine]) (e : TripEntry) (s : State) :
    part.read (State.askTripWork e s) = part.read s := by
  unfold State.askTripWork
  simp_all

@[simp] theorem takeItem_read (h : part ∉ [.points]) (address : Nat) (item : Nat) (raw : Nat) (source : Source) (s : State) :
    part.read (State.takeItem address item raw source s).1 = part.read s := by
  unfold State.takeItem
  repeat' split
  all_goals simp_all

@[simp] theorem takeItems_read (h : part ∉ [.points]) (address : Nat) (source : Source) (item : Nat) (raws : List Nat) (s : State) :
    part.read (State.takeItems address source item raws s).1 = part.read s := by
  induction raws generalizing item s with
  | nil => rfl
  | cons raw rest ih => simp only [State.takeItems]; rw [ih, takeItem_read h]

@[simp] theorem extract_read (h : part ∉ [.points, .notices]) (address : Nat) (source : Source) (start : Nat) (items : List Nat) (s : State) :
    part.read (State.extract address source start items s) = part.read s := by
  unfold State.extract
  simp_all

@[simp] theorem pointStale_read (h : part ∉ [.points, .notices]) (p : Nat) (s : State) :
    part.read (State.pointStale p s) = part.read s := by
  unfold State.pointStale
  simp_all

@[simp] theorem haltPoints_read (h : part ∉ [.points, .notices]) (c : ChannelRecord) (s : State) :
    part.read (State.haltPoints c s) = part.read s := by
  unfold State.haltPoints
  simp_all

@[simp] theorem swapPoints_read (h : part ∉ [.tables, .points, .notices]) (t : List PointRecord) (s : State) :
    part.read (State.swapPoints t s) = part.read s := by
  unfold State.swapPoints
  simp_all

@[simp] theorem swapMap_read (h : part ∉ [.tables]) (t : List MapEntry) (s : State) :
    part.read (State.swapMap t s) = part.read s := by
  unfold State.swapMap
  simp_all

@[simp] theorem levelNotice_read (h : part ∉ [.notices]) (qualityChanged : Bool) (appended : Bool) (s : State) :
    part.read (State.levelNotice qualityChanged appended s) = part.read s := by
  unfold State.levelNotice
  simp_all

@[simp] theorem judgeBeyond_read (h : part ∉ [.level, .banks, .out, .notices]) (s : State) :
    part.read (State.judgeBeyond s) = part.read s := by
  unfold State.judgeBeyond
  dsimp only
  split <;> simp_all

@[simp] theorem recompute_read (h : part ∉ [.level, .banks, .out, .notices]) (g : GuardSet) (sample : Option Nat) (s : State) :
    part.read (State.recompute g sample s) = part.read s := by
  unfold State.recompute
  dsimp only
  repeat' split
  all_goals simp_all

@[simp] theorem levelOnPoints_read (h : part ∉ [.level, .banks, .out, .notices]) (ps : List Nat) (sample : Option Nat) (s : State) :
    part.read (State.levelOnPoints ps sample s) = part.read s := by
  unfold State.levelOnPoints
  repeat' split
  all_goals simp_all

@[simp] theorem levelOnHousing_read (h : part ∉ [.level, .banks, .out, .notices]) (s : State) :
    part.read (State.levelOnHousing s) = part.read s := by
  unfold State.levelOnHousing
  split <;> simp_all

@[simp] theorem swapStrapping_read (h : part ∉ [.tables, .level, .banks, .out, .notices]) (t : List Breakpoint) (s : State) :
    part.read (State.swapStrapping t s) = part.read s := by
  unfold State.swapStrapping
  simp_all

@[simp] theorem levelOnGuardSet_read (h : part ∉ [.level, .banks, .out, .notices]) (old : Option GuardSet) (g : GuardSet) (s : State) :
    part.read (State.levelOnGuardSet old g s) = part.read s := by
  unfold State.levelOnGuardSet
  dsimp only
  repeat' split
  all_goals simp_all

@[simp] theorem tellGuard_read (h : part ∉ [.notices]) (s : State) :
    part.read (State.tellGuard s) = part.read s := by
  unfold State.tellGuard
  simp_all

@[simp] theorem passFill_read (h : part ∉ [.notices]) (before : State) (s : State) :
    part.read (State.passFill before s) = part.read s := by
  unfold State.passFill
  split <;> simp_all

@[simp] theorem guardZero_read (h : part ∉ [.fill, .out, .notices]) (s : State) :
    part.read (State.guardZero s) = part.read s := by
  unfold State.guardZero
  simp_all

@[simp] theorem startWatch_read (h : part ∉ [.guard]) (s : State) :
    part.read (State.startWatch s) = part.read s := by
  unfold State.startWatch
  split <;> simp_all

@[simp] theorem guardOnPoints_read (h : part ∉ [.guard, .line, .notices]) (ps : List Nat) (s : State) :
    part.read (State.guardOnPoints ps s) = part.read s := by
  unfold State.guardOnPoints
  repeat' split
  all_goals simp_all

@[simp] theorem valveDeadline_read (h : part ∉ [.guard, .banks, .line, .out, .notices]) (s : State) :
    part.read (State.valveDeadline s) = part.read s := by
  unfold State.valveDeadline
  split <;> simp_all

@[simp] theorem valveRepeat_read (h : part ∉ [.guard, .line, .notices]) (s : State) :
    part.read (State.valveRepeat s) = part.read s := by
  unfold State.valveRepeat
  simp_all

@[simp] theorem valveRetry_read (h : part ∉ [.guard, .line, .notices]) (s : State) :
    part.read (State.valveRetry s) = part.read s := by
  unfold State.valveRetry
  simp_all

@[simp] theorem guardOnUrgent_read (h : part ∉ [.guard]) (done : Bool) (s : State) :
    part.read (State.guardOnUrgent done s) = part.read s := by
  unfold State.guardOnUrgent
  split <;> simp_all

@[simp] theorem trip_read (h : part ∉ [.guard, .fill, .banks, .line, .telemetry, .out, .engine, .notices]) (cause : TripCause) (lr : LevelRecord) (s : State) :
    part.read (State.trip cause lr s) = part.read s := by
  unfold State.trip
  dsimp only
  split <;> simp_all

@[simp] theorem tripCondition_read (h : part ∉ [.guard, .fill, .banks, .line, .telemetry, .out, .engine, .notices]) (cause : TripCause) (lr : LevelRecord) (s : State) :
    part.read (State.tripCondition cause lr s) = part.read s := by
  unfold State.tripCondition
  split <;> simp_all

@[simp] theorem anticipate_read (h : part ∉ [.guard, .fill, .line, .out, .notices]) (s : State) :
    part.read (State.anticipate s) = part.read s := by
  unfold State.anticipate
  dsimp only
  split <;> simp_all

@[simp] theorem rearmGuard_read (h : part ∉ [.guard, .notices]) (s : State) :
    part.read (State.rearmGuard s) = part.read s := by
  unfold State.rearmGuard
  simp_all

@[simp] theorem guardEvaluate_read (h : part ∉ [.guard, .fill, .banks, .line, .telemetry, .out, .engine, .notices]) (lr : LevelRecord) (s : State) :
    part.read (State.guardEvaluate lr s) = part.read s := by
  unfold State.guardEvaluate
  dsimp only
  repeat' split
  all_goals simp_all

@[simp] theorem levelHoldEnds_read (h : part ∉ [.guard, .fill, .banks, .line, .telemetry, .out, .engine, .notices]) (s : State) :
    part.read (State.levelHoldEnds s) = part.read s := by
  unfold State.levelHoldEnds
  simp_all

@[simp] theorem armHold_read (h : part ∉ [.guard, .fill, .banks, .line, .telemetry, .out, .engine, .notices]) (g : GuardSet) (since : Nat) (s : State) :
    part.read (State.armHold g since s) = part.read s := by
  unfold State.armHold
  dsimp only
  split <;> simp_all

@[simp] theorem holdOnNotice_read (h : part ∉ [.guard, .fill, .banks, .line, .telemetry, .out, .engine, .notices]) (lr : LevelRecord) (s : State) :
    part.read (State.holdOnNotice lr s) = part.read s := by
  unfold State.holdOnNotice
  repeat' split
  all_goals simp_all

@[simp] theorem floatInput_read (h : part ∉ [.guard]) (active : Bool) (s : State) :
    part.read (State.floatInput active s) = part.read s := by
  unfold State.floatInput
  simp_all

@[simp] theorem floatActivates_read (h : part ∉ [.guard, .fill, .banks, .line, .telemetry, .out, .engine, .notices]) (s : State) :
    part.read (State.floatActivates s) = part.read s := by
  unfold State.floatActivates
  dsimp only
  repeat' split
  all_goals simp_all

@[simp] theorem floatDebounced_read (h : part ∉ [.guard, .fill, .banks, .line, .telemetry, .out, .engine, .notices]) (s : State) :
    part.read (State.floatDebounced s) = part.read s := by
  unfold State.floatDebounced
  split <;> simp_all

@[simp] theorem guardResetRequest_read (h : part ∉ [.guard, .out, .engine]) (resv : Nat) (tag : Byte) (s : State) :
    part.read (State.guardResetRequest resv tag s) = part.read s := by
  unfold State.guardResetRequest
  split <;> simp_all

@[simp] theorem completeReset_read (h : part ∉ [.guard, .fill, .banks, .line, .telemetry, .out, .engine, .notices]) (s : State) :
    part.read (State.completeReset s) = part.read s := by
  unfold State.completeReset
  repeat' split
  all_goals simp_all

@[simp] theorem guardOnTripWork_read (h : part ∉ [.guard, .fill, .banks, .line, .telemetry, .out, .engine, .notices]) (e : TripEntry) (slot : Option Nat) (s : State) :
    part.read (State.guardOnTripWork e slot s) = part.read s := by
  unfold State.guardOnTripWork
  repeat' split
  all_goals simp_all

@[simp] theorem guardOnLevel_read (h : part ∉ [.guard, .fill, .banks, .line, .telemetry, .out, .engine, .notices]) (lr : LevelRecord) (s : State) :
    part.read (State.guardOnLevel lr s) = part.read s := by
  unfold State.guardOnLevel
  simp_all

@[simp] theorem guardOnPipe_read (h : part ∉ [.guard, .fill, .banks, .line, .telemetry, .out, .engine, .notices]) (flag : Bool) (s : State) :
    part.read (State.guardOnPipe flag s) = part.read s := by
  unfold State.guardOnPipe
  simp_all

@[simp] theorem guardStart_read (h : part ∉ [.guard, .line, .notices]) (newest : Option TripEntry) (s : State) :
    part.read (State.guardStart newest s) = part.read s := by
  unfold State.guardStart
  dsimp only
  repeat' split
  all_goals simp_all

@[simp] theorem guardOnGuardSet_read (h : part ∉ [.guard, .fill, .banks, .line, .telemetry, .out, .engine, .notices]) (old : Option GuardSet) (g : GuardSet) (s : State) :
    part.read (State.guardOnGuardSet old g s) = part.read s := by
  unfold State.guardOnGuardSet
  repeat' split
  all_goals simp_all

@[simp] theorem setFill_read (h : part ∉ [.fill]) (state : FillState) (purpose : Option Purpose) (s : State) :
    part.read (State.setFill state purpose s) = part.read s := by
  unfold State.setFill
  simp_all

@[simp] theorem placeOpen_read (h : part ∉ [.fill, .line]) (s : State) :
    part.read (State.placeOpen s) = part.read s := by
  unfold State.placeOpen
  split <;> simp_all

@[simp] theorem enterOpening_read (h : part ∉ [.fill, .line]) (p : Purpose) (s : State) :
    part.read (State.enterOpening p s) = part.read s := by
  unfold State.enterOpening
  simp_all

@[simp] theorem enterClosing_read (h : part ∉ [.fill, .out, .notices]) (s : State) :
    part.read (State.enterClosing s) = part.read s := by
  unfold State.enterClosing
  simp_all

@[simp] theorem enterHeld_read (h : part ∉ [.fill, .out, .notices]) (s : State) :
    part.read (State.enterHeld s) = part.read s := by
  unfold State.enterHeld
  simp_all

@[simp] theorem fillingDemand_read (h : part ∉ [.fill, .out, .notices]) (s : State) :
    part.read (State.fillingDemand s) = part.read s := by
  unfold State.fillingDemand
  simp_all

@[simp] theorem takeTopUp_read (h : part ∉ [.fill]) (fs : FillSet) (s : State) :
    part.read (State.takeTopUp fs s) = part.read s := by
  unfold State.takeTopUp
  simp_all

@[simp] theorem windowDecision_read (h : part ∉ [.fill, .line]) (turned : Bool) (s : State) :
    part.read (State.windowDecision turned s) = part.read s := by
  unfold State.windowDecision
  dsimp only
  repeat' split
  all_goals simp_all

@[simp] theorem topUp_read (h : part ∉ [.fill, .line]) (fs : FillSet) (s : State) :
    part.read (State.topUp fs s) = part.read s := by
  unfold State.topUp
  split <;> simp_all

@[simp] theorem actOnPlan_read (h : part ∉ [.fill, .line, .out, .notices]) (fs : FillSet) (forced : Bool) (s : State) :
    part.read (State.actOnPlan fs forced s) = part.read s := by
  unfold State.actOnPlan
  repeat' split
  all_goals simp_all

@[simp] theorem evaluatePlan_read (h : part ∉ [.fill, .banks, .line, .out, .notices, .draws]) (forced : Bool) (s : State) :
    part.read (State.evaluatePlan forced s) = part.read s := by
  unfold State.evaluatePlan
  dsimp only
  repeat' split
  all_goals simp_all

@[simp] theorem endWindow_read (h : part ∉ [.fill, .line, .out, .notices]) (force : Bool) (s : State) :
    part.read (State.endWindow force s) = part.read s := by
  unfold State.endWindow
  dsimp only
  repeat' split
  all_goals simp_all

@[simp] theorem enterWindow_read (h : part ∉ [.fill, .banks, .line, .out, .notices, .draws]) (s : State) :
    part.read (State.enterWindow s) = part.read s := by
  unfold State.enterWindow
  simp_all

@[simp] theorem recomputeTariff_read (h : part ∉ [.fill, .banks, .line, .out, .notices, .draws]) (s : State) :
    part.read (State.recomputeTariff s) = part.read s := by
  unfold State.recomputeTariff
  dsimp only
  repeat' split
  all_goals simp_all

@[simp] theorem placeClose_read (h : part ∉ [.fill, .line]) (s : State) :
    part.read (State.placeClose s) = part.read s := by
  unfold State.placeClose
  dsimp only
  repeat' split
  all_goals simp_all

@[simp] theorem closeSequence_read (h : part ∉ [.fill, .line]) (s : State) :
    part.read (State.closeSequence s) = part.read s := by
  unfold State.closeSequence
  dsimp only
  repeat' split
  all_goals simp_all

/-- An event of the Fill Planner leaves what its step leaves, but for the fill, the line and the notices. -/
theorem fillEvent_read (h : part ∉ [.fill, .line, .notices]) (f : State → State) (s : State)
    (hf : part.read (f s) = part.read s) : part.read (State.fillEvent f s) = part.read s := by
  unfold State.fillEvent
  have h2 : part ∉ [.fill, .line] := by simp_all
  have h3 : part ∉ [.notices] := by simp_all
  rw [passFill_read h3, closeSequence_read h2, hf]

@[simp] theorem changeInhibit_read (h : part ∉ [.fill, .banks, .line, .out, .notices, .draws]) (add : List Reason) (remove : List Reason) (s : State) :
    part.read (State.changeInhibit add remove s) = part.read s := by
  unfold State.changeInhibit
  dsimp only
  repeat' split
  all_goals simp_all

@[simp] theorem fillOnLevelState_read (h : part ∉ [.fill, .line, .out, .notices]) (fs : FillSet) (lr : LevelRecord) (s : State) :
    part.read (State.fillOnLevelState fs lr s) = part.read s := by
  unfold State.fillOnLevelState
  dsimp only
  repeat' split
  all_goals simp_all

@[simp] theorem turnoverBecomesDone_read (h : part ∉ [.fill, .banks, .line, .out, .notices, .draws]) (s : State) :
    part.read (State.turnoverBecomesDone s) = part.read s := by
  unfold State.turnoverBecomesDone
  dsimp only
  split <;> simp_all

@[simp] theorem fillOnLevel_read (h : part ∉ [.fill, .banks, .line, .out, .notices, .draws]) (lr : LevelRecord) (s : State) :
    part.read (State.fillOnLevel lr s) = part.read s := by
  unfold State.fillOnLevel
  dsimp only
  repeat' split
  all_goals simp_all

@[simp] theorem closeConfirmed_read (h : part ∉ [.fill, .banks, .line, .out, .notices, .draws]) (s : State) :
    part.read (State.closeConfirmed s) = part.read s := by
  unfold State.closeConfirmed
  dsimp only
  split <;> simp_all

@[simp] theorem fillOnCommand_read (h : part ∉ [.fill, .banks, .line, .out, .notices, .draws]) (target : Nat) (o : CommandOutcome) (s : State) :
    part.read (State.fillOnCommand target o s) = part.read s := by
  unfold State.fillOnCommand
  dsimp only
  repeat' split
  all_goals simp_all

@[simp] theorem replaceOrder_read (h : part ∉ [.fill, .line, .out, .notices]) (order : FillOrder) (s : State) :
    part.read (State.replaceOrder order s) = part.read s := by
  unfold State.replaceOrder
  dsimp only
  split <;> simp_all

@[simp] theorem orderAuto_read (h : part ∉ [.fill, .banks, .line, .out, .notices, .draws]) (s : State) :
    part.read (State.orderAuto s) = part.read s := by
  unfold State.orderAuto
  simp_all

@[simp] theorem orderHold_read (h : part ∉ [.fill, .banks, .line, .out, .notices, .draws]) (s : State) :
    part.read (State.orderHold s) = part.read s := by
  unfold State.orderHold
  simp_all

@[simp] theorem orderForce_read (h : part ∉ [.fill, .banks, .line, .out, .notices, .draws]) (s : State) :
    part.read (State.orderForce s) = part.read s := by
  unfold State.orderForce
  dsimp only
  split <;> simp_all

@[simp] theorem orderLapses_read (h : part ∉ [.fill, .banks, .line, .out, .notices, .draws]) (s : State) :
    part.read (State.orderLapses s) = part.read s := by
  unfold State.orderLapses
  split <;> simp_all

@[simp] theorem riseOnStatus_read (h : part ∉ [.fill]) (running : Nat) (s : State) :
    part.read (State.riseOnStatus running s) = part.read s := by
  unfold State.riseOnStatus
  repeat' split
  all_goals simp_all

@[simp] theorem takeStatus_read (h : part ∉ [.fill, .banks, .line, .out, .notices, .draws]) (c : StationCopy) (s : State) :
    part.read (State.takeStatus c s) = part.read s := by
  unfold State.takeStatus
  dsimp only
  repeat' split
  all_goals simp_all

@[simp] theorem judgeRise_read (h : part ∉ [.fill, .banks, .out, .notices]) (check : RiseCheck) (s : State) :
    part.read (State.judgeRise check s) = part.read s := by
  unfold State.judgeRise
  dsimp only
  repeat' split
  all_goals simp_all

@[simp] theorem putClock_read (h : part ∉ [.fill, .notices]) (t : ClockTime) (s : State) :
    part.read (State.putClock t s) = part.read s := by
  unfold State.putClock
  dsimp only
  split <;> simp_all

@[simp] theorem newMinute_read (h : part ∉ [.fill, .banks, .line, .out, .notices, .draws]) (s : State) :
    part.read (State.newMinute s) = part.read s := by
  unfold State.newMinute
  simp_all

@[simp] theorem swapFillSet_read (h : part ∉ [.tables, .fill, .banks, .line, .out, .notices, .draws]) (t : FillSet) (s : State) :
    part.read (State.swapFillSet t s) = part.read s := by
  unfold State.swapFillSet
  simp_all

@[simp] theorem swapTariff_read (h : part ∉ [.tables, .fill, .banks, .line, .out, .notices, .draws]) (t : List TariffWindow) (s : State) :
    part.read (State.swapTariff t s) = part.read s := by
  unfold State.swapTariff
  simp_all

@[simp] theorem swapProfile_read (h : part ∉ [.tables, .fill, .banks, .line, .out, .notices, .draws]) (t : List ProfileRecord) (s : State) :
    part.read (State.swapProfile t s) = part.read s := by
  unfold State.swapProfile
  simp_all

@[simp] theorem updZone_read (h : part ∉ [.frost]) (i : Nat) (f : ZoneState → ZoneState) (s : State) :
    part.read (State.updZone i f s) = part.read s := by
  unfold State.updZone
  simp_all

@[simp] theorem judgeZone_read (h : part ∉ [.frost, .banks, .out, .notices]) (i : Nat) (r : ZoneRecord) (s : State) :
    part.read (State.judgeZone i r s) = part.read s := by
  unfold State.judgeZone
  dsimp only
  repeat' split
  all_goals simp_all

/-- A step over the zones that leaves a part leaves it over all of them. -/
theorem overZones_read (f : Nat → ZoneRecord → State → State) (hf : ∀ i r s, part.read (f i r s) = part.read s) (i : Nat)
    (rs : List ZoneRecord) (s : State) : part.read (overZones f i rs s) = part.read s := by
  induction rs generalizing i s with
  | nil => rfl
  | cons r rest ih => rw [overZones, ih, hf]

@[simp] theorem judgeListed_read (h : part ∉ [.frost, .banks, .out, .notices]) (ps : List Nat) (s : State) :
    part.read (State.judgeListed ps s) = part.read s := by
  unfold State.judgeListed
  refine overZones_read _ (fun i r s => ?_) _ _ _
  split <;> simp_all

@[simp] theorem setRequests_read (h : part ∉ [.frost]) (s : State) :
    part.read (State.setRequests s) = part.read s := by
  unfold State.setRequests
  simp_all

@[simp] theorem frostFlags_read (h : part ∉ [.frost, .notices]) (s : State) :
    part.read (State.frostFlags s) = part.read s := by
  unfold State.frostFlags
  dsimp only
  repeat' split
  all_goals simp_all

@[simp] theorem placeHeater_read (h : part ∉ [.frost, .line]) (i : Nat) (r : ZoneRecord) (s : State) :
    part.read (State.placeHeater i r s) = part.read s := by
  unfold State.placeHeater
  repeat' split
  all_goals simp_all

@[simp] theorem allocate_read (h : part ∉ [.frost, .line]) (s : State) :
    part.read (State.allocate s) = part.read s := by
  have hz : ∀ i r (s : State), part.read (s.placeHeater i r) = part.read s := fun i r s => placeHeater_read h i r s
  have hf : part ≠ .frost := by simp_all
  unfold State.allocate
  simp [hf, overZones_read _ hz]

@[simp] theorem passFrost_read (h : part ∉ [.notices]) (before : State) (s : State) :
    part.read (State.passFrost before s) = part.read s := by
  unfold State.passFrost
  split <;> simp_all

@[simp] theorem frostSettle_read (h : part ∉ [.frost, .line, .notices]) (before : State) (calls : Bool) (s : State) :
    part.read (State.frostSettle before calls s) = part.read s := by
  unfold State.frostSettle
  dsimp only
  split <;> simp_all

@[simp] theorem learnListed_read (h : part ∉ [.frost]) (ps : List Nat) (s : State) :
    part.read (State.learnListed ps s) = part.read s := by
  unfold State.learnListed
  split
  · rfl
  · refine overZones_read _ (fun i r s => ?_) _ _ _
    split <;> simp_all

@[simp] theorem frostOnPoints_read (h : part ∉ [.frost, .banks, .line, .out, .notices]) (ps : List Nat) (s : State) :
    part.read (State.frostOnPoints ps s) = part.read s := by
  unfold State.frostOnPoints
  split <;> simp_all

@[simp] theorem frostOnCommand_read (h : part ∉ [.frost, .line, .notices]) (address : Nat) (item : Nat) (target : Nat) (o : CommandOutcome) (s : State) :
    part.read (State.frostOnCommand address item target o s) = part.read s := by
  unfold State.frostOnCommand
  split <;> simp_all

@[simp] theorem setBudget_read (h : part ∉ [.frost, .line, .notices]) (calls : Bool) (s : State) :
    part.read (State.setBudget calls s) = part.read s := by
  unfold State.setBudget
  simp_all

@[simp] theorem frostOnTariff_read (h : part ∉ [.frost, .line, .notices]) (c : TariffClass) (s : State) :
    part.read (State.frostOnTariff c s) = part.read s := by
  unfold State.frostOnTariff
  simp_all

@[simp] theorem frostOnSupply_read (h : part ∉ [.frost, .line, .notices]) (mode : SupplyMode) (before : SupplyMode) (s : State) :
    part.read (State.frostOnSupply mode before s) = part.read s := by
  unfold State.frostOnSupply
  repeat' split
  all_goals simp_all

@[simp] theorem frostOnBank_read (h : part ∉ [.frost, .line, .notices]) (cleared holds : Bool) (s : State) :
    part.read (State.frostOnBank cleared holds s) = part.read s := by
  have hf : part ≠ .frost := by simp_all
  have hz : ∀ i (r : ZoneRecord) (s : State), part.read (s.updZone i (ZoneState.cleared (s.zoneFeedback r))) = part.read s :=
    fun i r s => updZone_read (by simpa using hf) i _ s
  unfold State.frostOnBank
  dsimp only
  rw [frostSettle_read h]
  split
  · simp [hf, overZones_read _ hz]
  · simp [hf]

@[simp] theorem deferralEnds_read (h : part ∉ [.frost, .banks, .out, .notices]) (zone : Nat) (s : State) :
    part.read (State.deferralEnds zone s) = part.read s := by
  unfold State.deferralEnds
  simp_all

@[simp] theorem swapZones_read (h : part ∉ [.tables, .frost, .banks, .line, .out, .notices]) (t : List ZoneRecord) (s : State) :
    part.read (State.swapZones t s) = part.read s := by
  have hj : part ∉ [.frost, .banks, .out, .notices] := by simp_all
  have hz : ∀ i (r : ZoneRecord) (s : State), part.read (s.judgeZone i r) = part.read s := fun i r s => judgeZone_read hj i r s
  unfold State.swapZones
  dsimp only
  rw [frostSettle_read (by simp_all), overZones_read _ hz]
  simp_all

@[simp] theorem frostStart_read (h : part ∉ [.frost]) (hold : Bool) (s : State) :
    part.read (State.frostStart hold s) = part.read s := by
  unfold State.frostStart
  simp_all

@[simp] theorem queueLevel_read (h : part ∉ [.telemetry, .out]) (s : State) :
    part.read (State.queueLevel s) = part.read s := by
  unfold State.queueLevel
  simp_all

@[simp] theorem aimPeriod_read (h : part ∉ [.telemetry, .out]) (s : State) :
    part.read (State.aimPeriod s) = part.read s := by
  unfold State.aimPeriod
  dsimp only
  split <;> simp_all

@[simp] theorem periodChanged_read (h : part ∉ [.telemetry, .out]) (before : State) (s : State) :
    part.read (State.periodChanged before s) = part.read s := by
  unfold State.periodChanged
  split <;> simp_all

@[simp] theorem telemetryOnLevel_read (h : part ∉ [.telemetry, .out]) (lr : LevelRecord) (qualityChanged : Bool) (s : State) :
    part.read (State.telemetryOnLevel lr qualityChanged s) = part.read s := by
  unfold State.telemetryOnLevel
  dsimp only
  split <;> simp_all

@[simp] theorem queueState_read (h : part ∉ [.out]) (s : State) :
    part.read (State.queueState s) = part.read s := by
  unfold State.queueState
  simp_all

@[simp] theorem passContents_read (h : part ∉ [.telemetry, .out]) (f : StateContents → StateContents) (s : State) :
    part.read (State.passContents f s) = part.read s := by
  unfold State.passContents
  dsimp only
  split <;> simp_all

@[simp] theorem telemetryOnSupply_read (h : part ∉ [.telemetry, .out]) (mode : SupplyMode) (s : State) :
    part.read (State.telemetryOnSupply mode s) = part.read s := by
  unfold State.telemetryOnSupply
  dsimp only
  repeat' split
  all_goals simp_all

@[simp] theorem telemetryOnFill_read (h : part ∉ [.telemetry, .out]) (state : FillState) (purpose : Option Purpose) (order : FillOrder) (inhibit : List Reason) (demand : Nat) (s : State) :
    part.read (State.telemetryOnFill state purpose order inhibit demand s) = part.read s := by
  unfold State.telemetryOnFill
  simp_all

@[simp] theorem telemetryOnSite_read (h : part ∉ [.telemetry, .out]) (before : State) (s : State) :
    part.read (State.telemetryOnSite before s) = part.read s := by
  unfold State.telemetryOnSite
  simp_all

@[simp] theorem tripNumbered_read (h : part ∉ [.telemetry, .out]) (slot : Nat) (s : State) :
    part.read (State.tripNumbered slot s) = part.read s := by
  unfold State.tripNumbered
  split <;> simp_all

@[simp] theorem startTransmission_read (h : part ∉ [.out]) (s : State) :
    part.read (State.startTransmission s) = part.read s := by
  unfold State.startTransmission
  repeat' split
  all_goals simp_all

@[simp] theorem updCopy_read (h : part ∉ [.nv]) (k : TableKind) (n : CopyName) (f : Copy → Copy) (s : State) :
    part.read (State.updCopy k n f s) = part.read s := by
  unfold State.updCopy
  simp_all

@[simp] theorem engineRun_read (h : part ∉ [.engine]) (job : EngineJob) (ms : Nat) (s : State) :
    part.read (State.engineRun job ms s) = part.read s := by
  unfold State.engineRun
  simp_all

@[simp] theorem beginTrip_read (h : part ∉ [.nv, .engine]) (slot : Nat) (entry : TripEntry) (rest : List TripEntry) (s : State) :
    part.read (State.beginTrip slot entry rest s) = part.read s := by
  unfold State.beginTrip
  simp_all

@[simp] theorem beginPreErase_read (h : part ∉ [.nv, .engine]) (sector : Nat) (s : State) :
    part.read (State.beginPreErase sector s) = part.read s := by
  unfold State.beginPreErase
  simp_all

@[simp] theorem beginTable_read (h : part ∉ [.nv, .engine]) (w : TableWork) (rest : List TableWork) (s : State) :
    part.read (State.beginTable w rest s) = part.read s := by
  unfold State.beginTable
  split <;> simp_all

@[simp] theorem suspendForTrip_read (h : part ∉ [.engine]) (s : State) :
    part.read (State.suspendForTrip s) = part.read s := by
  unfold State.suspendForTrip
  repeat' split
  all_goals simp_all

@[simp] theorem pickOther_read (h : part ∉ [.nv, .engine]) (s : State) :
    part.read (State.pickOther s) = part.read s := by
  unfold State.pickOther
  repeat' split
  all_goals simp_all

@[simp] theorem dueForTrip_read (h : part ∉ [.engine]) (s : State) :
    part.read (State.dueForTrip s) = part.read s := by
  unfold State.dueForTrip
  split <;> simp_all

@[simp] theorem enginePick_read (h : part ∉ [.nv, .engine]) (s : State) :
    part.read (State.enginePick s) = part.read s := by
  unfold State.enginePick
  dsimp only
  repeat' split
  all_goals simp_all

@[simp] theorem respondAll_read (h : part ∉ [.out]) (rs : List Nat) (payload : List Byte) (s : State) :
    part.read (State.respondAll rs payload s) = part.read s :=
  foldl_read (fun s r => s.respond r payload) (fun s r => respond_read h r payload s) rs s

@[simp] theorem dropLoad_read (h : part ∉ [.out, .engine]) (load : Nat) (header : Status) (s : State) :
    part.read (State.dropLoad load header s) = part.read s := by
  unfold State.dropLoad
  dsimp only
  rw [foldl_read _ (fun s w => respondAll_read (by simp_all) _ _ s)]
  simp_all

@[simp] theorem endOpenLoad_read (h : part ∉ [.out, .engine]) (s : State) :
    part.read (State.endOpenLoad s) = part.read s := by
  unfold State.endOpenLoad
  split <;> simp_all

@[simp] theorem protectChange_read (h : part ∉ [.inputs, .engine]) (active : Bool) (s : State) :
    part.read (State.protectChange active s) = part.read s := by
  unfold State.protectChange
  split <;> simp_all

@[simp] theorem addWork_read (h : part ∉ [.engine]) (w : TableWork) (s : State) :
    part.read (State.addWork w s) = part.read s := by
  unfold State.addWork
  simp_all

@[simp] theorem openTable_read (h : part ∉ [.out, .engine]) (resv : Nat) (kind : Nat) (s : State) :
    part.read (State.openTable resv kind s) = part.read s := by
  unfold State.openTable
  repeat' split
  all_goals simp_all

@[simp] theorem joinRecord_read (h : part ∉ [.engine]) (load : Nat) (resv : Nat) (s : State) :
    part.read (State.joinRecord load resv s) = part.read s := by
  unfold State.joinRecord
  simp_all

@[simp] theorem writeTable_read (h : part ∉ [.out, .engine]) (resv : Nat) (kind : Nat) (index : Nat) (record : List Byte) (s : State) :
    part.read (State.writeTable resv kind index record s) = part.read s := by
  unfold State.writeTable
  repeat' split
  all_goals simp_all

@[simp] theorem closeLoad_read (h : part ∉ [.engine]) (s : State) :
    part.read (State.closeLoad s) = part.read s := by
  unfold State.closeLoad
  simp_all

@[simp] theorem closeTable_read (h : part ∉ [.banks, .out, .engine, .notices]) (resv : Nat) (kind : Nat) (count : Nat) (check : Check) (s : State) :
    part.read (State.closeTable resv kind count check s) = part.read s := by
  unfold State.closeTable
  repeat' split
  all_goals simp_all

@[simp] theorem abandonTable_read (h : part ∉ [.out, .engine]) (resv : Nat) (kind : Nat) (s : State) :
    part.read (State.abandonTable resv kind s) = part.read s := by
  unfold State.abandonTable
  repeat' split
  all_goals simp_all

@[simp] theorem engineFree_read (h : part ∉ [.engine]) (s : State) :
    part.read (State.engineFree s) = part.read s := by
  unfold State.engineFree
  simp_all

@[simp] theorem eraseEnds_read (h : part ∉ [.banks, .out, .engine, .notices]) (w : TableWork) (resv : Nat) (ended : Bool) (ok : Bool) (s : State) :
    part.read (State.eraseEnds w resv ended ok s) = part.read s := by
  unfold State.eraseEnds
  repeat' split
  all_goals simp_all

@[simp] theorem recordEnds_read (h : part ∉ [.nv, .banks, .out, .engine, .notices]) (w : TableWork) (bytes : List Byte) (resvs : List Nat) (ended : Bool) (ok : Bool) (s : State) :
    part.read (State.recordEnds w bytes resvs ended ok s) = part.read s := by
  unfold State.recordEnds
  repeat' split
  all_goals simp_all

@[simp] theorem copyEnters_read (h : part ∉ [.nv, .use]) (k : TableKind) (h : Header) (s : State) :
    part.read (State.copyEnters k h s) = part.read s := by
  unfold State.copyEnters
  simp_all

@[simp] theorem preEraseAfter_read (h : part ∉ [.engine]) (slot : Nat) (s : State) :
    part.read (State.preEraseAfter slot s) = part.read s := by
  unfold State.preEraseAfter
  split <;> simp_all

@[simp] theorem tripProgramEnds_read (h : part ∉ [.nv, .banks, .out, .engine, .notices]) (slot : Nat) (entry : TripEntry) (ok : Bool) (s : State) :
    part.read (State.tripProgramEnds slot entry ok s) = part.read s := by
  unfold State.tripProgramEnds
  split <;> simp_all

@[simp] theorem preEraseEnds_read (h : part ∉ [.nv, .banks, .out, .engine, .notices]) (sector : Nat) (ok : Bool) (s : State) :
    part.read (State.preEraseEnds sector ok s) = part.read s := by
  unfold State.preEraseEnds
  split <;> simp_all

@[simp] theorem updChannel_read (h : part ∉ [.line]) (i : Nat) (f : ChannelLive → ChannelLive) (s : State) :
    part.read (State.updChannel i f s) = part.read s := by
  unfold State.updChannel
  simp_all

@[simp] theorem startTransaction_read (h : part ∉ [.line]) (work : LineWork) (address : Nat) (wake : Bool) (r : LineRequest) (s : State) :
    part.read (State.startTransaction work address wake r s) = part.read s := by
  unfold State.startTransaction
  simp_all

@[simp] theorem tryChannel_read (h : part ∉ [.line]) (left : Nat) (i : Nat) (c : ChannelRecord) (s : State) :
    part.read (State.tryChannel left i c s).1 = part.read s := by
  unfold State.tryChannel
  dsimp only
  repeat' split
  all_goals simp_all

@[simp] theorem tryChannels_read (h : part ∉ [.line]) (left : Nat) (cls : ChannelClass) (i : Nat) (cs : List ChannelRecord)
    (s : State) : part.read (tryChannels left cls i cs s).1 = part.read s := by
  induction cs generalizing i s with
  | nil => rfl
  | cons c rest ih =>
    simp only [tryChannels]
    split
    · split
      · exact tryChannel_read h left i c s
      · rw [ih, tryChannel_read h]
    · exact ih _ _

@[simp] theorem updCommand_read (h : part ∉ [.line]) (address : Nat) (item : Nat) (f : CommandEntry → CommandEntry) (s : State) :
    part.read (State.updCommand address item f s) = part.read s := by
  unfold State.updCommand
  simp_all

@[simp] theorem tryCommands_read (h : part ∉ [.line]) (left : Nat) (es : List CommandEntry) (s : State) :
    part.read (tryCommands left es s).1 = part.read s := by
  induction es generalizing s with
  | nil => rfl
  | cons e rest ih =>
    simp only [tryCommands]
    split
    · exact ih _
    · split
      · exact ih _
      · simp_all

@[simp] theorem leavePass_read (h : part ∉ [.line, .out]) (payload : List Byte) (s : State) :
    part.read (State.leavePass payload s) = part.read s := by
  unfold State.leavePass
  split <;> simp_all

@[simp] theorem updHead_read (h : part ∉ [.line]) (f : PassEntry → PassEntry) (s : State) :
    part.read (State.updHead f s) = part.read s := by
  unfold State.updHead
  simp_all

@[simp] theorem tryPass_read (h : part ∉ [.line, .out]) (left fuel : Nat) (s : State) :
    part.read (State.tryPass left fuel s).1 = part.read s := by
  induction fuel generalizing s with
  | zero => rfl
  | succ fuel ih =>
    simp only [State.tryPass]
    repeat' split
    all_goals simp_all

@[simp] theorem pickWork_read (h : part ∉ [.line, .out]) (left : Nat) (s : State) :
    part.read (State.pickWork left s) = part.read s := by
  unfold State.pickWork
  dsimp only
  repeat' split
  all_goals simp_all

@[simp] theorem linePick_read (h : part ∉ [.line, .out]) (s : State) :
    part.read (State.linePick s) = part.read s := by
  unfold State.linePick
  repeat' split
  all_goals simp_all

@[simp] theorem slotRunsOut_read (h : part ∉ [.line, .out]) (x : RepeaterSlot) (s : State) :
    part.read (State.slotRunsOut x s) = part.read s := by
  unfold State.slotRunsOut
  repeat' split
  all_goals simp_all

@[simp] theorem startCycle_read (h : part ∉ [.line, .out]) (s : State) :
    part.read (State.startCycle s) = part.read s := by
  unfold State.startCycle
  dsimp only
  rw [foldl_read _ (fun s x => by simp_all)]
  simp_all

@[simp] theorem cycleComesDue_read (h : part ∉ [.line, .out]) (s : State) :
    part.read (State.cycleComesDue s) = part.read s := by
  unfold State.cycleComesDue
  split <;> simp_all

@[simp] theorem lineSettle_read (h : part ∉ [.line, .out]) (s : State) :
    part.read (State.lineSettle s) = part.read s := by
  unfold State.lineSettle
  repeat' split
  all_goals simp_all

@[simp] theorem channelFails_read (h : part ∉ [.points, .banks, .line, .out, .notices]) (i : Nat) (c : ChannelRecord) (condition : ChannelCondition) (s : State) :
    part.read (State.channelFails i c condition s) = part.read s := by
  unfold State.channelFails
  split <;> simp_all

@[simp] theorem channelAnswer_read (h : part ∉ [.points, .banks, .line, .out, .notices]) (i : Nat) (c : ChannelRecord) (o : FieldOutcome) (s : State) :
    part.read (State.channelAnswer i c o s) = part.read s := by
  unfold State.channelAnswer
  repeat' split
  all_goals simp_all

@[simp] theorem takeSlot_read (h : part ∉ [.line]) (h : SlotHolder) (s : State) :
    part.read (State.takeSlot h s) = part.read s := by
  unfold State.takeSlot
  simp_all

@[simp] theorem releaseSlot_read (h : part ∉ [.line]) (h : SlotHolder) (cycle : Nat) (s : State) :
    part.read (State.releaseSlot h cycle s) = part.read s := by
  unfold State.releaseSlot
  simp_all

@[simp] theorem channelHandOff_read (h : part ∉ [.points, .banks, .line, .out, .notices]) (i : Nat) (c : ChannelRecord) (o : FieldOutcome) (s : State) :
    part.read (State.channelHandOff i c o s) = part.read s := by
  unfold State.channelHandOff
  split <;> simp_all

@[simp] theorem channelCollect_read (h : part ∉ [.points, .banks, .line, .out, .notices]) (i : Nat) (c : ChannelRecord) (inner : Nat) (r : DeviceRequest) (o : FieldOutcome) (s : State) :
    part.read (State.channelCollect i c inner r o s) = part.read s := by
  unfold State.channelCollect
  repeat' split
  all_goals simp_all

@[simp] theorem supersededOutcome_read (h : part ∉ [.points, .line, .notices]) (t : Transaction) (o : FieldOutcome) (s : State) :
    part.read (State.supersededOutcome t o s) = part.read s := by
  unfold State.supersededOutcome
  repeat' split
  all_goals simp_all

@[simp] theorem channelOutcome_read (h : part ∉ [.points, .banks, .line, .out, .notices]) (i : Nat) (t : Transaction) (o : FieldOutcome) (s : State) :
    part.read (State.channelOutcome i t o s) = part.read s := by
  unfold State.channelOutcome
  repeat' split
  all_goals simp_all

@[simp] theorem tellOrigin_read (h : part ∉ [.notices]) (e : CommandEntry) (o : CommandOutcome) (s : State) :
    part.read (State.tellOrigin e o s) = part.read s := by
  unfold State.tellOrigin
  simp_all

@[simp] theorem commandFails_read (h : part ∉ [.banks, .line, .out, .notices]) (e : CommandEntry) (s : State) :
    part.read (State.commandFails e s) = part.read s := by
  unfold State.commandFails
  split <;> simp_all

@[simp] theorem commandOutcome_read (h : part ∉ [.banks, .line, .out, .notices]) (address : Nat) (item : Nat) (t : Transaction) (o : FieldOutcome) (s : State) :
    part.read (State.commandOutcome address item t o s) = part.read s := by
  unfold State.commandOutcome
  repeat' split
  all_goals simp_all

@[simp] theorem lineOnPoints_read (h : part ∉ [.line, .notices]) (ps : List Nat) (s : State) :
    part.read (State.lineOnPoints ps s) = part.read s := by
  unfold State.lineOnPoints
  exact foldl_read _ (fun s e => by simp_all) _ _

@[simp] theorem deadlinePasses_read (h : part ∉ [.banks, .line, .out, .notices]) (address : Nat) (item : Nat) (s : State) :
    part.read (State.deadlinePasses address item s) = part.read s := by
  unfold State.deadlinePasses
  split <;> simp_all

@[simp] theorem lineOnSupply_read (h : part ∉ [.line, .notices]) (mode : SupplyMode) (s : State) :
    part.read (State.lineOnSupply mode s) = part.read s := by
  unfold State.lineOnSupply
  split
  · rfl
  · exact foldl_read _ (fun s e => by simp_all) _ _

@[simp] theorem urgentEnds_read (h : part ∉ [.line, .notices]) (o : FieldOutcome) (s : State) :
    part.read (State.urgentEnds o s) = part.read s := by
  unfold State.urgentEnds
  simp_all

@[simp] theorem passEnds_read (h : part ∉ [.points, .line, .out, .notices]) (device : Nat) (o : FieldOutcome) (s : State) :
    part.read (State.passEnds device o s) = part.read s := by
  unfold State.passEnds
  split <;> simp_all

@[simp] theorem passOutcome_read (h : part ∉ [.points, .line, .out, .notices]) (t : Transaction) (o : FieldOutcome) (s : State) :
    part.read (State.passOutcome t o s) = part.read s := by
  unfold State.passOutcome
  repeat' split
  all_goals simp_all

@[simp] theorem transactionEnds_read (h : part ∉ [.points, .banks, .line, .out, .notices]) (t : Transaction) (o : FieldOutcome) (s : State) :
    part.read (State.transactionEnds t o s) = part.read s := by
  unfold State.transactionEnds
  dsimp only
  repeat' split
  all_goals simp_all

@[simp] theorem supersedeChannel_read (h : part ∉ [.line]) (i : Nat) (s : State) :
    part.read (State.supersedeChannel i s) = part.read s := by
  unfold State.supersedeChannel
  simp_all

@[simp] theorem startChannel_read (h : part ∉ [.line, .out]) (resv : Nat) (index : Nat) (s : State) :
    part.read (State.startChannel resv index s) = part.read s := by
  unfold State.startChannel
  split <;> simp_all

@[simp] theorem stopChannel_read (h : part ∉ [.line, .out]) (resv : Nat) (index : Nat) (s : State) :
    part.read (State.stopChannel resv index s) = part.read s := by
  unfold State.stopChannel
  split <;> simp_all

@[simp] theorem passRequestTaken_read (h : part ∉ [.line, .out, .notices]) (resv : Nat) (function : Byte) (address : Nat) (innerByte : Nat) (wake : Bool) (item : Nat) (value : Nat) (s : State) :
    part.read (State.passRequestTaken resv function address innerByte wake item value s) = part.read s := by
  unfold State.passRequestTaken
  dsimp only
  repeat' split
  all_goals simp_all

@[simp] theorem swapChannels_read (h : part ∉ [.tables, .line]) (t : List ChannelRecord) (s : State) :
    part.read (State.swapChannels t s) = part.read s := by
  unfold State.swapChannels
  simp_all

@[simp] theorem changeMode_read (h : part ∉ [.supply, .notices]) (mode : SupplyMode) (s : State) :
    part.read (State.changeMode mode s) = part.read s := by
  unfold State.changeMode
  simp_all

@[simp] theorem mainsInput_read (h : part ∉ [.inputs, .supply]) (active : Bool) (s : State) :
    part.read (State.mainsInput active s) = part.read s := by
  unfold State.mainsInput
  simp_all

@[simp] theorem mainsLost_read (h : part ∉ [.supply, .notices]) (s : State) :
    part.read (State.mainsLost s) = part.read s := by
  unfold State.mainsLost
  simp_all

@[simp] theorem mainsReturned_read (h : part ∉ [.supply, .notices]) (s : State) :
    part.read (State.mainsReturned s) = part.read s := by
  unfold State.mainsReturned
  simp_all

@[simp] theorem batteryInput_read (h : part ∉ [.inputs, .supply]) (active : Bool) (s : State) :
    part.read (State.batteryInput active s) = part.read s := by
  unfold State.batteryInput
  simp_all

@[simp] theorem batteryDebounced_read (h : part ∉ [.supply, .notices]) (s : State) :
    part.read (State.batteryDebounced s) = part.read s := by
  unfold State.batteryDebounced
  dsimp only
  repeat' split
  all_goals simp_all

@[simp] theorem storeOnSupply_read (h : part ∉ [.out, .engine]) (mode : SupplyMode) (s : State) :
    part.read (State.storeOnSupply mode s) = part.read s := by
  unfold State.storeOnSupply
  split <;> simp_all

@[simp] theorem clearNotices_read (h : part ∉ [.notices]) (b : Bank) (s : State) :
    part.read (State.clearNotices b s) = part.read s := by
  unfold State.clearNotices
  dsimp only
  repeat' split
  all_goals simp_all

@[simp] theorem clearBank_read (h : part ∉ [.banks, .out, .notices]) (resv : Nat) (bank : Nat) (s : State) :
    part.read (State.clearBank resv bank s) = part.read s := by
  unfold State.clearBank
  split <;> simp_all

@[simp] theorem controlFrame_read (h : part ∉ [.trunk, .notices]) (s : State) :
    part.read (State.controlFrame s) = part.read s := by
  unfold State.controlFrame
  dsimp only
  split <;> simp_all

@[simp] theorem stationFrame_read (h : part ∉ [.trunk]) (s : State) :
    part.read (State.stationFrame s) = part.read s := by
  unfold State.stationFrame
  simp_all

@[simp] theorem partnerFrame_read (h : part ∉ [.trunk, .notices]) (p : Partner) (s : State) :
    part.read (State.partnerFrame p s) = part.read s := by
  unfold State.partnerFrame
  split <;> simp_all

@[simp] theorem controlSilence_read (h : part ∉ [.banks, .out, .trunk, .notices]) (s : State) :
    part.read (State.controlSilence s) = part.read s := by
  unfold State.controlSilence
  simp_all

@[simp] theorem stationSilence_read (h : part ∉ [.banks, .out, .trunk, .notices]) (s : State) :
    part.read (State.stationSilence s) = part.read s := by
  unfold State.stationSilence
  simp_all

@[simp] theorem badFrame_read (h : part ∉ [.banks, .out, .notices]) (s : State) :
    part.read (State.badFrame s) = part.read s := by
  unfold State.badFrame
  simp_all

/-- The taking of a request leaves what its owner leaves, but for the queue, the trunk port and the notices. -/
theorem takeRequest_read (h : part ∉ [.out, .trunk, .notices]) (code tag : Byte) (fits : Bool) (owner : Nat → State → State)
    (s : State) (ho : ∀ resv s, part.read (owner resv s) = part.read s) :
    part.read (State.takeRequest code tag fits owner s) = part.read s := by
  unfold State.takeRequest
  dsimp only
  split
  · split
    · rw [ho]; simp_all
    · simp_all
  · simp_all

@[simp] theorem answerWith_read (h : part ∉ [.out]) (payload : State → List Byte) (resv : Nat) (s : State) :
    part.read (answerWith payload resv s) = part.read s := respond_read h resv (payload s) s

@[simp] theorem setClockRequest_read (h : part ∉ [.fill, .banks, .line, .out, .notices, .draws]) (resv day minute second : Nat)
    (s : State) : part.read (State.setClockRequest resv day minute second s) = part.read s := by
  unfold State.setClockRequest
  split
  · simp_all
  · rw [fillEvent_read (by simp_all) _ _ (by simp_all)]; simp_all

@[simp] theorem fillOrderRequest_read (h : part ∉ [.fill, .banks, .line, .out, .notices, .draws]) (resv order : Nat) (s : State) :
    part.read (State.fillOrderRequest resv order s) = part.read s := by
  unfold State.fillOrderRequest
  split
  all_goals first
    | (rw [fillEvent_read (by simp_all) _ _ (by simp_all)]; simp_all)
    | simp_all

@[simp] theorem restartRequest_read (h : part ∉ [.out, .trunk]) (resv : Nat) (s : State) :
    part.read (State.restartRequest resv s) = part.read s := by
  unfold State.restartRequest
  split <;> simp_all

@[simp] theorem restartComesDue_read (h : part ∉ [.trunk]) (s : State) :
    part.read (State.restartComesDue s) = part.read s := by
  unfold State.restartComesDue
  simp_all

@[simp] theorem trunkSettle_read (h : part ∉ [.out]) (s : State) :
    part.read (State.trunkSettle s) = part.read s := by
  unfold State.trunkSettle
  split <;> simp_all

@[simp] theorem transmissionEnds_read (h : part ∉ [.out, .trunk]) (x : Sending) (s : State) :
    part.read (State.transmissionEnds x s) = part.read s := by
  unfold State.transmissionEnds
  dsimp only
  split <;> simp_all

@[simp] theorem trunkOnSite_read (h : part ∉ [.trunk]) (s : State) :
    part.read (State.trunkOnSite s) = part.read s := by
  unfold State.trunkOnSite
  simp_all

@[simp] theorem swapGuardSet_read
    (h : part ∉ [.tables, .level, .guard, .fill, .banks, .line, .telemetry, .out, .engine, .notices]) (g : GuardSet) (s : State) :
    part.read (State.swapGuardSet g s) = part.read s := by
  unfold State.swapGuardSet
  dsimp only
  rw [fillEvent_read (by simp_all) _ _ rfl]
  simp_all

@[simp] theorem swapSiteSet_read
    (h : part ∉ [.tables, .fill, .frost, .banks, .line, .telemetry, .out, .trunk, .notices, .draws]) (x : SiteSet) (s : State) :
    part.read (State.swapSiteSet x s) = part.read s := by
  unfold State.swapSiteSet
  dsimp only
  rw [telemetryOnSite_read (by simp_all), setBudget_read (by simp_all), fillEvent_read (by simp_all) _ _ (by simp_all)]
  simp_all

@[simp] theorem swapTable_read
    (h : part ∉ [.tables, .points, .level, .guard, .fill, .frost, .banks, .line, .telemetry, .out, .trunk, .engine, .notices, .draws])
    (d : TableData) (s : State) : part.read (State.swapTable d s) = part.read s := by
  unfold State.swapTable
  split
  all_goals first
    | (simp_all; done)
    | (dsimp only; rw [frostSettle_read (by simp_all), fillEvent_read (by simp_all) _ _ (by simp_all)])
    | (rw [fillEvent_read (by simp_all) _ _ (by simp_all)])

@[simp] theorem headerEnds_read (h : part ∉ [.nv, .tables, .use, .points, .level, .guard, .fill, .frost, .banks, .line, .telemetry, .out, .trunk, .engine, .notices, .draws]) (w : TableWork) (count : Nat) (check : Check) (d : TableData)
    (clamps : Nat) (resv : Nat) (ok : Bool) (s : State) :
    part.read (State.headerEnds w count check d clamps resv ok s) = part.read s := by
  unfold State.headerEnds
  dsimp only
  repeat' split
  all_goals simp_all

@[simp] theorem levelTakes_read (h : part ∉ [.level, .banks, .out, .notices]) (n : Notice) (s : State) :
    part.read (State.levelTakes n s) = part.read s := by
  unfold State.levelTakes
  split <;> simp_all

@[simp] theorem guardTakes_read (h : part ∉ [.guard, .fill, .banks, .line, .telemetry, .out, .engine, .notices]) (n : Notice) (s : State) :
    part.read (State.guardTakes n s) = part.read s := by
  unfold State.guardTakes
  split <;> simp_all

@[simp] theorem fillTakes_read (h : part ∉ [.fill, .banks, .line, .out, .notices, .draws]) (n : Notice) (s : State) :
    part.read (State.fillTakes n s) = part.read s := by
  unfold State.fillTakes
  split
  all_goals first
    | rfl
    | (refine fillEvent_read (by simp_all) _ _ ?_; (try split) <;> simp_all)

@[simp] theorem frostTakes_read (h : part ∉ [.frost, .banks, .line, .out, .notices]) (n : Notice) (s : State) :
    part.read (State.frostTakes n s) = part.read s := by
  unfold State.frostTakes
  split <;> simp_all

@[simp] theorem lineTakes_read (h : part ∉ [.line, .notices]) (n : Notice) (s : State) :
    part.read (State.lineTakes n s) = part.read s := by
  unfold State.lineTakes
  split <;> simp_all

@[simp] theorem telemetryTakes_read (h : part ∉ [.telemetry, .out]) (n : Notice) (s : State) :
    part.read (State.telemetryTakes n s) = part.read s := by
  unfold State.telemetryTakes
  split <;> simp_all

@[simp] theorem storeTakes_read (h : part ∉ [.out, .engine]) (n : Notice) (s : State) :
    part.read (State.storeTakes n s) = part.read s := by
  unfold State.storeTakes
  split <;> simp_all

@[simp] theorem deliver_read (h : part ∉ [.level, .guard, .fill, .frost, .banks, .line, .telemetry, .out, .engine, .notices, .draws]) (d : Delivery) (s : State) :
    part.read (State.deliver d s) = part.read s := by
  unfold State.deliver
  split <;> simp_all

/-- What `takeFirst` takes has the property, and it and what is left stood in the list. -/
theorem takeFirst_mem (f : Delivery → Bool) (ds : List Delivery) (d : Delivery) (rest : List Delivery)
    (h : takeFirst f ds = some (d, rest)) : (d ∈ ds ∧ ∀ x ∈ rest, x ∈ ds) ∧ f d = true := by
  induction ds generalizing d rest with
  | nil => simp [takeFirst] at h
  | cons e ds ih =>
    unfold takeFirst at h
    split at h
    · rename_i he
      simp only [Option.some.injEq, Prod.mk.injEq] at h
      obtain ⟨rfl, rfl⟩ := h
      exact ⟨⟨by simp, fun x hx => List.mem_cons_of_mem _ hx⟩, he⟩
    · split at h
      · rename_i e' rest' he
        simp only [Option.some.injEq, Prod.mk.injEq] at h
        obtain ⟨rfl, rfl⟩ := h
        obtain ⟨⟨h1, h2⟩, h3⟩ := ih _ _ he
        refine ⟨⟨List.mem_cons_of_mem _ h1, fun x hx => ?_⟩, h3⟩
        rcases List.mem_cons.mp hx with rfl | hx
        · simp
        · exact List.mem_cons_of_mem _ (h2 x hx)
      · simp at h

/-- The lowest rank that waits is no higher than that of any notice that waits. -/
theorem foldl_rank_le (ds : List Delivery) (k : Nat) :
    ds.foldl (fun r d => min r d.rank) k ≤ k ∧ ∀ d ∈ ds, ds.foldl (fun r d => min r d.rank) k ≤ d.rank := by
  induction ds generalizing k with
  | nil => simp
  | cons e ds ih =>
    obtain ⟨h1, h2⟩ := ih (min k e.rank)
    refine ⟨Nat.le_trans h1 (Nat.min_le_left _ _), fun d hd => ?_⟩
    rcases List.mem_cons.mp hd with rfl | hd
    · exact Nat.le_trans h1 (Nat.min_le_right _ _)
    · exact h2 d hd

/-- All that one delivery can do: nothing, or a block takes one of the notices that wait, of the lowest rank among them, and the others
go on waiting. -/
theorem deliverOne_cases (pick : Nat → Nat) (s : State) :
    s.deliverOne pick = s ∨
      ∃ e others draws, e ∈ s.notices ∧ (∀ x ∈ others, x ∈ s.notices) ∧ (∀ x ∈ s.notices, e.rank ≤ x.rank) ∧
        s.deliverOne pick = State.deliver e { s with notices := others, draws := draws } := by
  unfold State.deliverOne
  split
  · exact .inl rfl
  · rename_i d rest hl
    dsimp only
    split
    · rename_i e others hf
      obtain ⟨⟨h1, h2⟩, h3⟩ := takeFirst_mem _ _ _ _ hf
      refine .inr ⟨e, others, _, h1, h2, fun x hx => ?_, rfl⟩
      have hd : d ∈ inLine s.notices := by rw [hl]; simp
      simp only [inLine, List.mem_filter, beq_iff_eq] at hd
      simp only [Bool.and_eq_true, beq_iff_eq] at h3
      rw [h3.1, hd.2]
      exact (foldl_rank_le s.notices 2).2 x hx
    · exact .inl rfl

@[simp] theorem deliverOne_read (h : part ∉ [.level, .guard, .fill, .frost, .banks, .line, .telemetry, .out, .engine, .notices, .draws]) (pick : Nat → Nat) (s : State) :
    part.read (State.deliverOne pick s) = part.read s := by
  rcases deliverOne_cases pick s with e | ⟨d, others, draws, -, -, -, e⟩
  · rw [e]
  · rw [e, deliver_read h]
    cases part <;> first | rfl | exact absurd h (by decide)

@[simp] theorem drain_read (h : part ∉ [.level, .guard, .fill, .frost, .banks, .line, .telemetry, .out, .engine, .notices, .draws])
    (pick : Nat → Nat) (fuel : Nat) (s : State) : part.read (State.drain pick fuel s) = part.read s := by
  induction fuel generalizing s with
  | zero => rfl
  | succ fuel ih =>
    simp only [State.drain]
    split
    · rfl
    · rw [ih, deliverOne_read h]

@[simp] theorem settle_read (h : part ∉ [.nv, .line, .out, .engine]) (s : State) :
    part.read (State.settle s) = part.read s := by
  unfold State.settle
  simp_all

@[simp] theorem imageFaults_read (h : part ∉ [.banks, .out, .notices]) (s : State) :
    part.read (State.imageFaults s) = part.read s := by
  unfold State.imageFaults
  refine foldl_read _ (fun s k => ?_) _ _
  split <;> simp_all

@[simp] theorem startLoad_read (h : part ∉ [.tables, .use, .banks, .out, .engine, .notices]) (s : State) :
    part.read (State.startLoad s) = part.read s := by
  unfold State.startLoad
  dsimp only
  rw [updEngine_read (by simp_all), imageFaults_read (by simp_all)]
  cases part <;> first | rfl | simp at h

@[simp] theorem fillStart_read (h : part ∉ [.fill, .banks, .line, .out, .notices, .draws]) (s : State) :
    part.read (State.fillStart s) = part.read s := by
  unfold State.fillStart
  dsimp only
  repeat' split
  all_goals simp_all

@[simp] theorem tariffStart_read (h : part ∉ [.fill]) (s : State) :
    part.read (State.tariffStart s) = part.read s := by
  unfold State.tariffStart
  simp_all

@[simp] theorem telemetryStart_read (h : part ∉ [.telemetry, .out]) (s : State) :
    part.read (State.telemetryStart s) = part.read s := by
  unfold State.telemetryStart
  simp_all

@[simp] theorem trunkStart_read (h : part ∉ [.trunk]) (s : State) :
    part.read (State.trunkStart s) = part.read s := by
  unfold State.trunkStart
  simp_all

@[simp] theorem lineStart_read (h : part ∉ [.line]) (s : State) :
    part.read (State.lineStart s) = part.read s := by
  unfold State.lineStart
  simp_all

@[simp] theorem guardStartUp_read (h : part ∉ [.guard, .line, .notices]) (s : State) :
    part.read (State.guardStartUp s) = part.read s := by
  unfold State.guardStartUp
  simp_all

@[simp] theorem startUp_read (h : part ∉ [.tables, .use, .level, .guard, .fill, .frost, .banks, .line, .telemetry, .out, .trunk, .supply, .engine, .notices, .draws]) (s : State) :
    part.read (State.startUp s) = part.read s := by
  unfold State.startUp
  simp_all

end Sys2Proof.Laws
end

