-- ==== Sys2Proof/Laws/Settle.lean ====
section
/-! SUPPORT. What follows every event: `settle` leaves the line, the store engine and the queue as they are when they have nothing to
begin, and what that makes of an event. -/

namespace Sys2Proof.Laws

open Sys2Proof.Machine

/-! ### Reading a named part -/

theorem read_powered (s : State) : Part.powered.read s = s.powered := rfl
theorem read_out (s : State) : Part.out.read s = s.out := rfl
theorem read_line (s : State) : Part.line.read s = s.line := rfl
theorem read_engine (s : State) : Part.engine.read s = s.engine := rfl
theorem read_nv (s : State) : Part.nv.read s = s.nv := rfl
theorem read_guard (s : State) : Part.guard.read s = s.guard := rfl
theorem read_fill (s : State) : Part.fill.read s = s.fill := rfl
theorem read_notices (s : State) : Part.notices.read s = s.notices := rfl

/-! ### Settling with nothing to begin -/

theorem linePick_waits (s : State) (h : s.line.inFlight.isSome ∨ s.line.cycleStartUs = none) : s.linePick = s := by
  unfold State.linePick State.cycleLeft
  rcases h with h | h
  · simp [h]
  · simp [h]

theorem lineSettle_waits (s : State) (h : s.lineWaits) : s.lineSettle = s := by
  unfold State.lineSettle
  rcases h with h | ⟨h, h'⟩
  · simp [h]
  · split
    · rfl
    · simp only [h]; exact linePick_waits s (.inr h')

theorem enginePick_waits (s : State) (h : s.engineWaits) : s.enginePick = s := by
  obtain ⟨h, h'⟩ := h
  have h1 : s.suspendForTrip = s := by unfold State.suspendForTrip; rw [h]; split <;> simp_all
  unfold State.enginePick
  simp only [h1]
  rcases h' with h' | ⟨h2, h3, h4⟩
  · simp [h']
  · have h5 : s.dueForTrip = s := by unfold State.dueForTrip; rw [h]
    split
    · rfl
    · simp only [h5, h]; unfold State.pickOther; simp only [h2, h3, h4]

theorem trunkSettle_waits (s : State) (h : s.modemWaits) : s.trunkSettle = s := by
  unfold State.trunkSettle State.startTransmission
  rcases h with h | h | h | h
  · simp [h]
  · simp [h]
  · simp [h]
  · split
    · rfl
    · split
      · rfl
      · simp [h]

/-- Settling leaves the line when it has nothing to begin. -/
theorem settle_line (s : State) (h : s.lineWaits) : s.settle.line = s.line := by
  unfold State.settle
  rw [lineSettle_waits s h]
  exact (trunkSettle_read (part := .line) (by decide) _).trans (enginePick_read (part := .line) (by decide) _)

/-- Settling leaves the store engine when it has nothing to begin. -/
theorem settle_engine (s : State) (h : s.engineWaits) : s.settle.engine = s.engine := by
  unfold State.settle
  have e : s.lineSettle.engine = s.engine := lineSettle_read (part := .engine) (by decide) s
  have h' : s.lineSettle.engineWaits := by unfold State.engineWaits; rw [e]; exact h
  rw [enginePick_waits _ h']
  exact (trunkSettle_read (part := .engine) (by decide) _).trans e

/-- Settling leaves the store when the engine has nothing to begin. -/
theorem settle_nv (s : State) (h : s.engineWaits) : s.settle.nv = s.nv := by
  unfold State.settle
  have e : s.lineSettle.engine = s.engine := lineSettle_read (part := .engine) (by decide) s
  have h' : s.lineSettle.engineWaits := by unfold State.engineWaits; rw [e]; exact h
  rw [enginePick_waits _ h']
  exact (trunkSettle_read (part := .nv) (by decide) _).trans (lineSettle_read (part := .nv) (by decide) s)

/-- Settling leaves the outbound queue when neither the line nor the modem has anything to begin. -/
theorem settle_out (s : State) (hl : s.lineWaits) (h : s.modemWaits) : s.settle.out = s.out := by
  unfold State.settle
  rw [lineSettle_waits s hl]
  have e : s.enginePick.out = s.out := enginePick_read (part := .out) (by decide) s
  have ei : s.enginePick.inputs = s.inputs := enginePick_read (part := .inputs) (by decide) s
  have et : s.enginePick.trunk = s.trunk := enginePick_read (part := .trunk) (by decide) s
  have h' : s.enginePick.modemWaits := by unfold State.modemWaits; rw [e, ei, et]; exact h
  rw [trunkSettle_waits _ h', e]

/-! ### Events -/

/-- An event whose own effect is on the parts `ps` keeps the rest. -/
theorem settle_kept (ps : List Part) (s t : State) (h : ∀ p, p ∉ ps → p.read t = p.read s)
    (hc : t.inputs.clearToSend = s.inputs.clearToSend) (hd : t.trunk.restartDue = s.trunk.restartDue) :
    Kept ps s t.settle where
  others p hp hg := (settle_read (by simpa [goingOn] using hg) t).trans (h p hp)
  line hp hw := by
    have e : t.line = s.line := h .line hp
    rw [settle_line t (by unfold State.lineWaits; rw [e]; exact hw), e]
  engine hp hw := by
    have e : t.engine = s.engine := h .engine hp
    rw [settle_engine t (by unfold State.engineWaits; rw [e]; exact hw), e]
  nv hp he hw := by
    have e : t.engine = s.engine := h .engine he
    rw [settle_nv t (by unfold State.engineWaits; rw [e]; exact hw)]
    exact h .nv hp
  out hp hl hw hm := by
    have el : t.line = s.line := h .line hl
    have e : t.out = s.out := h .out hp
    rw [settle_out t (by unfold State.lineWaits; rw [el]; exact hw)
      (by unfold State.modemWaits; rw [e, hc, hd]; exact hm), e]

theorem drain_nil (pick : Nat → Nat) (fuel : Nat) (s : State) (h : s.notices = []) : State.drain pick fuel s = s := by
  cases fuel with
  | zero => rfl
  | succ n => simp [State.drain, h]

/-- An event that raises no notice is its effect and what follows. -/
theorem event_quiet (pick : Nat → Nat) (f : State → State) (s : State) (hp : s.powered = true) (hn : (f s).notices = []) :
    State.event pick f s = (f s).settle := by
  unfold State.event
  rw [drain_nil _ _ _ hn]
  simp [hp]

theorem event_powered (pick : Nat → Nat) (f : State → State) (s : State) (hp : s.powered = true) :
    State.event pick f s = (State.drain pick Config.deliveryFuel (f s)).settle := by
  simp [State.event, hp]

/-- A timer that expires at its aim. -/
theorem expiry_due (pick : Nat → Nat) (aim : Option Nat) (due : Nat) (f : State → State) (s : State) (h : aim = some due) :
    State.expiry pick aim due f s = State.event pick (fun s => f (s.advanceTo due)) s := by
  simp [State.expiry, State.eventIf, h]

end Sys2Proof.Laws
end

