-- ==== Sys2Proof/Laws/Carries.lean ====
section
/-! SUPPORT. A response that stands in the outbound queue stays there until its transmission ends (R135, R138): one lemma for each
operation that touches the queue. -/

namespace Sys2Proof.Laws

open Sys2Proof.Machine

variable {ra : Nat} {rb rc : Byte} {rd : List Byte}

theorem foldl_carries {α : Type} (f : State → α → State) (hf : ∀ s x, Outbound.Carries (.response ra rb rc rd) (Part.out.read s) →
    Outbound.Carries (.response ra rb rc rd) (Part.out.read (f s x))) (xs : List α) (s : State)
    (h : Outbound.Carries (.response ra rb rc rd) (Part.out.read s)) :
    Outbound.Carries (.response ra rb rc rd) (Part.out.read (xs.foldl f s)) := by
  induction xs generalizing s with
  | nil => exact h
  | cons x xs ih => exact ih _ (hf _ _ h)

theorem overZones_carries (f : Nat → ZoneRecord → State → State)
    (hf : ∀ i r s, Outbound.Carries (.response ra rb rc rd) (Part.out.read s) →
      Outbound.Carries (.response ra rb rc rd) (Part.out.read (f i r s))) (i : Nat) (rs : List ZoneRecord) (s : State)
    (h : Outbound.Carries (.response ra rb rc rd) (Part.out.read s)) :
    Outbound.Carries (.response ra rb rc rd) (Part.out.read (overZones f i rs s)) := by
  induction rs generalizing i s with
  | nil => exact h
  | cons r rest ih => exact ih _ _ (hf _ _ _ h)

theorem mem_replaceFirst (x : Content) (ps : List Place) (h : Place.response ra rb rc rd ∈ ps) :
    Place.response ra rb rc rd ∈ replaceFirst x ps := by
  induction ps with
  | nil => simp at h
  | cons p rest ih =>
    unfold replaceFirst
    split
    · rename_i hp
      rcases List.mem_cons.mp h with rfl | h
      · simp [Place.holds] at hp
      · exact List.mem_cons_of_mem _ h
    · rcases List.mem_cons.mp h with rfl | h
      · simp
      · exact List.mem_cons_of_mem _ (ih h)

theorem mem_takeReady (ps : List Place) (q : Place) (rest : List Place) (ht : takeReady ps = some (q, rest))
    (x : Place) (h : x ∈ ps) : x = q ∨ x ∈ rest := by
  induction ps generalizing q rest with
  | nil => simp at h
  | cons p ps ih =>
    unfold takeReady at ht
    split at ht
    · simp only [Option.some.injEq, Prod.mk.injEq] at ht
      obtain ⟨rfl, rfl⟩ := ht
      simpa using h
    · split at ht
      · rename_i q' rest' he
        simp only [Option.some.injEq, Prod.mk.injEq] at ht
        obtain ⟨rfl, rfl⟩ := ht
        rcases List.mem_cons.mp h with rfl | h
        · exact .inr (by simp)
        · rcases ih _ _ he h with h | h
          · exact .inl h
          · exact .inr (List.mem_cons_of_mem _ h)
      · simp at ht

theorem updOut_carries (f : Outbound → Outbound) (s : State)
    (h : Outbound.Carries (.response ra rb rc rd) (f s.out)) : Outbound.Carries (.response ra rb rc rd) (Part.out.read (s.updOut f)) := h

theorem respond_carries (resv : Nat) (payload : List Byte) (s : State)
    (h : Outbound.Carries (.response ra rb rc rd) (Part.out.read s)) :
    Outbound.Carries (.response ra rb rc rd) (Part.out.read (State.respond resv payload s)) := by
  rcases h with h | h
  · exact .inl (List.mem_map.mpr ⟨_, h, rfl⟩)
  · exact .inr h

theorem offer_carries (x : Content) (s : State)
    (h : Outbound.Carries (.response ra rb rc rd) (Part.out.read s)) :
    Outbound.Carries (.response ra rb rc rd) (Part.out.read (State.offer x s)) := by
  show Outbound.Carries (.response ra rb rc rd) (Outbound.offer x s.out)
  unfold Outbound.offer
  rcases h with h | h
  · split
    · exact .inl (mem_replaceFirst x _ h)
    · split
      · exact .inl h
      · exact .inl (List.mem_append_left _ h)
  · split
    · exact .inr h
    · split <;> exact .inr h

theorem fault_carries (code : FaultCode) (subject : Option Subject) (s : State) (h : Outbound.Carries (.response ra rb rc rd) (Part.out.read s)) :
    Outbound.Carries (.response ra rb rc rd) (Part.out.read (State.fault code subject s)) := by
  unfold State.fault
  try dsimp only
  repeat' first
    | with_reducible exact h
    | with_reducible assumption
    | with_reducible apply offer_carries
    | rw [updBanks_read (part := .out) (by decide)]
    | rw [holdNotices_read (part := .out) (by decide)]
    | split

theorem queueDemand_carries (s : State) (h : Outbound.Carries (.response ra rb rc rd) (Part.out.read s)) :
    Outbound.Carries (.response ra rb rc rd) (Part.out.read (State.queueDemand s)) := by
  unfold State.queueDemand
  try dsimp only
  repeat' first
    | with_reducible exact h
    | with_reducible assumption
    | with_reducible apply offer_carries
    | rw [updFill_read (part := .out) (by decide)]

theorem zeroDemandHead_carries (s : State)
    (h : Outbound.Carries (.response ra rb rc rd) (Part.out.read s)) :
    Outbound.Carries (.response ra rb rc rd) (Part.out.read (State.zeroDemandHead s)) := by
  show Outbound.Carries (.response ra rb rc rd) (Outbound.offerHead _ s.out)
  unfold Outbound.offerHead
  rcases h with h | h
  · split
    · exact .inl h
    · exact .inl (List.mem_cons_of_mem _ (List.mem_filter.mpr ⟨h, by simp [Place.holds]⟩))
  · split <;> exact .inr h

theorem setDemand_carries (n : Nat) (s : State) (h : Outbound.Carries (.response ra rb rc rd) (Part.out.read s)) :
    Outbound.Carries (.response ra rb rc rd) (Part.out.read (State.setDemand n s)) := by
  unfold State.setDemand
  split
  · exact h
  · rw [send_read (by decide)]; exact queueDemand_carries _ h

theorem judgeBeyond_carries (s : State) (h : Outbound.Carries (.response ra rb rc rd) (Part.out.read s)) :
    Outbound.Carries (.response ra rb rc rd) (Part.out.read (State.judgeBeyond s)) := by
  unfold State.judgeBeyond
  try dsimp only
  repeat' first
    | with_reducible exact h
    | with_reducible assumption
    | with_reducible apply fault_carries
    | rw [updLevel_read (part := .out) (by decide)]
    | split

theorem recompute_carries (g : GuardSet) (sample : Option Nat) (s : State) (h : Outbound.Carries (.response ra rb rc rd) (Part.out.read s)) :
    Outbound.Carries (.response ra rb rc rd) (Part.out.read (State.recompute g sample s)) := by
  unfold State.recompute
  try dsimp only
  repeat' first
    | with_reducible exact h
    | with_reducible assumption
    | with_reducible apply fault_carries
    | with_reducible apply judgeBeyond_carries
    | rw [updLevel_read (part := .out) (by decide)]
    | rw [levelNotice_read (part := .out) (by decide)]
    | split

theorem levelOnPoints_carries (ps : List Nat) (sample : Option Nat) (s : State) (h : Outbound.Carries (.response ra rb rc rd) (Part.out.read s)) :
    Outbound.Carries (.response ra rb rc rd) (Part.out.read (State.levelOnPoints ps sample s)) := by
  unfold State.levelOnPoints
  try dsimp only
  repeat' first
    | with_reducible exact h
    | with_reducible assumption
    | with_reducible apply recompute_carries
    | split

theorem levelOnHousing_carries (s : State) (h : Outbound.Carries (.response ra rb rc rd) (Part.out.read s)) :
    Outbound.Carries (.response ra rb rc rd) (Part.out.read (State.levelOnHousing s)) := by
  unfold State.levelOnHousing
  try dsimp only
  repeat' first
    | with_reducible exact h
    | with_reducible assumption
    | with_reducible apply recompute_carries
    | split

theorem swapStrapping_carries (t : List Breakpoint) (s : State) (h : Outbound.Carries (.response ra rb rc rd) (Part.out.read s)) :
    Outbound.Carries (.response ra rb rc rd) (Part.out.read (State.swapStrapping t s)) := by
  unfold State.swapStrapping
  try dsimp only
  repeat' first
    | with_reducible exact h
    | with_reducible assumption
    | with_reducible apply judgeBeyond_carries
    | rw [updTables_read (part := .out) (by decide)]
    | rw [updLevel_read (part := .out) (by decide)]
    | rw [levelNotice_read (part := .out) (by decide)]

theorem levelOnGuardSet_carries (old : Option GuardSet) (g : GuardSet) (s : State) (h : Outbound.Carries (.response ra rb rc rd) (Part.out.read s)) :
    Outbound.Carries (.response ra rb rc rd) (Part.out.read (State.levelOnGuardSet old g s)) := by
  unfold State.levelOnGuardSet
  try dsimp only
  repeat' first
    | with_reducible exact h
    | with_reducible assumption
    | with_reducible apply recompute_carries
    | rw [updLevel_read (part := .out) (by decide)]
    | split

theorem guardZero_carries (s : State) (h : Outbound.Carries (.response ra rb rc rd) (Part.out.read s)) :
    Outbound.Carries (.response ra rb rc rd) (Part.out.read (State.guardZero s)) := by
  unfold State.guardZero
  try dsimp only
  repeat' first
    | with_reducible exact h
    | with_reducible assumption
    | with_reducible apply zeroDemandHead_carries
    | rw [passFill_read (part := .out) (by decide)]

theorem valveDeadline_carries (s : State) (h : Outbound.Carries (.response ra rb rc rd) (Part.out.read s)) :
    Outbound.Carries (.response ra rb rc rd) (Part.out.read (State.valveDeadline s)) := by
  unfold State.valveDeadline
  try dsimp only
  repeat' first
    | with_reducible exact h
    | with_reducible assumption
    | with_reducible apply fault_carries
    | rw [updGuard_read (part := .out) (by decide)]
    | rw [placeUrgent_read (part := .out) (by decide)]
    | split

theorem trip_carries (cause : TripCause) (lr : LevelRecord) (s : State) (h : Outbound.Carries (.response ra rb rc rd) (Part.out.read s)) :
    Outbound.Carries (.response ra rb rc rd) (Part.out.read (State.trip cause lr s)) := by
  unfold State.trip
  try dsimp only
  repeat' first
    | with_reducible exact h
    | with_reducible assumption
    | with_reducible apply offer_carries
    | with_reducible apply fault_carries
    | with_reducible apply guardZero_carries
    | rw [updGuard_read (part := .out) (by decide)]
    | rw [updTelemetry_read (part := .out) (by decide)]
    | rw [send_read (part := .out) (by decide)]
    | rw [placeUrgent_read (part := .out) (by decide)]
    | rw [askTripWork_read (part := .out) (by decide)]
    | rw [tellGuard_read (part := .out) (by decide)]
    | rw [startWatch_read (part := .out) (by decide)]
    | split

theorem tripCondition_carries (cause : TripCause) (lr : LevelRecord) (s : State) (h : Outbound.Carries (.response ra rb rc rd) (Part.out.read s)) :
    Outbound.Carries (.response ra rb rc rd) (Part.out.read (State.tripCondition cause lr s)) := by
  unfold State.tripCondition
  try dsimp only
  repeat' first
    | with_reducible exact h
    | with_reducible assumption
    | with_reducible apply trip_carries
    | rw [updGuard_read (part := .out) (by decide)]
    | split

theorem anticipate_carries (s : State) (h : Outbound.Carries (.response ra rb rc rd) (Part.out.read s)) :
    Outbound.Carries (.response ra rb rc rd) (Part.out.read (State.anticipate s)) := by
  unfold State.anticipate
  try dsimp only
  repeat' first
    | with_reducible exact h
    | with_reducible assumption
    | with_reducible apply guardZero_carries
    | rw [updGuard_read (part := .out) (by decide)]
    | rw [send_read (part := .out) (by decide)]
    | rw [placeCommand_read (part := .out) (by decide)]
    | rw [tellGuard_read (part := .out) (by decide)]
    | split

theorem guardEvaluate_carries (lr : LevelRecord) (s : State) (h : Outbound.Carries (.response ra rb rc rd) (Part.out.read s)) :
    Outbound.Carries (.response ra rb rc rd) (Part.out.read (State.guardEvaluate lr s)) := by
  unfold State.guardEvaluate
  try dsimp only
  repeat' first
    | with_reducible exact h
    | with_reducible assumption
    | with_reducible apply trip_carries
    | with_reducible apply tripCondition_carries
    | with_reducible apply anticipate_carries
    | rw [updGuard_read (part := .out) (by decide)]
    | rw [send_read (part := .out) (by decide)]
    | rw [rearmGuard_read (part := .out) (by decide)]
    | split

theorem levelHoldEnds_carries (s : State) (h : Outbound.Carries (.response ra rb rc rd) (Part.out.read s)) :
    Outbound.Carries (.response ra rb rc rd) (Part.out.read (State.levelHoldEnds s)) := by
  unfold State.levelHoldEnds
  try dsimp only
  repeat' first
    | with_reducible exact h
    | with_reducible assumption
    | with_reducible apply tripCondition_carries
    | rw [updGuard_read (part := .out) (by decide)]

theorem armHold_carries (g : GuardSet) (since : Nat) (s : State) (h : Outbound.Carries (.response ra rb rc rd) (Part.out.read s)) :
    Outbound.Carries (.response ra rb rc rd) (Part.out.read (State.armHold g since s)) := by
  unfold State.armHold
  try dsimp only
  repeat' first
    | with_reducible exact h
    | with_reducible assumption
    | with_reducible apply levelHoldEnds_carries
    | rw [updGuard_read (part := .out) (by decide)]
    | split

theorem holdOnNotice_carries (lr : LevelRecord) (s : State) (h : Outbound.Carries (.response ra rb rc rd) (Part.out.read s)) :
    Outbound.Carries (.response ra rb rc rd) (Part.out.read (State.holdOnNotice lr s)) := by
  unfold State.holdOnNotice
  try dsimp only
  repeat' first
    | with_reducible exact h
    | with_reducible assumption
    | with_reducible apply armHold_carries
    | rw [updGuard_read (part := .out) (by decide)]
    | split

theorem floatActivates_carries (s : State) (h : Outbound.Carries (.response ra rb rc rd) (Part.out.read s)) :
    Outbound.Carries (.response ra rb rc rd) (Part.out.read (State.floatActivates s)) := by
  unfold State.floatActivates
  try dsimp only
  repeat' first
    | with_reducible exact h
    | with_reducible assumption
    | with_reducible apply fault_carries
    | with_reducible apply tripCondition_carries
    | rw [updGuard_read (part := .out) (by decide)]
    | split

theorem floatDebounced_carries (s : State) (h : Outbound.Carries (.response ra rb rc rd) (Part.out.read s)) :
    Outbound.Carries (.response ra rb rc rd) (Part.out.read (State.floatDebounced s)) := by
  unfold State.floatDebounced
  try dsimp only
  repeat' first
    | with_reducible exact h
    | with_reducible assumption
    | with_reducible apply floatActivates_carries
    | rw [updGuard_read (part := .out) (by decide)]
    | split

theorem guardResetRequest_carries (resv : Nat) (tag : Byte) (s : State) (h : Outbound.Carries (.response ra rb rc rd) (Part.out.read s)) :
    Outbound.Carries (.response ra rb rc rd) (Part.out.read (State.guardResetRequest resv tag s)) := by
  unfold State.guardResetRequest
  try dsimp only
  repeat' first
    | with_reducible exact h
    | with_reducible assumption
    | with_reducible apply respond_carries
    | rw [updGuard_read (part := .out) (by decide)]
    | rw [askTripWork_read (part := .out) (by decide)]
    | split

theorem completeReset_carries (s : State) (h : Outbound.Carries (.response ra rb rc rd) (Part.out.read s)) :
    Outbound.Carries (.response ra rb rc rd) (Part.out.read (State.completeReset s)) := by
  unfold State.completeReset
  try dsimp only
  repeat' first
    | with_reducible exact h
    | with_reducible assumption
    | with_reducible apply respond_carries
    | with_reducible apply trip_carries
    | with_reducible apply guardEvaluate_carries
    | rw [updGuard_read (part := .out) (by decide)]
    | rw [send_read (part := .out) (by decide)]
    | rw [tellGuard_read (part := .out) (by decide)]
    | split

theorem guardOnTripWork_carries (e : TripEntry) (slot : Option Nat) (s : State) (h : Outbound.Carries (.response ra rb rc rd) (Part.out.read s)) :
    Outbound.Carries (.response ra rb rc rd) (Part.out.read (State.guardOnTripWork e slot s)) := by
  unfold State.guardOnTripWork
  try dsimp only
  repeat' first
    | with_reducible exact h
    | with_reducible assumption
    | with_reducible apply trip_carries
    | with_reducible apply completeReset_carries
    | rw [updGuard_read (part := .out) (by decide)]
    | rw [send_read (part := .out) (by decide)]
    | rw [askTripWork_read (part := .out) (by decide)]
    | split

theorem guardOnLevel_carries (lr : LevelRecord) (s : State) (h : Outbound.Carries (.response ra rb rc rd) (Part.out.read s)) :
    Outbound.Carries (.response ra rb rc rd) (Part.out.read (State.guardOnLevel lr s)) := by
  unfold State.guardOnLevel
  try dsimp only
  repeat' first
    | with_reducible exact h
    | with_reducible assumption
    | with_reducible apply guardEvaluate_carries
    | with_reducible apply holdOnNotice_carries

theorem guardOnPipe_carries (flag : Bool) (s : State) (h : Outbound.Carries (.response ra rb rc rd) (Part.out.read s)) :
    Outbound.Carries (.response ra rb rc rd) (Part.out.read (State.guardOnPipe flag s)) := by
  unfold State.guardOnPipe
  try dsimp only
  repeat' first
    | with_reducible exact h
    | with_reducible assumption
    | with_reducible apply guardEvaluate_carries
    | rw [updGuard_read (part := .out) (by decide)]

theorem guardOnGuardSet_carries (old : Option GuardSet) (g : GuardSet) (s : State) (h : Outbound.Carries (.response ra rb rc rd) (Part.out.read s)) :
    Outbound.Carries (.response ra rb rc rd) (Part.out.read (State.guardOnGuardSet old g s)) := by
  unfold State.guardOnGuardSet
  try dsimp only
  repeat' first
    | with_reducible exact h
    | with_reducible assumption
    | with_reducible apply armHold_carries
    | split

theorem enterClosing_carries (s : State) (h : Outbound.Carries (.response ra rb rc rd) (Part.out.read s)) :
    Outbound.Carries (.response ra rb rc rd) (Part.out.read (State.enterClosing s)) := by
  unfold State.enterClosing
  try dsimp only
  repeat' first
    | with_reducible exact h
    | with_reducible assumption
    | with_reducible apply setDemand_carries
    | rw [updFill_read (part := .out) (by decide)]
    | rw [setFill_read (part := .out) (by decide)]

theorem enterHeld_carries (s : State) (h : Outbound.Carries (.response ra rb rc rd) (Part.out.read s)) :
    Outbound.Carries (.response ra rb rc rd) (Part.out.read (State.enterHeld s)) := by
  unfold State.enterHeld
  try dsimp only
  repeat' first
    | with_reducible exact h
    | with_reducible assumption
    | with_reducible apply setDemand_carries
    | rw [setFill_read (part := .out) (by decide)]

theorem fillingDemand_carries (s : State) (h : Outbound.Carries (.response ra rb rc rd) (Part.out.read s)) :
    Outbound.Carries (.response ra rb rc rd) (Part.out.read (State.fillingDemand s)) := by
  unfold State.fillingDemand
  try dsimp only
  repeat' first
    | with_reducible exact h
    | with_reducible assumption
    | with_reducible apply setDemand_carries

theorem actOnPlan_carries (fs : FillSet) (forced : Bool) (s : State) (h : Outbound.Carries (.response ra rb rc rd) (Part.out.read s)) :
    Outbound.Carries (.response ra rb rc rd) (Part.out.read (State.actOnPlan fs forced s)) := by
  unfold State.actOnPlan
  try dsimp only
  repeat' first
    | with_reducible exact h
    | with_reducible assumption
    | with_reducible apply fillingDemand_carries
    | rw [placeOpen_read (part := .out) (by decide)]
    | rw [windowDecision_read (part := .out) (by decide)]
    | rw [topUp_read (part := .out) (by decide)]
    | split

theorem evaluatePlan_carries (forced : Bool) (s : State) (h : Outbound.Carries (.response ra rb rc rd) (Part.out.read s)) :
    Outbound.Carries (.response ra rb rc rd) (Part.out.read (State.evaluatePlan forced s)) := by
  unfold State.evaluatePlan
  try dsimp only
  repeat' first
    | with_reducible exact h
    | with_reducible assumption
    | with_reducible apply fault_carries
    | with_reducible apply actOnPlan_carries
    | rw [updFill_read (part := .out) (by decide)]
    | split
    | fail_if_no_progress rw [setDraws_read (part := .out) (by decide)]

theorem endWindow_carries (force : Bool) (s : State) (h : Outbound.Carries (.response ra rb rc rd) (Part.out.read s)) :
    Outbound.Carries (.response ra rb rc rd) (Part.out.read (State.endWindow force s)) := by
  unfold State.endWindow
  try dsimp only
  repeat' first
    | with_reducible exact h
    | with_reducible assumption
    | with_reducible apply enterClosing_carries
    | with_reducible apply fillingDemand_carries
    | rw [updFill_read (part := .out) (by decide)]
    | rw [setFill_read (part := .out) (by decide)]
    | rw [takeTopUp_read (part := .out) (by decide)]
    | split

theorem enterWindow_carries (s : State) (h : Outbound.Carries (.response ra rb rc rd) (Part.out.read s)) :
    Outbound.Carries (.response ra rb rc rd) (Part.out.read (State.enterWindow s)) := by
  unfold State.enterWindow
  try dsimp only
  repeat' first
    | with_reducible exact h
    | with_reducible assumption
    | with_reducible apply evaluatePlan_carries
    | rw [updFill_read (part := .out) (by decide)]

theorem recomputeTariff_carries (s : State) (h : Outbound.Carries (.response ra rb rc rd) (Part.out.read s)) :
    Outbound.Carries (.response ra rb rc rd) (Part.out.read (State.recomputeTariff s)) := by
  unfold State.recomputeTariff
  try dsimp only
  repeat' first
    | with_reducible exact h
    | with_reducible assumption
    | with_reducible apply endWindow_carries
    | with_reducible apply enterWindow_carries
    | rw [updFill_read (part := .out) (by decide)]
    | rw [broadcast_read (part := .out) (by decide)]
    | split

theorem fillEvent_carries (f : State → State) (s : State)
    (h : Outbound.Carries (.response ra rb rc rd) (Part.out.read (f s))) :
    Outbound.Carries (.response ra rb rc rd) (Part.out.read (State.fillEvent f s)) := by
  unfold State.fillEvent
  rw [passFill_read (part := .out) (by decide), closeSequence_read (part := .out) (by decide)]
  exact h

theorem changeInhibit_carries (add : List Reason) (remove : List Reason) (s : State) (h : Outbound.Carries (.response ra rb rc rd) (Part.out.read s)) :
    Outbound.Carries (.response ra rb rc rd) (Part.out.read (State.changeInhibit add remove s)) := by
  unfold State.changeInhibit
  try dsimp only
  repeat' first
    | with_reducible exact h
    | with_reducible assumption
    | with_reducible apply enterHeld_carries
    | with_reducible apply evaluatePlan_carries
    | rw [updFill_read (part := .out) (by decide)]
    | rw [setFill_read (part := .out) (by decide)]
    | split

theorem fillOnLevelState_carries (fs : FillSet) (lr : LevelRecord) (s : State) (h : Outbound.Carries (.response ra rb rc rd) (Part.out.read s)) :
    Outbound.Carries (.response ra rb rc rd) (Part.out.read (State.fillOnLevelState fs lr s)) := by
  unfold State.fillOnLevelState
  try dsimp only
  repeat' first
    | with_reducible exact h
    | with_reducible assumption
    | with_reducible apply enterClosing_carries
    | rw [windowDecision_read (part := .out) (by decide)]
    | rw [topUp_read (part := .out) (by decide)]
    | split

theorem turnoverBecomesDone_carries (s : State) (h : Outbound.Carries (.response ra rb rc rd) (Part.out.read s)) :
    Outbound.Carries (.response ra rb rc rd) (Part.out.read (State.turnoverBecomesDone s)) := by
  unfold State.turnoverBecomesDone
  try dsimp only
  repeat' first
    | with_reducible exact h
    | with_reducible assumption
    | with_reducible apply evaluatePlan_carries
    | rw [updFill_read (part := .out) (by decide)]
    | rw [windowDecision_read (part := .out) (by decide)]
    | split

theorem fillOnLevel_carries (lr : LevelRecord) (s : State) (h : Outbound.Carries (.response ra rb rc rd) (Part.out.read s)) :
    Outbound.Carries (.response ra rb rc rd) (Part.out.read (State.fillOnLevel lr s)) := by
  unfold State.fillOnLevel
  try dsimp only
  repeat' first
    | with_reducible exact h
    | with_reducible assumption
    | with_reducible apply fillOnLevelState_carries
    | with_reducible apply turnoverBecomesDone_carries
    | split

theorem closeConfirmed_carries (s : State) (h : Outbound.Carries (.response ra rb rc rd) (Part.out.read s)) :
    Outbound.Carries (.response ra rb rc rd) (Part.out.read (State.closeConfirmed s)) := by
  unfold State.closeConfirmed
  try dsimp only
  repeat' first
    | with_reducible exact h
    | with_reducible assumption
    | with_reducible apply evaluatePlan_carries
    | rw [updFill_read (part := .out) (by decide)]
    | rw [setFill_read (part := .out) (by decide)]
    | split

theorem fillOnCommand_carries (target : Nat) (o : CommandOutcome) (s : State) (h : Outbound.Carries (.response ra rb rc rd) (Part.out.read s)) :
    Outbound.Carries (.response ra rb rc rd) (Part.out.read (State.fillOnCommand target o s)) := by
  unfold State.fillOnCommand
  try dsimp only
  repeat' first
    | with_reducible exact h
    | with_reducible assumption
    | with_reducible apply fillingDemand_carries
    | with_reducible apply changeInhibit_carries
    | with_reducible apply closeConfirmed_carries
    | rw [updFill_read (part := .out) (by decide)]
    | rw [setFill_read (part := .out) (by decide)]
    | split

theorem replaceOrder_carries (order : FillOrder) (s : State) (h : Outbound.Carries (.response ra rb rc rd) (Part.out.read s)) :
    Outbound.Carries (.response ra rb rc rd) (Part.out.read (State.replaceOrder order s)) := by
  unfold State.replaceOrder
  try dsimp only
  repeat' first
    | with_reducible exact h
    | with_reducible assumption
    | with_reducible apply endWindow_carries
    | rw [updFill_read (part := .out) (by decide)]
    | split

theorem orderAuto_carries (s : State) (h : Outbound.Carries (.response ra rb rc rd) (Part.out.read s)) :
    Outbound.Carries (.response ra rb rc rd) (Part.out.read (State.orderAuto s)) := by
  unfold State.orderAuto
  try dsimp only
  repeat' first
    | with_reducible exact h
    | with_reducible assumption
    | with_reducible apply changeInhibit_carries
    | with_reducible apply replaceOrder_carries

theorem orderHold_carries (s : State) (h : Outbound.Carries (.response ra rb rc rd) (Part.out.read s)) :
    Outbound.Carries (.response ra rb rc rd) (Part.out.read (State.orderHold s)) := by
  unfold State.orderHold
  try dsimp only
  repeat' first
    | with_reducible exact h
    | with_reducible assumption
    | with_reducible apply changeInhibit_carries
    | with_reducible apply replaceOrder_carries

theorem orderForce_carries (s : State) (h : Outbound.Carries (.response ra rb rc rd) (Part.out.read s)) :
    Outbound.Carries (.response ra rb rc rd) (Part.out.read (State.orderForce s)) := by
  unfold State.orderForce
  try dsimp only
  repeat' first
    | with_reducible exact h
    | with_reducible assumption
    | with_reducible apply evaluatePlan_carries
    | with_reducible apply orderHold_carries
    | rw [updFill_read (part := .out) (by decide)]
    | rw [setFill_read (part := .out) (by decide)]
    | split

theorem orderLapses_carries (s : State) (h : Outbound.Carries (.response ra rb rc rd) (Part.out.read s)) :
    Outbound.Carries (.response ra rb rc rd) (Part.out.read (State.orderLapses s)) := by
  unfold State.orderLapses
  try dsimp only
  repeat' first
    | with_reducible exact h
    | with_reducible assumption
    | with_reducible apply changeInhibit_carries
    | with_reducible apply replaceOrder_carries
    | with_reducible apply orderHold_carries
    | split

theorem takeStatus_carries (c : StationCopy) (s : State) (h : Outbound.Carries (.response ra rb rc rd) (Part.out.read s)) :
    Outbound.Carries (.response ra rb rc rd) (Part.out.read (State.takeStatus c s)) := by
  unfold State.takeStatus
  try dsimp only
  repeat' first
    | with_reducible exact h
    | with_reducible assumption
    | with_reducible apply evaluatePlan_carries
    | with_reducible apply changeInhibit_carries
    | rw [updFill_read (part := .out) (by decide)]
    | rw [send_read (part := .out) (by decide)]
    | rw [riseOnStatus_read (part := .out) (by decide)]
    | split

theorem judgeRise_carries (check : RiseCheck) (s : State) (h : Outbound.Carries (.response ra rb rc rd) (Part.out.read s)) :
    Outbound.Carries (.response ra rb rc rd) (Part.out.read (State.judgeRise check s)) := by
  unfold State.judgeRise
  try dsimp only
  repeat' first
    | with_reducible exact h
    | with_reducible assumption
    | with_reducible apply fault_carries
    | rw [updFill_read (part := .out) (by decide)]
    | split

theorem newMinute_carries (s : State) (h : Outbound.Carries (.response ra rb rc rd) (Part.out.read s)) :
    Outbound.Carries (.response ra rb rc rd) (Part.out.read (State.newMinute s)) := by
  unfold State.newMinute
  try dsimp only
  repeat' first
    | with_reducible exact h
    | with_reducible assumption
    | with_reducible apply recomputeTariff_carries
    | rw [updFill_read (part := .out) (by decide)]

theorem swapFillSet_carries (t : FillSet) (s : State) (h : Outbound.Carries (.response ra rb rc rd) (Part.out.read s)) :
    Outbound.Carries (.response ra rb rc rd) (Part.out.read (State.swapFillSet t s)) := by
  unfold State.swapFillSet
  try dsimp only
  repeat' first
    | with_reducible exact h
    | with_reducible assumption
    | with_reducible apply evaluatePlan_carries
    | rw [updTables_read (part := .out) (by decide)]

theorem swapTariff_carries (t : List TariffWindow) (s : State) (h : Outbound.Carries (.response ra rb rc rd) (Part.out.read s)) :
    Outbound.Carries (.response ra rb rc rd) (Part.out.read (State.swapTariff t s)) := by
  unfold State.swapTariff
  try dsimp only
  repeat' first
    | with_reducible exact h
    | with_reducible assumption
    | with_reducible apply evaluatePlan_carries
    | with_reducible apply recomputeTariff_carries
    | rw [updTables_read (part := .out) (by decide)]

theorem swapProfile_carries (t : List ProfileRecord) (s : State) (h : Outbound.Carries (.response ra rb rc rd) (Part.out.read s)) :
    Outbound.Carries (.response ra rb rc rd) (Part.out.read (State.swapProfile t s)) := by
  unfold State.swapProfile
  try dsimp only
  repeat' first
    | with_reducible exact h
    | with_reducible assumption
    | with_reducible apply evaluatePlan_carries
    | rw [updTables_read (part := .out) (by decide)]

theorem judgeZone_carries (i : Nat) (r : ZoneRecord) (s : State) (h : Outbound.Carries (.response ra rb rc rd) (Part.out.read s)) :
    Outbound.Carries (.response ra rb rc rd) (Part.out.read (State.judgeZone i r s)) := by
  unfold State.judgeZone
  try dsimp only
  repeat' first
    | with_reducible exact h
    | with_reducible assumption
    | with_reducible apply fault_carries
    | rw [updZone_read (part := .out) (by decide)]
    | split

theorem judgeListed_carries (ps : List Nat) (s : State)
    (h : Outbound.Carries (.response ra rb rc rd) (Part.out.read s)) :
    Outbound.Carries (.response ra rb rc rd) (Part.out.read (State.judgeListed ps s)) := by
  unfold State.judgeListed
  refine overZones_carries _ (fun i r s h => ?_) _ _ _ h
  split
  · exact judgeZone_carries i r s h
  · exact h

theorem frostOnPoints_carries (ps : List Nat) (s : State) (h : Outbound.Carries (.response ra rb rc rd) (Part.out.read s)) :
    Outbound.Carries (.response ra rb rc rd) (Part.out.read (State.frostOnPoints ps s)) := by
  unfold State.frostOnPoints
  try dsimp only
  repeat' first
    | with_reducible exact h
    | with_reducible assumption
    | with_reducible apply judgeListed_carries
    | rw [frostSettle_read (part := .out) (by decide)]
    | rw [learnListed_read (part := .out) (by decide)]
    | split

theorem deferralEnds_carries (zone : Nat) (s : State) (h : Outbound.Carries (.response ra rb rc rd) (Part.out.read s)) :
    Outbound.Carries (.response ra rb rc rd) (Part.out.read (State.deferralEnds zone s)) := by
  unfold State.deferralEnds
  try dsimp only
  repeat' first
    | with_reducible exact h
    | with_reducible assumption
    | with_reducible apply fault_carries
    | rw [updZone_read (part := .out) (by decide)]

theorem swapZones_carries (t : List ZoneRecord) (s : State)
    (h : Outbound.Carries (.response ra rb rc rd) (Part.out.read s)) :
    Outbound.Carries (.response ra rb rc rd) (Part.out.read (State.swapZones t s)) := by
  unfold State.swapZones
  dsimp only
  rw [frostSettle_read (part := .out) (by decide)]
  exact overZones_carries _ (fun i r s h => judgeZone_carries i r s h) _ _ _ h

theorem queueLevel_carries (s : State) (h : Outbound.Carries (.response ra rb rc rd) (Part.out.read s)) :
    Outbound.Carries (.response ra rb rc rd) (Part.out.read (State.queueLevel s)) := by
  unfold State.queueLevel
  try dsimp only
  repeat' first
    | with_reducible exact h
    | with_reducible assumption
    | with_reducible apply offer_carries
    | rw [updTelemetry_read (part := .out) (by decide)]

theorem aimPeriod_carries (s : State) (h : Outbound.Carries (.response ra rb rc rd) (Part.out.read s)) :
    Outbound.Carries (.response ra rb rc rd) (Part.out.read (State.aimPeriod s)) := by
  unfold State.aimPeriod
  try dsimp only
  repeat' first
    | with_reducible exact h
    | with_reducible assumption
    | with_reducible apply queueLevel_carries
    | rw [updTelemetry_read (part := .out) (by decide)]
    | split

theorem periodChanged_carries (before : State) (s : State) (h : Outbound.Carries (.response ra rb rc rd) (Part.out.read s)) :
    Outbound.Carries (.response ra rb rc rd) (Part.out.read (State.periodChanged before s)) := by
  unfold State.periodChanged
  try dsimp only
  repeat' first
    | with_reducible exact h
    | with_reducible assumption
    | with_reducible apply aimPeriod_carries
    | split

theorem telemetryOnLevel_carries (lr : LevelRecord) (qualityChanged : Bool) (s : State) (h : Outbound.Carries (.response ra rb rc rd) (Part.out.read s)) :
    Outbound.Carries (.response ra rb rc rd) (Part.out.read (State.telemetryOnLevel lr qualityChanged s)) := by
  unfold State.telemetryOnLevel
  try dsimp only
  repeat' first
    | with_reducible exact h
    | with_reducible assumption
    | with_reducible apply queueLevel_carries
    | rw [updTelemetry_read (part := .out) (by decide)]
    | split

theorem queueState_carries (s : State) (h : Outbound.Carries (.response ra rb rc rd) (Part.out.read s)) :
    Outbound.Carries (.response ra rb rc rd) (Part.out.read (State.queueState s)) := by
  unfold State.queueState
  try dsimp only
  repeat' first
    | with_reducible exact h
    | with_reducible assumption
    | with_reducible apply offer_carries

theorem passContents_carries (f : StateContents → StateContents) (s : State) (h : Outbound.Carries (.response ra rb rc rd) (Part.out.read s)) :
    Outbound.Carries (.response ra rb rc rd) (Part.out.read (State.passContents f s)) := by
  unfold State.passContents
  try dsimp only
  repeat' first
    | with_reducible exact h
    | with_reducible assumption
    | with_reducible apply periodChanged_carries
    | with_reducible apply queueState_carries
    | rw [updTelemetry_read (part := .out) (by decide)]
    | split

theorem telemetryOnSupply_carries (mode : SupplyMode) (s : State) (h : Outbound.Carries (.response ra rb rc rd) (Part.out.read s)) :
    Outbound.Carries (.response ra rb rc rd) (Part.out.read (State.telemetryOnSupply mode s)) := by
  unfold State.telemetryOnSupply
  try dsimp only
  repeat' first
    | with_reducible exact h
    | with_reducible assumption
    | with_reducible apply aimPeriod_carries
    | with_reducible apply queueState_carries
    | rw [updTelemetry_read (part := .out) (by decide)]
    | split

theorem telemetryOnFill_carries (state : FillState) (purpose : Option Purpose) (order : FillOrder) (inhibit : List Reason) (demand : Nat) (s : State) (h : Outbound.Carries (.response ra rb rc rd) (Part.out.read s)) :
    Outbound.Carries (.response ra rb rc rd) (Part.out.read (State.telemetryOnFill state purpose order inhibit demand s)) := by
  unfold State.telemetryOnFill
  try dsimp only
  repeat' first
    | with_reducible exact h
    | with_reducible assumption
    | with_reducible apply passContents_carries
    | rw [updTelemetry_read (part := .out) (by decide)]

theorem telemetryOnSite_carries (before : State) (s : State) (h : Outbound.Carries (.response ra rb rc rd) (Part.out.read s)) :
    Outbound.Carries (.response ra rb rc rd) (Part.out.read (State.telemetryOnSite before s)) := by
  unfold State.telemetryOnSite
  try dsimp only
  repeat' first
    | with_reducible exact h
    | with_reducible assumption
    | with_reducible apply periodChanged_carries

theorem tripNumbered_carries (slot : Nat) (s : State) (h : Outbound.Carries (.response ra rb rc rd) (Part.out.read s)) :
    Outbound.Carries (.response ra rb rc rd) (Part.out.read (State.tripNumbered slot s)) := by
  unfold State.tripNumbered
  try dsimp only
  repeat' first
    | with_reducible exact h
    | with_reducible assumption
    | with_reducible apply offer_carries
    | with_reducible apply trip_carries
    | rw [updTelemetry_read (part := .out) (by decide)]
    | split

theorem startTransmission_carries (s : State)
    (h : Outbound.Carries (.response ra rb rc rd) (Part.out.read s)) :
    Outbound.Carries (.response ra rb rc rd) (Part.out.read (State.startTransmission s)) := by
  unfold State.startTransmission
  split
  · exact h
  · split
    · exact h
    · rename_i hs _ p rest he
      rcases h with h | ⟨x, h, _⟩
      · rcases mem_takeReady _ _ _ he _ h with h | h
        · exact .inr ⟨_, rfl, h.symm⟩
        · exact .inl h
      · have h' : s.out.sending = some x := h
        rw [h'] at hs; simp at hs

theorem respondAll_carries (rs : List Nat) (payload : List Byte) (s : State)
    (h : Outbound.Carries (.response ra rb rc rd) (Part.out.read s)) :
    Outbound.Carries (.response ra rb rc rd) (Part.out.read (State.respondAll rs payload s)) := by
  unfold State.respondAll
  induction rs generalizing s with
  | nil => exact h
  | cons r rs ih => exact ih _ (respond_carries r payload s h)

theorem dropLoad_carries (load : Nat) (header : Status) (s : State)
    (h : Outbound.Carries (.response ra rb rc rd) (Part.out.read s)) :
    Outbound.Carries (.response ra rb rc rd) (Part.out.read (State.dropLoad load header s)) := by
  unfold State.dropLoad
  exact foldl_carries _ (fun s w h => respondAll_carries _ _ s h) _ _ h

theorem endOpenLoad_carries (s : State) (h : Outbound.Carries (.response ra rb rc rd) (Part.out.read s)) :
    Outbound.Carries (.response ra rb rc rd) (Part.out.read (State.endOpenLoad s)) := by
  unfold State.endOpenLoad
  try dsimp only
  repeat' first
    | with_reducible exact h
    | with_reducible assumption
    | with_reducible apply dropLoad_carries
    | split

theorem openTable_carries (resv : Nat) (kind : Nat) (s : State) (h : Outbound.Carries (.response ra rb rc rd) (Part.out.read s)) :
    Outbound.Carries (.response ra rb rc rd) (Part.out.read (State.openTable resv kind s)) := by
  unfold State.openTable
  try dsimp only
  repeat' first
    | with_reducible exact h
    | with_reducible assumption
    | with_reducible apply respond_carries
    | rw [updEngine_read (part := .out) (by decide)]
    | rw [addWork_read (part := .out) (by decide)]
    | split

theorem writeTable_carries (resv : Nat) (kind : Nat) (index : Nat) (record : List Byte) (s : State) (h : Outbound.Carries (.response ra rb rc rd) (Part.out.read s)) :
    Outbound.Carries (.response ra rb rc rd) (Part.out.read (State.writeTable resv kind index record s)) := by
  unfold State.writeTable
  try dsimp only
  repeat' first
    | with_reducible exact h
    | with_reducible assumption
    | with_reducible apply respond_carries
    | with_reducible apply endOpenLoad_carries
    | rw [updEngine_read (part := .out) (by decide)]
    | rw [addWork_read (part := .out) (by decide)]
    | rw [joinRecord_read (part := .out) (by decide)]
    | split

theorem closeTable_carries (resv : Nat) (kind : Nat) (count : Nat) (check : Check) (s : State) (h : Outbound.Carries (.response ra rb rc rd) (Part.out.read s)) :
    Outbound.Carries (.response ra rb rc rd) (Part.out.read (State.closeTable resv kind count check s)) := by
  unfold State.closeTable
  try dsimp only
  repeat' first
    | with_reducible exact h
    | with_reducible assumption
    | with_reducible apply respond_carries
    | with_reducible apply fault_carries
    | with_reducible apply endOpenLoad_carries
    | rw [addWork_read (part := .out) (by decide)]
    | rw [closeLoad_read (part := .out) (by decide)]
    | split

theorem abandonTable_carries (resv : Nat) (kind : Nat) (s : State) (h : Outbound.Carries (.response ra rb rc rd) (Part.out.read s)) :
    Outbound.Carries (.response ra rb rc rd) (Part.out.read (State.abandonTable resv kind s)) := by
  unfold State.abandonTable
  try dsimp only
  repeat' first
    | with_reducible exact h
    | with_reducible assumption
    | with_reducible apply respond_carries
    | with_reducible apply endOpenLoad_carries
    | split

theorem eraseEnds_carries (w : TableWork) (resv : Nat) (ended : Bool) (ok : Bool) (s : State) (h : Outbound.Carries (.response ra rb rc rd) (Part.out.read s)) :
    Outbound.Carries (.response ra rb rc rd) (Part.out.read (State.eraseEnds w resv ended ok s)) := by
  unfold State.eraseEnds
  try dsimp only
  repeat' first
    | with_reducible exact h
    | with_reducible assumption
    | with_reducible apply respond_carries
    | with_reducible apply fault_carries
    | with_reducible apply dropLoad_carries
    | rw [updEngine_read (part := .out) (by decide)]
    | split

theorem recordEnds_carries (w : TableWork) (bytes : List Byte) (resvs : List Nat) (ended : Bool) (ok : Bool) (s : State) (h : Outbound.Carries (.response ra rb rc rd) (Part.out.read s)) :
    Outbound.Carries (.response ra rb rc rd) (Part.out.read (State.recordEnds w bytes resvs ended ok s)) := by
  unfold State.recordEnds
  try dsimp only
  repeat' first
    | with_reducible exact h
    | with_reducible assumption
    | with_reducible apply fault_carries
    | with_reducible apply respondAll_carries
    | with_reducible apply dropLoad_carries
    | rw [updCopy_read (part := .out) (by decide)]
    | split

theorem tripProgramEnds_carries (slot : Nat) (entry : TripEntry) (ok : Bool) (s : State) (h : Outbound.Carries (.response ra rb rc rd) (Part.out.read s)) :
    Outbound.Carries (.response ra rb rc rd) (Part.out.read (State.tripProgramEnds slot entry ok s)) := by
  unfold State.tripProgramEnds
  try dsimp only
  repeat' first
    | with_reducible exact h
    | with_reducible assumption
    | with_reducible apply fault_carries
    | rw [updNv_read (part := .out) (by decide)]
    | rw [send_read (part := .out) (by decide)]
    | rw [engineFree_read (part := .out) (by decide)]
    | rw [preEraseAfter_read (part := .out) (by decide)]
    | split

theorem preEraseEnds_carries (sector : Nat) (ok : Bool) (s : State) (h : Outbound.Carries (.response ra rb rc rd) (Part.out.read s)) :
    Outbound.Carries (.response ra rb rc rd) (Part.out.read (State.preEraseEnds sector ok s)) := by
  unfold State.preEraseEnds
  try dsimp only
  repeat' first
    | with_reducible exact h
    | with_reducible assumption
    | with_reducible apply fault_carries
    | rw [updNv_read (part := .out) (by decide)]
    | rw [beginPreErase_read (part := .out) (by decide)]
    | rw [engineFree_read (part := .out) (by decide)]
    | split

theorem leavePass_carries (payload : List Byte) (s : State) (h : Outbound.Carries (.response ra rb rc rd) (Part.out.read s)) :
    Outbound.Carries (.response ra rb rc rd) (Part.out.read (State.leavePass payload s)) := by
  unfold State.leavePass
  try dsimp only
  repeat' first
    | with_reducible exact h
    | with_reducible assumption
    | with_reducible apply respond_carries
    | rw [updLine_read (part := .out) (by decide)]
    | split

theorem tryPass_carries (left fuel : Nat) (s : State)
    (h : Outbound.Carries (.response ra rb rc rd) (Part.out.read s)) :
    Outbound.Carries (.response ra rb rc rd) (Part.out.read (State.tryPass left fuel s).1) := by
  induction fuel generalizing s with
  | zero => exact h
  | succ fuel ih =>
    have hl : ∀ p, Outbound.Carries (.response ra rb rc rd) (Part.out.read ((State.leavePass p s).tryPass left fuel).1) :=
      fun p => ih _ (leavePass_carries p s h)
    simp only [State.tryPass]
    repeat' first
      | with_reducible exact h
      | with_reducible apply hl
      | rw [updHead_read (part := .out) (by decide)]
      | rw [startTransaction_read (part := .out) (by decide)]
      | split

theorem pickWork_carries (left : Nat) (s : State) (h : Outbound.Carries (.response ra rb rc rd) (Part.out.read s)) :
    Outbound.Carries (.response ra rb rc rd) (Part.out.read (State.pickWork left s)) := by
  unfold State.pickWork
  try dsimp only
  repeat' first
    | with_reducible exact h
    | with_reducible assumption
    | with_reducible apply tryPass_carries
    | rw [tryChannels_read (part := .out) (by decide)]
    | rw [tryCommands_read (part := .out) (by decide)]
    | split

theorem linePick_carries (s : State) (h : Outbound.Carries (.response ra rb rc rd) (Part.out.read s)) :
    Outbound.Carries (.response ra rb rc rd) (Part.out.read (State.linePick s)) := by
  unfold State.linePick
  try dsimp only
  repeat' first
    | with_reducible exact h
    | with_reducible assumption
    | with_reducible apply pickWork_carries
    | rw [updLine_read (part := .out) (by decide)]
    | rw [startTransaction_read (part := .out) (by decide)]
    | split

theorem slotRunsOut_carries (x : RepeaterSlot) (s : State) (h : Outbound.Carries (.response ra rb rc rd) (Part.out.read s)) :
    Outbound.Carries (.response ra rb rc rd) (Part.out.read (State.slotRunsOut x s)) := by
  unfold State.slotRunsOut
  try dsimp only
  repeat' first
    | with_reducible exact h
    | with_reducible assumption
    | with_reducible apply leavePass_carries
    | rw [updChannel_read (part := .out) (by decide)]
    | split

theorem startCycle_carries (s : State)
    (h : Outbound.Carries (.response ra rb rc rd) (Part.out.read s)) :
    Outbound.Carries (.response ra rb rc rd) (Part.out.read (State.startCycle s)) := by
  unfold State.startCycle
  exact foldl_carries _ (fun s x h => slotRunsOut_carries x s h) _ _ h

theorem cycleComesDue_carries (s : State) (h : Outbound.Carries (.response ra rb rc rd) (Part.out.read s)) :
    Outbound.Carries (.response ra rb rc rd) (Part.out.read (State.cycleComesDue s)) := by
  unfold State.cycleComesDue
  try dsimp only
  repeat' first
    | with_reducible exact h
    | with_reducible assumption
    | with_reducible apply startCycle_carries
    | rw [updLine_read (part := .out) (by decide)]
    | split

theorem lineSettle_carries (s : State) (h : Outbound.Carries (.response ra rb rc rd) (Part.out.read s)) :
    Outbound.Carries (.response ra rb rc rd) (Part.out.read (State.lineSettle s)) := by
  unfold State.lineSettle
  try dsimp only
  repeat' first
    | with_reducible exact h
    | with_reducible assumption
    | with_reducible apply linePick_carries
    | with_reducible apply startCycle_carries
    | split

theorem channelFails_carries (i : Nat) (c : ChannelRecord) (condition : ChannelCondition) (s : State) (h : Outbound.Carries (.response ra rb rc rd) (Part.out.read s)) :
    Outbound.Carries (.response ra rb rc rd) (Part.out.read (State.channelFails i c condition s)) := by
  unfold State.channelFails
  try dsimp only
  repeat' first
    | with_reducible exact h
    | with_reducible assumption
    | with_reducible apply fault_carries
    | rw [haltPoints_read (part := .out) (by decide)]
    | rw [updChannel_read (part := .out) (by decide)]
    | split

theorem channelAnswer_carries (i : Nat) (c : ChannelRecord) (o : FieldOutcome) (s : State) (h : Outbound.Carries (.response ra rb rc rd) (Part.out.read s)) :
    Outbound.Carries (.response ra rb rc rd) (Part.out.read (State.channelAnswer i c o s)) := by
  unfold State.channelAnswer
  try dsimp only
  repeat' first
    | with_reducible exact h
    | with_reducible assumption
    | with_reducible apply fault_carries
    | with_reducible apply channelFails_carries
    | rw [extract_read (part := .out) (by decide)]
    | rw [updChannel_read (part := .out) (by decide)]
    | split

theorem channelHandOff_carries (i : Nat) (c : ChannelRecord) (o : FieldOutcome) (s : State) (h : Outbound.Carries (.response ra rb rc rd) (Part.out.read s)) :
    Outbound.Carries (.response ra rb rc rd) (Part.out.read (State.channelHandOff i c o s)) := by
  unfold State.channelHandOff
  try dsimp only
  repeat' first
    | with_reducible exact h
    | with_reducible assumption
    | with_reducible apply channelAnswer_carries
    | rw [updChannel_read (part := .out) (by decide)]
    | rw [takeSlot_read (part := .out) (by decide)]
    | split

theorem channelCollect_carries (i : Nat) (c : ChannelRecord) (inner : Nat) (r : DeviceRequest) (o : FieldOutcome) (s : State) (h : Outbound.Carries (.response ra rb rc rd) (Part.out.read s)) :
    Outbound.Carries (.response ra rb rc rd) (Part.out.read (State.channelCollect i c inner r o s)) := by
  unfold State.channelCollect
  try dsimp only
  repeat' first
    | with_reducible exact h
    | with_reducible assumption
    | with_reducible apply channelFails_carries
    | with_reducible apply channelAnswer_carries
    | rw [updChannel_read (part := .out) (by decide)]
    | rw [releaseSlot_read (part := .out) (by decide)]
    | split

theorem channelOutcome_carries (i : Nat) (t : Transaction) (o : FieldOutcome) (s : State) (h : Outbound.Carries (.response ra rb rc rd) (Part.out.read s)) :
    Outbound.Carries (.response ra rb rc rd) (Part.out.read (State.channelOutcome i t o s)) := by
  unfold State.channelOutcome
  try dsimp only
  repeat' first
    | with_reducible exact h
    | with_reducible assumption
    | with_reducible apply channelAnswer_carries
    | with_reducible apply channelHandOff_carries
    | with_reducible apply channelCollect_carries
    | with_reducible apply request_carries
    | rw [supersededOutcome_read (part := .out) (by decide)]
    | split

theorem commandFails_carries (e : CommandEntry) (s : State) (h : Outbound.Carries (.response ra rb rc rd) (Part.out.read s)) :
    Outbound.Carries (.response ra rb rc rd) (Part.out.read (State.commandFails e s)) := by
  unfold State.commandFails
  try dsimp only
  repeat' first
    | with_reducible exact h
    | with_reducible assumption
    | with_reducible apply fault_carries
    | rw [removeCommand_read (part := .out) (by decide)]
    | rw [updCommand_read (part := .out) (by decide)]
    | rw [tellOrigin_read (part := .out) (by decide)]
    | split

theorem commandOutcome_carries (address : Nat) (item : Nat) (t : Transaction) (o : FieldOutcome) (s : State) (h : Outbound.Carries (.response ra rb rc rd) (Part.out.read s)) :
    Outbound.Carries (.response ra rb rc rd) (Part.out.read (State.commandOutcome address item t o s)) := by
  unfold State.commandOutcome
  try dsimp only
  repeat' first
    | with_reducible exact h
    | with_reducible assumption
    | with_reducible apply commandFails_carries
    | rw [updCommand_read (part := .out) (by decide)]
    | split

theorem deadlinePasses_carries (address : Nat) (item : Nat) (s : State) (h : Outbound.Carries (.response ra rb rc rd) (Part.out.read s)) :
    Outbound.Carries (.response ra rb rc rd) (Part.out.read (State.deadlinePasses address item s)) := by
  unfold State.deadlinePasses
  try dsimp only
  repeat' first
    | with_reducible exact h
    | with_reducible assumption
    | with_reducible apply commandFails_carries
    | split

theorem passEnds_carries (device : Nat) (o : FieldOutcome) (s : State) (h : Outbound.Carries (.response ra rb rc rd) (Part.out.read s)) :
    Outbound.Carries (.response ra rb rc rd) (Part.out.read (State.passEnds device o s)) := by
  unfold State.passEnds
  try dsimp only
  repeat' first
    | with_reducible exact h
    | with_reducible assumption
    | with_reducible apply leavePass_carries
    | rw [extract_read (part := .out) (by decide)]
    | split

theorem passOutcome_carries (t : Transaction) (o : FieldOutcome) (s : State) (h : Outbound.Carries (.response ra rb rc rd) (Part.out.read s)) :
    Outbound.Carries (.response ra rb rc rd) (Part.out.read (State.passOutcome t o s)) := by
  unfold State.passOutcome
  try dsimp only
  repeat' first
    | with_reducible exact h
    | with_reducible assumption
    | with_reducible apply leavePass_carries
    | with_reducible apply passEnds_carries
    | with_reducible apply request_carries
    | rw [updHead_read (part := .out) (by decide)]
    | rw [takeSlot_read (part := .out) (by decide)]
    | rw [releaseSlot_read (part := .out) (by decide)]
    | split

theorem transactionEnds_carries (t : Transaction) (o : FieldOutcome) (s : State) (h : Outbound.Carries (.response ra rb rc rd) (Part.out.read s)) :
    Outbound.Carries (.response ra rb rc rd) (Part.out.read (State.transactionEnds t o s)) := by
  unfold State.transactionEnds
  try dsimp only
  repeat' first
    | with_reducible exact h
    | with_reducible assumption
    | with_reducible apply fault_carries
    | with_reducible apply channelOutcome_carries
    | with_reducible apply commandOutcome_carries
    | with_reducible apply passOutcome_carries
    | rw [updLine_read (part := .out) (by decide)]
    | rw [urgentEnds_read (part := .out) (by decide)]
    | split

theorem startChannel_carries (resv : Nat) (index : Nat) (s : State) (h : Outbound.Carries (.response ra rb rc rd) (Part.out.read s)) :
    Outbound.Carries (.response ra rb rc rd) (Part.out.read (State.startChannel resv index s)) := by
  unfold State.startChannel
  try dsimp only
  repeat' first
    | with_reducible exact h
    | with_reducible assumption
    | with_reducible apply respond_carries
    | rw [updChannel_read (part := .out) (by decide)]
    | rw [supersedeChannel_read (part := .out) (by decide)]
    | split

theorem stopChannel_carries (resv : Nat) (index : Nat) (s : State) (h : Outbound.Carries (.response ra rb rc rd) (Part.out.read s)) :
    Outbound.Carries (.response ra rb rc rd) (Part.out.read (State.stopChannel resv index s)) := by
  unfold State.stopChannel
  try dsimp only
  repeat' first
    | with_reducible exact h
    | with_reducible assumption
    | with_reducible apply respond_carries
    | rw [updChannel_read (part := .out) (by decide)]
    | rw [supersedeChannel_read (part := .out) (by decide)]
    | split

theorem passRequestTaken_carries (resv : Nat) (function : Byte) (address : Nat) (innerByte : Nat) (wake : Bool) (item : Nat) (value : Nat) (s : State) (h : Outbound.Carries (.response ra rb rc rd) (Part.out.read s)) :
    Outbound.Carries (.response ra rb rc rd) (Part.out.read (State.passRequestTaken resv function address innerByte wake item value s)) := by
  unfold State.passRequestTaken
  try dsimp only
  repeat' first
    | with_reducible exact h
    | with_reducible assumption
    | with_reducible apply respond_carries
    | with_reducible apply request_carries
    | rw [updLine_read (part := .out) (by decide)]
    | rw [send_read (part := .out) (by decide)]
    | split

theorem storeOnSupply_carries (mode : SupplyMode) (s : State) (h : Outbound.Carries (.response ra rb rc rd) (Part.out.read s)) :
    Outbound.Carries (.response ra rb rc rd) (Part.out.read (State.storeOnSupply mode s)) := by
  unfold State.storeOnSupply
  try dsimp only
  repeat' first
    | with_reducible exact h
    | with_reducible assumption
    | with_reducible apply endOpenLoad_carries
    | split

theorem clearBank_carries (resv : Nat) (bank : Nat) (s : State) (h : Outbound.Carries (.response ra rb rc rd) (Part.out.read s)) :
    Outbound.Carries (.response ra rb rc rd) (Part.out.read (State.clearBank resv bank s)) := by
  unfold State.clearBank
  try dsimp only
  repeat' first
    | with_reducible exact h
    | with_reducible assumption
    | with_reducible apply respond_carries
    | rw [updBanks_read (part := .out) (by decide)]
    | rw [clearNotices_read (part := .out) (by decide)]
    | split

theorem controlSilence_carries (s : State) (h : Outbound.Carries (.response ra rb rc rd) (Part.out.read s)) :
    Outbound.Carries (.response ra rb rc rd) (Part.out.read (State.controlSilence s)) := by
  unfold State.controlSilence
  try dsimp only
  repeat' first
    | with_reducible exact h
    | with_reducible assumption
    | with_reducible apply fault_carries
    | rw [updTrunk_read (part := .out) (by decide)]
    | rw [send_read (part := .out) (by decide)]

theorem stationSilence_carries (s : State) (h : Outbound.Carries (.response ra rb rc rd) (Part.out.read s)) :
    Outbound.Carries (.response ra rb rc rd) (Part.out.read (State.stationSilence s)) := by
  unfold State.stationSilence
  try dsimp only
  repeat' first
    | with_reducible exact h
    | with_reducible assumption
    | with_reducible apply fault_carries
    | rw [updTrunk_read (part := .out) (by decide)]
    | rw [send_read (part := .out) (by decide)]

theorem badFrame_carries (s : State) (h : Outbound.Carries (.response ra rb rc rd) (Part.out.read s)) :
    Outbound.Carries (.response ra rb rc rd) (Part.out.read (State.badFrame s)) := by
  unfold State.badFrame
  try dsimp only
  repeat' first
    | with_reducible exact h
    | with_reducible assumption
    | with_reducible apply fault_carries

theorem setClockRequest_carries (resv : Nat) (day : Nat) (minute : Nat) (second : Nat) (s : State) (h : Outbound.Carries (.response ra rb rc rd) (Part.out.read s)) :
    Outbound.Carries (.response ra rb rc rd) (Part.out.read (State.setClockRequest resv day minute second s)) := by
  unfold State.setClockRequest
  try dsimp only
  repeat' first
    | with_reducible exact h
    | with_reducible assumption
    | with_reducible apply respond_carries
    | with_reducible apply evaluatePlan_carries
    | with_reducible apply recomputeTariff_carries
    | with_reducible apply fillEvent_carries
    | rw [putClock_read (part := .out) (by decide)]
    | split

theorem fillOrderRequest_carries (resv : Nat) (order : Nat) (s : State) (h : Outbound.Carries (.response ra rb rc rd) (Part.out.read s)) :
    Outbound.Carries (.response ra rb rc rd) (Part.out.read (State.fillOrderRequest resv order s)) := by
  unfold State.fillOrderRequest
  try dsimp only
  repeat' first
    | with_reducible exact h
    | with_reducible assumption
    | with_reducible apply respond_carries
    | with_reducible apply fillEvent_carries
    | with_reducible apply orderAuto_carries
    | with_reducible apply orderHold_carries
    | with_reducible apply orderForce_carries
    | split

theorem restartRequest_carries (resv : Nat) (s : State) (h : Outbound.Carries (.response ra rb rc rd) (Part.out.read s)) :
    Outbound.Carries (.response ra rb rc rd) (Part.out.read (State.restartRequest resv s)) := by
  unfold State.restartRequest
  try dsimp only
  repeat' first
    | with_reducible exact h
    | with_reducible assumption
    | with_reducible apply respond_carries
    | rw [updTrunk_read (part := .out) (by decide)]
    | split

theorem trunkSettle_carries (s : State) (h : Outbound.Carries (.response ra rb rc rd) (Part.out.read s)) :
    Outbound.Carries (.response ra rb rc rd) (Part.out.read (State.trunkSettle s)) := by
  unfold State.trunkSettle
  try dsimp only
  repeat' first
    | with_reducible exact h
    | with_reducible assumption
    | with_reducible apply startTransmission_carries
    | split

theorem swapGuardSet_carries (g : GuardSet) (s : State) (h : Outbound.Carries (.response ra rb rc rd) (Part.out.read s)) :
    Outbound.Carries (.response ra rb rc rd) (Part.out.read (State.swapGuardSet g s)) := by
  unfold State.swapGuardSet
  try dsimp only
  repeat' first
    | with_reducible exact h
    | with_reducible assumption
    | with_reducible apply levelOnGuardSet_carries
    | with_reducible apply guardOnGuardSet_carries
    | with_reducible apply fillEvent_carries
    | rw [updTables_read (part := .out) (by decide)]

theorem swapSiteSet_carries (x : SiteSet) (s : State) (h : Outbound.Carries (.response ra rb rc rd) (Part.out.read s)) :
    Outbound.Carries (.response ra rb rc rd) (Part.out.read (State.swapSiteSet x s)) := by
  unfold State.swapSiteSet
  try dsimp only
  repeat' first
    | with_reducible exact h
    | with_reducible assumption
    | with_reducible apply recomputeTariff_carries
    | with_reducible apply fillEvent_carries
    | with_reducible apply telemetryOnSite_carries
    | rw [updTables_read (part := .out) (by decide)]
    | rw [holdNotices_read (part := .out) (by decide)]
    | rw [setBudget_read (part := .out) (by decide)]
    | rw [trunkOnSite_read (part := .out) (by decide)]

theorem swapTable_carries (d : TableData) (s : State) (h : Outbound.Carries (.response ra rb rc rd) (Part.out.read s)) :
    Outbound.Carries (.response ra rb rc rd) (Part.out.read (State.swapTable d s)) := by
  unfold State.swapTable
  try dsimp only
  repeat' first
    | with_reducible exact h
    | with_reducible assumption
    | with_reducible apply swapStrapping_carries
    | with_reducible apply fillEvent_carries
    | with_reducible apply swapFillSet_carries
    | with_reducible apply swapTariff_carries
    | with_reducible apply swapProfile_carries
    | with_reducible apply swapZones_carries
    | with_reducible apply swapGuardSet_carries
    | with_reducible apply swapSiteSet_carries
    | rw [swapPoints_read (part := .out) (by decide)]
    | rw [swapMap_read (part := .out) (by decide)]
    | rw [frostSettle_read (part := .out) (by decide)]
    | rw [swapChannels_read (part := .out) (by decide)]
    | split

theorem headerEnds_carries (w : TableWork) (count : Nat) (x : Check) (y : TableData) (clamps resv : Nat) (ok : Bool) (s : State)
    (h : Outbound.Carries (.response ra rb rc rd) (Part.out.read s)) :
    Outbound.Carries (.response ra rb rc rd) (Part.out.read (State.headerEnds w count x y clamps resv ok s)) := by
  unfold State.headerEnds
  dsimp only
  repeat' split
  · apply respond_carries; exact h
  · apply respond_carries; apply swapTable_carries; rw [copyEnters_read (part := .out) (by decide)]; exact h
  · apply respond_carries; apply fault_carries; exact h

theorem levelTakes_carries (n : Notice) (s : State) (h : Outbound.Carries (.response ra rb rc rd) (Part.out.read s)) :
    Outbound.Carries (.response ra rb rc rd) (Part.out.read (State.levelTakes n s)) := by
  unfold State.levelTakes
  try dsimp only
  repeat' first
    | with_reducible exact h
    | with_reducible assumption
    | with_reducible apply levelOnPoints_carries
    | with_reducible apply levelOnHousing_carries
    | split

theorem guardTakes_carries (n : Notice) (s : State) (h : Outbound.Carries (.response ra rb rc rd) (Part.out.read s)) :
    Outbound.Carries (.response ra rb rc rd) (Part.out.read (State.guardTakes n s)) := by
  unfold State.guardTakes
  try dsimp only
  repeat' first
    | with_reducible exact h
    | with_reducible assumption
    | with_reducible apply guardEvaluate_carries
    | with_reducible apply guardOnTripWork_carries
    | with_reducible apply guardOnLevel_carries
    | with_reducible apply guardOnPipe_carries
    | rw [guardOnPoints_read (part := .out) (by decide)]
    | rw [guardOnUrgent_read (part := .out) (by decide)]
    | split

theorem fillTakes_carries (n : Notice) (s : State) (h : Outbound.Carries (.response ra rb rc rd) (Part.out.read s)) :
    Outbound.Carries (.response ra rb rc rd) (Part.out.read (State.fillTakes n s)) := by
  unfold State.fillTakes
  try dsimp only
  repeat' first
    | with_reducible exact h
    | with_reducible assumption
    | with_reducible apply fillEvent_carries
    | with_reducible apply changeInhibit_carries
    | with_reducible apply fillOnLevel_carries
    | with_reducible apply fillOnCommand_carries
    | with_reducible apply orderLapses_carries
    | rw [windowDecision_read (part := .out) (by decide)]
    | split

theorem frostTakes_carries (n : Notice) (s : State) (h : Outbound.Carries (.response ra rb rc rd) (Part.out.read s)) :
    Outbound.Carries (.response ra rb rc rd) (Part.out.read (State.frostTakes n s)) := by
  unfold State.frostTakes
  try dsimp only
  repeat' first
    | with_reducible exact h
    | with_reducible assumption
    | with_reducible apply frostOnPoints_carries
    | rw [frostOnCommand_read (part := .out) (by decide)]
    | rw [frostOnTariff_read (part := .out) (by decide)]
    | rw [frostOnSupply_read (part := .out) (by decide)]
    | rw [frostOnBank_read (part := .out) (by decide)]
    | split

theorem telemetryTakes_carries (n : Notice) (s : State) (h : Outbound.Carries (.response ra rb rc rd) (Part.out.read s)) :
    Outbound.Carries (.response ra rb rc rd) (Part.out.read (State.telemetryTakes n s)) := by
  unfold State.telemetryTakes
  try dsimp only
  repeat' first
    | with_reducible exact h
    | with_reducible assumption
    | with_reducible apply telemetryOnLevel_carries
    | with_reducible apply passContents_carries
    | with_reducible apply telemetryOnSupply_carries
    | with_reducible apply telemetryOnFill_carries
    | with_reducible apply tripNumbered_carries
    | rw [updTelemetry_read (part := .out) (by decide)]
    | split

theorem storeTakes_carries (n : Notice) (s : State) (h : Outbound.Carries (.response ra rb rc rd) (Part.out.read s)) :
    Outbound.Carries (.response ra rb rc rd) (Part.out.read (State.storeTakes n s)) := by
  unfold State.storeTakes
  try dsimp only
  repeat' first
    | with_reducible exact h
    | with_reducible assumption
    | with_reducible apply storeOnSupply_carries
    | split

theorem deliver_carries (d : Delivery) (s : State) (h : Outbound.Carries (.response ra rb rc rd) (Part.out.read s)) :
    Outbound.Carries (.response ra rb rc rd) (Part.out.read (State.deliver d s)) := by
  unfold State.deliver
  try dsimp only
  repeat' first
    | with_reducible exact h
    | with_reducible assumption
    | with_reducible apply levelTakes_carries
    | with_reducible apply guardTakes_carries
    | with_reducible apply fillTakes_carries
    | with_reducible apply frostTakes_carries
    | with_reducible apply telemetryTakes_carries
    | with_reducible apply storeTakes_carries
    | rw [lineTakes_read (part := .out) (by decide)]
    | split

theorem deliverOne_carries (pick : Nat → Nat) (s : State) (h : Outbound.Carries (.response ra rb rc rd) (Part.out.read s)) :
    Outbound.Carries (.response ra rb rc rd) (Part.out.read (State.deliverOne pick s)) := by
  unfold State.deliverOne
  try dsimp only
  repeat' first
    | with_reducible exact h
    | with_reducible assumption
    | with_reducible apply deliver_carries
    | split
    | fail_if_no_progress rw [setNotices_read (part := .out) (by decide)]
    | fail_if_no_progress rw [setNoticesDraws_read (part := .out) (by decide)]

theorem drain_carries (pick : Nat → Nat) (fuel : Nat) (s : State)
    (h : Outbound.Carries (.response ra rb rc rd) (Part.out.read s)) :
    Outbound.Carries (.response ra rb rc rd) (Part.out.read (State.drain pick fuel s)) := by
  induction fuel generalizing s with
  | zero => exact h
  | succ fuel ih =>
    simp only [State.drain]
    split
    · exact h
    · exact ih _ (deliverOne_carries pick s h)

theorem settle_carries (s : State) (h : Outbound.Carries (.response ra rb rc rd) (Part.out.read s)) :
    Outbound.Carries (.response ra rb rc rd) (Part.out.read (State.settle s)) := by
  unfold State.settle
  try dsimp only
  repeat' first
    | with_reducible exact h
    | with_reducible assumption
    | with_reducible apply lineSettle_carries
    | with_reducible apply trunkSettle_carries
    | rw [enginePick_read (part := .out) (by decide)]

theorem telemetryStart_carries (s : State) (h : Outbound.Carries (.response ra rb rc rd) (Part.out.read s)) :
    Outbound.Carries (.response ra rb rc rd) (Part.out.read (State.telemetryStart s)) := by
  unfold State.telemetryStart
  try dsimp only
  repeat' first
    | with_reducible exact h
    | with_reducible assumption
    | with_reducible apply queueState_carries
    | rw [updTelemetry_read (part := .out) (by decide)]

end Sys2Proof.Laws
end

