-- ==== Sys2Proof/Laws/Fields.lean ====
section
/-! SUPPORT. What the notices of an event leave: the clock and its calendar, an AUTO order, the aim of the plan interval, the absence of
a rise check, the line cycle with its channels, and the validity of a bank. -/

namespace Sys2Proof.Laws

open Sys2Proof.Machine

/-! ### The clock, the tariff class with its window and the station copy change in no notice of an event (R88, R90, R108). -/


/-- What the clock, its calendar and the station say. -/
def Times (c : Option ClockState) (t : TariffClass) (w : Option TariffWindow) (x : Option StationCopy) (b : FillBlock) : Prop :=
  b.clock = c ∧ b.tariff = t ∧ b.window = w ∧ b.station = x

variable {c0 : Option ClockState} {t0 : TariffClass} {w0 : Option TariffWindow} {x0 : Option StationCopy}

theorem updFill_times (g : FillBlock → FillBlock) (hg : ∀ b, Times c0 t0 w0 x0 b → Times c0 t0 w0 x0 (g b)) (s : State)
    (h : Times c0 t0 w0 x0 (Part.fill.read s)) : Times c0 t0 w0 x0 (Part.fill.read (s.updFill g)) := hg _ h

theorem queueDemand_times (s : State) (h : Times c0 t0 w0 x0 (Part.fill.read s)) :
    Times c0 t0 w0 x0 (Part.fill.read (State.queueDemand s)) := by
  unfold State.queueDemand
  try dsimp only
  repeat' first
    | with_reducible exact h
    | with_reducible assumption
    | (intro b hb; exact hb)
    | with_reducible apply updFill_times
    | rw [offer_read (part := .fill) (by decide)]

theorem zeroDemandHead_times (s : State) (h : Times c0 t0 w0 x0 (Part.fill.read s)) :
    Times c0 t0 w0 x0 (Part.fill.read (State.zeroDemandHead s)) := by
  unfold State.zeroDemandHead
  try dsimp only
  repeat' first
    | with_reducible exact h
    | with_reducible assumption
    | (intro b hb; exact hb)
    | with_reducible apply updFill_times
    | rw [updOut_read (part := .fill) (by decide)]

theorem setDemand_times (d : Nat) (s : State) (h : Times c0 t0 w0 x0 (Part.fill.read s)) :
    Times c0 t0 w0 x0 (Part.fill.read (State.setDemand d s)) := by
  unfold State.setDemand
  try dsimp only
  repeat' first
    | with_reducible exact h
    | with_reducible assumption
    | (intro b hb; exact hb)
    | with_reducible apply updFill_times
    | with_reducible apply queueDemand_times
    | rw [send_read (part := .fill) (by decide)]
    | split

theorem guardZero_times (s : State) (h : Times c0 t0 w0 x0 (Part.fill.read s)) :
    Times c0 t0 w0 x0 (Part.fill.read (State.guardZero s)) := by
  unfold State.guardZero
  try dsimp only
  repeat' first
    | with_reducible exact h
    | with_reducible assumption
    | with_reducible apply zeroDemandHead_times
    | rw [passFill_read (part := .fill) (by decide)]

theorem trip_times (cause : TripCause) (lr : LevelRecord) (s : State) (h : Times c0 t0 w0 x0 (Part.fill.read s)) :
    Times c0 t0 w0 x0 (Part.fill.read (State.trip cause lr s)) := by
  unfold State.trip
  try dsimp only
  repeat' first
    | with_reducible exact h
    | with_reducible assumption
    | with_reducible apply guardZero_times
    | rw [updGuard_read (part := .fill) (by decide)]
    | rw [updTelemetry_read (part := .fill) (by decide)]
    | rw [send_read (part := .fill) (by decide)]
    | rw [offer_read (part := .fill) (by decide)]
    | rw [fault_read (part := .fill) (by decide)]
    | rw [placeUrgent_read (part := .fill) (by decide)]
    | rw [askTripWork_read (part := .fill) (by decide)]
    | rw [tellGuard_read (part := .fill) (by decide)]
    | rw [startWatch_read (part := .fill) (by decide)]
    | split

theorem tripCondition_times (cause : TripCause) (lr : LevelRecord) (s : State) (h : Times c0 t0 w0 x0 (Part.fill.read s)) :
    Times c0 t0 w0 x0 (Part.fill.read (State.tripCondition cause lr s)) := by
  unfold State.tripCondition
  try dsimp only
  repeat' first
    | with_reducible exact h
    | with_reducible assumption
    | with_reducible apply trip_times
    | rw [updGuard_read (part := .fill) (by decide)]
    | split

theorem anticipate_times (s : State) (h : Times c0 t0 w0 x0 (Part.fill.read s)) :
    Times c0 t0 w0 x0 (Part.fill.read (State.anticipate s)) := by
  unfold State.anticipate
  try dsimp only
  repeat' first
    | with_reducible exact h
    | with_reducible assumption
    | with_reducible apply guardZero_times
    | rw [updGuard_read (part := .fill) (by decide)]
    | rw [send_read (part := .fill) (by decide)]
    | rw [placeCommand_read (part := .fill) (by decide)]
    | rw [tellGuard_read (part := .fill) (by decide)]
    | split

theorem guardEvaluate_times (lr : LevelRecord) (s : State) (h : Times c0 t0 w0 x0 (Part.fill.read s)) :
    Times c0 t0 w0 x0 (Part.fill.read (State.guardEvaluate lr s)) := by
  unfold State.guardEvaluate
  try dsimp only
  repeat' first
    | with_reducible exact h
    | with_reducible assumption
    | with_reducible apply trip_times
    | with_reducible apply tripCondition_times
    | with_reducible apply anticipate_times
    | rw [updGuard_read (part := .fill) (by decide)]
    | rw [send_read (part := .fill) (by decide)]
    | rw [rearmGuard_read (part := .fill) (by decide)]
    | split

theorem levelHoldEnds_times (s : State) (h : Times c0 t0 w0 x0 (Part.fill.read s)) :
    Times c0 t0 w0 x0 (Part.fill.read (State.levelHoldEnds s)) := by
  unfold State.levelHoldEnds
  try dsimp only
  repeat' first
    | with_reducible exact h
    | with_reducible assumption
    | with_reducible apply tripCondition_times
    | rw [updGuard_read (part := .fill) (by decide)]

theorem armHold_times (g : GuardSet) (since : Nat) (s : State) (h : Times c0 t0 w0 x0 (Part.fill.read s)) :
    Times c0 t0 w0 x0 (Part.fill.read (State.armHold g since s)) := by
  unfold State.armHold
  try dsimp only
  repeat' first
    | with_reducible exact h
    | with_reducible assumption
    | with_reducible apply levelHoldEnds_times
    | rw [updGuard_read (part := .fill) (by decide)]
    | split

theorem holdOnNotice_times (lr : LevelRecord) (s : State) (h : Times c0 t0 w0 x0 (Part.fill.read s)) :
    Times c0 t0 w0 x0 (Part.fill.read (State.holdOnNotice lr s)) := by
  unfold State.holdOnNotice
  try dsimp only
  repeat' first
    | with_reducible exact h
    | with_reducible assumption
    | with_reducible apply armHold_times
    | rw [updGuard_read (part := .fill) (by decide)]
    | split

theorem completeReset_times (s : State) (h : Times c0 t0 w0 x0 (Part.fill.read s)) :
    Times c0 t0 w0 x0 (Part.fill.read (State.completeReset s)) := by
  unfold State.completeReset
  try dsimp only
  repeat' first
    | with_reducible exact h
    | with_reducible assumption
    | with_reducible apply trip_times
    | with_reducible apply guardEvaluate_times
    | rw [updGuard_read (part := .fill) (by decide)]
    | rw [send_read (part := .fill) (by decide)]
    | rw [respond_read (part := .fill) (by decide)]
    | rw [tellGuard_read (part := .fill) (by decide)]
    | split

theorem guardOnTripWork_times (e : TripEntry) (slot : Option Nat) (s : State) (h : Times c0 t0 w0 x0 (Part.fill.read s)) :
    Times c0 t0 w0 x0 (Part.fill.read (State.guardOnTripWork e slot s)) := by
  unfold State.guardOnTripWork
  try dsimp only
  repeat' first
    | with_reducible exact h
    | with_reducible assumption
    | with_reducible apply trip_times
    | with_reducible apply completeReset_times
    | rw [updGuard_read (part := .fill) (by decide)]
    | rw [send_read (part := .fill) (by decide)]
    | rw [askTripWork_read (part := .fill) (by decide)]
    | split

theorem guardOnLevel_times (lr : LevelRecord) (s : State) (h : Times c0 t0 w0 x0 (Part.fill.read s)) :
    Times c0 t0 w0 x0 (Part.fill.read (State.guardOnLevel lr s)) := by
  unfold State.guardOnLevel
  try dsimp only
  repeat' first
    | with_reducible exact h
    | with_reducible assumption
    | with_reducible apply guardEvaluate_times
    | with_reducible apply holdOnNotice_times

theorem guardOnPipe_times (flag : Bool) (s : State) (h : Times c0 t0 w0 x0 (Part.fill.read s)) :
    Times c0 t0 w0 x0 (Part.fill.read (State.guardOnPipe flag s)) := by
  unfold State.guardOnPipe
  try dsimp only
  repeat' first
    | with_reducible exact h
    | with_reducible assumption
    | with_reducible apply guardEvaluate_times
    | rw [updGuard_read (part := .fill) (by decide)]

theorem setFill_times (state : FillState) (purpose : Option Purpose) (s : State) (h : Times c0 t0 w0 x0 (Part.fill.read s)) :
    Times c0 t0 w0 x0 (Part.fill.read (State.setFill state purpose s)) := by
  unfold State.setFill
  try dsimp only
  repeat' first
    | with_reducible exact h
    | with_reducible assumption
    | (intro b hb; exact hb)
    | with_reducible apply updFill_times

theorem placeOpen_times (s : State) (h : Times c0 t0 w0 x0 (Part.fill.read s)) :
    Times c0 t0 w0 x0 (Part.fill.read (State.placeOpen s)) := by
  unfold State.placeOpen
  try dsimp only
  repeat' first
    | with_reducible exact h
    | with_reducible assumption
    | (intro b hb; exact hb)
    | with_reducible apply updFill_times
    | rw [placeCommand_read (part := .fill) (by decide)]
    | split

theorem enterOpening_times (p : Purpose) (s : State) (h : Times c0 t0 w0 x0 (Part.fill.read s)) :
    Times c0 t0 w0 x0 (Part.fill.read (State.enterOpening p s)) := by
  unfold State.enterOpening
  try dsimp only
  repeat' first
    | with_reducible exact h
    | with_reducible assumption
    | (intro b hb; exact hb)
    | with_reducible apply updFill_times
    | with_reducible apply setFill_times
    | with_reducible apply placeOpen_times

theorem enterClosing_times (s : State) (h : Times c0 t0 w0 x0 (Part.fill.read s)) :
    Times c0 t0 w0 x0 (Part.fill.read (State.enterClosing s)) := by
  unfold State.enterClosing
  try dsimp only
  repeat' first
    | with_reducible exact h
    | with_reducible assumption
    | (intro b hb; exact hb)
    | with_reducible apply updFill_times
    | with_reducible apply setDemand_times
    | with_reducible apply setFill_times

theorem enterHeld_times (s : State) (h : Times c0 t0 w0 x0 (Part.fill.read s)) :
    Times c0 t0 w0 x0 (Part.fill.read (State.enterHeld s)) := by
  unfold State.enterHeld
  try dsimp only
  repeat' first
    | with_reducible exact h
    | with_reducible assumption
    | with_reducible apply setDemand_times
    | with_reducible apply setFill_times

theorem fillingDemand_times (s : State) (h : Times c0 t0 w0 x0 (Part.fill.read s)) :
    Times c0 t0 w0 x0 (Part.fill.read (State.fillingDemand s)) := by
  unfold State.fillingDemand
  try dsimp only
  repeat' first
    | with_reducible exact h
    | with_reducible assumption
    | with_reducible apply setDemand_times

theorem takeTopUp_times (fs : FillSet) (s : State) (h : Times c0 t0 w0 x0 (Part.fill.read s)) :
    Times c0 t0 w0 x0 (Part.fill.read (State.takeTopUp fs s)) := by
  unfold State.takeTopUp
  try dsimp only
  repeat' first
    | with_reducible exact h
    | with_reducible assumption
    | (intro b hb; exact hb)
    | with_reducible apply updFill_times

theorem windowDecision_times (turned : Bool) (s : State) (h : Times c0 t0 w0 x0 (Part.fill.read s)) :
    Times c0 t0 w0 x0 (Part.fill.read (State.windowDecision turned s)) := by
  unfold State.windowDecision
  try dsimp only
  repeat' first
    | with_reducible exact h
    | with_reducible assumption
    | with_reducible apply setFill_times
    | with_reducible apply enterOpening_times
    | split

theorem topUp_times (fs : FillSet) (s : State) (h : Times c0 t0 w0 x0 (Part.fill.read s)) :
    Times c0 t0 w0 x0 (Part.fill.read (State.topUp fs s)) := by
  unfold State.topUp
  try dsimp only
  repeat' first
    | with_reducible exact h
    | with_reducible assumption
    | with_reducible apply enterOpening_times
    | with_reducible apply takeTopUp_times
    | split

theorem actOnPlan_times (fs : FillSet) (forced : Bool) (s : State) (h : Times c0 t0 w0 x0 (Part.fill.read s)) :
    Times c0 t0 w0 x0 (Part.fill.read (State.actOnPlan fs forced s)) := by
  unfold State.actOnPlan
  try dsimp only
  repeat' first
    | with_reducible exact h
    | with_reducible assumption
    | with_reducible apply placeOpen_times
    | with_reducible apply fillingDemand_times
    | with_reducible apply windowDecision_times
    | with_reducible apply topUp_times
    | split

theorem evaluatePlan_times (forced : Bool) (s : State) (h : Times c0 t0 w0 x0 (Part.fill.read s)) :
    Times c0 t0 w0 x0 (Part.fill.read (State.evaluatePlan forced s)) := by
  unfold State.evaluatePlan
  try dsimp only
  repeat' first
    | with_reducible exact h
    | with_reducible assumption
    | (intro b hb; exact hb)
    | with_reducible apply updFill_times
    | with_reducible apply actOnPlan_times
    | rw [fault_read (part := .fill) (by decide)]
    | split
    | fail_if_no_progress rw [setDraws_read (part := .fill) (by decide)]

theorem endWindow_times (force : Bool) (s : State) (h : Times c0 t0 w0 x0 (Part.fill.read s)) :
    Times c0 t0 w0 x0 (Part.fill.read (State.endWindow force s)) := by
  unfold State.endWindow
  try dsimp only
  repeat' first
    | with_reducible exact h
    | with_reducible assumption
    | (intro b hb; exact hb)
    | with_reducible apply updFill_times
    | with_reducible apply setFill_times
    | with_reducible apply enterClosing_times
    | with_reducible apply fillingDemand_times
    | with_reducible apply takeTopUp_times
    | with_reducible apply topUp_times
    | split

theorem placeClose_times (s : State) (h : Times c0 t0 w0 x0 (Part.fill.read s)) :
    Times c0 t0 w0 x0 (Part.fill.read (State.placeClose s)) := by
  unfold State.placeClose
  try dsimp only
  repeat' first
    | with_reducible exact h
    | with_reducible assumption
    | (intro b hb; exact hb)
    | with_reducible apply updFill_times
    | rw [placeCommand_read (part := .fill) (by decide)]
    | split

theorem closeSequence_times (s : State) (h : Times c0 t0 w0 x0 (Part.fill.read s)) :
    Times c0 t0 w0 x0 (Part.fill.read (State.closeSequence s)) := by
  unfold State.closeSequence
  try dsimp only
  repeat' first
    | with_reducible exact h
    | with_reducible assumption
    | (intro b hb; exact hb)
    | with_reducible apply updFill_times
    | with_reducible apply placeClose_times
    | split

theorem fillEvent_times (f : State → State) (s : State)
    (h : Times c0 t0 w0 x0 (Part.fill.read (f s))) : Times c0 t0 w0 x0 (Part.fill.read (State.fillEvent f s)) := by
  unfold State.fillEvent
  rw [passFill_read (part := .fill) (by decide)]
  exact closeSequence_times _ h

theorem changeInhibit_times (add : List Reason) (remove : List Reason) (s : State) (h : Times c0 t0 w0 x0 (Part.fill.read s)) :
    Times c0 t0 w0 x0 (Part.fill.read (State.changeInhibit add remove s)) := by
  unfold State.changeInhibit
  try dsimp only
  repeat' first
    | with_reducible exact h
    | with_reducible assumption
    | (intro b hb; exact hb)
    | with_reducible apply updFill_times
    | with_reducible apply setFill_times
    | with_reducible apply enterHeld_times
    | with_reducible apply evaluatePlan_times
    | split

theorem fillOnLevelState_times (fs : FillSet) (lr : LevelRecord) (s : State) (h : Times c0 t0 w0 x0 (Part.fill.read s)) :
    Times c0 t0 w0 x0 (Part.fill.read (State.fillOnLevelState fs lr s)) := by
  unfold State.fillOnLevelState
  try dsimp only
  repeat' first
    | with_reducible exact h
    | with_reducible assumption
    | with_reducible apply enterClosing_times
    | with_reducible apply windowDecision_times
    | with_reducible apply topUp_times
    | split

theorem turnoverBecomesDone_times (s : State) (h : Times c0 t0 w0 x0 (Part.fill.read s)) :
    Times c0 t0 w0 x0 (Part.fill.read (State.turnoverBecomesDone s)) := by
  unfold State.turnoverBecomesDone
  try dsimp only
  repeat' first
    | with_reducible exact h
    | with_reducible assumption
    | (intro b hb; exact hb)
    | with_reducible apply updFill_times
    | with_reducible apply windowDecision_times
    | with_reducible apply evaluatePlan_times
    | split

theorem fillOnLevel_times (lr : LevelRecord) (s : State) (h : Times c0 t0 w0 x0 (Part.fill.read s)) :
    Times c0 t0 w0 x0 (Part.fill.read (State.fillOnLevel lr s)) := by
  unfold State.fillOnLevel
  try dsimp only
  repeat' first
    | with_reducible exact h
    | with_reducible assumption
    | with_reducible apply fillOnLevelState_times
    | with_reducible apply turnoverBecomesDone_times
    | split

theorem closeConfirmed_times (s : State) (h : Times c0 t0 w0 x0 (Part.fill.read s)) :
    Times c0 t0 w0 x0 (Part.fill.read (State.closeConfirmed s)) := by
  unfold State.closeConfirmed
  try dsimp only
  repeat' first
    | with_reducible exact h
    | with_reducible assumption
    | (intro b hb; exact hb)
    | with_reducible apply updFill_times
    | with_reducible apply setFill_times
    | with_reducible apply evaluatePlan_times
    | split

theorem fillOnCommand_times (target : Nat) (o : CommandOutcome) (s : State) (h : Times c0 t0 w0 x0 (Part.fill.read s)) :
    Times c0 t0 w0 x0 (Part.fill.read (State.fillOnCommand target o s)) := by
  unfold State.fillOnCommand
  try dsimp only
  repeat' first
    | with_reducible exact h
    | with_reducible assumption
    | (intro b hb; exact hb)
    | with_reducible apply updFill_times
    | with_reducible apply setFill_times
    | with_reducible apply fillingDemand_times
    | with_reducible apply changeInhibit_times
    | with_reducible apply closeConfirmed_times
    | split

theorem replaceOrder_times (order : FillOrder) (s : State) (h : Times c0 t0 w0 x0 (Part.fill.read s)) :
    Times c0 t0 w0 x0 (Part.fill.read (State.replaceOrder order s)) := by
  unfold State.replaceOrder
  try dsimp only
  repeat' first
    | with_reducible exact h
    | with_reducible assumption
    | (intro b hb; exact hb)
    | with_reducible apply updFill_times
    | with_reducible apply endWindow_times
    | split

theorem orderHold_times (s : State) (h : Times c0 t0 w0 x0 (Part.fill.read s)) :
    Times c0 t0 w0 x0 (Part.fill.read (State.orderHold s)) := by
  unfold State.orderHold
  try dsimp only
  repeat' first
    | with_reducible exact h
    | with_reducible assumption
    | with_reducible apply changeInhibit_times
    | with_reducible apply replaceOrder_times

theorem orderLapses_times (s : State) (h : Times c0 t0 w0 x0 (Part.fill.read s)) :
    Times c0 t0 w0 x0 (Part.fill.read (State.orderLapses s)) := by
  unfold State.orderLapses
  try dsimp only
  repeat' first
    | with_reducible exact h
    | with_reducible assumption
    | with_reducible apply changeInhibit_times
    | with_reducible apply replaceOrder_times
    | with_reducible apply orderHold_times
    | split

theorem guardTakes_times (n : Notice) (s : State) (h : Times c0 t0 w0 x0 (Part.fill.read s)) :
    Times c0 t0 w0 x0 (Part.fill.read (State.guardTakes n s)) := by
  unfold State.guardTakes
  try dsimp only
  repeat' first
    | with_reducible exact h
    | with_reducible assumption
    | with_reducible apply guardEvaluate_times
    | with_reducible apply guardOnTripWork_times
    | with_reducible apply guardOnLevel_times
    | with_reducible apply guardOnPipe_times
    | rw [guardOnPoints_read (part := .fill) (by decide)]
    | rw [guardOnUrgent_read (part := .fill) (by decide)]
    | split

theorem fillTakes_times (n : Notice) (s : State) (h : Times c0 t0 w0 x0 (Part.fill.read s)) :
    Times c0 t0 w0 x0 (Part.fill.read (State.fillTakes n s)) := by
  unfold State.fillTakes
  try dsimp only
  repeat' first
    | with_reducible exact h
    | with_reducible assumption
    | with_reducible apply windowDecision_times
    | with_reducible apply fillEvent_times
    | with_reducible apply changeInhibit_times
    | with_reducible apply fillOnLevel_times
    | with_reducible apply fillOnCommand_times
    | with_reducible apply orderLapses_times
    | split

theorem deliver_times (d : Delivery) (s : State) (h : Times c0 t0 w0 x0 (Part.fill.read s)) :
    Times c0 t0 w0 x0 (Part.fill.read (State.deliver d s)) := by
  unfold State.deliver
  try dsimp only
  repeat' first
    | with_reducible exact h
    | with_reducible assumption
    | with_reducible apply guardTakes_times
    | with_reducible apply fillTakes_times
    | rw [levelTakes_read (part := .fill) (by decide)]
    | rw [frostTakes_read (part := .fill) (by decide)]
    | rw [lineTakes_read (part := .fill) (by decide)]
    | rw [telemetryTakes_read (part := .fill) (by decide)]
    | rw [storeTakes_read (part := .fill) (by decide)]
    | split

theorem deliverOne_times (pick : Nat → Nat) (s : State) (h : Times c0 t0 w0 x0 (Part.fill.read s)) :
    Times c0 t0 w0 x0 (Part.fill.read (State.deliverOne pick s)) := by
  unfold State.deliverOne
  try dsimp only
  repeat' first
    | with_reducible exact h
    | with_reducible assumption
    | with_reducible apply deliver_times
    | split
    | fail_if_no_progress rw [setNotices_read (part := .fill) (by decide)]
    | fail_if_no_progress rw [setNoticesDraws_read (part := .fill) (by decide)]

theorem drain_times (pick : Nat → Nat) (fuel : Nat) (s : State)
    (h : Times c0 t0 w0 x0 (Part.fill.read s)) :
    Times c0 t0 w0 x0 (Part.fill.read (State.drain pick fuel s)) := by
  induction fuel generalizing s with
  | zero => exact h
  | succ fuel ih =>
    simp only [State.drain]
    split
    · exact h
    · exact ih _ (deliverOne_times pick s h)

/-! ### An AUTO order stays through the notices of an event (R106). -/


/-- The order is AUTO. -/
def Auto (b : FillBlock) : Prop := b.order = .auto

theorem updFill_auto (g : FillBlock → FillBlock) (hg : ∀ b, Auto b → Auto (g b)) (s : State)
    (h : Auto (Part.fill.read s)) : Auto (Part.fill.read (s.updFill g)) := hg _ h

theorem queueDemand_auto (s : State) (h : Auto (Part.fill.read s)) :
    Auto (Part.fill.read (State.queueDemand s)) := by
  unfold State.queueDemand
  try dsimp only
  repeat' first
    | with_reducible exact h
    | with_reducible assumption
    | (intro b hb; exact hb)
    | with_reducible apply updFill_auto
    | rw [offer_read (part := .fill) (by decide)]

theorem zeroDemandHead_auto (s : State) (h : Auto (Part.fill.read s)) :
    Auto (Part.fill.read (State.zeroDemandHead s)) := by
  unfold State.zeroDemandHead
  try dsimp only
  repeat' first
    | with_reducible exact h
    | with_reducible assumption
    | (intro b hb; exact hb)
    | with_reducible apply updFill_auto
    | rw [updOut_read (part := .fill) (by decide)]

theorem setDemand_auto (d : Nat) (s : State) (h : Auto (Part.fill.read s)) :
    Auto (Part.fill.read (State.setDemand d s)) := by
  unfold State.setDemand
  try dsimp only
  repeat' first
    | with_reducible exact h
    | with_reducible assumption
    | (intro b hb; exact hb)
    | with_reducible apply updFill_auto
    | with_reducible apply queueDemand_auto
    | rw [send_read (part := .fill) (by decide)]
    | split

theorem guardZero_auto (s : State) (h : Auto (Part.fill.read s)) :
    Auto (Part.fill.read (State.guardZero s)) := by
  unfold State.guardZero
  try dsimp only
  repeat' first
    | with_reducible exact h
    | with_reducible assumption
    | with_reducible apply zeroDemandHead_auto
    | rw [passFill_read (part := .fill) (by decide)]

theorem trip_auto (cause : TripCause) (lr : LevelRecord) (s : State) (h : Auto (Part.fill.read s)) :
    Auto (Part.fill.read (State.trip cause lr s)) := by
  unfold State.trip
  try dsimp only
  repeat' first
    | with_reducible exact h
    | with_reducible assumption
    | with_reducible apply guardZero_auto
    | rw [updGuard_read (part := .fill) (by decide)]
    | rw [updTelemetry_read (part := .fill) (by decide)]
    | rw [send_read (part := .fill) (by decide)]
    | rw [offer_read (part := .fill) (by decide)]
    | rw [fault_read (part := .fill) (by decide)]
    | rw [placeUrgent_read (part := .fill) (by decide)]
    | rw [askTripWork_read (part := .fill) (by decide)]
    | rw [tellGuard_read (part := .fill) (by decide)]
    | rw [startWatch_read (part := .fill) (by decide)]
    | split

theorem tripCondition_auto (cause : TripCause) (lr : LevelRecord) (s : State) (h : Auto (Part.fill.read s)) :
    Auto (Part.fill.read (State.tripCondition cause lr s)) := by
  unfold State.tripCondition
  try dsimp only
  repeat' first
    | with_reducible exact h
    | with_reducible assumption
    | with_reducible apply trip_auto
    | rw [updGuard_read (part := .fill) (by decide)]
    | split

theorem anticipate_auto (s : State) (h : Auto (Part.fill.read s)) :
    Auto (Part.fill.read (State.anticipate s)) := by
  unfold State.anticipate
  try dsimp only
  repeat' first
    | with_reducible exact h
    | with_reducible assumption
    | with_reducible apply guardZero_auto
    | rw [updGuard_read (part := .fill) (by decide)]
    | rw [send_read (part := .fill) (by decide)]
    | rw [placeCommand_read (part := .fill) (by decide)]
    | rw [tellGuard_read (part := .fill) (by decide)]
    | split

theorem guardEvaluate_auto (lr : LevelRecord) (s : State) (h : Auto (Part.fill.read s)) :
    Auto (Part.fill.read (State.guardEvaluate lr s)) := by
  unfold State.guardEvaluate
  try dsimp only
  repeat' first
    | with_reducible exact h
    | with_reducible assumption
    | with_reducible apply trip_auto
    | with_reducible apply tripCondition_auto
    | with_reducible apply anticipate_auto
    | rw [updGuard_read (part := .fill) (by decide)]
    | rw [send_read (part := .fill) (by decide)]
    | rw [rearmGuard_read (part := .fill) (by decide)]
    | split

theorem levelHoldEnds_auto (s : State) (h : Auto (Part.fill.read s)) :
    Auto (Part.fill.read (State.levelHoldEnds s)) := by
  unfold State.levelHoldEnds
  try dsimp only
  repeat' first
    | with_reducible exact h
    | with_reducible assumption
    | with_reducible apply tripCondition_auto
    | rw [updGuard_read (part := .fill) (by decide)]

theorem armHold_auto (g : GuardSet) (since : Nat) (s : State) (h : Auto (Part.fill.read s)) :
    Auto (Part.fill.read (State.armHold g since s)) := by
  unfold State.armHold
  try dsimp only
  repeat' first
    | with_reducible exact h
    | with_reducible assumption
    | with_reducible apply levelHoldEnds_auto
    | rw [updGuard_read (part := .fill) (by decide)]
    | split

theorem holdOnNotice_auto (lr : LevelRecord) (s : State) (h : Auto (Part.fill.read s)) :
    Auto (Part.fill.read (State.holdOnNotice lr s)) := by
  unfold State.holdOnNotice
  try dsimp only
  repeat' first
    | with_reducible exact h
    | with_reducible assumption
    | with_reducible apply armHold_auto
    | rw [updGuard_read (part := .fill) (by decide)]
    | split

theorem completeReset_auto (s : State) (h : Auto (Part.fill.read s)) :
    Auto (Part.fill.read (State.completeReset s)) := by
  unfold State.completeReset
  try dsimp only
  repeat' first
    | with_reducible exact h
    | with_reducible assumption
    | with_reducible apply trip_auto
    | with_reducible apply guardEvaluate_auto
    | rw [updGuard_read (part := .fill) (by decide)]
    | rw [send_read (part := .fill) (by decide)]
    | rw [respond_read (part := .fill) (by decide)]
    | rw [tellGuard_read (part := .fill) (by decide)]
    | split

theorem guardOnTripWork_auto (e : TripEntry) (slot : Option Nat) (s : State) (h : Auto (Part.fill.read s)) :
    Auto (Part.fill.read (State.guardOnTripWork e slot s)) := by
  unfold State.guardOnTripWork
  try dsimp only
  repeat' first
    | with_reducible exact h
    | with_reducible assumption
    | with_reducible apply trip_auto
    | with_reducible apply completeReset_auto
    | rw [updGuard_read (part := .fill) (by decide)]
    | rw [send_read (part := .fill) (by decide)]
    | rw [askTripWork_read (part := .fill) (by decide)]
    | split

theorem guardOnLevel_auto (lr : LevelRecord) (s : State) (h : Auto (Part.fill.read s)) :
    Auto (Part.fill.read (State.guardOnLevel lr s)) := by
  unfold State.guardOnLevel
  try dsimp only
  repeat' first
    | with_reducible exact h
    | with_reducible assumption
    | with_reducible apply guardEvaluate_auto
    | with_reducible apply holdOnNotice_auto

theorem guardOnPipe_auto (flag : Bool) (s : State) (h : Auto (Part.fill.read s)) :
    Auto (Part.fill.read (State.guardOnPipe flag s)) := by
  unfold State.guardOnPipe
  try dsimp only
  repeat' first
    | with_reducible exact h
    | with_reducible assumption
    | with_reducible apply guardEvaluate_auto
    | rw [updGuard_read (part := .fill) (by decide)]

theorem setFill_auto (state : FillState) (purpose : Option Purpose) (s : State) (h : Auto (Part.fill.read s)) :
    Auto (Part.fill.read (State.setFill state purpose s)) := by
  unfold State.setFill
  try dsimp only
  repeat' first
    | with_reducible exact h
    | with_reducible assumption
    | (intro b hb; exact hb)
    | with_reducible apply updFill_auto

theorem placeOpen_auto (s : State) (h : Auto (Part.fill.read s)) :
    Auto (Part.fill.read (State.placeOpen s)) := by
  unfold State.placeOpen
  try dsimp only
  repeat' first
    | with_reducible exact h
    | with_reducible assumption
    | (intro b hb; exact hb)
    | with_reducible apply updFill_auto
    | rw [placeCommand_read (part := .fill) (by decide)]
    | split

theorem enterOpening_auto (p : Purpose) (s : State) (h : Auto (Part.fill.read s)) :
    Auto (Part.fill.read (State.enterOpening p s)) := by
  unfold State.enterOpening
  try dsimp only
  repeat' first
    | with_reducible exact h
    | with_reducible assumption
    | (intro b hb; exact hb)
    | with_reducible apply updFill_auto
    | with_reducible apply setFill_auto
    | with_reducible apply placeOpen_auto

theorem enterClosing_auto (s : State) (h : Auto (Part.fill.read s)) :
    Auto (Part.fill.read (State.enterClosing s)) := by
  unfold State.enterClosing
  try dsimp only
  repeat' first
    | with_reducible exact h
    | with_reducible assumption
    | (intro b hb; simp_all [Auto])
    | with_reducible apply updFill_auto
    | with_reducible apply setDemand_auto
    | with_reducible apply setFill_auto

theorem enterHeld_auto (s : State) (h : Auto (Part.fill.read s)) :
    Auto (Part.fill.read (State.enterHeld s)) := by
  unfold State.enterHeld
  try dsimp only
  repeat' first
    | with_reducible exact h
    | with_reducible assumption
    | with_reducible apply setDemand_auto
    | with_reducible apply setFill_auto

theorem fillingDemand_auto (s : State) (h : Auto (Part.fill.read s)) :
    Auto (Part.fill.read (State.fillingDemand s)) := by
  unfold State.fillingDemand
  try dsimp only
  repeat' first
    | with_reducible exact h
    | with_reducible assumption
    | with_reducible apply setDemand_auto

theorem takeTopUp_auto (fs : FillSet) (s : State) (h : Auto (Part.fill.read s)) :
    Auto (Part.fill.read (State.takeTopUp fs s)) := by
  unfold State.takeTopUp
  try dsimp only
  repeat' first
    | with_reducible exact h
    | with_reducible assumption
    | (intro b hb; exact hb)
    | with_reducible apply updFill_auto

theorem windowDecision_auto (turned : Bool) (s : State) (h : Auto (Part.fill.read s)) :
    Auto (Part.fill.read (State.windowDecision turned s)) := by
  unfold State.windowDecision
  try dsimp only
  repeat' first
    | with_reducible exact h
    | with_reducible assumption
    | with_reducible apply setFill_auto
    | with_reducible apply enterOpening_auto
    | split

theorem topUp_auto (fs : FillSet) (s : State) (h : Auto (Part.fill.read s)) :
    Auto (Part.fill.read (State.topUp fs s)) := by
  unfold State.topUp
  try dsimp only
  repeat' first
    | with_reducible exact h
    | with_reducible assumption
    | with_reducible apply enterOpening_auto
    | with_reducible apply takeTopUp_auto
    | split

theorem actOnPlan_auto (fs : FillSet) (forced : Bool) (s : State) (h : Auto (Part.fill.read s)) :
    Auto (Part.fill.read (State.actOnPlan fs forced s)) := by
  unfold State.actOnPlan
  try dsimp only
  repeat' first
    | with_reducible exact h
    | with_reducible assumption
    | with_reducible apply placeOpen_auto
    | with_reducible apply fillingDemand_auto
    | with_reducible apply windowDecision_auto
    | with_reducible apply topUp_auto
    | split

theorem evaluatePlan_auto (forced : Bool) (s : State) (h : Auto (Part.fill.read s)) :
    Auto (Part.fill.read (State.evaluatePlan forced s)) := by
  unfold State.evaluatePlan
  try dsimp only
  repeat' first
    | with_reducible exact h
    | with_reducible assumption
    | (intro b hb; exact hb)
    | with_reducible apply updFill_auto
    | with_reducible apply actOnPlan_auto
    | rw [fault_read (part := .fill) (by decide)]
    | split
    | fail_if_no_progress rw [setDraws_read (part := .fill) (by decide)]

theorem endWindow_auto (force : Bool) (s : State) (h : Auto (Part.fill.read s)) :
    Auto (Part.fill.read (State.endWindow force s)) := by
  unfold State.endWindow
  try dsimp only
  repeat' first
    | with_reducible exact h
    | with_reducible assumption
    | (intro b hb; exact hb)
    | with_reducible apply updFill_auto
    | with_reducible apply setFill_auto
    | with_reducible apply enterClosing_auto
    | with_reducible apply fillingDemand_auto
    | with_reducible apply takeTopUp_auto
    | with_reducible apply topUp_auto
    | split

theorem placeClose_auto (s : State) (h : Auto (Part.fill.read s)) :
    Auto (Part.fill.read (State.placeClose s)) := by
  unfold State.placeClose
  try dsimp only
  repeat' first
    | with_reducible exact h
    | with_reducible assumption
    | (intro b hb; exact hb)
    | with_reducible apply updFill_auto
    | rw [placeCommand_read (part := .fill) (by decide)]
    | split

theorem closeSequence_auto (s : State) (h : Auto (Part.fill.read s)) :
    Auto (Part.fill.read (State.closeSequence s)) := by
  unfold State.closeSequence
  try dsimp only
  repeat' first
    | with_reducible exact h
    | with_reducible assumption
    | (intro b hb; exact hb)
    | with_reducible apply updFill_auto
    | with_reducible apply placeClose_auto
    | split

theorem fillEvent_auto (f : State → State) (s : State)
    (h : Auto (Part.fill.read (f s))) : Auto (Part.fill.read (State.fillEvent f s)) := by
  unfold State.fillEvent
  rw [passFill_read (part := .fill) (by decide)]
  exact closeSequence_auto _ h

theorem changeInhibit_auto (add : List Reason) (remove : List Reason) (s : State) (h : Auto (Part.fill.read s)) :
    Auto (Part.fill.read (State.changeInhibit add remove s)) := by
  unfold State.changeInhibit
  try dsimp only
  repeat' first
    | with_reducible exact h
    | with_reducible assumption
    | (intro b hb; exact hb)
    | with_reducible apply updFill_auto
    | with_reducible apply setFill_auto
    | with_reducible apply enterHeld_auto
    | with_reducible apply evaluatePlan_auto
    | split

theorem fillOnLevelState_auto (fs : FillSet) (lr : LevelRecord) (s : State) (h : Auto (Part.fill.read s)) :
    Auto (Part.fill.read (State.fillOnLevelState fs lr s)) := by
  unfold State.fillOnLevelState
  try dsimp only
  repeat' first
    | with_reducible exact h
    | with_reducible assumption
    | with_reducible apply enterClosing_auto
    | with_reducible apply windowDecision_auto
    | with_reducible apply topUp_auto
    | split

theorem turnoverBecomesDone_auto (s : State) (h : Auto (Part.fill.read s)) :
    Auto (Part.fill.read (State.turnoverBecomesDone s)) := by
  unfold State.turnoverBecomesDone
  try dsimp only
  repeat' first
    | with_reducible exact h
    | with_reducible assumption
    | (intro b hb; exact hb)
    | with_reducible apply updFill_auto
    | with_reducible apply windowDecision_auto
    | with_reducible apply evaluatePlan_auto
    | split

theorem fillOnLevel_auto (lr : LevelRecord) (s : State) (h : Auto (Part.fill.read s)) :
    Auto (Part.fill.read (State.fillOnLevel lr s)) := by
  unfold State.fillOnLevel
  try dsimp only
  repeat' first
    | with_reducible exact h
    | with_reducible assumption
    | with_reducible apply fillOnLevelState_auto
    | with_reducible apply turnoverBecomesDone_auto
    | split

theorem closeConfirmed_auto (s : State) (h : Auto (Part.fill.read s)) :
    Auto (Part.fill.read (State.closeConfirmed s)) := by
  unfold State.closeConfirmed
  try dsimp only
  repeat' first
    | with_reducible exact h
    | with_reducible assumption
    | (intro b hb; exact hb)
    | with_reducible apply updFill_auto
    | with_reducible apply setFill_auto
    | with_reducible apply evaluatePlan_auto
    | split

theorem fillOnCommand_auto (target : Nat) (o : CommandOutcome) (s : State) (h : Auto (Part.fill.read s)) :
    Auto (Part.fill.read (State.fillOnCommand target o s)) := by
  unfold State.fillOnCommand
  try dsimp only
  repeat' first
    | with_reducible exact h
    | with_reducible assumption
    | (intro b hb; exact hb)
    | with_reducible apply updFill_auto
    | with_reducible apply setFill_auto
    | with_reducible apply fillingDemand_auto
    | with_reducible apply changeInhibit_auto
    | with_reducible apply closeConfirmed_auto
    | split

theorem replaceOrder_auto (s : State) : Auto (Part.fill.read (State.replaceOrder .auto s)) := by
  have h : Auto (Part.fill.read (s.updFill fun f => { f with order := .auto, forceAt := none })) := rfl
  unfold State.replaceOrder
  dsimp only
  split
  · exact endWindow_auto true _ h
  · exact h

theorem orderLapses_auto (s : State) (h : Auto (Part.fill.read s)) :
    Auto (Part.fill.read (State.orderLapses s)) := by
  unfold State.orderLapses
  try dsimp only
  repeat' first
    | with_reducible exact h
    | with_reducible assumption
    | with_reducible apply changeInhibit_auto
    | with_reducible apply replaceOrder_auto
    | with_reducible apply orderHold_auto
    | split

theorem guardTakes_auto (n : Notice) (s : State) (h : Auto (Part.fill.read s)) :
    Auto (Part.fill.read (State.guardTakes n s)) := by
  unfold State.guardTakes
  try dsimp only
  repeat' first
    | with_reducible exact h
    | with_reducible assumption
    | with_reducible apply guardEvaluate_auto
    | with_reducible apply guardOnTripWork_auto
    | with_reducible apply guardOnLevel_auto
    | with_reducible apply guardOnPipe_auto
    | rw [guardOnPoints_read (part := .fill) (by decide)]
    | rw [guardOnUrgent_read (part := .fill) (by decide)]
    | split

theorem fillTakes_auto (n : Notice) (s : State) (h : Auto (Part.fill.read s)) :
    Auto (Part.fill.read (State.fillTakes n s)) := by
  unfold State.fillTakes
  try dsimp only
  repeat' first
    | with_reducible exact h
    | with_reducible assumption
    | with_reducible apply windowDecision_auto
    | with_reducible apply fillEvent_auto
    | with_reducible apply changeInhibit_auto
    | with_reducible apply fillOnLevel_auto
    | with_reducible apply fillOnCommand_auto
    | with_reducible apply orderLapses_auto
    | split

theorem deliver_auto (d : Delivery) (s : State) (h : Auto (Part.fill.read s)) :
    Auto (Part.fill.read (State.deliver d s)) := by
  unfold State.deliver
  try dsimp only
  repeat' first
    | with_reducible exact h
    | with_reducible assumption
    | with_reducible apply guardTakes_auto
    | with_reducible apply fillTakes_auto
    | rw [levelTakes_read (part := .fill) (by decide)]
    | rw [frostTakes_read (part := .fill) (by decide)]
    | rw [lineTakes_read (part := .fill) (by decide)]
    | rw [telemetryTakes_read (part := .fill) (by decide)]
    | rw [storeTakes_read (part := .fill) (by decide)]
    | split

theorem deliverOne_auto (pick : Nat → Nat) (s : State) (h : Auto (Part.fill.read s)) :
    Auto (Part.fill.read (State.deliverOne pick s)) := by
  unfold State.deliverOne
  try dsimp only
  repeat' first
    | with_reducible exact h
    | with_reducible assumption
    | with_reducible apply deliver_auto
    | split
    | fail_if_no_progress rw [setNotices_read (part := .fill) (by decide)]
    | fail_if_no_progress rw [setNoticesDraws_read (part := .fill) (by decide)]

theorem drain_auto (pick : Nat → Nat) (fuel : Nat) (s : State)
    (h : Auto (Part.fill.read s)) :
    Auto (Part.fill.read (State.drain pick fuel s)) := by
  induction fuel generalizing s with
  | zero => exact h
  | succ fuel ih =>
    simp only [State.drain]
    split
    · exact h
    · exact ih _ (deliverOne_auto pick s h)

/-! ### No notice of an event starts a rise check (R110). -/


/-- No rise check is in progress. -/
def Norise (b : FillBlock) : Prop := b.rise = none

theorem updFill_norise (g : FillBlock → FillBlock) (hg : ∀ b, Norise b → Norise (g b)) (s : State)
    (h : Norise (Part.fill.read s)) : Norise (Part.fill.read (s.updFill g)) := hg _ h

theorem queueDemand_norise (s : State) (h : Norise (Part.fill.read s)) :
    Norise (Part.fill.read (State.queueDemand s)) := by
  unfold State.queueDemand
  try dsimp only
  repeat' first
    | with_reducible exact h
    | with_reducible assumption
    | (intro b hb; exact hb)
    | with_reducible apply updFill_norise
    | rw [offer_read (part := .fill) (by decide)]

theorem zeroDemandHead_norise (s : State) (h : Norise (Part.fill.read s)) :
    Norise (Part.fill.read (State.zeroDemandHead s)) := by
  unfold State.zeroDemandHead
  try dsimp only
  repeat' first
    | with_reducible exact h
    | with_reducible assumption
    | (intro b hb; exact hb)
    | with_reducible apply updFill_norise
    | rw [updOut_read (part := .fill) (by decide)]

theorem setDemand_norise (d : Nat) (s : State) (h : Norise (Part.fill.read s)) :
    Norise (Part.fill.read (State.setDemand d s)) := by
  unfold State.setDemand
  try dsimp only
  repeat' first
    | with_reducible exact h
    | with_reducible assumption
    | (intro b hb; exact hb)
    | with_reducible apply updFill_norise
    | with_reducible apply queueDemand_norise
    | rw [send_read (part := .fill) (by decide)]
    | split

theorem guardZero_norise (s : State) (h : Norise (Part.fill.read s)) :
    Norise (Part.fill.read (State.guardZero s)) := by
  unfold State.guardZero
  try dsimp only
  repeat' first
    | with_reducible exact h
    | with_reducible assumption
    | with_reducible apply zeroDemandHead_norise
    | rw [passFill_read (part := .fill) (by decide)]

theorem trip_norise (cause : TripCause) (lr : LevelRecord) (s : State) (h : Norise (Part.fill.read s)) :
    Norise (Part.fill.read (State.trip cause lr s)) := by
  unfold State.trip
  try dsimp only
  repeat' first
    | with_reducible exact h
    | with_reducible assumption
    | with_reducible apply guardZero_norise
    | rw [updGuard_read (part := .fill) (by decide)]
    | rw [updTelemetry_read (part := .fill) (by decide)]
    | rw [send_read (part := .fill) (by decide)]
    | rw [offer_read (part := .fill) (by decide)]
    | rw [fault_read (part := .fill) (by decide)]
    | rw [placeUrgent_read (part := .fill) (by decide)]
    | rw [askTripWork_read (part := .fill) (by decide)]
    | rw [tellGuard_read (part := .fill) (by decide)]
    | rw [startWatch_read (part := .fill) (by decide)]
    | split

theorem tripCondition_norise (cause : TripCause) (lr : LevelRecord) (s : State) (h : Norise (Part.fill.read s)) :
    Norise (Part.fill.read (State.tripCondition cause lr s)) := by
  unfold State.tripCondition
  try dsimp only
  repeat' first
    | with_reducible exact h
    | with_reducible assumption
    | with_reducible apply trip_norise
    | rw [updGuard_read (part := .fill) (by decide)]
    | split

theorem anticipate_norise (s : State) (h : Norise (Part.fill.read s)) :
    Norise (Part.fill.read (State.anticipate s)) := by
  unfold State.anticipate
  try dsimp only
  repeat' first
    | with_reducible exact h
    | with_reducible assumption
    | with_reducible apply guardZero_norise
    | rw [updGuard_read (part := .fill) (by decide)]
    | rw [send_read (part := .fill) (by decide)]
    | rw [placeCommand_read (part := .fill) (by decide)]
    | rw [tellGuard_read (part := .fill) (by decide)]
    | split

theorem guardEvaluate_norise (lr : LevelRecord) (s : State) (h : Norise (Part.fill.read s)) :
    Norise (Part.fill.read (State.guardEvaluate lr s)) := by
  unfold State.guardEvaluate
  try dsimp only
  repeat' first
    | with_reducible exact h
    | with_reducible assumption
    | with_reducible apply trip_norise
    | with_reducible apply tripCondition_norise
    | with_reducible apply anticipate_norise
    | rw [updGuard_read (part := .fill) (by decide)]
    | rw [send_read (part := .fill) (by decide)]
    | rw [rearmGuard_read (part := .fill) (by decide)]
    | split

theorem levelHoldEnds_norise (s : State) (h : Norise (Part.fill.read s)) :
    Norise (Part.fill.read (State.levelHoldEnds s)) := by
  unfold State.levelHoldEnds
  try dsimp only
  repeat' first
    | with_reducible exact h
    | with_reducible assumption
    | with_reducible apply tripCondition_norise
    | rw [updGuard_read (part := .fill) (by decide)]

theorem armHold_norise (g : GuardSet) (since : Nat) (s : State) (h : Norise (Part.fill.read s)) :
    Norise (Part.fill.read (State.armHold g since s)) := by
  unfold State.armHold
  try dsimp only
  repeat' first
    | with_reducible exact h
    | with_reducible assumption
    | with_reducible apply levelHoldEnds_norise
    | rw [updGuard_read (part := .fill) (by decide)]
    | split

theorem holdOnNotice_norise (lr : LevelRecord) (s : State) (h : Norise (Part.fill.read s)) :
    Norise (Part.fill.read (State.holdOnNotice lr s)) := by
  unfold State.holdOnNotice
  try dsimp only
  repeat' first
    | with_reducible exact h
    | with_reducible assumption
    | with_reducible apply armHold_norise
    | rw [updGuard_read (part := .fill) (by decide)]
    | split

theorem completeReset_norise (s : State) (h : Norise (Part.fill.read s)) :
    Norise (Part.fill.read (State.completeReset s)) := by
  unfold State.completeReset
  try dsimp only
  repeat' first
    | with_reducible exact h
    | with_reducible assumption
    | with_reducible apply trip_norise
    | with_reducible apply guardEvaluate_norise
    | rw [updGuard_read (part := .fill) (by decide)]
    | rw [send_read (part := .fill) (by decide)]
    | rw [respond_read (part := .fill) (by decide)]
    | rw [tellGuard_read (part := .fill) (by decide)]
    | split

theorem guardOnTripWork_norise (e : TripEntry) (slot : Option Nat) (s : State) (h : Norise (Part.fill.read s)) :
    Norise (Part.fill.read (State.guardOnTripWork e slot s)) := by
  unfold State.guardOnTripWork
  try dsimp only
  repeat' first
    | with_reducible exact h
    | with_reducible assumption
    | with_reducible apply trip_norise
    | with_reducible apply completeReset_norise
    | rw [updGuard_read (part := .fill) (by decide)]
    | rw [send_read (part := .fill) (by decide)]
    | rw [askTripWork_read (part := .fill) (by decide)]
    | split

theorem guardOnLevel_norise (lr : LevelRecord) (s : State) (h : Norise (Part.fill.read s)) :
    Norise (Part.fill.read (State.guardOnLevel lr s)) := by
  unfold State.guardOnLevel
  try dsimp only
  repeat' first
    | with_reducible exact h
    | with_reducible assumption
    | with_reducible apply guardEvaluate_norise
    | with_reducible apply holdOnNotice_norise

theorem guardOnPipe_norise (flag : Bool) (s : State) (h : Norise (Part.fill.read s)) :
    Norise (Part.fill.read (State.guardOnPipe flag s)) := by
  unfold State.guardOnPipe
  try dsimp only
  repeat' first
    | with_reducible exact h
    | with_reducible assumption
    | with_reducible apply guardEvaluate_norise
    | rw [updGuard_read (part := .fill) (by decide)]

theorem setFill_norise (state : FillState) (purpose : Option Purpose) (s : State) (h : Norise (Part.fill.read s)) :
    Norise (Part.fill.read (State.setFill state purpose s)) := by
  unfold State.setFill
  try dsimp only
  repeat' first
    | with_reducible exact h
    | with_reducible assumption
    | (intro b hb; simp_all [Norise])
    | with_reducible apply updFill_norise

theorem placeOpen_norise (s : State) (h : Norise (Part.fill.read s)) :
    Norise (Part.fill.read (State.placeOpen s)) := by
  unfold State.placeOpen
  try dsimp only
  repeat' first
    | with_reducible exact h
    | with_reducible assumption
    | (intro b hb; exact hb)
    | with_reducible apply updFill_norise
    | rw [placeCommand_read (part := .fill) (by decide)]
    | split

theorem enterOpening_norise (p : Purpose) (s : State) (h : Norise (Part.fill.read s)) :
    Norise (Part.fill.read (State.enterOpening p s)) := by
  unfold State.enterOpening
  try dsimp only
  repeat' first
    | with_reducible exact h
    | with_reducible assumption
    | (intro b hb; exact hb)
    | with_reducible apply updFill_norise
    | with_reducible apply setFill_norise
    | with_reducible apply placeOpen_norise

theorem enterClosing_norise (s : State) (h : Norise (Part.fill.read s)) :
    Norise (Part.fill.read (State.enterClosing s)) := by
  unfold State.enterClosing
  try dsimp only
  repeat' first
    | with_reducible exact h
    | with_reducible assumption
    | (intro b hb; exact hb)
    | with_reducible apply updFill_norise
    | with_reducible apply setDemand_norise
    | with_reducible apply setFill_norise

theorem enterHeld_norise (s : State) (h : Norise (Part.fill.read s)) :
    Norise (Part.fill.read (State.enterHeld s)) := by
  unfold State.enterHeld
  try dsimp only
  repeat' first
    | with_reducible exact h
    | with_reducible assumption
    | with_reducible apply setDemand_norise
    | with_reducible apply setFill_norise

theorem fillingDemand_norise (s : State) (h : Norise (Part.fill.read s)) :
    Norise (Part.fill.read (State.fillingDemand s)) := by
  unfold State.fillingDemand
  try dsimp only
  repeat' first
    | with_reducible exact h
    | with_reducible assumption
    | with_reducible apply setDemand_norise

theorem takeTopUp_norise (fs : FillSet) (s : State) (h : Norise (Part.fill.read s)) :
    Norise (Part.fill.read (State.takeTopUp fs s)) := by
  unfold State.takeTopUp
  try dsimp only
  repeat' first
    | with_reducible exact h
    | with_reducible assumption
    | (intro b hb; exact hb)
    | with_reducible apply updFill_norise

theorem windowDecision_norise (turned : Bool) (s : State) (h : Norise (Part.fill.read s)) :
    Norise (Part.fill.read (State.windowDecision turned s)) := by
  unfold State.windowDecision
  try dsimp only
  repeat' first
    | with_reducible exact h
    | with_reducible assumption
    | with_reducible apply setFill_norise
    | with_reducible apply enterOpening_norise
    | split

theorem topUp_norise (fs : FillSet) (s : State) (h : Norise (Part.fill.read s)) :
    Norise (Part.fill.read (State.topUp fs s)) := by
  unfold State.topUp
  try dsimp only
  repeat' first
    | with_reducible exact h
    | with_reducible assumption
    | with_reducible apply enterOpening_norise
    | with_reducible apply takeTopUp_norise
    | split

theorem actOnPlan_norise (fs : FillSet) (forced : Bool) (s : State) (h : Norise (Part.fill.read s)) :
    Norise (Part.fill.read (State.actOnPlan fs forced s)) := by
  unfold State.actOnPlan
  try dsimp only
  repeat' first
    | with_reducible exact h
    | with_reducible assumption
    | with_reducible apply placeOpen_norise
    | with_reducible apply fillingDemand_norise
    | with_reducible apply windowDecision_norise
    | with_reducible apply topUp_norise
    | split

theorem evaluatePlan_norise (forced : Bool) (s : State) (h : Norise (Part.fill.read s)) :
    Norise (Part.fill.read (State.evaluatePlan forced s)) := by
  unfold State.evaluatePlan
  try dsimp only
  repeat' first
    | with_reducible exact h
    | with_reducible assumption
    | (intro b hb; exact hb)
    | with_reducible apply updFill_norise
    | with_reducible apply actOnPlan_norise
    | rw [fault_read (part := .fill) (by decide)]
    | split
    | fail_if_no_progress rw [setDraws_read (part := .fill) (by decide)]

theorem endWindow_norise (force : Bool) (s : State) (h : Norise (Part.fill.read s)) :
    Norise (Part.fill.read (State.endWindow force s)) := by
  unfold State.endWindow
  try dsimp only
  repeat' first
    | with_reducible exact h
    | with_reducible assumption
    | (intro b hb; exact hb)
    | with_reducible apply updFill_norise
    | with_reducible apply setFill_norise
    | with_reducible apply enterClosing_norise
    | with_reducible apply fillingDemand_norise
    | with_reducible apply takeTopUp_norise
    | with_reducible apply topUp_norise
    | split

theorem placeClose_norise (s : State) (h : Norise (Part.fill.read s)) :
    Norise (Part.fill.read (State.placeClose s)) := by
  unfold State.placeClose
  try dsimp only
  repeat' first
    | with_reducible exact h
    | with_reducible assumption
    | (intro b hb; exact hb)
    | with_reducible apply updFill_norise
    | rw [placeCommand_read (part := .fill) (by decide)]
    | split

theorem closeSequence_norise (s : State) (h : Norise (Part.fill.read s)) :
    Norise (Part.fill.read (State.closeSequence s)) := by
  unfold State.closeSequence
  try dsimp only
  repeat' first
    | with_reducible exact h
    | with_reducible assumption
    | (intro b hb; exact hb)
    | with_reducible apply updFill_norise
    | with_reducible apply placeClose_norise
    | split

theorem fillEvent_norise (f : State → State) (s : State)
    (h : Norise (Part.fill.read (f s))) : Norise (Part.fill.read (State.fillEvent f s)) := by
  unfold State.fillEvent
  rw [passFill_read (part := .fill) (by decide)]
  exact closeSequence_norise _ h

theorem changeInhibit_norise (add : List Reason) (remove : List Reason) (s : State) (h : Norise (Part.fill.read s)) :
    Norise (Part.fill.read (State.changeInhibit add remove s)) := by
  unfold State.changeInhibit
  try dsimp only
  repeat' first
    | with_reducible exact h
    | with_reducible assumption
    | (intro b hb; exact hb)
    | with_reducible apply updFill_norise
    | with_reducible apply setFill_norise
    | with_reducible apply enterHeld_norise
    | with_reducible apply evaluatePlan_norise
    | split

theorem fillOnLevelState_norise (fs : FillSet) (lr : LevelRecord) (s : State) (h : Norise (Part.fill.read s)) :
    Norise (Part.fill.read (State.fillOnLevelState fs lr s)) := by
  unfold State.fillOnLevelState
  try dsimp only
  repeat' first
    | with_reducible exact h
    | with_reducible assumption
    | with_reducible apply enterClosing_norise
    | with_reducible apply windowDecision_norise
    | with_reducible apply topUp_norise
    | split

theorem turnoverBecomesDone_norise (s : State) (h : Norise (Part.fill.read s)) :
    Norise (Part.fill.read (State.turnoverBecomesDone s)) := by
  unfold State.turnoverBecomesDone
  try dsimp only
  repeat' first
    | with_reducible exact h
    | with_reducible assumption
    | (intro b hb; exact hb)
    | with_reducible apply updFill_norise
    | with_reducible apply windowDecision_norise
    | with_reducible apply evaluatePlan_norise
    | split

theorem fillOnLevel_norise (lr : LevelRecord) (s : State) (h : Norise (Part.fill.read s)) :
    Norise (Part.fill.read (State.fillOnLevel lr s)) := by
  unfold State.fillOnLevel
  try dsimp only
  repeat' first
    | with_reducible exact h
    | with_reducible assumption
    | with_reducible apply fillOnLevelState_norise
    | with_reducible apply turnoverBecomesDone_norise
    | split

theorem closeConfirmed_norise (s : State) (h : Norise (Part.fill.read s)) :
    Norise (Part.fill.read (State.closeConfirmed s)) := by
  unfold State.closeConfirmed
  try dsimp only
  repeat' first
    | with_reducible exact h
    | with_reducible assumption
    | (intro b hb; exact hb)
    | with_reducible apply updFill_norise
    | with_reducible apply setFill_norise
    | with_reducible apply evaluatePlan_norise
    | split

theorem fillOnCommand_norise (target : Nat) (o : CommandOutcome) (s : State) (h : Norise (Part.fill.read s)) :
    Norise (Part.fill.read (State.fillOnCommand target o s)) := by
  unfold State.fillOnCommand
  try dsimp only
  repeat' first
    | with_reducible exact h
    | with_reducible assumption
    | (intro b hb; exact hb)
    | with_reducible apply updFill_norise
    | with_reducible apply setFill_norise
    | with_reducible apply fillingDemand_norise
    | with_reducible apply changeInhibit_norise
    | with_reducible apply closeConfirmed_norise
    | split

theorem replaceOrder_norise (order : FillOrder) (s : State) (h : Norise (Part.fill.read s)) :
    Norise (Part.fill.read (State.replaceOrder order s)) := by
  unfold State.replaceOrder
  try dsimp only
  repeat' first
    | with_reducible exact h
    | with_reducible assumption
    | (intro b hb; exact hb)
    | with_reducible apply updFill_norise
    | with_reducible apply endWindow_norise
    | split

theorem orderHold_norise (s : State) (h : Norise (Part.fill.read s)) :
    Norise (Part.fill.read (State.orderHold s)) := by
  unfold State.orderHold
  try dsimp only
  repeat' first
    | with_reducible exact h
    | with_reducible assumption
    | with_reducible apply changeInhibit_norise
    | with_reducible apply replaceOrder_norise

theorem orderLapses_norise (s : State) (h : Norise (Part.fill.read s)) :
    Norise (Part.fill.read (State.orderLapses s)) := by
  unfold State.orderLapses
  try dsimp only
  repeat' first
    | with_reducible exact h
    | with_reducible assumption
    | with_reducible apply changeInhibit_norise
    | with_reducible apply replaceOrder_norise
    | with_reducible apply orderHold_norise
    | split

theorem guardTakes_norise (n : Notice) (s : State) (h : Norise (Part.fill.read s)) :
    Norise (Part.fill.read (State.guardTakes n s)) := by
  unfold State.guardTakes
  try dsimp only
  repeat' first
    | with_reducible exact h
    | with_reducible assumption
    | with_reducible apply guardEvaluate_norise
    | with_reducible apply guardOnTripWork_norise
    | with_reducible apply guardOnLevel_norise
    | with_reducible apply guardOnPipe_norise
    | rw [guardOnPoints_read (part := .fill) (by decide)]
    | rw [guardOnUrgent_read (part := .fill) (by decide)]
    | split

theorem fillTakes_norise (n : Notice) (s : State) (h : Norise (Part.fill.read s)) :
    Norise (Part.fill.read (State.fillTakes n s)) := by
  unfold State.fillTakes
  try dsimp only
  repeat' first
    | with_reducible exact h
    | with_reducible assumption
    | with_reducible apply windowDecision_norise
    | with_reducible apply fillEvent_norise
    | with_reducible apply changeInhibit_norise
    | with_reducible apply fillOnLevel_norise
    | with_reducible apply fillOnCommand_norise
    | with_reducible apply orderLapses_norise
    | split

theorem deliver_norise (d : Delivery) (s : State) (h : Norise (Part.fill.read s)) :
    Norise (Part.fill.read (State.deliver d s)) := by
  unfold State.deliver
  try dsimp only
  repeat' first
    | with_reducible exact h
    | with_reducible assumption
    | with_reducible apply guardTakes_norise
    | with_reducible apply fillTakes_norise
    | rw [levelTakes_read (part := .fill) (by decide)]
    | rw [frostTakes_read (part := .fill) (by decide)]
    | rw [lineTakes_read (part := .fill) (by decide)]
    | rw [telemetryTakes_read (part := .fill) (by decide)]
    | rw [storeTakes_read (part := .fill) (by decide)]
    | split

theorem deliverOne_norise (pick : Nat → Nat) (s : State) (h : Norise (Part.fill.read s)) :
    Norise (Part.fill.read (State.deliverOne pick s)) := by
  unfold State.deliverOne
  try dsimp only
  repeat' first
    | with_reducible exact h
    | with_reducible assumption
    | with_reducible apply deliver_norise
    | split
    | fail_if_no_progress rw [setNotices_read (part := .fill) (by decide)]
    | fail_if_no_progress rw [setNoticesDraws_read (part := .fill) (by decide)]

theorem drain_norise (pick : Nat → Nat) (fuel : Nat) (s : State)
    (h : Norise (Part.fill.read s)) :
    Norise (Part.fill.read (State.drain pick fuel s)) := by
  induction fuel generalizing s with
  | zero => exact h
  | succ fuel ih =>
    simp only [State.drain]
    split
    · exact h
    · exact ih _ (deliverOne_norise pick s h)

/-! ### Every evaluation of an event aims the plan interval at the same time (R93). -/


/-- The plan interval is aimed from the time `us` (R93). -/
def Aimed (t : Tables) (us : Nat) (b : FillBlock) : Prop :=
  b.planAt = t.fillSet.map fun f => us / 1000 + f.planInterval * 60000

variable {t0 : Tables} {u0 : Nat}

theorem updFill_aimed (g : FillBlock → FillBlock) (hg : ∀ b, Aimed t0 u0 b → Aimed t0 u0 (g b)) (s : State)
    (h : Aimed t0 u0 (Part.fill.read s)) : Aimed t0 u0 (Part.fill.read (s.updFill g)) := hg _ h

theorem queueDemand_aimed (s : State) (hT : Part.tables.read s = t0) (hU : Part.timeUs.read s = u0) (h : Aimed t0 u0 (Part.fill.read s)) :
    Aimed t0 u0 (Part.fill.read (State.queueDemand s)) := by
  unfold State.queueDemand
  try dsimp only
  repeat' first
    | with_reducible exact h
    | with_reducible assumption
    | exact hT
    | exact hU
    | (with_reducible refine Eq.trans ?_ hT; (simp; done))
    | (with_reducible refine Eq.trans ?_ hU; (simp; done))
    | (intro b hb; exact hb)
    | with_reducible apply updFill_aimed
    | rw [offer_read (part := .fill) (by decide)]

theorem zeroDemandHead_aimed (s : State) (hT : Part.tables.read s = t0) (hU : Part.timeUs.read s = u0) (h : Aimed t0 u0 (Part.fill.read s)) :
    Aimed t0 u0 (Part.fill.read (State.zeroDemandHead s)) := by
  unfold State.zeroDemandHead
  try dsimp only
  repeat' first
    | with_reducible exact h
    | with_reducible assumption
    | exact hT
    | exact hU
    | (with_reducible refine Eq.trans ?_ hT; (simp; done))
    | (with_reducible refine Eq.trans ?_ hU; (simp; done))
    | (intro b hb; exact hb)
    | with_reducible apply updFill_aimed
    | rw [updOut_read (part := .fill) (by decide)]

theorem setDemand_aimed (d : Nat) (s : State) (hT : Part.tables.read s = t0) (hU : Part.timeUs.read s = u0) (h : Aimed t0 u0 (Part.fill.read s)) :
    Aimed t0 u0 (Part.fill.read (State.setDemand d s)) := by
  unfold State.setDemand
  try dsimp only
  repeat' first
    | with_reducible exact h
    | with_reducible assumption
    | exact hT
    | exact hU
    | (with_reducible refine Eq.trans ?_ hT; (simp; done))
    | (with_reducible refine Eq.trans ?_ hU; (simp; done))
    | (intro b hb; exact hb)
    | with_reducible apply updFill_aimed
    | with_reducible apply queueDemand_aimed
    | rw [send_read (part := .fill) (by decide)]
    | split

theorem guardZero_aimed (s : State) (hT : Part.tables.read s = t0) (hU : Part.timeUs.read s = u0) (h : Aimed t0 u0 (Part.fill.read s)) :
    Aimed t0 u0 (Part.fill.read (State.guardZero s)) := by
  unfold State.guardZero
  try dsimp only
  repeat' first
    | with_reducible exact h
    | with_reducible assumption
    | exact hT
    | exact hU
    | (with_reducible refine Eq.trans ?_ hT; (simp; done))
    | (with_reducible refine Eq.trans ?_ hU; (simp; done))
    | with_reducible apply zeroDemandHead_aimed
    | rw [passFill_read (part := .fill) (by decide)]

theorem trip_aimed (cause : TripCause) (lr : LevelRecord) (s : State) (hT : Part.tables.read s = t0) (hU : Part.timeUs.read s = u0) (h : Aimed t0 u0 (Part.fill.read s)) :
    Aimed t0 u0 (Part.fill.read (State.trip cause lr s)) := by
  unfold State.trip
  try dsimp only
  repeat' first
    | with_reducible exact h
    | with_reducible assumption
    | exact hT
    | exact hU
    | (with_reducible refine Eq.trans ?_ hT; (simp; done))
    | (with_reducible refine Eq.trans ?_ hU; (simp; done))
    | with_reducible apply guardZero_aimed
    | rw [updGuard_read (part := .fill) (by decide)]
    | rw [updTelemetry_read (part := .fill) (by decide)]
    | rw [send_read (part := .fill) (by decide)]
    | rw [offer_read (part := .fill) (by decide)]
    | rw [fault_read (part := .fill) (by decide)]
    | rw [placeUrgent_read (part := .fill) (by decide)]
    | rw [askTripWork_read (part := .fill) (by decide)]
    | rw [tellGuard_read (part := .fill) (by decide)]
    | rw [startWatch_read (part := .fill) (by decide)]
    | split

theorem tripCondition_aimed (cause : TripCause) (lr : LevelRecord) (s : State) (hT : Part.tables.read s = t0) (hU : Part.timeUs.read s = u0) (h : Aimed t0 u0 (Part.fill.read s)) :
    Aimed t0 u0 (Part.fill.read (State.tripCondition cause lr s)) := by
  unfold State.tripCondition
  try dsimp only
  repeat' first
    | with_reducible exact h
    | with_reducible assumption
    | exact hT
    | exact hU
    | (with_reducible refine Eq.trans ?_ hT; (simp; done))
    | (with_reducible refine Eq.trans ?_ hU; (simp; done))
    | with_reducible apply trip_aimed
    | rw [updGuard_read (part := .fill) (by decide)]
    | split

theorem anticipate_aimed (s : State) (hT : Part.tables.read s = t0) (hU : Part.timeUs.read s = u0) (h : Aimed t0 u0 (Part.fill.read s)) :
    Aimed t0 u0 (Part.fill.read (State.anticipate s)) := by
  unfold State.anticipate
  try dsimp only
  repeat' first
    | with_reducible exact h
    | with_reducible assumption
    | exact hT
    | exact hU
    | (with_reducible refine Eq.trans ?_ hT; (simp; done))
    | (with_reducible refine Eq.trans ?_ hU; (simp; done))
    | with_reducible apply guardZero_aimed
    | rw [updGuard_read (part := .fill) (by decide)]
    | rw [send_read (part := .fill) (by decide)]
    | rw [placeCommand_read (part := .fill) (by decide)]
    | rw [tellGuard_read (part := .fill) (by decide)]
    | split

theorem guardEvaluate_aimed (lr : LevelRecord) (s : State) (hT : Part.tables.read s = t0) (hU : Part.timeUs.read s = u0) (h : Aimed t0 u0 (Part.fill.read s)) :
    Aimed t0 u0 (Part.fill.read (State.guardEvaluate lr s)) := by
  unfold State.guardEvaluate
  try dsimp only
  repeat' first
    | with_reducible exact h
    | with_reducible assumption
    | exact hT
    | exact hU
    | (with_reducible refine Eq.trans ?_ hT; (simp; done))
    | (with_reducible refine Eq.trans ?_ hU; (simp; done))
    | with_reducible apply trip_aimed
    | with_reducible apply tripCondition_aimed
    | with_reducible apply anticipate_aimed
    | rw [updGuard_read (part := .fill) (by decide)]
    | rw [send_read (part := .fill) (by decide)]
    | rw [rearmGuard_read (part := .fill) (by decide)]
    | split

theorem levelHoldEnds_aimed (s : State) (hT : Part.tables.read s = t0) (hU : Part.timeUs.read s = u0) (h : Aimed t0 u0 (Part.fill.read s)) :
    Aimed t0 u0 (Part.fill.read (State.levelHoldEnds s)) := by
  unfold State.levelHoldEnds
  try dsimp only
  repeat' first
    | with_reducible exact h
    | with_reducible assumption
    | exact hT
    | exact hU
    | (with_reducible refine Eq.trans ?_ hT; (simp; done))
    | (with_reducible refine Eq.trans ?_ hU; (simp; done))
    | with_reducible apply tripCondition_aimed
    | rw [updGuard_read (part := .fill) (by decide)]

theorem armHold_aimed (g : GuardSet) (since : Nat) (s : State) (hT : Part.tables.read s = t0) (hU : Part.timeUs.read s = u0) (h : Aimed t0 u0 (Part.fill.read s)) :
    Aimed t0 u0 (Part.fill.read (State.armHold g since s)) := by
  unfold State.armHold
  try dsimp only
  repeat' first
    | with_reducible exact h
    | with_reducible assumption
    | exact hT
    | exact hU
    | (with_reducible refine Eq.trans ?_ hT; (simp; done))
    | (with_reducible refine Eq.trans ?_ hU; (simp; done))
    | with_reducible apply levelHoldEnds_aimed
    | rw [updGuard_read (part := .fill) (by decide)]
    | split

theorem holdOnNotice_aimed (lr : LevelRecord) (s : State) (hT : Part.tables.read s = t0) (hU : Part.timeUs.read s = u0) (h : Aimed t0 u0 (Part.fill.read s)) :
    Aimed t0 u0 (Part.fill.read (State.holdOnNotice lr s)) := by
  unfold State.holdOnNotice
  try dsimp only
  repeat' first
    | with_reducible exact h
    | with_reducible assumption
    | exact hT
    | exact hU
    | (with_reducible refine Eq.trans ?_ hT; (simp; done))
    | (with_reducible refine Eq.trans ?_ hU; (simp; done))
    | with_reducible apply armHold_aimed
    | rw [updGuard_read (part := .fill) (by decide)]
    | split

theorem completeReset_aimed (s : State) (hT : Part.tables.read s = t0) (hU : Part.timeUs.read s = u0) (h : Aimed t0 u0 (Part.fill.read s)) :
    Aimed t0 u0 (Part.fill.read (State.completeReset s)) := by
  unfold State.completeReset
  try dsimp only
  repeat' first
    | with_reducible exact h
    | with_reducible assumption
    | exact hT
    | exact hU
    | (with_reducible refine Eq.trans ?_ hT; (simp; done))
    | (with_reducible refine Eq.trans ?_ hU; (simp; done))
    | with_reducible apply trip_aimed
    | with_reducible apply guardEvaluate_aimed
    | rw [updGuard_read (part := .fill) (by decide)]
    | rw [send_read (part := .fill) (by decide)]
    | rw [respond_read (part := .fill) (by decide)]
    | rw [tellGuard_read (part := .fill) (by decide)]
    | split

theorem guardOnTripWork_aimed (e : TripEntry) (slot : Option Nat) (s : State) (hT : Part.tables.read s = t0) (hU : Part.timeUs.read s = u0) (h : Aimed t0 u0 (Part.fill.read s)) :
    Aimed t0 u0 (Part.fill.read (State.guardOnTripWork e slot s)) := by
  unfold State.guardOnTripWork
  try dsimp only
  repeat' first
    | with_reducible exact h
    | with_reducible assumption
    | exact hT
    | exact hU
    | (with_reducible refine Eq.trans ?_ hT; (simp; done))
    | (with_reducible refine Eq.trans ?_ hU; (simp; done))
    | with_reducible apply trip_aimed
    | with_reducible apply completeReset_aimed
    | rw [updGuard_read (part := .fill) (by decide)]
    | rw [send_read (part := .fill) (by decide)]
    | rw [askTripWork_read (part := .fill) (by decide)]
    | split

theorem guardOnLevel_aimed (lr : LevelRecord) (s : State) (hT : Part.tables.read s = t0) (hU : Part.timeUs.read s = u0) (h : Aimed t0 u0 (Part.fill.read s)) :
    Aimed t0 u0 (Part.fill.read (State.guardOnLevel lr s)) := by
  unfold State.guardOnLevel
  try dsimp only
  repeat' first
    | with_reducible exact h
    | with_reducible assumption
    | exact hT
    | exact hU
    | (with_reducible refine Eq.trans ?_ hT; (simp; done))
    | (with_reducible refine Eq.trans ?_ hU; (simp; done))
    | with_reducible apply guardEvaluate_aimed
    | with_reducible apply holdOnNotice_aimed

theorem guardOnPipe_aimed (flag : Bool) (s : State) (hT : Part.tables.read s = t0) (hU : Part.timeUs.read s = u0) (h : Aimed t0 u0 (Part.fill.read s)) :
    Aimed t0 u0 (Part.fill.read (State.guardOnPipe flag s)) := by
  unfold State.guardOnPipe
  try dsimp only
  repeat' first
    | with_reducible exact h
    | with_reducible assumption
    | exact hT
    | exact hU
    | (with_reducible refine Eq.trans ?_ hT; (simp; done))
    | (with_reducible refine Eq.trans ?_ hU; (simp; done))
    | with_reducible apply guardEvaluate_aimed
    | rw [updGuard_read (part := .fill) (by decide)]

theorem setFill_aimed (state : FillState) (purpose : Option Purpose) (s : State) (hT : Part.tables.read s = t0) (hU : Part.timeUs.read s = u0) (h : Aimed t0 u0 (Part.fill.read s)) :
    Aimed t0 u0 (Part.fill.read (State.setFill state purpose s)) := by
  unfold State.setFill
  try dsimp only
  repeat' first
    | with_reducible exact h
    | with_reducible assumption
    | exact hT
    | exact hU
    | (with_reducible refine Eq.trans ?_ hT; (simp; done))
    | (with_reducible refine Eq.trans ?_ hU; (simp; done))
    | (intro b hb; exact hb)
    | with_reducible apply updFill_aimed

theorem placeOpen_aimed (s : State) (hT : Part.tables.read s = t0) (hU : Part.timeUs.read s = u0) (h : Aimed t0 u0 (Part.fill.read s)) :
    Aimed t0 u0 (Part.fill.read (State.placeOpen s)) := by
  unfold State.placeOpen
  try dsimp only
  repeat' first
    | with_reducible exact h
    | with_reducible assumption
    | exact hT
    | exact hU
    | (with_reducible refine Eq.trans ?_ hT; (simp; done))
    | (with_reducible refine Eq.trans ?_ hU; (simp; done))
    | (intro b hb; exact hb)
    | with_reducible apply updFill_aimed
    | rw [placeCommand_read (part := .fill) (by decide)]
    | split

theorem enterOpening_aimed (p : Purpose) (s : State) (hT : Part.tables.read s = t0) (hU : Part.timeUs.read s = u0) (h : Aimed t0 u0 (Part.fill.read s)) :
    Aimed t0 u0 (Part.fill.read (State.enterOpening p s)) := by
  unfold State.enterOpening
  try dsimp only
  repeat' first
    | with_reducible exact h
    | with_reducible assumption
    | exact hT
    | exact hU
    | (with_reducible refine Eq.trans ?_ hT; (simp; done))
    | (with_reducible refine Eq.trans ?_ hU; (simp; done))
    | (intro b hb; exact hb)
    | with_reducible apply updFill_aimed
    | with_reducible apply setFill_aimed
    | with_reducible apply placeOpen_aimed

theorem enterClosing_aimed (s : State) (hT : Part.tables.read s = t0) (hU : Part.timeUs.read s = u0) (h : Aimed t0 u0 (Part.fill.read s)) :
    Aimed t0 u0 (Part.fill.read (State.enterClosing s)) := by
  unfold State.enterClosing
  try dsimp only
  repeat' first
    | with_reducible exact h
    | with_reducible assumption
    | exact hT
    | exact hU
    | (with_reducible refine Eq.trans ?_ hT; (simp; done))
    | (with_reducible refine Eq.trans ?_ hU; (simp; done))
    | (intro b hb; exact hb)
    | with_reducible apply updFill_aimed
    | with_reducible apply setDemand_aimed
    | with_reducible apply setFill_aimed

theorem enterHeld_aimed (s : State) (hT : Part.tables.read s = t0) (hU : Part.timeUs.read s = u0) (h : Aimed t0 u0 (Part.fill.read s)) :
    Aimed t0 u0 (Part.fill.read (State.enterHeld s)) := by
  unfold State.enterHeld
  try dsimp only
  repeat' first
    | with_reducible exact h
    | with_reducible assumption
    | exact hT
    | exact hU
    | (with_reducible refine Eq.trans ?_ hT; (simp; done))
    | (with_reducible refine Eq.trans ?_ hU; (simp; done))
    | with_reducible apply setDemand_aimed
    | with_reducible apply setFill_aimed

theorem fillingDemand_aimed (s : State) (hT : Part.tables.read s = t0) (hU : Part.timeUs.read s = u0) (h : Aimed t0 u0 (Part.fill.read s)) :
    Aimed t0 u0 (Part.fill.read (State.fillingDemand s)) := by
  unfold State.fillingDemand
  try dsimp only
  repeat' first
    | with_reducible exact h
    | with_reducible assumption
    | exact hT
    | exact hU
    | (with_reducible refine Eq.trans ?_ hT; (simp; done))
    | (with_reducible refine Eq.trans ?_ hU; (simp; done))
    | with_reducible apply setDemand_aimed

theorem takeTopUp_aimed (fs : FillSet) (s : State) (hT : Part.tables.read s = t0) (hU : Part.timeUs.read s = u0) (h : Aimed t0 u0 (Part.fill.read s)) :
    Aimed t0 u0 (Part.fill.read (State.takeTopUp fs s)) := by
  unfold State.takeTopUp
  try dsimp only
  repeat' first
    | with_reducible exact h
    | with_reducible assumption
    | exact hT
    | exact hU
    | (with_reducible refine Eq.trans ?_ hT; (simp; done))
    | (with_reducible refine Eq.trans ?_ hU; (simp; done))
    | (intro b hb; exact hb)
    | with_reducible apply updFill_aimed

theorem windowDecision_aimed (turned : Bool) (s : State) (hT : Part.tables.read s = t0) (hU : Part.timeUs.read s = u0) (h : Aimed t0 u0 (Part.fill.read s)) :
    Aimed t0 u0 (Part.fill.read (State.windowDecision turned s)) := by
  unfold State.windowDecision
  try dsimp only
  repeat' first
    | with_reducible exact h
    | with_reducible assumption
    | exact hT
    | exact hU
    | (with_reducible refine Eq.trans ?_ hT; (simp; done))
    | (with_reducible refine Eq.trans ?_ hU; (simp; done))
    | with_reducible apply setFill_aimed
    | with_reducible apply enterOpening_aimed
    | split

theorem topUp_aimed (fs : FillSet) (s : State) (hT : Part.tables.read s = t0) (hU : Part.timeUs.read s = u0) (h : Aimed t0 u0 (Part.fill.read s)) :
    Aimed t0 u0 (Part.fill.read (State.topUp fs s)) := by
  unfold State.topUp
  try dsimp only
  repeat' first
    | with_reducible exact h
    | with_reducible assumption
    | exact hT
    | exact hU
    | (with_reducible refine Eq.trans ?_ hT; (simp; done))
    | (with_reducible refine Eq.trans ?_ hU; (simp; done))
    | with_reducible apply enterOpening_aimed
    | with_reducible apply takeTopUp_aimed
    | split

theorem actOnPlan_aimed (fs : FillSet) (forced : Bool) (s : State) (hT : Part.tables.read s = t0) (hU : Part.timeUs.read s = u0) (h : Aimed t0 u0 (Part.fill.read s)) :
    Aimed t0 u0 (Part.fill.read (State.actOnPlan fs forced s)) := by
  unfold State.actOnPlan
  try dsimp only
  repeat' first
    | with_reducible exact h
    | with_reducible assumption
    | exact hT
    | exact hU
    | (with_reducible refine Eq.trans ?_ hT; (simp; done))
    | (with_reducible refine Eq.trans ?_ hU; (simp; done))
    | with_reducible apply placeOpen_aimed
    | with_reducible apply fillingDemand_aimed
    | with_reducible apply windowDecision_aimed
    | with_reducible apply topUp_aimed
    | split

/-- An evaluation aims the plan interval. -/
theorem evaluatePlan_aims (forced : Bool) (s : State) (hT : Part.tables.read s = t0) (hU : Part.timeUs.read s = u0) :
    Aimed t0 u0 (Part.fill.read (s.evaluatePlan forced)) := by
  unfold State.evaluatePlan
  split
  · rename_i hf
    have hf' : t0.fillSet = none := by rw [← hT]; exact hf
    simp [Aimed, hf', State.updFill, Part.read]
  · rename_i fs hf
    have hf' : t0.fillSet = some fs := by rw [← hT]; exact hf
    have hu' : s.timeUs = u0 := hU
    dsimp only
    apply actOnPlan_aimed
    · split
      · rw [fault_read (part := .tables) (by decide)]; exact hT
      · exact hT
    · split
      · rw [fault_read (part := .timeUs) (by decide)]; exact hU
      · exact hU
    · split
      · rw [fault_read (part := .fill) (by decide)]
        show _ = _
        rw [hf']; show some _ = some _; rw [State.now, hu']
      · show _ = _
        rw [hf']; show some _ = some _; rw [State.now, hu']

theorem evaluatePlan_aimed (forced : Bool) (s : State) (hT : Part.tables.read s = t0) (hU : Part.timeUs.read s = u0)
    (_h : Aimed t0 u0 (Part.fill.read s)) : Aimed t0 u0 (Part.fill.read (s.evaluatePlan forced)) :=
  evaluatePlan_aims forced s hT hU

theorem endWindow_aimed (force : Bool) (s : State) (hT : Part.tables.read s = t0) (hU : Part.timeUs.read s = u0) (h : Aimed t0 u0 (Part.fill.read s)) :
    Aimed t0 u0 (Part.fill.read (State.endWindow force s)) := by
  unfold State.endWindow
  try dsimp only
  repeat' first
    | with_reducible exact h
    | with_reducible assumption
    | exact hT
    | exact hU
    | (with_reducible refine Eq.trans ?_ hT; (simp; done))
    | (with_reducible refine Eq.trans ?_ hU; (simp; done))
    | (intro b hb; exact hb)
    | with_reducible apply updFill_aimed
    | with_reducible apply setFill_aimed
    | with_reducible apply enterClosing_aimed
    | with_reducible apply fillingDemand_aimed
    | with_reducible apply takeTopUp_aimed
    | with_reducible apply topUp_aimed
    | split

theorem placeClose_aimed (s : State) (hT : Part.tables.read s = t0) (hU : Part.timeUs.read s = u0) (h : Aimed t0 u0 (Part.fill.read s)) :
    Aimed t0 u0 (Part.fill.read (State.placeClose s)) := by
  unfold State.placeClose
  try dsimp only
  repeat' first
    | with_reducible exact h
    | with_reducible assumption
    | exact hT
    | exact hU
    | (with_reducible refine Eq.trans ?_ hT; (simp; done))
    | (with_reducible refine Eq.trans ?_ hU; (simp; done))
    | (intro b hb; exact hb)
    | with_reducible apply updFill_aimed
    | rw [placeCommand_read (part := .fill) (by decide)]
    | split

theorem closeSequence_aimed (s : State) (hT : Part.tables.read s = t0) (hU : Part.timeUs.read s = u0) (h : Aimed t0 u0 (Part.fill.read s)) :
    Aimed t0 u0 (Part.fill.read (State.closeSequence s)) := by
  unfold State.closeSequence
  try dsimp only
  repeat' first
    | with_reducible exact h
    | with_reducible assumption
    | exact hT
    | exact hU
    | (with_reducible refine Eq.trans ?_ hT; (simp; done))
    | (with_reducible refine Eq.trans ?_ hU; (simp; done))
    | (intro b hb; exact hb)
    | with_reducible apply updFill_aimed
    | with_reducible apply placeClose_aimed
    | split

theorem fillEvent_aimed (f : State → State) (s : State) (hT : Part.tables.read (f s) = t0) (hU : Part.timeUs.read (f s) = u0)
    (h : Aimed t0 u0 (Part.fill.read (f s))) : Aimed t0 u0 (Part.fill.read (State.fillEvent f s)) := by
  unfold State.fillEvent
  rw [passFill_read (part := .fill) (by decide)]
  exact closeSequence_aimed _ hT hU h

theorem changeInhibit_aimed (add : List Reason) (remove : List Reason) (s : State) (hT : Part.tables.read s = t0) (hU : Part.timeUs.read s = u0) (h : Aimed t0 u0 (Part.fill.read s)) :
    Aimed t0 u0 (Part.fill.read (State.changeInhibit add remove s)) := by
  unfold State.changeInhibit
  try dsimp only
  repeat' first
    | with_reducible exact h
    | with_reducible assumption
    | exact hT
    | exact hU
    | (with_reducible refine Eq.trans ?_ hT; (simp; done))
    | (with_reducible refine Eq.trans ?_ hU; (simp; done))
    | (intro b hb; exact hb)
    | with_reducible apply updFill_aimed
    | with_reducible apply setFill_aimed
    | with_reducible apply enterHeld_aimed
    | with_reducible apply evaluatePlan_aimed
    | split

theorem fillOnLevelState_aimed (fs : FillSet) (lr : LevelRecord) (s : State) (hT : Part.tables.read s = t0) (hU : Part.timeUs.read s = u0) (h : Aimed t0 u0 (Part.fill.read s)) :
    Aimed t0 u0 (Part.fill.read (State.fillOnLevelState fs lr s)) := by
  unfold State.fillOnLevelState
  try dsimp only
  repeat' first
    | with_reducible exact h
    | with_reducible assumption
    | exact hT
    | exact hU
    | (with_reducible refine Eq.trans ?_ hT; (simp; done))
    | (with_reducible refine Eq.trans ?_ hU; (simp; done))
    | with_reducible apply enterClosing_aimed
    | with_reducible apply windowDecision_aimed
    | with_reducible apply topUp_aimed
    | split

theorem turnoverBecomesDone_aimed (s : State) (hT : Part.tables.read s = t0) (hU : Part.timeUs.read s = u0) (h : Aimed t0 u0 (Part.fill.read s)) :
    Aimed t0 u0 (Part.fill.read (State.turnoverBecomesDone s)) := by
  unfold State.turnoverBecomesDone
  try dsimp only
  repeat' first
    | with_reducible exact h
    | with_reducible assumption
    | exact hT
    | exact hU
    | (with_reducible refine Eq.trans ?_ hT; (simp; done))
    | (with_reducible refine Eq.trans ?_ hU; (simp; done))
    | (intro b hb; exact hb)
    | with_reducible apply updFill_aimed
    | with_reducible apply windowDecision_aimed
    | with_reducible apply evaluatePlan_aimed
    | split

theorem fillOnLevel_aimed (lr : LevelRecord) (s : State) (hT : Part.tables.read s = t0) (hU : Part.timeUs.read s = u0) (h : Aimed t0 u0 (Part.fill.read s)) :
    Aimed t0 u0 (Part.fill.read (State.fillOnLevel lr s)) := by
  unfold State.fillOnLevel
  try dsimp only
  repeat' first
    | with_reducible exact h
    | with_reducible assumption
    | exact hT
    | exact hU
    | (with_reducible refine Eq.trans ?_ hT; (simp; done))
    | (with_reducible refine Eq.trans ?_ hU; (simp; done))
    | with_reducible apply fillOnLevelState_aimed
    | with_reducible apply turnoverBecomesDone_aimed
    | split

theorem closeConfirmed_aimed (s : State) (hT : Part.tables.read s = t0) (hU : Part.timeUs.read s = u0) (h : Aimed t0 u0 (Part.fill.read s)) :
    Aimed t0 u0 (Part.fill.read (State.closeConfirmed s)) := by
  unfold State.closeConfirmed
  try dsimp only
  repeat' first
    | with_reducible exact h
    | with_reducible assumption
    | exact hT
    | exact hU
    | (with_reducible refine Eq.trans ?_ hT; (simp; done))
    | (with_reducible refine Eq.trans ?_ hU; (simp; done))
    | (intro b hb; exact hb)
    | with_reducible apply updFill_aimed
    | with_reducible apply setFill_aimed
    | with_reducible apply evaluatePlan_aimed
    | split

theorem fillOnCommand_aimed (target : Nat) (o : CommandOutcome) (s : State) (hT : Part.tables.read s = t0) (hU : Part.timeUs.read s = u0) (h : Aimed t0 u0 (Part.fill.read s)) :
    Aimed t0 u0 (Part.fill.read (State.fillOnCommand target o s)) := by
  unfold State.fillOnCommand
  try dsimp only
  repeat' first
    | with_reducible exact h
    | with_reducible assumption
    | exact hT
    | exact hU
    | (with_reducible refine Eq.trans ?_ hT; (simp; done))
    | (with_reducible refine Eq.trans ?_ hU; (simp; done))
    | (intro b hb; exact hb)
    | with_reducible apply updFill_aimed
    | with_reducible apply setFill_aimed
    | with_reducible apply fillingDemand_aimed
    | with_reducible apply changeInhibit_aimed
    | with_reducible apply closeConfirmed_aimed
    | split

theorem replaceOrder_aimed (order : FillOrder) (s : State) (hT : Part.tables.read s = t0) (hU : Part.timeUs.read s = u0) (h : Aimed t0 u0 (Part.fill.read s)) :
    Aimed t0 u0 (Part.fill.read (State.replaceOrder order s)) := by
  unfold State.replaceOrder
  try dsimp only
  repeat' first
    | with_reducible exact h
    | with_reducible assumption
    | exact hT
    | exact hU
    | (with_reducible refine Eq.trans ?_ hT; (simp; done))
    | (with_reducible refine Eq.trans ?_ hU; (simp; done))
    | (intro b hb; exact hb)
    | with_reducible apply updFill_aimed
    | with_reducible apply endWindow_aimed
    | split

theorem orderHold_aimed (s : State) (hT : Part.tables.read s = t0) (hU : Part.timeUs.read s = u0) (h : Aimed t0 u0 (Part.fill.read s)) :
    Aimed t0 u0 (Part.fill.read (State.orderHold s)) := by
  unfold State.orderHold
  try dsimp only
  repeat' first
    | with_reducible exact h
    | with_reducible assumption
    | exact hT
    | exact hU
    | (with_reducible refine Eq.trans ?_ hT; (simp; done))
    | (with_reducible refine Eq.trans ?_ hU; (simp; done))
    | with_reducible apply changeInhibit_aimed
    | with_reducible apply replaceOrder_aimed

theorem orderLapses_aimed (s : State) (hT : Part.tables.read s = t0) (hU : Part.timeUs.read s = u0) (h : Aimed t0 u0 (Part.fill.read s)) :
    Aimed t0 u0 (Part.fill.read (State.orderLapses s)) := by
  unfold State.orderLapses
  try dsimp only
  repeat' first
    | with_reducible exact h
    | with_reducible assumption
    | exact hT
    | exact hU
    | (with_reducible refine Eq.trans ?_ hT; (simp; done))
    | (with_reducible refine Eq.trans ?_ hU; (simp; done))
    | with_reducible apply changeInhibit_aimed
    | with_reducible apply replaceOrder_aimed
    | with_reducible apply orderHold_aimed
    | split

theorem guardTakes_aimed (n : Notice) (s : State) (hT : Part.tables.read s = t0) (hU : Part.timeUs.read s = u0) (h : Aimed t0 u0 (Part.fill.read s)) :
    Aimed t0 u0 (Part.fill.read (State.guardTakes n s)) := by
  unfold State.guardTakes
  try dsimp only
  repeat' first
    | with_reducible exact h
    | with_reducible assumption
    | exact hT
    | exact hU
    | (with_reducible refine Eq.trans ?_ hT; (simp; done))
    | (with_reducible refine Eq.trans ?_ hU; (simp; done))
    | with_reducible apply guardEvaluate_aimed
    | with_reducible apply guardOnTripWork_aimed
    | with_reducible apply guardOnLevel_aimed
    | with_reducible apply guardOnPipe_aimed
    | rw [guardOnPoints_read (part := .fill) (by decide)]
    | rw [guardOnUrgent_read (part := .fill) (by decide)]
    | split

theorem fillTakes_aimed (n : Notice) (s : State) (hT : Part.tables.read s = t0) (hU : Part.timeUs.read s = u0) (h : Aimed t0 u0 (Part.fill.read s)) :
    Aimed t0 u0 (Part.fill.read (State.fillTakes n s)) := by
  unfold State.fillTakes
  try dsimp only
  repeat' first
    | with_reducible exact h
    | with_reducible assumption
    | exact hT
    | exact hU
    | (with_reducible refine Eq.trans ?_ hT; (simp; done))
    | (with_reducible refine Eq.trans ?_ hU; (simp; done))
    | with_reducible apply windowDecision_aimed
    | with_reducible apply fillEvent_aimed
    | with_reducible apply changeInhibit_aimed
    | with_reducible apply fillOnLevel_aimed
    | with_reducible apply fillOnCommand_aimed
    | with_reducible apply orderLapses_aimed
    | split

theorem deliver_aimed (d : Delivery) (s : State) (hT : Part.tables.read s = t0) (hU : Part.timeUs.read s = u0) (h : Aimed t0 u0 (Part.fill.read s)) :
    Aimed t0 u0 (Part.fill.read (State.deliver d s)) := by
  unfold State.deliver
  try dsimp only
  repeat' first
    | with_reducible exact h
    | with_reducible assumption
    | exact hT
    | exact hU
    | (with_reducible refine Eq.trans ?_ hT; (simp; done))
    | (with_reducible refine Eq.trans ?_ hU; (simp; done))
    | with_reducible apply guardTakes_aimed
    | with_reducible apply fillTakes_aimed
    | rw [levelTakes_read (part := .fill) (by decide)]
    | rw [frostTakes_read (part := .fill) (by decide)]
    | rw [lineTakes_read (part := .fill) (by decide)]
    | rw [telemetryTakes_read (part := .fill) (by decide)]
    | rw [storeTakes_read (part := .fill) (by decide)]
    | split

theorem deliverOne_aimed (pick : Nat → Nat) (s : State) (hT : Part.tables.read s = t0) (hU : Part.timeUs.read s = u0) (h : Aimed t0 u0 (Part.fill.read s)) :
    Aimed t0 u0 (Part.fill.read (State.deliverOne pick s)) := by
  unfold State.deliverOne
  try dsimp only
  repeat' first
    | with_reducible exact h
    | with_reducible assumption
    | exact hT
    | exact hU
    | (with_reducible refine Eq.trans ?_ hT; (simp; done))
    | (with_reducible refine Eq.trans ?_ hU; (simp; done))
    | with_reducible apply deliver_aimed
    | split
    | fail_if_no_progress rw [setNotices_read (part := .fill) (by decide)]
    | fail_if_no_progress rw [setNoticesDraws_read (part := .fill) (by decide)]

theorem drain_aimed (pick : Nat → Nat) (fuel : Nat) (s : State) (hT : Part.tables.read s = t0) (hU : Part.timeUs.read s = u0) (h : Aimed t0 u0 (Part.fill.read s)) :
    Aimed t0 u0 (Part.fill.read (State.drain pick fuel s)) := by
  induction fuel generalizing s with
  | zero => exact h
  | succ fuel ih =>
    simp only [State.drain]
    split
    · exact h
    · refine ih _ ?_ ?_ (deliverOne_aimed pick s hT hU h)
      · rw [deliverOne_read (by decide)]; exact hT
      · rw [deliverOne_read (by decide)]; exact hU

/-! ### The line cycle, the channels, the repeater slots and the pass queue change in no notice of an event. -/


/-- A line that agrees with `l0` in its cycle, its channels, its slots and its pass queue. -/
def Cycles (l0 l : LineBlock) : Prop :=
  l.rate = l0.rate ∧ l.lsbFirst = l0.lsbFirst ∧ l.cycle = l0.cycle ∧ l.cycleStartUs = l0.cycleStartUs ∧ l.late = l0.late ∧
    l.live = l0.live ∧ l.slots = l0.slots ∧ l.pass = l0.pass

variable {l0 : LineBlock}

theorem updLine_cycles (g : LineBlock → LineBlock) (hg : ∀ b, Cycles l0 b → Cycles l0 (g b)) (s : State)
    (h : Cycles l0 (Part.line.read s)) : Cycles l0 (Part.line.read (s.updLine g)) := hg _ h

theorem supersedeCommand_cycles (address : Nat) (item : Nat) (s : State) (h : Cycles l0 (Part.line.read s)) :
    Cycles l0 (Part.line.read (State.supersedeCommand address item s)) := by
  unfold State.supersedeCommand
  try dsimp only
  repeat' first
    | with_reducible exact h
    | with_reducible assumption
    | (intro b hb; exact hb)
    | with_reducible apply updLine_cycles

theorem removeCommand_cycles (address : Nat) (item : Nat) (s : State) (h : Cycles l0 (Part.line.read s)) :
    Cycles l0 (Part.line.read (State.removeCommand address item s)) := by
  unfold State.removeCommand
  try dsimp only
  repeat' first
    | with_reducible exact h
    | with_reducible assumption
    | (intro b hb; exact hb)
    | with_reducible apply updLine_cycles
    | with_reducible apply supersedeCommand_cycles

theorem placeCommand_cycles (address : Nat) (item : Nat) (feedback : Nat) (origin : Origin) (target : Nat) (s : State) (h : Cycles l0 (Part.line.read s)) :
    Cycles l0 (Part.line.read (State.placeCommand address item feedback origin target s).1) := by
  unfold State.placeCommand
  try dsimp only
  repeat' first
    | with_reducible exact h
    | with_reducible assumption
    | (intro b hb; exact hb)
    | with_reducible apply updLine_cycles
    | with_reducible apply supersedeCommand_cycles
    | split

theorem placeUrgent_cycles (s : State) (h : Cycles l0 (Part.line.read s)) :
    Cycles l0 (Part.line.read (State.placeUrgent s)) := by
  unfold State.placeUrgent
  try dsimp only
  repeat' first
    | with_reducible exact h
    | with_reducible assumption
    | (intro b hb; exact hb)
    | with_reducible apply updLine_cycles
    | with_reducible apply removeCommand_cycles
    | rw [send_read (part := .line) (by decide)]
    | split

theorem guardOnPoints_cycles (ps : List Nat) (s : State) (h : Cycles l0 (Part.line.read s)) :
    Cycles l0 (Part.line.read (State.guardOnPoints ps s)) := by
  unfold State.guardOnPoints
  try dsimp only
  repeat' first
    | with_reducible exact h
    | with_reducible assumption
    | with_reducible apply placeUrgent_cycles
    | rw [updGuard_read (part := .line) (by decide)]
    | rw [startWatch_read (part := .line) (by decide)]
    | split

theorem trip_cycles (cause : TripCause) (lr : LevelRecord) (s : State) (h : Cycles l0 (Part.line.read s)) :
    Cycles l0 (Part.line.read (State.trip cause lr s)) := by
  unfold State.trip
  try dsimp only
  repeat' first
    | with_reducible exact h
    | with_reducible assumption
    | with_reducible apply placeUrgent_cycles
    | rw [updGuard_read (part := .line) (by decide)]
    | rw [updTelemetry_read (part := .line) (by decide)]
    | rw [send_read (part := .line) (by decide)]
    | rw [offer_read (part := .line) (by decide)]
    | rw [fault_read (part := .line) (by decide)]
    | rw [askTripWork_read (part := .line) (by decide)]
    | rw [tellGuard_read (part := .line) (by decide)]
    | rw [guardZero_read (part := .line) (by decide)]
    | rw [startWatch_read (part := .line) (by decide)]
    | split

theorem tripCondition_cycles (cause : TripCause) (lr : LevelRecord) (s : State) (h : Cycles l0 (Part.line.read s)) :
    Cycles l0 (Part.line.read (State.tripCondition cause lr s)) := by
  unfold State.tripCondition
  try dsimp only
  repeat' first
    | with_reducible exact h
    | with_reducible assumption
    | with_reducible apply trip_cycles
    | rw [updGuard_read (part := .line) (by decide)]
    | split

theorem anticipate_cycles (s : State) (h : Cycles l0 (Part.line.read s)) :
    Cycles l0 (Part.line.read (State.anticipate s)) := by
  unfold State.anticipate
  try dsimp only
  repeat' first
    | with_reducible exact h
    | with_reducible assumption
    | with_reducible apply placeCommand_cycles
    | rw [updGuard_read (part := .line) (by decide)]
    | rw [send_read (part := .line) (by decide)]
    | rw [tellGuard_read (part := .line) (by decide)]
    | rw [guardZero_read (part := .line) (by decide)]
    | split

theorem guardEvaluate_cycles (lr : LevelRecord) (s : State) (h : Cycles l0 (Part.line.read s)) :
    Cycles l0 (Part.line.read (State.guardEvaluate lr s)) := by
  unfold State.guardEvaluate
  try dsimp only
  repeat' first
    | with_reducible exact h
    | with_reducible assumption
    | with_reducible apply trip_cycles
    | with_reducible apply tripCondition_cycles
    | with_reducible apply anticipate_cycles
    | rw [updGuard_read (part := .line) (by decide)]
    | rw [send_read (part := .line) (by decide)]
    | rw [rearmGuard_read (part := .line) (by decide)]
    | split

theorem levelHoldEnds_cycles (s : State) (h : Cycles l0 (Part.line.read s)) :
    Cycles l0 (Part.line.read (State.levelHoldEnds s)) := by
  unfold State.levelHoldEnds
  try dsimp only
  repeat' first
    | with_reducible exact h
    | with_reducible assumption
    | with_reducible apply tripCondition_cycles
    | rw [updGuard_read (part := .line) (by decide)]

theorem armHold_cycles (g : GuardSet) (since : Nat) (s : State) (h : Cycles l0 (Part.line.read s)) :
    Cycles l0 (Part.line.read (State.armHold g since s)) := by
  unfold State.armHold
  try dsimp only
  repeat' first
    | with_reducible exact h
    | with_reducible assumption
    | with_reducible apply levelHoldEnds_cycles
    | rw [updGuard_read (part := .line) (by decide)]
    | split

theorem holdOnNotice_cycles (lr : LevelRecord) (s : State) (h : Cycles l0 (Part.line.read s)) :
    Cycles l0 (Part.line.read (State.holdOnNotice lr s)) := by
  unfold State.holdOnNotice
  try dsimp only
  repeat' first
    | with_reducible exact h
    | with_reducible assumption
    | with_reducible apply armHold_cycles
    | rw [updGuard_read (part := .line) (by decide)]
    | split

theorem completeReset_cycles (s : State) (h : Cycles l0 (Part.line.read s)) :
    Cycles l0 (Part.line.read (State.completeReset s)) := by
  unfold State.completeReset
  try dsimp only
  repeat' first
    | with_reducible exact h
    | with_reducible assumption
    | with_reducible apply trip_cycles
    | with_reducible apply guardEvaluate_cycles
    | rw [updGuard_read (part := .line) (by decide)]
    | rw [send_read (part := .line) (by decide)]
    | rw [respond_read (part := .line) (by decide)]
    | rw [tellGuard_read (part := .line) (by decide)]
    | split

theorem guardOnTripWork_cycles (e : TripEntry) (slot : Option Nat) (s : State) (h : Cycles l0 (Part.line.read s)) :
    Cycles l0 (Part.line.read (State.guardOnTripWork e slot s)) := by
  unfold State.guardOnTripWork
  try dsimp only
  repeat' first
    | with_reducible exact h
    | with_reducible assumption
    | with_reducible apply trip_cycles
    | with_reducible apply completeReset_cycles
    | rw [updGuard_read (part := .line) (by decide)]
    | rw [send_read (part := .line) (by decide)]
    | rw [askTripWork_read (part := .line) (by decide)]
    | split

theorem guardOnLevel_cycles (lr : LevelRecord) (s : State) (h : Cycles l0 (Part.line.read s)) :
    Cycles l0 (Part.line.read (State.guardOnLevel lr s)) := by
  unfold State.guardOnLevel
  try dsimp only
  repeat' first
    | with_reducible exact h
    | with_reducible assumption
    | with_reducible apply guardEvaluate_cycles
    | with_reducible apply holdOnNotice_cycles

theorem guardOnPipe_cycles (flag : Bool) (s : State) (h : Cycles l0 (Part.line.read s)) :
    Cycles l0 (Part.line.read (State.guardOnPipe flag s)) := by
  unfold State.guardOnPipe
  try dsimp only
  repeat' first
    | with_reducible exact h
    | with_reducible assumption
    | with_reducible apply guardEvaluate_cycles
    | rw [updGuard_read (part := .line) (by decide)]

theorem placeOpen_cycles (s : State) (h : Cycles l0 (Part.line.read s)) :
    Cycles l0 (Part.line.read (State.placeOpen s)) := by
  unfold State.placeOpen
  try dsimp only
  repeat' first
    | with_reducible exact h
    | with_reducible assumption
    | with_reducible apply placeCommand_cycles
    | rw [updFill_read (part := .line) (by decide)]
    | split

theorem enterOpening_cycles (p : Purpose) (s : State) (h : Cycles l0 (Part.line.read s)) :
    Cycles l0 (Part.line.read (State.enterOpening p s)) := by
  unfold State.enterOpening
  try dsimp only
  repeat' first
    | with_reducible exact h
    | with_reducible assumption
    | with_reducible apply placeOpen_cycles
    | rw [updFill_read (part := .line) (by decide)]
    | rw [setFill_read (part := .line) (by decide)]

theorem windowDecision_cycles (turned : Bool) (s : State) (h : Cycles l0 (Part.line.read s)) :
    Cycles l0 (Part.line.read (State.windowDecision turned s)) := by
  unfold State.windowDecision
  try dsimp only
  repeat' first
    | with_reducible exact h
    | with_reducible assumption
    | with_reducible apply enterOpening_cycles
    | rw [setFill_read (part := .line) (by decide)]
    | split

theorem topUp_cycles (fs : FillSet) (s : State) (h : Cycles l0 (Part.line.read s)) :
    Cycles l0 (Part.line.read (State.topUp fs s)) := by
  unfold State.topUp
  try dsimp only
  repeat' first
    | with_reducible exact h
    | with_reducible assumption
    | with_reducible apply enterOpening_cycles
    | rw [takeTopUp_read (part := .line) (by decide)]
    | split

theorem actOnPlan_cycles (fs : FillSet) (forced : Bool) (s : State) (h : Cycles l0 (Part.line.read s)) :
    Cycles l0 (Part.line.read (State.actOnPlan fs forced s)) := by
  unfold State.actOnPlan
  try dsimp only
  repeat' first
    | with_reducible exact h
    | with_reducible assumption
    | with_reducible apply placeOpen_cycles
    | with_reducible apply windowDecision_cycles
    | with_reducible apply topUp_cycles
    | rw [fillingDemand_read (part := .line) (by decide)]
    | split

theorem evaluatePlan_cycles (forced : Bool) (s : State) (h : Cycles l0 (Part.line.read s)) :
    Cycles l0 (Part.line.read (State.evaluatePlan forced s)) := by
  unfold State.evaluatePlan
  try dsimp only
  repeat' first
    | with_reducible exact h
    | with_reducible assumption
    | with_reducible apply actOnPlan_cycles
    | rw [updFill_read (part := .line) (by decide)]
    | rw [fault_read (part := .line) (by decide)]
    | split
    | fail_if_no_progress rw [setDraws_read (part := .line) (by decide)]

theorem endWindow_cycles (force : Bool) (s : State) (h : Cycles l0 (Part.line.read s)) :
    Cycles l0 (Part.line.read (State.endWindow force s)) := by
  unfold State.endWindow
  try dsimp only
  repeat' first
    | with_reducible exact h
    | with_reducible assumption
    | with_reducible apply topUp_cycles
    | rw [updFill_read (part := .line) (by decide)]
    | rw [setFill_read (part := .line) (by decide)]
    | rw [enterClosing_read (part := .line) (by decide)]
    | rw [fillingDemand_read (part := .line) (by decide)]
    | rw [takeTopUp_read (part := .line) (by decide)]
    | split

theorem placeClose_cycles (s : State) (h : Cycles l0 (Part.line.read s)) :
    Cycles l0 (Part.line.read (State.placeClose s)) := by
  unfold State.placeClose
  try dsimp only
  repeat' first
    | with_reducible exact h
    | with_reducible assumption
    | with_reducible apply placeCommand_cycles
    | rw [updFill_read (part := .line) (by decide)]
    | split

theorem closeSequence_cycles (s : State) (h : Cycles l0 (Part.line.read s)) :
    Cycles l0 (Part.line.read (State.closeSequence s)) := by
  unfold State.closeSequence
  try dsimp only
  repeat' first
    | with_reducible exact h
    | with_reducible assumption
    | with_reducible apply placeClose_cycles
    | rw [updFill_read (part := .line) (by decide)]
    | split

theorem fillEvent_cycles (f : State → State) (s : State)
    (h : Cycles l0 (Part.line.read (f s))) : Cycles l0 (Part.line.read (State.fillEvent f s)) := by
  unfold State.fillEvent
  rw [passFill_read (part := .line) (by decide)]
  exact closeSequence_cycles _ h

theorem changeInhibit_cycles (add : List Reason) (remove : List Reason) (s : State) (h : Cycles l0 (Part.line.read s)) :
    Cycles l0 (Part.line.read (State.changeInhibit add remove s)) := by
  unfold State.changeInhibit
  try dsimp only
  repeat' first
    | with_reducible exact h
    | with_reducible assumption
    | with_reducible apply evaluatePlan_cycles
    | rw [updFill_read (part := .line) (by decide)]
    | rw [setFill_read (part := .line) (by decide)]
    | rw [enterHeld_read (part := .line) (by decide)]
    | split

theorem fillOnLevelState_cycles (fs : FillSet) (lr : LevelRecord) (s : State) (h : Cycles l0 (Part.line.read s)) :
    Cycles l0 (Part.line.read (State.fillOnLevelState fs lr s)) := by
  unfold State.fillOnLevelState
  try dsimp only
  repeat' first
    | with_reducible exact h
    | with_reducible assumption
    | with_reducible apply windowDecision_cycles
    | with_reducible apply topUp_cycles
    | rw [enterClosing_read (part := .line) (by decide)]
    | split

theorem turnoverBecomesDone_cycles (s : State) (h : Cycles l0 (Part.line.read s)) :
    Cycles l0 (Part.line.read (State.turnoverBecomesDone s)) := by
  unfold State.turnoverBecomesDone
  try dsimp only
  repeat' first
    | with_reducible exact h
    | with_reducible assumption
    | with_reducible apply windowDecision_cycles
    | with_reducible apply evaluatePlan_cycles
    | rw [updFill_read (part := .line) (by decide)]
    | split

theorem fillOnLevel_cycles (lr : LevelRecord) (s : State) (h : Cycles l0 (Part.line.read s)) :
    Cycles l0 (Part.line.read (State.fillOnLevel lr s)) := by
  unfold State.fillOnLevel
  try dsimp only
  repeat' first
    | with_reducible exact h
    | with_reducible assumption
    | with_reducible apply fillOnLevelState_cycles
    | with_reducible apply turnoverBecomesDone_cycles
    | split

theorem closeConfirmed_cycles (s : State) (h : Cycles l0 (Part.line.read s)) :
    Cycles l0 (Part.line.read (State.closeConfirmed s)) := by
  unfold State.closeConfirmed
  try dsimp only
  repeat' first
    | with_reducible exact h
    | with_reducible assumption
    | with_reducible apply evaluatePlan_cycles
    | rw [updFill_read (part := .line) (by decide)]
    | rw [setFill_read (part := .line) (by decide)]
    | split

theorem fillOnCommand_cycles (target : Nat) (o : CommandOutcome) (s : State) (h : Cycles l0 (Part.line.read s)) :
    Cycles l0 (Part.line.read (State.fillOnCommand target o s)) := by
  unfold State.fillOnCommand
  try dsimp only
  repeat' first
    | with_reducible exact h
    | with_reducible assumption
    | with_reducible apply changeInhibit_cycles
    | with_reducible apply closeConfirmed_cycles
    | rw [updFill_read (part := .line) (by decide)]
    | rw [setFill_read (part := .line) (by decide)]
    | rw [fillingDemand_read (part := .line) (by decide)]
    | split

theorem replaceOrder_cycles (order : FillOrder) (s : State) (h : Cycles l0 (Part.line.read s)) :
    Cycles l0 (Part.line.read (State.replaceOrder order s)) := by
  unfold State.replaceOrder
  try dsimp only
  repeat' first
    | with_reducible exact h
    | with_reducible assumption
    | with_reducible apply endWindow_cycles
    | rw [updFill_read (part := .line) (by decide)]
    | split

theorem orderHold_cycles (s : State) (h : Cycles l0 (Part.line.read s)) :
    Cycles l0 (Part.line.read (State.orderHold s)) := by
  unfold State.orderHold
  try dsimp only
  repeat' first
    | with_reducible exact h
    | with_reducible assumption
    | with_reducible apply changeInhibit_cycles
    | with_reducible apply replaceOrder_cycles

theorem orderLapses_cycles (s : State) (h : Cycles l0 (Part.line.read s)) :
    Cycles l0 (Part.line.read (State.orderLapses s)) := by
  unfold State.orderLapses
  try dsimp only
  repeat' first
    | with_reducible exact h
    | with_reducible assumption
    | with_reducible apply changeInhibit_cycles
    | with_reducible apply replaceOrder_cycles
    | with_reducible apply orderHold_cycles
    | split

theorem placeHeater_cycles (i : Nat) (r : ZoneRecord) (s : State) (h : Cycles l0 (Part.line.read s)) :
    Cycles l0 (Part.line.read (State.placeHeater i r s)) := by
  unfold State.placeHeater
  try dsimp only
  repeat' first
    | with_reducible exact h
    | with_reducible assumption
    | with_reducible apply placeCommand_cycles
    | rw [updZone_read (part := .line) (by decide)]
    | split

theorem allocate_cycles (s : State) (h : Cycles l0 (Part.line.read s)) : Cycles l0 (Part.line.read (State.allocate s)) := by
  have hz : ∀ (rs : List ZoneRecord) i (s : State), Cycles l0 (Part.line.read s) →
      Cycles l0 (Part.line.read (overZones State.placeHeater i rs s)) := by
    intro rs
    induction rs with
    | nil => intro i s h; exact h
    | cons r rs ih => intro i s h; exact ih _ _ (placeHeater_cycles i r s h)
  unfold State.allocate
  exact hz _ _ _ h

theorem frostSettle_cycles (before : State) (calls : Bool) (s : State) (h : Cycles l0 (Part.line.read s)) :
    Cycles l0 (Part.line.read (State.frostSettle before calls s)) := by
  unfold State.frostSettle
  try dsimp only
  repeat' first
    | with_reducible exact h
    | with_reducible assumption
    | with_reducible apply allocate_cycles
    | rw [frostFlags_read (part := .line) (by decide)]
    | rw [passFrost_read (part := .line) (by decide)]
    | split

theorem frostOnPoints_cycles (ps : List Nat) (s : State) (h : Cycles l0 (Part.line.read s)) :
    Cycles l0 (Part.line.read (State.frostOnPoints ps s)) := by
  unfold State.frostOnPoints
  try dsimp only
  repeat' first
    | with_reducible exact h
    | with_reducible assumption
    | with_reducible apply frostSettle_cycles
    | rw [judgeListed_read (part := .line) (by decide)]
    | rw [learnListed_read (part := .line) (by decide)]
    | split

theorem frostOnCommand_cycles (address : Nat) (item : Nat) (target : Nat) (o : CommandOutcome) (s : State) (h : Cycles l0 (Part.line.read s)) :
    Cycles l0 (Part.line.read (State.frostOnCommand address item target o s)) := by
  unfold State.frostOnCommand
  try dsimp only
  repeat' first
    | with_reducible exact h
    | with_reducible assumption
    | with_reducible apply frostSettle_cycles
    | rw [updZone_read (part := .line) (by decide)]
    | split

theorem setBudget_cycles (calls : Bool) (s : State) (h : Cycles l0 (Part.line.read s)) :
    Cycles l0 (Part.line.read (State.setBudget calls s)) := by
  unfold State.setBudget
  try dsimp only
  repeat' first
    | with_reducible exact h
    | with_reducible assumption
    | with_reducible apply frostSettle_cycles
    | rw [updFrost_read (part := .line) (by decide)]

theorem frostOnTariff_cycles (c : TariffClass) (s : State) (h : Cycles l0 (Part.line.read s)) :
    Cycles l0 (Part.line.read (State.frostOnTariff c s)) := by
  unfold State.frostOnTariff
  try dsimp only
  repeat' first
    | with_reducible exact h
    | with_reducible assumption
    | with_reducible apply setBudget_cycles
    | rw [updFrost_read (part := .line) (by decide)]

theorem frostOnSupply_cycles (mode : SupplyMode) (before : SupplyMode) (s : State) (h : Cycles l0 (Part.line.read s)) :
    Cycles l0 (Part.line.read (State.frostOnSupply mode before s)) := by
  unfold State.frostOnSupply
  try dsimp only
  repeat' first
    | with_reducible exact h
    | with_reducible assumption
    | with_reducible apply frostSettle_cycles
    | with_reducible apply setBudget_cycles
    | rw [updFrost_read (part := .line) (by decide)]
    | split

theorem frostOnBank_cycles (cleared holds : Bool) (s : State) (h : Cycles l0 (Part.line.read s)) :
    Cycles l0 (Part.line.read (State.frostOnBank cleared holds s)) := by
  have hz : ∀ i (r : ZoneRecord) (s : State), Part.line.read (s.updZone i (ZoneState.cleared (s.zoneFeedback r))) = Part.line.read s :=
    fun i r s => updZone_read (by decide) i _ s
  unfold State.frostOnBank
  dsimp only
  apply frostSettle_cycles
  rw [setRequests_read (part := .line) (by decide)]
  split
  · rw [overZones_read _ hz]; exact h
  · exact h

theorem lineOnPoints_cycles (ps : List Nat) (s : State) (h : Cycles l0 (Part.line.read s)) :
    Cycles l0 (Part.line.read (State.lineOnPoints ps s)) := by
  unfold State.lineOnPoints
  dsimp only
  generalize s.line.commands.filter (s.confirms ps) = es
  induction es generalizing s with
  | nil => exact h
  | cons e es ih =>
    refine ih _ ?_
    rw [tellOrigin_read (part := .line) (by decide)]
    exact removeCommand_cycles _ _ _ h

theorem lineOnSupply_cycles (mode : SupplyMode) (s : State) (h : Cycles l0 (Part.line.read s)) :
    Cycles l0 (Part.line.read (State.lineOnSupply mode s)) := by
  unfold State.lineOnSupply
  split
  · exact h
  · dsimp only
    generalize s.line.commands.filter (fun e => !(s.isInlet e.address e.item && e.target == 0)) = es
    induction es generalizing s with
    | nil => exact h
    | cons e es ih =>
      refine ih _ ?_
      rw [tellOrigin_read (part := .line) (by decide)]
      exact removeCommand_cycles _ _ _ h

theorem guardTakes_cycles (n : Notice) (s : State) (h : Cycles l0 (Part.line.read s)) :
    Cycles l0 (Part.line.read (State.guardTakes n s)) := by
  unfold State.guardTakes
  try dsimp only
  repeat' first
    | with_reducible exact h
    | with_reducible assumption
    | with_reducible apply guardOnPoints_cycles
    | with_reducible apply guardEvaluate_cycles
    | with_reducible apply guardOnTripWork_cycles
    | with_reducible apply guardOnLevel_cycles
    | with_reducible apply guardOnPipe_cycles
    | rw [guardOnUrgent_read (part := .line) (by decide)]
    | split

theorem fillTakes_cycles (n : Notice) (s : State) (h : Cycles l0 (Part.line.read s)) :
    Cycles l0 (Part.line.read (State.fillTakes n s)) := by
  unfold State.fillTakes
  try dsimp only
  repeat' first
    | with_reducible exact h
    | with_reducible assumption
    | with_reducible apply windowDecision_cycles
    | with_reducible apply fillEvent_cycles
    | with_reducible apply changeInhibit_cycles
    | with_reducible apply fillOnLevel_cycles
    | with_reducible apply fillOnCommand_cycles
    | with_reducible apply orderLapses_cycles
    | split

theorem frostTakes_cycles (n : Notice) (s : State) (h : Cycles l0 (Part.line.read s)) :
    Cycles l0 (Part.line.read (State.frostTakes n s)) := by
  unfold State.frostTakes
  try dsimp only
  repeat' first
    | with_reducible exact h
    | with_reducible assumption
    | with_reducible apply frostOnPoints_cycles
    | with_reducible apply frostOnCommand_cycles
    | with_reducible apply frostOnTariff_cycles
    | with_reducible apply frostOnSupply_cycles
    | with_reducible apply frostOnBank_cycles
    | split

theorem lineTakes_cycles (n : Notice) (s : State) (h : Cycles l0 (Part.line.read s)) :
    Cycles l0 (Part.line.read (State.lineTakes n s)) := by
  unfold State.lineTakes
  try dsimp only
  repeat' first
    | with_reducible exact h
    | with_reducible assumption
    | with_reducible apply lineOnPoints_cycles
    | with_reducible apply lineOnSupply_cycles
    | split

theorem deliver_cycles (d : Delivery) (s : State) (h : Cycles l0 (Part.line.read s)) :
    Cycles l0 (Part.line.read (State.deliver d s)) := by
  unfold State.deliver
  try dsimp only
  repeat' first
    | with_reducible exact h
    | with_reducible assumption
    | with_reducible apply guardTakes_cycles
    | with_reducible apply fillTakes_cycles
    | with_reducible apply frostTakes_cycles
    | with_reducible apply lineTakes_cycles
    | rw [levelTakes_read (part := .line) (by decide)]
    | rw [telemetryTakes_read (part := .line) (by decide)]
    | rw [storeTakes_read (part := .line) (by decide)]
    | split

theorem deliverOne_cycles (pick : Nat → Nat) (s : State) (h : Cycles l0 (Part.line.read s)) :
    Cycles l0 (Part.line.read (State.deliverOne pick s)) := by
  unfold State.deliverOne
  try dsimp only
  repeat' first
    | with_reducible exact h
    | with_reducible assumption
    | with_reducible apply deliver_cycles
    | split
    | fail_if_no_progress rw [setNotices_read (part := .line) (by decide)]
    | fail_if_no_progress rw [setNoticesDraws_read (part := .line) (by decide)]

theorem drain_cycles (pick : Nat → Nat) (fuel : Nat) (s : State)
    (h : Cycles l0 (Part.line.read s)) :
    Cycles l0 (Part.line.read (State.drain pick fuel s)) := by
  induction fuel generalizing s with
  | zero => exact h
  | succ fuel ih =>
    simp only [State.drain]
    split
    · exact h
    · exact ih _ (deliverOne_cycles pick s h)

/-! ### A valid bank stays valid through the notices of an event (R144). -/


/-- The bank holds a valid record. -/
def Valid (k : Bank) (t : PerBank (Option FaultRecord)) : Prop := (t.get k).isSome = true

variable {k0 : Bank}

theorem updBanks_valid (g : PerBank (Option FaultRecord) → PerBank (Option FaultRecord)) (hg : ∀ b, Valid k0 b → Valid k0 (g b)) (s : State)
    (h : Valid k0 (Part.banks.read s)) : Valid k0 (Part.banks.read (s.updBanks g)) := hg _ h

theorem set_valid (k : Bank) (x : FaultRecord) (t : PerBank (Option FaultRecord)) (h : Valid k0 t) :
    Valid k0 (t.set k (some x)) := by
  unfold Valid at *
  cases k <;> cases k0 <;> simp_all [PerBank.get, PerBank.set]

theorem fault_valid (code : FaultCode) (subject : Option Subject) (s : State) (h : Valid k0 (Part.banks.read s)) :
    Valid k0 (Part.banks.read (State.fault code subject s)) := by
  unfold State.fault
  dsimp only
  split
  · exact h
  · rw [holdNotices_read (part := .banks) (by decide)]
    split
    · rw [offer_read (part := .banks) (by decide)]; exact set_valid _ _ _ h
    · exact set_valid _ _ _ h

theorem judgeBeyond_valid (s : State) (h : Valid k0 (Part.banks.read s)) :
    Valid k0 (Part.banks.read (State.judgeBeyond s)) := by
  unfold State.judgeBeyond
  try dsimp only
  repeat' first
    | with_reducible exact h
    | with_reducible assumption
    | with_reducible apply fault_valid
    | rw [updLevel_read (part := .banks) (by decide)]
    | split

theorem recompute_valid (g : GuardSet) (sample : Option Nat) (s : State) (h : Valid k0 (Part.banks.read s)) :
    Valid k0 (Part.banks.read (State.recompute g sample s)) := by
  unfold State.recompute
  try dsimp only
  repeat' first
    | with_reducible exact h
    | with_reducible assumption
    | with_reducible apply fault_valid
    | with_reducible apply judgeBeyond_valid
    | rw [updLevel_read (part := .banks) (by decide)]
    | rw [levelNotice_read (part := .banks) (by decide)]
    | split

theorem levelOnPoints_valid (ps : List Nat) (sample : Option Nat) (s : State) (h : Valid k0 (Part.banks.read s)) :
    Valid k0 (Part.banks.read (State.levelOnPoints ps sample s)) := by
  unfold State.levelOnPoints
  try dsimp only
  repeat' first
    | with_reducible exact h
    | with_reducible assumption
    | with_reducible apply recompute_valid
    | split

theorem levelOnHousing_valid (s : State) (h : Valid k0 (Part.banks.read s)) :
    Valid k0 (Part.banks.read (State.levelOnHousing s)) := by
  unfold State.levelOnHousing
  try dsimp only
  repeat' first
    | with_reducible exact h
    | with_reducible assumption
    | with_reducible apply recompute_valid
    | split

theorem trip_valid (cause : TripCause) (lr : LevelRecord) (s : State) (h : Valid k0 (Part.banks.read s)) :
    Valid k0 (Part.banks.read (State.trip cause lr s)) := by
  unfold State.trip
  try dsimp only
  repeat' first
    | with_reducible exact h
    | with_reducible assumption
    | with_reducible apply fault_valid
    | rw [updGuard_read (part := .banks) (by decide)]
    | rw [updTelemetry_read (part := .banks) (by decide)]
    | rw [send_read (part := .banks) (by decide)]
    | rw [offer_read (part := .banks) (by decide)]
    | rw [placeUrgent_read (part := .banks) (by decide)]
    | rw [askTripWork_read (part := .banks) (by decide)]
    | rw [tellGuard_read (part := .banks) (by decide)]
    | rw [guardZero_read (part := .banks) (by decide)]
    | rw [startWatch_read (part := .banks) (by decide)]
    | split

theorem tripCondition_valid (cause : TripCause) (lr : LevelRecord) (s : State) (h : Valid k0 (Part.banks.read s)) :
    Valid k0 (Part.banks.read (State.tripCondition cause lr s)) := by
  unfold State.tripCondition
  try dsimp only
  repeat' first
    | with_reducible exact h
    | with_reducible assumption
    | with_reducible apply trip_valid
    | rw [updGuard_read (part := .banks) (by decide)]
    | split

theorem guardEvaluate_valid (lr : LevelRecord) (s : State) (h : Valid k0 (Part.banks.read s)) :
    Valid k0 (Part.banks.read (State.guardEvaluate lr s)) := by
  unfold State.guardEvaluate
  try dsimp only
  repeat' first
    | with_reducible exact h
    | with_reducible assumption
    | with_reducible apply trip_valid
    | with_reducible apply tripCondition_valid
    | rw [updGuard_read (part := .banks) (by decide)]
    | rw [send_read (part := .banks) (by decide)]
    | rw [anticipate_read (part := .banks) (by decide)]
    | rw [rearmGuard_read (part := .banks) (by decide)]
    | split

theorem levelHoldEnds_valid (s : State) (h : Valid k0 (Part.banks.read s)) :
    Valid k0 (Part.banks.read (State.levelHoldEnds s)) := by
  unfold State.levelHoldEnds
  try dsimp only
  repeat' first
    | with_reducible exact h
    | with_reducible assumption
    | with_reducible apply tripCondition_valid
    | rw [updGuard_read (part := .banks) (by decide)]

theorem armHold_valid (g : GuardSet) (since : Nat) (s : State) (h : Valid k0 (Part.banks.read s)) :
    Valid k0 (Part.banks.read (State.armHold g since s)) := by
  unfold State.armHold
  try dsimp only
  repeat' first
    | with_reducible exact h
    | with_reducible assumption
    | with_reducible apply levelHoldEnds_valid
    | rw [updGuard_read (part := .banks) (by decide)]
    | split

theorem holdOnNotice_valid (lr : LevelRecord) (s : State) (h : Valid k0 (Part.banks.read s)) :
    Valid k0 (Part.banks.read (State.holdOnNotice lr s)) := by
  unfold State.holdOnNotice
  try dsimp only
  repeat' first
    | with_reducible exact h
    | with_reducible assumption
    | with_reducible apply armHold_valid
    | rw [updGuard_read (part := .banks) (by decide)]
    | split

theorem completeReset_valid (s : State) (h : Valid k0 (Part.banks.read s)) :
    Valid k0 (Part.banks.read (State.completeReset s)) := by
  unfold State.completeReset
  try dsimp only
  repeat' first
    | with_reducible exact h
    | with_reducible assumption
    | with_reducible apply trip_valid
    | with_reducible apply guardEvaluate_valid
    | rw [updGuard_read (part := .banks) (by decide)]
    | rw [send_read (part := .banks) (by decide)]
    | rw [respond_read (part := .banks) (by decide)]
    | rw [tellGuard_read (part := .banks) (by decide)]
    | split

theorem guardOnTripWork_valid (e : TripEntry) (slot : Option Nat) (s : State) (h : Valid k0 (Part.banks.read s)) :
    Valid k0 (Part.banks.read (State.guardOnTripWork e slot s)) := by
  unfold State.guardOnTripWork
  try dsimp only
  repeat' first
    | with_reducible exact h
    | with_reducible assumption
    | with_reducible apply trip_valid
    | with_reducible apply completeReset_valid
    | rw [updGuard_read (part := .banks) (by decide)]
    | rw [send_read (part := .banks) (by decide)]
    | rw [askTripWork_read (part := .banks) (by decide)]
    | split

theorem guardOnLevel_valid (lr : LevelRecord) (s : State) (h : Valid k0 (Part.banks.read s)) :
    Valid k0 (Part.banks.read (State.guardOnLevel lr s)) := by
  unfold State.guardOnLevel
  try dsimp only
  repeat' first
    | with_reducible exact h
    | with_reducible assumption
    | with_reducible apply guardEvaluate_valid
    | with_reducible apply holdOnNotice_valid

theorem guardOnPipe_valid (flag : Bool) (s : State) (h : Valid k0 (Part.banks.read s)) :
    Valid k0 (Part.banks.read (State.guardOnPipe flag s)) := by
  unfold State.guardOnPipe
  try dsimp only
  repeat' first
    | with_reducible exact h
    | with_reducible assumption
    | with_reducible apply guardEvaluate_valid
    | rw [updGuard_read (part := .banks) (by decide)]

theorem evaluatePlan_valid (forced : Bool) (s : State) (h : Valid k0 (Part.banks.read s)) :
    Valid k0 (Part.banks.read (State.evaluatePlan forced s)) := by
  unfold State.evaluatePlan
  try dsimp only
  repeat' first
    | with_reducible exact h
    | with_reducible assumption
    | with_reducible apply fault_valid
    | rw [updFill_read (part := .banks) (by decide)]
    | rw [actOnPlan_read (part := .banks) (by decide)]
    | split
    | fail_if_no_progress rw [setDraws_read (part := .banks) (by decide)]

theorem fillEvent_valid (f : State → State) (s : State)
    (h : Valid k0 (Part.banks.read (f s))) : Valid k0 (Part.banks.read (State.fillEvent f s)) := by
  unfold State.fillEvent
  rw [passFill_read (part := .banks) (by decide), closeSequence_read (part := .banks) (by decide)]
  exact h

theorem changeInhibit_valid (add : List Reason) (remove : List Reason) (s : State) (h : Valid k0 (Part.banks.read s)) :
    Valid k0 (Part.banks.read (State.changeInhibit add remove s)) := by
  unfold State.changeInhibit
  try dsimp only
  repeat' first
    | with_reducible exact h
    | with_reducible assumption
    | with_reducible apply evaluatePlan_valid
    | rw [updFill_read (part := .banks) (by decide)]
    | rw [setFill_read (part := .banks) (by decide)]
    | rw [enterHeld_read (part := .banks) (by decide)]
    | split

theorem turnoverBecomesDone_valid (s : State) (h : Valid k0 (Part.banks.read s)) :
    Valid k0 (Part.banks.read (State.turnoverBecomesDone s)) := by
  unfold State.turnoverBecomesDone
  try dsimp only
  repeat' first
    | with_reducible exact h
    | with_reducible assumption
    | with_reducible apply evaluatePlan_valid
    | rw [updFill_read (part := .banks) (by decide)]
    | rw [windowDecision_read (part := .banks) (by decide)]
    | split

theorem fillOnLevel_valid (lr : LevelRecord) (s : State) (h : Valid k0 (Part.banks.read s)) :
    Valid k0 (Part.banks.read (State.fillOnLevel lr s)) := by
  unfold State.fillOnLevel
  try dsimp only
  repeat' first
    | with_reducible exact h
    | with_reducible assumption
    | with_reducible apply turnoverBecomesDone_valid
    | rw [fillOnLevelState_read (part := .banks) (by decide)]
    | split

theorem closeConfirmed_valid (s : State) (h : Valid k0 (Part.banks.read s)) :
    Valid k0 (Part.banks.read (State.closeConfirmed s)) := by
  unfold State.closeConfirmed
  try dsimp only
  repeat' first
    | with_reducible exact h
    | with_reducible assumption
    | with_reducible apply evaluatePlan_valid
    | rw [updFill_read (part := .banks) (by decide)]
    | rw [setFill_read (part := .banks) (by decide)]
    | split

theorem fillOnCommand_valid (target : Nat) (o : CommandOutcome) (s : State) (h : Valid k0 (Part.banks.read s)) :
    Valid k0 (Part.banks.read (State.fillOnCommand target o s)) := by
  unfold State.fillOnCommand
  try dsimp only
  repeat' first
    | with_reducible exact h
    | with_reducible assumption
    | with_reducible apply changeInhibit_valid
    | with_reducible apply closeConfirmed_valid
    | rw [updFill_read (part := .banks) (by decide)]
    | rw [setFill_read (part := .banks) (by decide)]
    | rw [fillingDemand_read (part := .banks) (by decide)]
    | split

theorem orderHold_valid (s : State) (h : Valid k0 (Part.banks.read s)) :
    Valid k0 (Part.banks.read (State.orderHold s)) := by
  unfold State.orderHold
  try dsimp only
  repeat' first
    | with_reducible exact h
    | with_reducible assumption
    | with_reducible apply changeInhibit_valid
    | rw [replaceOrder_read (part := .banks) (by decide)]

theorem orderLapses_valid (s : State) (h : Valid k0 (Part.banks.read s)) :
    Valid k0 (Part.banks.read (State.orderLapses s)) := by
  unfold State.orderLapses
  try dsimp only
  repeat' first
    | with_reducible exact h
    | with_reducible assumption
    | with_reducible apply changeInhibit_valid
    | with_reducible apply orderHold_valid
    | rw [replaceOrder_read (part := .banks) (by decide)]
    | split

theorem judgeZone_valid (i : Nat) (r : ZoneRecord) (s : State) (h : Valid k0 (Part.banks.read s)) :
    Valid k0 (Part.banks.read (State.judgeZone i r s)) := by
  unfold State.judgeZone
  try dsimp only
  repeat' first
    | with_reducible exact h
    | with_reducible assumption
    | with_reducible apply fault_valid
    | rw [updZone_read (part := .banks) (by decide)]
    | split

theorem judgeListed_valid (ps : List Nat) (s : State) (h : Valid k0 (Part.banks.read s)) :
    Valid k0 (Part.banks.read (State.judgeListed ps s)) := by
  have hz : ∀ (rs : List ZoneRecord) i (s : State), Valid k0 (Part.banks.read s) → Valid k0 (Part.banks.read (overZones
      (fun i r s => if ps.contains r.tempPoint then State.judgeZone i r s else s) i rs s)) := by
    intro rs
    induction rs with
    | nil => intro i s h; exact h
    | cons r rs ih =>
      intro i s h
      refine ih _ _ ?_
      dsimp only
      split
      · exact judgeZone_valid i r s h
      · exact h
  exact hz _ _ _ h

theorem frostOnPoints_valid (ps : List Nat) (s : State) (h : Valid k0 (Part.banks.read s)) :
    Valid k0 (Part.banks.read (State.frostOnPoints ps s)) := by
  unfold State.frostOnPoints
  try dsimp only
  repeat' first
    | with_reducible exact h
    | with_reducible assumption
    | with_reducible apply judgeListed_valid
    | rw [frostSettle_read (part := .banks) (by decide)]
    | rw [learnListed_read (part := .banks) (by decide)]
    | split

theorem levelTakes_valid (n : Notice) (s : State) (h : Valid k0 (Part.banks.read s)) :
    Valid k0 (Part.banks.read (State.levelTakes n s)) := by
  unfold State.levelTakes
  try dsimp only
  repeat' first
    | with_reducible exact h
    | with_reducible assumption
    | with_reducible apply levelOnPoints_valid
    | with_reducible apply levelOnHousing_valid
    | split

theorem guardTakes_valid (n : Notice) (s : State) (h : Valid k0 (Part.banks.read s)) :
    Valid k0 (Part.banks.read (State.guardTakes n s)) := by
  unfold State.guardTakes
  try dsimp only
  repeat' first
    | with_reducible exact h
    | with_reducible assumption
    | with_reducible apply guardEvaluate_valid
    | with_reducible apply guardOnTripWork_valid
    | with_reducible apply guardOnLevel_valid
    | with_reducible apply guardOnPipe_valid
    | rw [guardOnPoints_read (part := .banks) (by decide)]
    | rw [guardOnUrgent_read (part := .banks) (by decide)]
    | split

theorem fillTakes_valid (n : Notice) (s : State) (h : Valid k0 (Part.banks.read s)) :
    Valid k0 (Part.banks.read (State.fillTakes n s)) := by
  unfold State.fillTakes
  try dsimp only
  repeat' first
    | with_reducible exact h
    | with_reducible assumption
    | with_reducible apply fillEvent_valid
    | with_reducible apply changeInhibit_valid
    | with_reducible apply fillOnLevel_valid
    | with_reducible apply fillOnCommand_valid
    | with_reducible apply orderLapses_valid
    | rw [windowDecision_read (part := .banks) (by decide)]
    | split

theorem frostTakes_valid (n : Notice) (s : State) (h : Valid k0 (Part.banks.read s)) :
    Valid k0 (Part.banks.read (State.frostTakes n s)) := by
  unfold State.frostTakes
  try dsimp only
  repeat' first
    | with_reducible exact h
    | with_reducible assumption
    | with_reducible apply frostOnPoints_valid
    | rw [frostOnCommand_read (part := .banks) (by decide)]
    | rw [frostOnTariff_read (part := .banks) (by decide)]
    | rw [frostOnSupply_read (part := .banks) (by decide)]
    | rw [frostOnBank_read (part := .banks) (by decide)]
    | split

theorem deliver_valid (d : Delivery) (s : State) (h : Valid k0 (Part.banks.read s)) :
    Valid k0 (Part.banks.read (State.deliver d s)) := by
  unfold State.deliver
  try dsimp only
  repeat' first
    | with_reducible exact h
    | with_reducible assumption
    | with_reducible apply levelTakes_valid
    | with_reducible apply guardTakes_valid
    | with_reducible apply fillTakes_valid
    | with_reducible apply frostTakes_valid
    | rw [lineTakes_read (part := .banks) (by decide)]
    | rw [telemetryTakes_read (part := .banks) (by decide)]
    | rw [storeTakes_read (part := .banks) (by decide)]
    | split

theorem deliverOne_valid (pick : Nat → Nat) (s : State) (h : Valid k0 (Part.banks.read s)) :
    Valid k0 (Part.banks.read (State.deliverOne pick s)) := by
  unfold State.deliverOne
  try dsimp only
  repeat' first
    | with_reducible exact h
    | with_reducible assumption
    | with_reducible apply deliver_valid
    | split
    | fail_if_no_progress rw [setNotices_read (part := .banks) (by decide)]
    | fail_if_no_progress rw [setNoticesDraws_read (part := .banks) (by decide)]

theorem drain_valid (pick : Nat → Nat) (fuel : Nat) (s : State)
    (h : Valid k0 (Part.banks.read s)) :
    Valid k0 (Part.banks.read (State.drain pick fuel s)) := by
  induction fuel generalizing s with
  | zero => exact h
  | succ fuel ih =>
    simp only [State.drain]
    split
    · exact h
    · exact ih _ (deliverOne_valid pick s h)

end Sys2Proof.Laws
end

