-- ==== Sys2Proof/Laws/Notices.lean ====
section
/-! SUPPORT. The notices that the blocks send while they take those of an event report nothing from outside that exchange. -/

namespace Sys2Proof.Laws

open Sys2Proof.Machine

/-- A notice that reports the end of something outside the blocks' own exchange: points, the urgent close, trip work, a lapse. -/
def Notice.reports : Notice → Bool
  | .points _ _ => true | .urgentOutcome _ => true | .tripWork _ _ => true | .lapse => true
  | .housing => false | .level _ _ _ => false | .overflowPipe _ => false | .evaluate => false | .inhibit _ _ => false
  | .command _ _ _ _ => false | .frostWatch _ => false | .tariff _ => false | .supply _ _ => false | .frostBank _ _ => false
  | .guardState _ _ => false | .projection _ => false | .fillItems _ _ _ _ _ => false | .station _ _ _ => false
  | .frostItems _ _ _ => false | .islanded _ => false | .clockSet => false | .tripNumber _ => false

/-- No such report waits. -/
def Quiet (ns : List Delivery) : Prop := ∀ d ∈ ns, Notice.reports d.notice = false

theorem send_quiet (b : BlockName) (n : Notice) (s : State) (hn : Notice.reports n = false) (h : Quiet (Part.notices.read s)) :
    Quiet (Part.notices.read (State.send b n s)) := by
  intro d hd
  rcases List.mem_append.mp hd with hd | hd
  · exact h d hd
  · rw [List.mem_singleton.mp hd]; exact hn

theorem broadcast_quiet (bs : List BlockName) (n : Notice) (s : State) (hn : Notice.reports n = false)
    (h : Quiet (Part.notices.read s)) : Quiet (Part.notices.read (State.broadcast bs n s)) := by
  intro d hd
  rcases List.mem_append.mp hd with hd | hd
  · exact h d hd
  · obtain ⟨b, _, rfl⟩ := List.mem_map.mp hd; exact hn

theorem holdNotices_quiet (before : State) (s : State) (h : Quiet (Part.notices.read s)) :
    Quiet (Part.notices.read (State.holdNotices before s)) := by
  unfold State.holdNotices
  try dsimp only
  repeat' first
    | with_reducible exact h
    | with_reducible assumption
    | rfl
    | with_reducible apply send_quiet
    | split

theorem fault_quiet (code : FaultCode) (subject : Option Subject) (s : State) (h : Quiet (Part.notices.read s)) :
    Quiet (Part.notices.read (State.fault code subject s)) := by
  unfold State.fault
  try dsimp only
  repeat' first
    | with_reducible exact h
    | with_reducible assumption
    | rfl
    | with_reducible apply holdNotices_quiet
    | rw [updBanks_read (part := .notices) (by decide)]
    | rw [offer_read (part := .notices) (by decide)]
    | split

theorem placeUrgent_quiet (s : State) (h : Quiet (Part.notices.read s)) :
    Quiet (Part.notices.read (State.placeUrgent s)) := by
  unfold State.placeUrgent
  try dsimp only
  repeat' first
    | with_reducible exact h
    | with_reducible assumption
    | rfl
    | with_reducible apply send_quiet
    | rw [updLine_read (part := .notices) (by decide)]
    | rw [removeCommand_read (part := .notices) (by decide)]
    | split

theorem setDemand_quiet (d : Nat) (s : State) (h : Quiet (Part.notices.read s)) :
    Quiet (Part.notices.read (State.setDemand d s)) := by
  unfold State.setDemand
  try dsimp only
  repeat' first
    | with_reducible exact h
    | with_reducible assumption
    | rfl
    | with_reducible apply send_quiet
    | rw [updFill_read (part := .notices) (by decide)]
    | rw [queueDemand_read (part := .notices) (by decide)]
    | split

theorem levelNotice_quiet (qualityChanged : Bool) (appended : Bool) (s : State) (h : Quiet (Part.notices.read s)) :
    Quiet (Part.notices.read (State.levelNotice qualityChanged appended s)) := by
  unfold State.levelNotice
  try dsimp only
  repeat' first
    | with_reducible exact h
    | with_reducible assumption
    | rfl
    | with_reducible apply broadcast_quiet

theorem judgeBeyond_quiet (s : State) (h : Quiet (Part.notices.read s)) :
    Quiet (Part.notices.read (State.judgeBeyond s)) := by
  unfold State.judgeBeyond
  try dsimp only
  repeat' first
    | with_reducible exact h
    | with_reducible assumption
    | rfl
    | with_reducible apply fault_quiet
    | rw [updLevel_read (part := .notices) (by decide)]
    | split

theorem recompute_quiet (g : GuardSet) (sample : Option Nat) (s : State) (h : Quiet (Part.notices.read s)) :
    Quiet (Part.notices.read (State.recompute g sample s)) := by
  unfold State.recompute
  try dsimp only
  repeat' first
    | with_reducible exact h
    | with_reducible assumption
    | rfl
    | with_reducible apply fault_quiet
    | with_reducible apply levelNotice_quiet
    | with_reducible apply judgeBeyond_quiet
    | rw [updLevel_read (part := .notices) (by decide)]
    | split

theorem levelOnPoints_quiet (ps : List Nat) (sample : Option Nat) (s : State) (h : Quiet (Part.notices.read s)) :
    Quiet (Part.notices.read (State.levelOnPoints ps sample s)) := by
  unfold State.levelOnPoints
  try dsimp only
  repeat' first
    | with_reducible exact h
    | with_reducible assumption
    | rfl
    | with_reducible apply recompute_quiet
    | split

theorem levelOnHousing_quiet (s : State) (h : Quiet (Part.notices.read s)) :
    Quiet (Part.notices.read (State.levelOnHousing s)) := by
  unfold State.levelOnHousing
  try dsimp only
  repeat' first
    | with_reducible exact h
    | with_reducible assumption
    | rfl
    | with_reducible apply recompute_quiet
    | split

theorem tellGuard_quiet (s : State) (h : Quiet (Part.notices.read s)) :
    Quiet (Part.notices.read (State.tellGuard s)) := by
  unfold State.tellGuard
  try dsimp only
  repeat' first
    | with_reducible exact h
    | with_reducible assumption
    | rfl
    | with_reducible apply send_quiet

theorem passFill_quiet (before : State) (s : State) (h : Quiet (Part.notices.read s)) :
    Quiet (Part.notices.read (State.passFill before s)) := by
  unfold State.passFill
  try dsimp only
  repeat' first
    | with_reducible exact h
    | with_reducible assumption
    | rfl
    | with_reducible apply send_quiet
    | split

theorem guardZero_quiet (s : State) (h : Quiet (Part.notices.read s)) :
    Quiet (Part.notices.read (State.guardZero s)) := by
  unfold State.guardZero
  try dsimp only
  repeat' first
    | with_reducible exact h
    | with_reducible assumption
    | rfl
    | with_reducible apply passFill_quiet
    | rw [zeroDemandHead_read (part := .notices) (by decide)]

theorem guardOnPoints_quiet (ps : List Nat) (s : State) (h : Quiet (Part.notices.read s)) :
    Quiet (Part.notices.read (State.guardOnPoints ps s)) := by
  unfold State.guardOnPoints
  try dsimp only
  repeat' first
    | with_reducible exact h
    | with_reducible assumption
    | rfl
    | with_reducible apply placeUrgent_quiet
    | rw [updGuard_read (part := .notices) (by decide)]
    | rw [startWatch_read (part := .notices) (by decide)]
    | split

theorem trip_quiet (cause : TripCause) (lr : LevelRecord) (s : State) (h : Quiet (Part.notices.read s)) :
    Quiet (Part.notices.read (State.trip cause lr s)) := by
  unfold State.trip
  try dsimp only
  repeat' first
    | with_reducible exact h
    | with_reducible assumption
    | rfl
    | with_reducible apply send_quiet
    | with_reducible apply fault_quiet
    | with_reducible apply placeUrgent_quiet
    | with_reducible apply tellGuard_quiet
    | with_reducible apply guardZero_quiet
    | rw [updGuard_read (part := .notices) (by decide)]
    | rw [updTelemetry_read (part := .notices) (by decide)]
    | rw [offer_read (part := .notices) (by decide)]
    | rw [askTripWork_read (part := .notices) (by decide)]
    | rw [startWatch_read (part := .notices) (by decide)]
    | split

theorem tripCondition_quiet (cause : TripCause) (lr : LevelRecord) (s : State) (h : Quiet (Part.notices.read s)) :
    Quiet (Part.notices.read (State.tripCondition cause lr s)) := by
  unfold State.tripCondition
  try dsimp only
  repeat' first
    | with_reducible exact h
    | with_reducible assumption
    | rfl
    | with_reducible apply trip_quiet
    | rw [updGuard_read (part := .notices) (by decide)]
    | split

theorem anticipate_quiet (s : State) (h : Quiet (Part.notices.read s)) :
    Quiet (Part.notices.read (State.anticipate s)) := by
  unfold State.anticipate
  try dsimp only
  repeat' first
    | with_reducible exact h
    | with_reducible assumption
    | rfl
    | with_reducible apply send_quiet
    | with_reducible apply tellGuard_quiet
    | with_reducible apply guardZero_quiet
    | rw [updGuard_read (part := .notices) (by decide)]
    | rw [placeCommand_read (part := .notices) (by decide)]
    | split

theorem rearmGuard_quiet (s : State) (h : Quiet (Part.notices.read s)) :
    Quiet (Part.notices.read (State.rearmGuard s)) := by
  unfold State.rearmGuard
  try dsimp only
  repeat' first
    | with_reducible exact h
    | with_reducible assumption
    | rfl
    | with_reducible apply send_quiet
    | with_reducible apply tellGuard_quiet
    | rw [updGuard_read (part := .notices) (by decide)]

theorem guardEvaluate_quiet (lr : LevelRecord) (s : State) (h : Quiet (Part.notices.read s)) :
    Quiet (Part.notices.read (State.guardEvaluate lr s)) := by
  unfold State.guardEvaluate
  try dsimp only
  repeat' first
    | with_reducible exact h
    | with_reducible assumption
    | rfl
    | with_reducible apply send_quiet
    | with_reducible apply trip_quiet
    | with_reducible apply tripCondition_quiet
    | with_reducible apply anticipate_quiet
    | with_reducible apply rearmGuard_quiet
    | rw [updGuard_read (part := .notices) (by decide)]
    | split

theorem levelHoldEnds_quiet (s : State) (h : Quiet (Part.notices.read s)) :
    Quiet (Part.notices.read (State.levelHoldEnds s)) := by
  unfold State.levelHoldEnds
  try dsimp only
  repeat' first
    | with_reducible exact h
    | with_reducible assumption
    | rfl
    | with_reducible apply tripCondition_quiet
    | rw [updGuard_read (part := .notices) (by decide)]

theorem armHold_quiet (g : GuardSet) (since : Nat) (s : State) (h : Quiet (Part.notices.read s)) :
    Quiet (Part.notices.read (State.armHold g since s)) := by
  unfold State.armHold
  try dsimp only
  repeat' first
    | with_reducible exact h
    | with_reducible assumption
    | rfl
    | with_reducible apply levelHoldEnds_quiet
    | rw [updGuard_read (part := .notices) (by decide)]
    | split

theorem holdOnNotice_quiet (lr : LevelRecord) (s : State) (h : Quiet (Part.notices.read s)) :
    Quiet (Part.notices.read (State.holdOnNotice lr s)) := by
  unfold State.holdOnNotice
  try dsimp only
  repeat' first
    | with_reducible exact h
    | with_reducible assumption
    | rfl
    | with_reducible apply armHold_quiet
    | rw [updGuard_read (part := .notices) (by decide)]
    | split

theorem completeReset_quiet (s : State) (h : Quiet (Part.notices.read s)) :
    Quiet (Part.notices.read (State.completeReset s)) := by
  unfold State.completeReset
  try dsimp only
  repeat' first
    | with_reducible exact h
    | with_reducible assumption
    | rfl
    | with_reducible apply send_quiet
    | with_reducible apply tellGuard_quiet
    | with_reducible apply trip_quiet
    | with_reducible apply guardEvaluate_quiet
    | rw [updGuard_read (part := .notices) (by decide)]
    | rw [respond_read (part := .notices) (by decide)]
    | split

theorem guardOnTripWork_quiet (e : TripEntry) (slot : Option Nat) (s : State) (h : Quiet (Part.notices.read s)) :
    Quiet (Part.notices.read (State.guardOnTripWork e slot s)) := by
  unfold State.guardOnTripWork
  try dsimp only
  repeat' first
    | with_reducible exact h
    | with_reducible assumption
    | rfl
    | with_reducible apply send_quiet
    | with_reducible apply trip_quiet
    | with_reducible apply completeReset_quiet
    | rw [updGuard_read (part := .notices) (by decide)]
    | rw [askTripWork_read (part := .notices) (by decide)]
    | split

theorem guardOnLevel_quiet (lr : LevelRecord) (s : State) (h : Quiet (Part.notices.read s)) :
    Quiet (Part.notices.read (State.guardOnLevel lr s)) := by
  unfold State.guardOnLevel
  try dsimp only
  repeat' first
    | with_reducible exact h
    | with_reducible assumption
    | rfl
    | with_reducible apply guardEvaluate_quiet
    | with_reducible apply holdOnNotice_quiet

theorem guardOnPipe_quiet (flag : Bool) (s : State) (h : Quiet (Part.notices.read s)) :
    Quiet (Part.notices.read (State.guardOnPipe flag s)) := by
  unfold State.guardOnPipe
  try dsimp only
  repeat' first
    | with_reducible exact h
    | with_reducible assumption
    | rfl
    | with_reducible apply guardEvaluate_quiet
    | rw [updGuard_read (part := .notices) (by decide)]

theorem enterClosing_quiet (s : State) (h : Quiet (Part.notices.read s)) :
    Quiet (Part.notices.read (State.enterClosing s)) := by
  unfold State.enterClosing
  try dsimp only
  repeat' first
    | with_reducible exact h
    | with_reducible assumption
    | rfl
    | with_reducible apply setDemand_quiet
    | rw [updFill_read (part := .notices) (by decide)]
    | rw [setFill_read (part := .notices) (by decide)]

theorem enterHeld_quiet (s : State) (h : Quiet (Part.notices.read s)) :
    Quiet (Part.notices.read (State.enterHeld s)) := by
  unfold State.enterHeld
  try dsimp only
  repeat' first
    | with_reducible exact h
    | with_reducible assumption
    | rfl
    | with_reducible apply setDemand_quiet
    | rw [setFill_read (part := .notices) (by decide)]

theorem fillingDemand_quiet (s : State) (h : Quiet (Part.notices.read s)) :
    Quiet (Part.notices.read (State.fillingDemand s)) := by
  unfold State.fillingDemand
  try dsimp only
  repeat' first
    | with_reducible exact h
    | with_reducible assumption
    | rfl
    | with_reducible apply setDemand_quiet

theorem actOnPlan_quiet (fs : FillSet) (forced : Bool) (s : State) (h : Quiet (Part.notices.read s)) :
    Quiet (Part.notices.read (State.actOnPlan fs forced s)) := by
  unfold State.actOnPlan
  try dsimp only
  repeat' first
    | with_reducible exact h
    | with_reducible assumption
    | rfl
    | with_reducible apply fillingDemand_quiet
    | rw [placeOpen_read (part := .notices) (by decide)]
    | rw [windowDecision_read (part := .notices) (by decide)]
    | rw [topUp_read (part := .notices) (by decide)]
    | split

theorem evaluatePlan_quiet (forced : Bool) (s : State) (h : Quiet (Part.notices.read s)) :
    Quiet (Part.notices.read (State.evaluatePlan forced s)) := by
  unfold State.evaluatePlan
  try dsimp only
  repeat' first
    | with_reducible exact h
    | with_reducible assumption
    | rfl
    | with_reducible apply fault_quiet
    | with_reducible apply actOnPlan_quiet
    | rw [updFill_read (part := .notices) (by decide)]
    | split
    | fail_if_no_progress rw [setDraws_read (part := .notices) (by decide)]

theorem endWindow_quiet (force : Bool) (s : State) (h : Quiet (Part.notices.read s)) :
    Quiet (Part.notices.read (State.endWindow force s)) := by
  unfold State.endWindow
  try dsimp only
  repeat' first
    | with_reducible exact h
    | with_reducible assumption
    | rfl
    | with_reducible apply enterClosing_quiet
    | with_reducible apply fillingDemand_quiet
    | rw [updFill_read (part := .notices) (by decide)]
    | rw [setFill_read (part := .notices) (by decide)]
    | rw [takeTopUp_read (part := .notices) (by decide)]
    | split

theorem fillEvent_quiet (f : State → State) (s : State) (h : Quiet (Part.notices.read (f s))) :
    Quiet (Part.notices.read (State.fillEvent f s)) := by
  unfold State.fillEvent
  apply passFill_quiet
  rw [closeSequence_read (part := .notices) (by decide)]
  exact h

theorem changeInhibit_quiet (add : List Reason) (remove : List Reason) (s : State) (h : Quiet (Part.notices.read s)) :
    Quiet (Part.notices.read (State.changeInhibit add remove s)) := by
  unfold State.changeInhibit
  try dsimp only
  repeat' first
    | with_reducible exact h
    | with_reducible assumption
    | rfl
    | with_reducible apply enterHeld_quiet
    | with_reducible apply evaluatePlan_quiet
    | rw [updFill_read (part := .notices) (by decide)]
    | rw [setFill_read (part := .notices) (by decide)]
    | split

theorem fillOnLevelState_quiet (fs : FillSet) (lr : LevelRecord) (s : State) (h : Quiet (Part.notices.read s)) :
    Quiet (Part.notices.read (State.fillOnLevelState fs lr s)) := by
  unfold State.fillOnLevelState
  try dsimp only
  repeat' first
    | with_reducible exact h
    | with_reducible assumption
    | rfl
    | with_reducible apply enterClosing_quiet
    | rw [windowDecision_read (part := .notices) (by decide)]
    | rw [topUp_read (part := .notices) (by decide)]
    | split

theorem turnoverBecomesDone_quiet (s : State) (h : Quiet (Part.notices.read s)) :
    Quiet (Part.notices.read (State.turnoverBecomesDone s)) := by
  unfold State.turnoverBecomesDone
  try dsimp only
  repeat' first
    | with_reducible exact h
    | with_reducible assumption
    | rfl
    | with_reducible apply evaluatePlan_quiet
    | rw [updFill_read (part := .notices) (by decide)]
    | rw [windowDecision_read (part := .notices) (by decide)]
    | split

theorem fillOnLevel_quiet (lr : LevelRecord) (s : State) (h : Quiet (Part.notices.read s)) :
    Quiet (Part.notices.read (State.fillOnLevel lr s)) := by
  unfold State.fillOnLevel
  try dsimp only
  repeat' first
    | with_reducible exact h
    | with_reducible assumption
    | rfl
    | with_reducible apply fillOnLevelState_quiet
    | with_reducible apply turnoverBecomesDone_quiet
    | split

theorem closeConfirmed_quiet (s : State) (h : Quiet (Part.notices.read s)) :
    Quiet (Part.notices.read (State.closeConfirmed s)) := by
  unfold State.closeConfirmed
  try dsimp only
  repeat' first
    | with_reducible exact h
    | with_reducible assumption
    | rfl
    | with_reducible apply evaluatePlan_quiet
    | rw [updFill_read (part := .notices) (by decide)]
    | rw [setFill_read (part := .notices) (by decide)]
    | split

theorem fillOnCommand_quiet (target : Nat) (o : CommandOutcome) (s : State) (h : Quiet (Part.notices.read s)) :
    Quiet (Part.notices.read (State.fillOnCommand target o s)) := by
  unfold State.fillOnCommand
  try dsimp only
  repeat' first
    | with_reducible exact h
    | with_reducible assumption
    | rfl
    | with_reducible apply fillingDemand_quiet
    | with_reducible apply changeInhibit_quiet
    | with_reducible apply closeConfirmed_quiet
    | rw [updFill_read (part := .notices) (by decide)]
    | rw [setFill_read (part := .notices) (by decide)]
    | split

theorem replaceOrder_quiet (order : FillOrder) (s : State) (h : Quiet (Part.notices.read s)) :
    Quiet (Part.notices.read (State.replaceOrder order s)) := by
  unfold State.replaceOrder
  try dsimp only
  repeat' first
    | with_reducible exact h
    | with_reducible assumption
    | rfl
    | with_reducible apply endWindow_quiet
    | rw [updFill_read (part := .notices) (by decide)]
    | split

theorem orderHold_quiet (s : State) (h : Quiet (Part.notices.read s)) :
    Quiet (Part.notices.read (State.orderHold s)) := by
  unfold State.orderHold
  try dsimp only
  repeat' first
    | with_reducible exact h
    | with_reducible assumption
    | rfl
    | with_reducible apply changeInhibit_quiet
    | with_reducible apply replaceOrder_quiet

theorem orderLapses_quiet (s : State) (h : Quiet (Part.notices.read s)) :
    Quiet (Part.notices.read (State.orderLapses s)) := by
  unfold State.orderLapses
  try dsimp only
  repeat' first
    | with_reducible exact h
    | with_reducible assumption
    | rfl
    | with_reducible apply changeInhibit_quiet
    | with_reducible apply replaceOrder_quiet
    | with_reducible apply orderHold_quiet
    | split

theorem judgeZone_quiet (i : Nat) (r : ZoneRecord) (s : State) (h : Quiet (Part.notices.read s)) :
    Quiet (Part.notices.read (State.judgeZone i r s)) := by
  unfold State.judgeZone
  try dsimp only
  repeat' first
    | with_reducible exact h
    | with_reducible assumption
    | rfl
    | with_reducible apply fault_quiet
    | rw [updZone_read (part := .notices) (by decide)]
    | split

theorem judgeListed_quiet (ps : List Nat) (s : State) (h : Quiet (Part.notices.read s)) :
    Quiet (Part.notices.read (State.judgeListed ps s)) := by
  have hz : ∀ (rs : List ZoneRecord) i (s : State), Quiet (Part.notices.read s) → Quiet (Part.notices.read (overZones
      (fun i r s => if ps.contains r.tempPoint then State.judgeZone i r s else s) i rs s)) := by
    intro rs
    induction rs with
    | nil => intro i s h; exact h
    | cons r rs ih =>
      intro i s h
      refine ih _ _ ?_
      dsimp only
      split
      · exact judgeZone_quiet i r s h
      · exact h
  exact hz _ _ _ h

theorem frostFlags_quiet (s : State) (h : Quiet (Part.notices.read s)) :
    Quiet (Part.notices.read (State.frostFlags s)) := by
  unfold State.frostFlags
  try dsimp only
  repeat' first
    | with_reducible exact h
    | with_reducible assumption
    | rfl
    | (unfold reasonNotice; split <;> rfl)
    | with_reducible apply send_quiet
    | rw [updFrost_read (part := .notices) (by decide)]
    | split

theorem passFrost_quiet (before : State) (s : State) (h : Quiet (Part.notices.read s)) :
    Quiet (Part.notices.read (State.passFrost before s)) := by
  unfold State.passFrost
  try dsimp only
  repeat' first
    | with_reducible exact h
    | with_reducible assumption
    | rfl
    | with_reducible apply send_quiet
    | split

theorem frostSettle_quiet (before : State) (calls : Bool) (s : State) (h : Quiet (Part.notices.read s)) :
    Quiet (Part.notices.read (State.frostSettle before calls s)) := by
  unfold State.frostSettle
  try dsimp only
  repeat' first
    | with_reducible exact h
    | with_reducible assumption
    | rfl
    | with_reducible apply frostFlags_quiet
    | with_reducible apply passFrost_quiet
    | rw [allocate_read (part := .notices) (by decide)]
    | split

theorem frostOnPoints_quiet (ps : List Nat) (s : State) (h : Quiet (Part.notices.read s)) :
    Quiet (Part.notices.read (State.frostOnPoints ps s)) := by
  unfold State.frostOnPoints
  try dsimp only
  repeat' first
    | with_reducible exact h
    | with_reducible assumption
    | rfl
    | with_reducible apply judgeListed_quiet
    | with_reducible apply frostSettle_quiet
    | rw [learnListed_read (part := .notices) (by decide)]
    | split

theorem frostOnCommand_quiet (address : Nat) (item : Nat) (target : Nat) (o : CommandOutcome) (s : State) (h : Quiet (Part.notices.read s)) :
    Quiet (Part.notices.read (State.frostOnCommand address item target o s)) := by
  unfold State.frostOnCommand
  try dsimp only
  repeat' first
    | with_reducible exact h
    | with_reducible assumption
    | rfl
    | with_reducible apply frostSettle_quiet
    | rw [updZone_read (part := .notices) (by decide)]
    | split

theorem setBudget_quiet (calls : Bool) (s : State) (h : Quiet (Part.notices.read s)) :
    Quiet (Part.notices.read (State.setBudget calls s)) := by
  unfold State.setBudget
  try dsimp only
  repeat' first
    | with_reducible exact h
    | with_reducible assumption
    | rfl
    | with_reducible apply frostSettle_quiet
    | rw [updFrost_read (part := .notices) (by decide)]

theorem frostOnTariff_quiet (c : TariffClass) (s : State) (h : Quiet (Part.notices.read s)) :
    Quiet (Part.notices.read (State.frostOnTariff c s)) := by
  unfold State.frostOnTariff
  try dsimp only
  repeat' first
    | with_reducible exact h
    | with_reducible assumption
    | rfl
    | with_reducible apply setBudget_quiet
    | rw [updFrost_read (part := .notices) (by decide)]

theorem frostOnSupply_quiet (mode : SupplyMode) (before : SupplyMode) (s : State) (h : Quiet (Part.notices.read s)) :
    Quiet (Part.notices.read (State.frostOnSupply mode before s)) := by
  unfold State.frostOnSupply
  try dsimp only
  repeat' first
    | with_reducible exact h
    | with_reducible assumption
    | rfl
    | with_reducible apply frostSettle_quiet
    | with_reducible apply setBudget_quiet
    | rw [updFrost_read (part := .notices) (by decide)]
    | split

theorem frostOnBank_quiet (cleared holds : Bool) (s : State) (h : Quiet (Part.notices.read s)) :
    Quiet (Part.notices.read (State.frostOnBank cleared holds s)) := by
  have hz : ∀ i (r : ZoneRecord) (s : State),
      Part.notices.read (s.updZone i (ZoneState.cleared (s.zoneFeedback r))) = Part.notices.read s :=
    fun i r s => updZone_read (by decide) i _ s
  unfold State.frostOnBank
  dsimp only
  apply frostSettle_quiet
  rw [setRequests_read (part := .notices) (by decide)]
  split
  · rw [overZones_read _ hz]; exact h
  · exact h

theorem tellOrigin_quiet (e : CommandEntry) (o : CommandOutcome) (s : State) (h : Quiet (Part.notices.read s)) :
    Quiet (Part.notices.read (State.tellOrigin e o s)) := by
  unfold State.tellOrigin
  try dsimp only
  repeat' first
    | with_reducible exact h
    | with_reducible assumption
    | rfl
    | with_reducible apply send_quiet

theorem fold_lineOnPoints_quiet (o : CommandOutcome) (es : List CommandEntry) (s : State) (h : Quiet (Part.notices.read s)) :
    Quiet (Part.notices.read (es.foldl (fun s e => (s.removeCommand e.address e.item).tellOrigin e o) s)) := by
  induction es generalizing s with
  | nil => exact h
  | cons e es ih =>
    refine ih _ ?_
    apply tellOrigin_quiet
    rw [removeCommand_read (part := .notices) (by decide)]
    exact h

theorem lineOnPoints_quiet (ps : List Nat) (s : State) (h : Quiet (Part.notices.read s)) :
    Quiet (Part.notices.read (State.lineOnPoints ps s)) := by
  unfold State.lineOnPoints
  exact fold_lineOnPoints_quiet _ _ _ h

theorem lineOnSupply_quiet (mode : SupplyMode) (s : State) (h : Quiet (Part.notices.read s)) :
    Quiet (Part.notices.read (State.lineOnSupply mode s)) := by
  unfold State.lineOnSupply
  split
  · exact h
  · exact fold_lineOnPoints_quiet _ _ _ h

theorem controlFrame_quiet (s : State) (h : Quiet (Part.notices.read s)) :
    Quiet (Part.notices.read (State.controlFrame s)) := by
  unfold State.controlFrame
  try dsimp only
  repeat' first
    | with_reducible exact h
    | with_reducible assumption
    | rfl
    | with_reducible apply send_quiet
    | rw [updTrunk_read (part := .notices) (by decide)]
    | split

theorem levelTakes_quiet (n : Notice) (s : State) (h : Quiet (Part.notices.read s)) :
    Quiet (Part.notices.read (State.levelTakes n s)) := by
  unfold State.levelTakes
  try dsimp only
  repeat' first
    | with_reducible exact h
    | with_reducible assumption
    | rfl
    | with_reducible apply levelOnPoints_quiet
    | with_reducible apply levelOnHousing_quiet
    | split

theorem guardTakes_quiet (n : Notice) (s : State) (h : Quiet (Part.notices.read s)) :
    Quiet (Part.notices.read (State.guardTakes n s)) := by
  unfold State.guardTakes
  try dsimp only
  repeat' first
    | with_reducible exact h
    | with_reducible assumption
    | rfl
    | with_reducible apply guardOnPoints_quiet
    | with_reducible apply guardEvaluate_quiet
    | with_reducible apply guardOnTripWork_quiet
    | with_reducible apply guardOnLevel_quiet
    | with_reducible apply guardOnPipe_quiet
    | rw [guardOnUrgent_read (part := .notices) (by decide)]
    | split

theorem fillTakes_quiet (n : Notice) (s : State) (h : Quiet (Part.notices.read s)) :
    Quiet (Part.notices.read (State.fillTakes n s)) := by
  unfold State.fillTakes
  try dsimp only
  repeat' first
    | with_reducible exact h
    | with_reducible assumption
    | rfl
    | with_reducible apply fillEvent_quiet
    | with_reducible apply changeInhibit_quiet
    | with_reducible apply fillOnLevel_quiet
    | with_reducible apply fillOnCommand_quiet
    | with_reducible apply orderLapses_quiet
    | rw [windowDecision_read (part := .notices) (by decide)]
    | split

theorem frostTakes_quiet (n : Notice) (s : State) (h : Quiet (Part.notices.read s)) :
    Quiet (Part.notices.read (State.frostTakes n s)) := by
  unfold State.frostTakes
  try dsimp only
  repeat' first
    | with_reducible exact h
    | with_reducible assumption
    | rfl
    | with_reducible apply frostOnPoints_quiet
    | with_reducible apply frostOnCommand_quiet
    | with_reducible apply frostOnTariff_quiet
    | with_reducible apply frostOnSupply_quiet
    | with_reducible apply frostOnBank_quiet
    | split

theorem lineTakes_quiet (n : Notice) (s : State) (h : Quiet (Part.notices.read s)) :
    Quiet (Part.notices.read (State.lineTakes n s)) := by
  unfold State.lineTakes
  try dsimp only
  repeat' first
    | with_reducible exact h
    | with_reducible assumption
    | rfl
    | with_reducible apply lineOnPoints_quiet
    | with_reducible apply lineOnSupply_quiet
    | split

theorem deliver_quiet (d : Delivery) (s : State) (h : Quiet (Part.notices.read s)) :
    Quiet (Part.notices.read (State.deliver d s)) := by
  unfold State.deliver
  split
  · exact levelTakes_quiet _ _ h
  · exact guardTakes_quiet _ _ h
  · exact fillTakes_quiet _ _ h
  · exact frostTakes_quiet _ _ h
  · exact lineTakes_quiet _ _ h
  · rw [telemetryTakes_read (part := .notices) (by decide)]; exact h
  · rw [storeTakes_read (part := .notices) (by decide)]; exact h

/-! ### The deliveries of an event whose notices report nothing -/

/-- What no delivery of a notice that reports nothing changes, no event of such notices changes. -/
theorem drain_quiet_induct (P : State → Prop) (hn : ∀ (s : State) ns k, P s → P { s with notices := ns, draws := k })
    (hd : ∀ d (s : State), Notice.reports d.notice = false → P s → P (s.deliver d)) (pick : Nat → Nat) (fuel : Nat)
    (s : State) (hq : Quiet s.notices) (h : P s) : P (State.drain pick fuel s) := by
  induction fuel generalizing s with
  | zero => exact h
  | succ fuel ih =>
    simp only [State.drain]
    split
    · exact h
    · have key : Quiet (s.deliverOne pick).notices ∧ P (s.deliverOne pick) := by
        rcases deliverOne_cases pick s with e | ⟨d, others, draws, h1, h2, -, e⟩
        · rw [e]; exact ⟨hq, h⟩
        · have hq' : Quiet (Part.notices.read { s with notices := others, draws := draws }) := fun x hx => hq x (h2 x hx)
          rw [e]
          exact ⟨deliver_quiet d _ hq', hd d _ (hq d h1) (hn s others draws h)⟩
      exact ih _ key.1 key.2

/-! ### A guard that stands TRIPPED -/

/-- A guard that stands TRIPPED with no reset in progress, and agrees with `b0` in all that a trip sets and the float shows. -/
def Rests (b0 b : GuardBlock) : Prop :=
  b.state = .tripped ∧ b.reset = none ∧ b.cause = b0.cause ∧ b.tripLine = b0.tripLine ∧ b.tripFlag = b0.tripFlag ∧
    b.watch = b0.watch ∧ b.floatActive = b0.floatActive ∧ b.floatAt = b0.floatAt

variable {b0 : GuardBlock}

theorem tripCondition_rests (c : TripCause) (lr : LevelRecord) (s : State) (h : Rests b0 (Part.guard.read s)) :
    State.tripCondition c lr s = s := by
  have h1 : s.guard.state = .tripped := h.1
  have h2 : s.guard.reset = none := h.2.1
  unfold State.tripCondition
  rw [h1, h2]

theorem guardEvaluate_rests (lr : LevelRecord) (s : State) (h : Rests b0 (Part.guard.read s)) :
    Rests b0 (Part.guard.read (s.guardEvaluate lr)) := by
  unfold State.guardEvaluate
  split
  · exact h
  · rename_i g hg
    have h' : Rests b0 (Part.guard.read ((s.updGuard (GuardBlock.withNumbers g s.tables.strapping lr s.fill.demand)).send
        .telemetry (.projection (s.updGuard (GuardBlock.withNumbers g s.tables.strapping lr s.fill.demand)).guard.projection))) := h
    dsimp only
    split
    · rename_i hs; exact absurd (hs.symm.trans h'.1) (by decide)
    · rename_i hs; exact absurd (hs.symm.trans h'.1) (by decide)
    · split
      · rw [tripCondition_rests _ _ _ h']; exact h'
      · exact h'

theorem holdOnNotice_rests (lr : LevelRecord) (s : State) (h : Rests b0 (Part.guard.read s)) :
    Rests b0 (Part.guard.read (s.holdOnNotice lr)) := by
  unfold State.holdOnNotice
  split
  · exact h
  · split
    · split
      · exact h
      · unfold State.armHold
        dsimp only
        split
        · unfold State.levelHoldEnds
          have h' : Rests b0 (Part.guard.read (s.updGuard fun b => { b with holdAt := none })) := h
          rw [tripCondition_rests _ _ _ h']; exact h'
        · exact h
    · exact h
    · exact h

theorem guardTakes_rests (n : Notice) (s : State) (hn : Notice.reports n = false) (h : Rests b0 (Part.guard.read s)) :
    Rests b0 (Part.guard.read (s.guardTakes n)) := by
  unfold State.guardTakes
  split
  · simp [Notice.reports] at hn
  · exact guardEvaluate_rests _ _ (holdOnNotice_rests _ _ h)
  · exact guardEvaluate_rests _ _ h
  · exact guardEvaluate_rests _ _ h
  · simp [Notice.reports] at hn
  · simp [Notice.reports] at hn
  · exact h

/-- The deliveries of an event whose notices report nothing leave a TRIPPED guard as it is. -/
theorem drain_rests (pick : Nat → Nat) (fuel : Nat) (s : State) (hq : Quiet s.notices) (h : Rests b0 s.guard) :
    Rests b0 (State.drain pick fuel s).guard := by
  refine drain_quiet_induct (fun s => Rests b0 s.guard) (fun s ns k h => h) (fun d s hn h => ?_) pick fuel s hq h
  show Rests b0 (Part.guard.read (s.deliver d))
  unfold State.deliver
  split
  · rw [levelTakes_read (part := .guard) (by decide)]; exact h
  · exact guardTakes_rests _ _ hn h
  · rw [fillTakes_read (part := .guard) (by decide)]; exact h
  · rw [frostTakes_read (part := .guard) (by decide)]; exact h
  · rw [lineTakes_read (part := .guard) (by decide)]; exact h
  · rw [telemetryTakes_read (part := .guard) (by decide)]; exact h
  · rw [storeTakes_read (part := .guard) (by decide)]; exact h

/-- A delivery reads one value of `pick` alone, and of that only its remainder by the number of notices in line. -/
theorem deliverOne_pick (pick : Nat → Nat) (s : State) :
    s.deliverOne pick = s.deliverOne fun _ => pick s.draws % (inLine s.notices).length := by
  unfold State.deliverOne
  cases h : inLine s.notices with
  | nil => rfl
  | cons d rest => simp only [Nat.mod_mod]

/-- Whatever block goes first at each delivery, no notice waits after at most `fuel` of them. -/
def endsWithin : Nat → State → Bool
  | 0, s => s.notices.isEmpty
  | fuel + 1, s => s.notices.isEmpty || (!(inLine s.notices).isEmpty &&
      (List.range (inLine s.notices).length).all fun i => endsWithin fuel (s.deliverOne fun _ => i))

/-- An event that ends in every order of its deliveries leaves no notice waiting, whatever the free value `pick` is. -/
theorem drain_ends (pick : Nat → Nat) (fuel more : Nat) (s : State) (h : endsWithin fuel s = true) :
    (State.drain pick (fuel + more) s).notices = [] := by
  induction fuel generalizing s with
  | zero =>
    have hs : s.notices = [] := by simpa [endsWithin] using h
    cases h0 : 0 + more with
    | zero => exact hs
    | succ n => simp [State.drain, hs]
  | succ fuel ih =>
    rw [Nat.add_right_comm]
    unfold State.drain
    split
    · assumption
    · rename_i hn
      unfold endsWithin at h
      simp only [Bool.or_eq_true, List.isEmpty_iff, hn, false_or, Bool.and_eq_true, Bool.not_eq_true', List.all_eq_true,
        List.mem_range] at h
      rw [deliverOne_pick]
      refine ih _ (h.2 _ (Nat.mod_lt _ ?_))
      cases hl : inLine s.notices with
      | nil => simp [hl] at h
      | cons d rest => simp

/-- So the expiry of a timer that is due leaves none. -/
theorem expiry_ends (pick : Nat → Nat) (fuel due : Nat) (aim : Option Nat) (f : State → State) (s : State) (hp : s.powered = true)
    (ha : aim = some due) (hf : fuel ≤ Config.deliveryFuel) (h : endsWithin fuel (f (s.advanceTo due)) = true) :
    (State.expiry pick aim due f s).notices = [] := by
  have hd := drain_ends pick fuel (Config.deliveryFuel - fuel) _ h
  rw [Nat.add_sub_cancel' hf] at hd
  subst ha
  simp only [State.expiry, State.eventIf, State.event, beq_self_eq_true, if_true, hp]
  exact (settle_read (part := .notices) (by decide) _).trans hd

end Sys2Proof.Laws
end

