-- ==== Sys2Proof/Laws/Payloads.lean ====
section
/-! SUPPORT. The lengths of the elements of R185 and the numbers that they spell, so that a field of a payload is read off where it
stands. -/

namespace Sys2Proof.Machine.Laws

/-! ### Where a number stands -/

theorem numberAt_left (xs ys : List Byte) (off len : Nat) (h : off + len ≤ xs.length) :
    numberAt (xs ++ ys) off len = numberAt xs off len := by
  unfold numberAt
  rw [List.drop_append_of_le_length (by omega), List.take_append_of_le_length (by rw [List.length_drop]; omega)]

theorem numberAt_right (xs ys : List Byte) (off len : Nat) (h : xs.length ≤ off) :
    numberAt (xs ++ ys) off len = numberAt ys (off - xs.length) len := by
  unfold numberAt
  rw [List.drop_append, List.drop_eq_nil_of_le h, List.nil_append]

theorem numberAt_cons (x : Byte) (xs : List Byte) (off len : Nat) (h : 0 < off) :
    numberAt (x :: xs) off len = numberAt xs (off - 1) len := numberAt_right [x] xs off len h

/-- Past what stands before it. -/
theorem numberAt_past (n : Nat) (xs ys : List Byte) (off len : Nat) (h : xs.length = n) :
    numberAt (xs ++ ys) (n + off) len = numberAt ys off len := by
  rw [numberAt_right _ _ _ _ (by omega), h, Nat.add_sub_cancel_left]

/-! ### Lengths -/

@[simp] theorem beBytes_length (width n : Nat) : (beBytes width n).length = width := by
  induction width generalizing n with
  | zero => rfl
  | succ w ih => simp [beBytes, ih]

@[simp] theorem encU_length (width n : Nat) : (encU width n).length = width := by
  unfold encU
  split <;> simp

@[simp] theorem encS_length (width : Nat) (i : Int) : (encS width i).length = width := by
  unfold encS
  split <;> simp

@[simp] theorem encFlag_length (b : Bool) : (encFlag b).length = 1 := rfl

@[simp] theorem enc1_length (n : Nat) : (enc1 n).length = 1 := encU_length 1 n

@[simp] theorem encOpt_length (width : Nat) (o : Option Nat) : (encOpt width o).length = width := by
  cases o <;> simp [encOpt]

@[simp] theorem encOpt1_length (o : Option Nat) : (encOpt1 o).length = 1 := encOpt_length 1 o

@[simp] theorem encSeconds_length (o : Option Nat) : (encSeconds o).length = 4 := encOpt_length 4 _

@[simp] theorem encClock_length (c : Option ClockTime) : (encClock c).length = 4 := by
  cases c <;> simp [encClock]

@[simp] theorem encRate_length (r : Option Int) : (encRate r).length = 2 := by
  cases r <;> simp [encRate]

@[simp] theorem encMm_length (i : Int) : (encMm i).length = 2 := by
  unfold encMm
  split <;> simp

@[simp] theorem encInhibit_length (rs : List Reason) : (encInhibit rs).length = 2 := encU_length 2 _

@[simp] theorem encHeater_length (h : Heater) : (encHeater h).length = 2 := by
  cases h <;> simp [encHeater]

@[simp] theorem encHeld_length (h : Option Bool) : (encHeld h).length = 1 := by
  rcases h with _ | _ | _ <;> simp [encHeld]

@[simp] theorem encLevelRecord_length (r : LevelRecord) : (encLevelRecord r).length = 14 := by simp [encLevelRecord]

@[simp] theorem encGuard_length (g : GuardBlock) : (encGuard g).length = 16 := by simp [encGuard]

@[simp] theorem encNumbers_length (n : PlanNumbers) : (encNumbers n).length = 23 := by simp [encNumbers]

@[simp] theorem encFill_length (f : FillBlock) : (encFill f).length = 31 := by simp [encFill]

@[simp] theorem encStation_length (c : Option StationCopy) (tag : Nat) : (encStation c tag).length = 9 := by
  cases c <;> simp [encStation]

@[simp] theorem encToday_length (s : State) : s.encToday.length = 6 := by simp [State.encToday]

@[simp] theorem encFrost_length (b : FrostBlock) : (encFrost b).length = 8 := by simp [encFrost]

/-! ### Numbers -/

theorem numberAt_beBytes (width n : Nat) (h : n < 256 ^ width) : numberAt (beBytes width n) 0 width = n := by
  have key : ∀ w m, m < 256 ^ w → (beBytes w m).foldl (fun a (b : Byte) => a * 256 + b.toNat) 0 = m := by
    intro w
    induction w with
    | zero => intro m hm; simp [beBytes] at *; omega
    | succ w ih =>
      intro m hm
      have hd : m / 256 < 256 ^ w := Nat.div_lt_of_lt_mul (by rw [Nat.mul_comm, ← Nat.pow_succ]; exact hm)
      simp [beBytes, List.foldl_append, ih _ hd, BitVec.toNat_ofNat]
      omega
  unfold numberAt
  rw [List.drop_zero, List.take_of_length_le (by simp)]
  exact key width n h

theorem numberAt_encU (width n : Nat) (h : n < 256 ^ width) : numberAt (encU width n) 0 width = n := by
  rw [encU, if_pos h, numberAt_beBytes width n h]

theorem numberAt_enc1 (n : Nat) (h : n < 256) : numberAt (enc1 n) 0 1 = n := numberAt_encU 1 n h

theorem numberAt_encS (width : Nat) (i : Int) (hl : -(2 ^ (8 * width - 1) : Nat) ≤ i) (hh : i < (2 ^ (8 * width - 1) : Nat)) :
    numberAt (encS width i) 0 width = (i % (2 ^ (8 * width) : Nat)).toNat := by
  rw [encS, if_pos ⟨hl, hh⟩, numberAt_beBytes]
  have hp : (0 : Int) < (2 ^ (8 * width) : Nat) := by exact_mod_cast Nat.two_pow_pos _
  have h1 := Int.emod_nonneg i (Int.ne_of_gt hp)
  have h2 := Int.emod_lt_of_pos i hp
  rw [show (256 : Nat) = 2 ^ 8 from rfl, ← Nat.pow_mul]
  omega

theorem flagAt_encFlag (b : Bool) : flagAt (encFlag b) 0 b := by cases b <;> rfl

theorem numberAt_encOpt_none (width : Nat) : numberAt (encOpt width none) 0 width = 256 ^ width - 1 := by
  have key : ∀ w a, (List.replicate w 0xFF#8).foldl (fun n (b : Byte) => n * 256 + b.toNat) a + 1 = (a + 1) * 256 ^ w := by
    intro w
    induction w with
    | zero => intro a; simp
    | succ w ih =>
      intro a
      rw [List.replicate_succ, List.foldl_cons, ih, Nat.pow_succ, Nat.mul_comm (256 ^ w), ← Nat.mul_assoc]
      have hb : (0xFF#8 : Byte).toNat = 255 := by decide
      rw [hb, show a * 256 + 255 + 1 = (a + 1) * 256 by omega]
  have h := key width 0
  unfold numberAt
  simp only [encOpt]
  rw [List.drop_zero, List.take_of_length_le (by simp)]
  omega

theorem clockAt_encClock (c : Option ClockTime) : clockAt (encClock c) 0 c := by
  cases c with
  | none => rfl
  | some t =>
    refine ⟨fun h => ?_, fun h => ?_, fun h => ?_⟩ <;> simp only [encClock]
    · rw [numberAt_left _ _ _ _ (by simp), numberAt_left _ _ _ _ (by simp), numberAt_encU 1 _ h]
    · rw [numberAt_left _ _ _ _ (by simp), numberAt_right _ _ _ _ (by simp)]
      simp only [encU_length]
      exact numberAt_encU 2 _ h
    · rw [numberAt_right _ _ _ _ (by simp)]
      simp only [List.length_append, encU_length]
      exact numberAt_encU 1 _ h

/-! ### The blocks of READ_STATE (R160) -/

/-- What follows the Frost Unit's items. -/
def stateTail (s : State) : List Byte :=
  enc1 s.supply.mode.number ++ (encFlag s.trunk.islanded ++ (encFlag s.trunk.controlSilent ++ (encFlag s.trunk.stationSilent ++
    (Bank.all.flatMap (fun b => encFlag (s.banks.get b).isSome ++ encFlag (s.holds b)) ++
      (TableKind.all.flatMap (fun k => encU 4 (s.use.get k).generation) ++ (encFlag s.trunk.restart.isSome ++ encU 4 s.uptime))))))

theorem stateTail_length (s : State) : (stateTail s).length = 63 := by
  simp [stateTail, Bank.all, TableKind.all]

theorem readState_parts (s : State) :
    s.readStatePayload = [Status.done.byte] ++ (encLevelRecord s.level.record ++ (encGuard s.guard ++ (encFill s.fill ++
      (encStation s.fill.station s.fill.demandTag ++ (s.encToday ++ (encFrost s.frost ++ stateTail s)))))) := by
  simp only [State.readStatePayload, stateTail, List.append_assoc, List.singleton_append]

theorem readState_length (s : State) : s.readStatePayload.length = 148 := by
  rw [readState_parts]
  simp [stateTail_length]

/-- A number of the level record stands at 1 and on. -/
theorem readState_level (s : State) (off len : Nat) (h : off + len ≤ 14) :
    numberAt s.readStatePayload (1 + off) len = numberAt (encLevelRecord s.level.record) off len := by
  rw [readState_parts, numberAt_past 1 _ _ _ _ rfl, numberAt_left _ _ _ _ (by simpa using h)]

/-- A number of the guard's record stands at 15 and on. -/
theorem readState_guard (s : State) (off len : Nat) (h : off + len ≤ 16) :
    numberAt s.readStatePayload (15 + off) len = numberAt (encGuard s.guard) off len := by
  rw [readState_parts, show 15 + off = 1 + (14 + off) by omega, numberAt_past 1 _ _ _ _ rfl, numberAt_past 14 _ _ _ _ (by simp),
    numberAt_left _ _ _ _ (by simpa using h)]

/-- A number of the fill record stands at 31 and on. -/
theorem readState_fill (s : State) (off len : Nat) (h : off + len ≤ 31) :
    numberAt s.readStatePayload (31 + off) len = numberAt (encFill s.fill) off len := by
  rw [readState_parts, show 31 + off = 1 + (14 + (16 + off)) by omega, numberAt_past 1 _ _ _ _ rfl,
    numberAt_past 14 _ _ _ _ (by simp), numberAt_past 16 _ _ _ _ (by simp), numberAt_left _ _ _ _ (by simpa using h)]

/-- A number of the station copy and the DEMAND tag stands at 62 and on. -/
theorem readState_station (s : State) (off len : Nat) (h : off + len ≤ 9) :
    numberAt s.readStatePayload (62 + off) len = numberAt (encStation s.fill.station s.fill.demandTag) off len := by
  rw [readState_parts, show 62 + off = 1 + (14 + (16 + (31 + off))) by omega, numberAt_past 1 _ _ _ _ rfl,
    numberAt_past 14 _ _ _ _ (by simp), numberAt_past 16 _ _ _ _ (by simp), numberAt_past 31 _ _ _ _ (by simp),
    numberAt_left _ _ _ _ (by simpa using h)]

/-- A number of the clock, the class and the day type stands at 71 and on. -/
theorem readState_today (s : State) (off len : Nat) (h : off + len ≤ 6) :
    numberAt s.readStatePayload (71 + off) len = numberAt s.encToday off len := by
  rw [readState_parts, show 71 + off = 1 + (14 + (16 + (31 + (9 + off)))) by omega, numberAt_past 1 _ _ _ _ rfl,
    numberAt_past 14 _ _ _ _ (by simp), numberAt_past 16 _ _ _ _ (by simp), numberAt_past 31 _ _ _ _ (by simp),
    numberAt_past 9 _ _ _ _ (by simp), numberAt_left _ _ _ _ (by simpa using h)]

/-- A number of the Frost Unit's items stands at 77 and on. -/
theorem readState_frost (s : State) (off len : Nat) (h : off + len ≤ 8) :
    numberAt s.readStatePayload (77 + off) len = numberAt (encFrost s.frost) off len := by
  rw [readState_parts, show 77 + off = 1 + (14 + (16 + (31 + (9 + (6 + off))))) by omega, numberAt_past 1 _ _ _ _ rfl,
    numberAt_past 14 _ _ _ _ (by simp), numberAt_past 16 _ _ _ _ (by simp), numberAt_past 31 _ _ _ _ (by simp),
    numberAt_past 9 _ _ _ _ (by simp), numberAt_past 6 _ _ _ _ (by simp), numberAt_left _ _ _ _ (by simpa using h)]

/-- The rest stands at 85 and on. -/
theorem readState_tail (s : State) (off len : Nat) :
    numberAt s.readStatePayload (85 + off) len = numberAt (stateTail s) off len := by
  rw [readState_parts, show 85 + off = 1 + (14 + (16 + (31 + (9 + (6 + (8 + off)))))) by omega, numberAt_past 1 _ _ _ _ rfl,
    numberAt_past 14 _ _ _ _ (by simp), numberAt_past 16 _ _ _ _ (by simp), numberAt_past 31 _ _ _ _ (by simp),
    numberAt_past 9 _ _ _ _ (by simp), numberAt_past 6 _ _ _ _ (by simp), numberAt_past 8 _ _ _ _ (by simp)]

end Sys2Proof.Machine.Laws
end

