-- ==== Sys2Proof/Laws/Picks.lean ====
section
/-! SUPPORT. A pick leaves the line cycle, the slots and the channels but for their split phase (R26). -/

namespace Sys2Proof.Laws

open Sys2Proof.Machine

/-- What a pick leaves of a channel: all but its split phase. -/
def ChannelLive.core (l : ChannelLive) : Bool × ChannelMode × ChannelCondition × Nat × Nat × Nat :=
  (l.go, l.mode, l.condition, l.failures, l.countdown, l.haltedCycles)

/-- A line that agrees with `l0` in its cycle, its slots, its command stages and the cores of its channels. -/
def Picks (l0 l : LineBlock) : Prop :=
  l.rate = l0.rate ∧ l.lsbFirst = l0.lsbFirst ∧ l.cycle = l0.cycle ∧ l.cycleStartUs = l0.cycleStartUs ∧ l.late = l0.late ∧
    l.slots = l0.slots ∧ l.live.map ChannelLive.core = l0.live.map ChannelLive.core

theorem modify_core (ls : List ChannelLive) (i : Nat) (f : ChannelLive → ChannelLive)
    (hf : ∀ l, ChannelLive.core (f l) = ChannelLive.core l) : (ls.modify i f).map ChannelLive.core = ls.map ChannelLive.core := by
  induction ls generalizing i with
  | nil => cases i <;> rfl
  | cons l ls ih =>
    cases i with
    | zero => simp [List.modify_zero_cons, hf]
    | succ i => simp [List.modify_succ_cons, ih]

theorem updChannel_picks (i : Nat) (f : ChannelLive → ChannelLive) (hf : ∀ l, ChannelLive.core (f l) = ChannelLive.core l)
    (s : State) {l0 : LineBlock} (h : Picks l0 (Part.line.read s)) : Picks l0 (Part.line.read (s.updChannel i f)) := by
  obtain ⟨h1, h2, h3, h4, h5, h6, h7⟩ := h
  exact ⟨h1, h2, h3, h4, h5, h6, (modify_core _ _ _ hf).trans h7⟩

variable {l0 : LineBlock}

theorem updLine_picks (g : LineBlock → LineBlock) (hg : ∀ b, Picks l0 b → Picks l0 (g b)) (s : State)
    (h : Picks l0 (Part.line.read s)) : Picks l0 (Part.line.read (s.updLine g)) := hg _ h



@[simp] theorem startTransaction_picks (work : LineWork) (address : Nat) (wake : Bool) (r : LineRequest) (s : State) (h : Picks l0 (Part.line.read s)) :
    Picks l0 (Part.line.read (State.startTransaction work address wake r s)) := by
  unfold State.startTransaction
  try dsimp only
  repeat' first
    | with_reducible exact h
    | with_reducible assumption
    | (intro b hb; exact hb)
    | with_reducible apply updLine_picks

@[simp] theorem tryChannel_picks (left : Nat) (i : Nat) (c : ChannelRecord) (s : State) (h : Picks l0 (Part.line.read s)) :
    Picks l0 (Part.line.read (State.tryChannel left i c s).1) := by
  unfold State.tryChannel
  try dsimp only
  repeat' first
    | with_reducible exact h
    | with_reducible assumption
    | (intro l; rfl)
    | with_reducible apply updChannel_picks
    | with_reducible apply startTransaction_picks
    | with_reducible apply request_picks
    | split

theorem tryChannels_picks (left : Nat) (cls : ChannelClass) (i : Nat) (cs : List ChannelRecord) (s : State)
    (h : Picks l0 (Part.line.read s)) : Picks l0 (Part.line.read (tryChannels left cls i cs s).1) := by
  induction cs generalizing i s with
  | nil => exact h
  | cons c rest ih =>
    simp only [tryChannels]
    split
    · split
      · exact tryChannel_picks left i c s h
      · exact ih _ _ (tryChannel_picks left i c s h)
    · exact ih _ _ h

@[simp] theorem updCommand_picks (address : Nat) (item : Nat) (f : CommandEntry → CommandEntry) (s : State) (h : Picks l0 (Part.line.read s)) :
    Picks l0 (Part.line.read (State.updCommand address item f s)) := by
  unfold State.updCommand
  try dsimp only
  repeat' first
    | with_reducible exact h
    | with_reducible assumption
    | (intro b hb; exact hb)
    | with_reducible apply updLine_picks

theorem tryCommands_picks (left : Nat) (es : List CommandEntry) (s : State)
    (h : Picks l0 (Part.line.read s)) : Picks l0 (Part.line.read (tryCommands left es s).1) := by
  induction es generalizing s with
  | nil => exact h
  | cons e rest ih =>
    simp only [tryCommands]
    split
    · exact ih _ h
    · split
      · exact ih _ h
      · exact h

@[simp] theorem leavePass_picks (payload : List Byte) (s : State) (h : Picks l0 (Part.line.read s)) :
    Picks l0 (Part.line.read (State.leavePass payload s)) := by
  unfold State.leavePass
  try dsimp only
  repeat' first
    | with_reducible exact h
    | with_reducible assumption
    | (intro b hb; exact hb)
    | with_reducible apply updLine_picks
    | rw [respond_read (part := .line) (by decide)]
    | split

@[simp] theorem updHead_picks (f : PassEntry → PassEntry) (s : State) (h : Picks l0 (Part.line.read s)) :
    Picks l0 (Part.line.read (State.updHead f s)) := by
  unfold State.updHead
  try dsimp only
  repeat' first
    | with_reducible exact h
    | with_reducible assumption
    | (intro b hb; exact hb)
    | with_reducible apply updLine_picks

theorem tryPass_picks (left fuel : Nat) (s : State)
    (h : Picks l0 (Part.line.read s)) : Picks l0 (Part.line.read (State.tryPass left fuel s).1) := by
  induction fuel generalizing s with
  | zero => exact h
  | succ fuel ih =>
    have hl : ∀ p, Picks l0 (Part.line.read ((State.leavePass p s).tryPass left fuel).1) :=
      fun p => ih _ (leavePass_picks p s h)
    simp only [State.tryPass]
    repeat' first
      | with_reducible exact h
      | with_reducible apply hl
      | exact h
      | split

@[simp] theorem pickWork_picks (left : Nat) (s : State) (h : Picks l0 (Part.line.read s)) :
    Picks l0 (Part.line.read (State.pickWork left s)) := by
  unfold State.pickWork
  try dsimp only
  repeat' first
    | with_reducible exact h
    | with_reducible assumption
    | with_reducible apply tryChannels_picks
    | with_reducible apply tryCommands_picks
    | with_reducible apply tryPass_picks
    | split

@[simp] theorem linePick_picks (s : State) (h : Picks l0 (Part.line.read s)) :
    Picks l0 (Part.line.read (State.linePick s)) := by
  unfold State.linePick
  try dsimp only
  repeat' first
    | with_reducible exact h
    | with_reducible assumption
    | (intro b hb; exact hb)
    | with_reducible apply updLine_picks
    | with_reducible apply startTransaction_picks
    | with_reducible apply pickWork_picks
    | split

end Sys2Proof.Laws
end

