-- ==== Sys2Proof/Laws/Requests.lean ====
section
/-! SUPPORT. What a request does whose owner raises no notice (R138, R155, R156, R158): the notice of an islanding's end is the one that may
wait, and it reaches Level Telemetry alone. -/

namespace Sys2Proof.Laws

open Sys2Proof.Machine

/-- The state in which the owner of a request judges it: the frame has counted, and the place is reserved (R138, R155). -/
def taken (code tag : Byte) (s : State) : State := s.controlFrame.updOut (Outbound.reserve code tag)

/-- At most the notice of an islanding's end waits. -/
def TellsIslanding (s : State) : Prop := s.notices = [] ∨ s.notices = [⟨.telemetry, .islanded false⟩]

theorem controlFrame_out (s : State) : s.controlFrame.out = s.out := controlFrame_read (part := .out) (by decide) s

theorem controlFrame_trunk (s : State) : s.controlFrame.trunk = { s.trunk with
    controlAt := some (s.now + (siteLimits s.tables.siteSet).1)
    controlSilent := false
    islanded := false } := by
  unfold State.controlFrame
  dsimp only
  split <;> rfl

theorem controlFrame_notices (s : State) (h : s.notices = []) :
    TellsIslanding s.controlFrame ∧ (s.trunk.islanded = false → s.controlFrame.notices = []) := by
  unfold State.controlFrame
  dsimp only
  split
  · rename_i h'
    exact ⟨.inr (by show s.notices ++ _ = _; rw [h]; rfl), fun h'' => absurd (h'.symm.trans h'') (by decide)⟩
  · exact ⟨.inl h, fun _ => h⟩

theorem taken_read (code tag : Byte) (s : State) {p : Part} (h : p ∉ [Part.trunk, .out, .notices]) :
    p.read (taken code tag s) = p.read s := by
  unfold taken
  rw [updOut_read (by simp_all), controlFrame_read (by simp_all)]

theorem taken_reserves (code tag : Byte) (s : State) :
    Place.reservation s.out.nextResv code tag ∈ (taken code tag s).out.waiting := by
  show _ ∈ s.controlFrame.out.waiting ++ [Place.reservation s.controlFrame.out.nextResv code tag]
  rw [controlFrame_out]
  exact List.mem_append_right _ (List.mem_singleton.mpr rfl)

/-- A request that finds its place is judged by its owner in the state `taken`; one of another length is answered OUT_OF_RANGE. -/
theorem takeRequest_place (code tag : Byte) (fits : Bool) (owner : Nat → State → State) (s : State) (h : s.placeFree = true) :
    State.takeRequest code tag fits owner s = if fits then owner s.out.nextResv (taken code tag s) else
      (taken code tag s).respond s.out.nextResv [Status.outOfRange.byte] := by
  have h' : s.controlFrame.placeFree = true := by unfold State.placeFree; rw [controlFrame_out]; exact h
  unfold State.takeRequest
  rw [if_pos h', controlFrame_out]
  rfl

/-- A reservation that stands in the queue takes its response. -/
theorem respond_new (s : State) (code tag : Byte) (payload : List Byte) (resv : Nat)
    (h : Place.reservation resv code tag ∈ s.out.waiting) :
    (s.respond resv payload).out.Carries (.response resv code tag payload) := by
  refine .inl (List.mem_map.mpr ⟨_, h, ?_⟩)
  simp [fillPlace]

/-- The deliveries of an event that tells of an islanding's end at most change Level Telemetry and the queue. -/
theorem drain_tells (pick : Nat → Nat) (fuel : Nat) (s : State) (h : TellsIslanding s) :
    (∀ p, p ∉ [Part.telemetry, .out, .notices] → p.read (State.drain pick (fuel + 1) s) = p.read s) ∧
      (State.drain pick (fuel + 1) s).notices = [] ∧ (s.notices = [] → State.drain pick (fuel + 1) s = s) := by
  rcases h with h | h
  · rw [drain_nil _ _ _ h]; exact ⟨fun _ _ => rfl, h, fun _ => rfl⟩
  · have e : State.drain pick (fuel + 1) s =
        ({ s with notices := [] } : State).passContents (fun x => { x with islanded := false }) := by
      simp only [State.drain, h]
      rw [if_neg (by simp)]
      have e1 : s.deliverOne pick = ({ s with notices := [] } : State).passContents (fun x => { x with islanded := false }) := by
        unfold State.deliverOne
        rw [h]
        rfl
      rw [e1]
      exact drain_nil _ _ _ (passContents_read (part := .notices) (by decide) _ _)
    rw [e]
    refine ⟨fun p hp => ?_, passContents_read (part := .notices) (by decide) _ _, fun h' => absurd (h'.symm.trans h) (by simp)⟩
    rw [passContents_read (by simp_all)]
    cases p <;> first | rfl | exact absurd hp (by decide)

/-- A request whose owner changes the parts `ps` and the queue and raises no notice: what it leaves, and that nothing but the line, the
engine, the modem and the telling of an islanding's end comes after the owner. -/
theorem request_served (code tag : Byte) (fits : Bool) (owner : Nat → State → State) (s : State) (hs : s.Serves) (ps : List Part)
    (hn : .notices ∉ ps) (ht : .trunk ∉ ps) (hi : .inputs ∉ ps) (hl : .telemetry ∉ ps)
    (ho : ∀ p, p ∉ .out :: ps →
      p.read (State.takeRequest code tag fits owner s) = p.read (taken code tag s)) :
    Served ps s (State.request Config.pick code tag fits owner s) ∧
    (∀ p, p ∉ [Part.telemetry, .out, .notices, .nv, .line, .engine] →
      p.read (State.request Config.pick code tag fits owner s) = p.read (State.takeRequest code tag fits owner s)) ∧
    (∀ r c t p, (State.takeRequest code tag fits owner s).out.Carries (.response r c t p) →
      (State.request Config.pick code tag fits owner s).out.Carries (.response r c t p)) ∧
    ∃ w, State.request Config.pick code tag fits owner s = w.settle ∧
      ∀ p, p ∉ [Part.telemetry, .out, .notices] → p.read w = p.read (State.takeRequest code tag fits owner s) := by
  obtain ⟨⟨hp, hno⟩, hf⟩ := hs
  have hc := controlFrame_notices s hno
  generalize hv : State.takeRequest code tag fits owner s = v at *
  have hvn : v.notices = s.controlFrame.notices := ho .notices (by simp_all)
  have hvi : TellsIslanding v := by unfold TellsIslanding; rw [hvn]; exact hc.1
  have e : State.request Config.pick code tag fits owner s = (State.drain Config.pick Config.deliveryFuel v).settle := by
    unfold State.request
    rw [event_powered _ _ _ hp, hv]
  obtain ⟨d1, d2, d3⟩ := drain_tells Config.pick 399 v hvi
  change ∀ p, p ∉ [Part.telemetry, .out, .notices] → p.read (State.drain Config.pick Config.deliveryFuel v) = p.read v at d1
  change (State.drain Config.pick Config.deliveryFuel v).notices = [] at d2
  change v.notices = [] → State.drain Config.pick Config.deliveryFuel v = v at d3
  have hcar : ∀ r c t p, v.out.Carries (.response r c t p) →
      (State.drain Config.pick Config.deliveryFuel v).settle.out.Carries (.response r c t p) :=
    fun r c t p h => settle_carries _ (drain_carries _ _ _ h)
  rw [e]
  generalize State.drain Config.pick Config.deliveryFuel v = w at *
  have hw : ∀ p, p ∉ (.trunk :: .out :: .telemetry :: ps) → p.read w = p.read s := by
    intro p h
    simp only [List.mem_cons, not_or] at h
    by_cases hpn : p = .notices
    · subst hpn; exact d2.trans hno.symm
    · rw [d1 p (by simp_all), ho p (by simp_all), taken_read code tag s (by simp_all)]
  have htr : w.trunk = (taken code tag s).trunk := (d1 .trunk (by decide)).trans (ho .trunk (by simp_all))
  refine ⟨⟨?_, ?_, ?_⟩, ?_, hcar, w, rfl, d1⟩
  · refine (settle_read (part := .trunk) (by decide) w).trans (htr.trans ?_)
    exact controlFrame_trunk s
  · refine settle_kept _ s w hw ?_ ?_
    · exact congrArg Inputs.clearToSend (hw .inputs (by simp_all))
    · rw [htr]
      show s.controlFrame.trunk.restartDue = _
      rw [controlFrame_trunk]; rfl
  · intro hil
    refine (settle_read (part := .telemetry) (by decide) w).trans ?_
    have := d3 (hvn.trans (hc.2 hil))
    rw [this]
    exact (ho .telemetry (by simp_all)).trans (taken_read code tag s (p := .telemetry) (by decide))
  · intro p h
    rw [settle_read (by simp_all), d1 p (by simp_all)]

end Sys2Proof.Laws
end

