-- ==== Sys2Proof/Laws/State.lean ====
section
/-! SUPPORT. One lemma per field per update of one block, and of the notice operations. -/

namespace Sys2Proof.Laws

open Sys2Proof.Machine

@[simp] theorem updInputs_powered (f : Inputs → Inputs) (s : State) : (s.updInputs f).powered = s.powered := rfl
@[simp] theorem updInputs_timeUs (f : Inputs → Inputs) (s : State) : (s.updInputs f).timeUs = s.timeUs := rfl
@[simp] theorem updInputs_inputs (f : Inputs → Inputs) (s : State) : (s.updInputs f).inputs = f s.inputs := rfl
@[simp] theorem updInputs_nv (f : Inputs → Inputs) (s : State) : (s.updInputs f).nv = s.nv := rfl
@[simp] theorem updInputs_tables (f : Inputs → Inputs) (s : State) : (s.updInputs f).tables = s.tables := rfl
@[simp] theorem updInputs_use (f : Inputs → Inputs) (s : State) : (s.updInputs f).use = s.use := rfl
@[simp] theorem updInputs_points (f : Inputs → Inputs) (s : State) : (s.updInputs f).points = s.points := rfl
@[simp] theorem updInputs_level (f : Inputs → Inputs) (s : State) : (s.updInputs f).level = s.level := rfl
@[simp] theorem updInputs_guard (f : Inputs → Inputs) (s : State) : (s.updInputs f).guard = s.guard := rfl
@[simp] theorem updInputs_fill (f : Inputs → Inputs) (s : State) : (s.updInputs f).fill = s.fill := rfl
@[simp] theorem updInputs_frost (f : Inputs → Inputs) (s : State) : (s.updInputs f).frost = s.frost := rfl
@[simp] theorem updInputs_banks (f : Inputs → Inputs) (s : State) : (s.updInputs f).banks = s.banks := rfl
@[simp] theorem updInputs_line (f : Inputs → Inputs) (s : State) : (s.updInputs f).line = s.line := rfl
@[simp] theorem updInputs_telemetry (f : Inputs → Inputs) (s : State) : (s.updInputs f).telemetry = s.telemetry := rfl
@[simp] theorem updInputs_out (f : Inputs → Inputs) (s : State) : (s.updInputs f).out = s.out := rfl
@[simp] theorem updInputs_trunk (f : Inputs → Inputs) (s : State) : (s.updInputs f).trunk = s.trunk := rfl
@[simp] theorem updInputs_supply (f : Inputs → Inputs) (s : State) : (s.updInputs f).supply = s.supply := rfl
@[simp] theorem updInputs_engine (f : Inputs → Inputs) (s : State) : (s.updInputs f).engine = s.engine := rfl
@[simp] theorem updInputs_notices (f : Inputs → Inputs) (s : State) : (s.updInputs f).notices = s.notices := rfl
@[simp] theorem updInputs_draws (f : Inputs → Inputs) (s : State) : (s.updInputs f).draws = s.draws := rfl
@[simp] theorem updInputs_pending (f : Inputs → Inputs) (s : State) : (s.updInputs f).pending = s.pending := rfl

@[simp] theorem updNv_powered (f : NvStore → NvStore) (s : State) : (s.updNv f).powered = s.powered := rfl
@[simp] theorem updNv_timeUs (f : NvStore → NvStore) (s : State) : (s.updNv f).timeUs = s.timeUs := rfl
@[simp] theorem updNv_inputs (f : NvStore → NvStore) (s : State) : (s.updNv f).inputs = s.inputs := rfl
@[simp] theorem updNv_nv (f : NvStore → NvStore) (s : State) : (s.updNv f).nv = f s.nv := rfl
@[simp] theorem updNv_tables (f : NvStore → NvStore) (s : State) : (s.updNv f).tables = s.tables := rfl
@[simp] theorem updNv_use (f : NvStore → NvStore) (s : State) : (s.updNv f).use = s.use := rfl
@[simp] theorem updNv_points (f : NvStore → NvStore) (s : State) : (s.updNv f).points = s.points := rfl
@[simp] theorem updNv_level (f : NvStore → NvStore) (s : State) : (s.updNv f).level = s.level := rfl
@[simp] theorem updNv_guard (f : NvStore → NvStore) (s : State) : (s.updNv f).guard = s.guard := rfl
@[simp] theorem updNv_fill (f : NvStore → NvStore) (s : State) : (s.updNv f).fill = s.fill := rfl
@[simp] theorem updNv_frost (f : NvStore → NvStore) (s : State) : (s.updNv f).frost = s.frost := rfl
@[simp] theorem updNv_banks (f : NvStore → NvStore) (s : State) : (s.updNv f).banks = s.banks := rfl
@[simp] theorem updNv_line (f : NvStore → NvStore) (s : State) : (s.updNv f).line = s.line := rfl
@[simp] theorem updNv_telemetry (f : NvStore → NvStore) (s : State) : (s.updNv f).telemetry = s.telemetry := rfl
@[simp] theorem updNv_out (f : NvStore → NvStore) (s : State) : (s.updNv f).out = s.out := rfl
@[simp] theorem updNv_trunk (f : NvStore → NvStore) (s : State) : (s.updNv f).trunk = s.trunk := rfl
@[simp] theorem updNv_supply (f : NvStore → NvStore) (s : State) : (s.updNv f).supply = s.supply := rfl
@[simp] theorem updNv_engine (f : NvStore → NvStore) (s : State) : (s.updNv f).engine = s.engine := rfl
@[simp] theorem updNv_notices (f : NvStore → NvStore) (s : State) : (s.updNv f).notices = s.notices := rfl
@[simp] theorem updNv_draws (f : NvStore → NvStore) (s : State) : (s.updNv f).draws = s.draws := rfl
@[simp] theorem updNv_pending (f : NvStore → NvStore) (s : State) : (s.updNv f).pending = s.pending := rfl

@[simp] theorem updTables_powered (f : Tables → Tables) (s : State) : (s.updTables f).powered = s.powered := rfl
@[simp] theorem updTables_timeUs (f : Tables → Tables) (s : State) : (s.updTables f).timeUs = s.timeUs := rfl
@[simp] theorem updTables_inputs (f : Tables → Tables) (s : State) : (s.updTables f).inputs = s.inputs := rfl
@[simp] theorem updTables_nv (f : Tables → Tables) (s : State) : (s.updTables f).nv = s.nv := rfl
@[simp] theorem updTables_tables (f : Tables → Tables) (s : State) : (s.updTables f).tables = f s.tables := rfl
@[simp] theorem updTables_use (f : Tables → Tables) (s : State) : (s.updTables f).use = s.use := rfl
@[simp] theorem updTables_points (f : Tables → Tables) (s : State) : (s.updTables f).points = s.points := rfl
@[simp] theorem updTables_level (f : Tables → Tables) (s : State) : (s.updTables f).level = s.level := rfl
@[simp] theorem updTables_guard (f : Tables → Tables) (s : State) : (s.updTables f).guard = s.guard := rfl
@[simp] theorem updTables_fill (f : Tables → Tables) (s : State) : (s.updTables f).fill = s.fill := rfl
@[simp] theorem updTables_frost (f : Tables → Tables) (s : State) : (s.updTables f).frost = s.frost := rfl
@[simp] theorem updTables_banks (f : Tables → Tables) (s : State) : (s.updTables f).banks = s.banks := rfl
@[simp] theorem updTables_line (f : Tables → Tables) (s : State) : (s.updTables f).line = s.line := rfl
@[simp] theorem updTables_telemetry (f : Tables → Tables) (s : State) : (s.updTables f).telemetry = s.telemetry := rfl
@[simp] theorem updTables_out (f : Tables → Tables) (s : State) : (s.updTables f).out = s.out := rfl
@[simp] theorem updTables_trunk (f : Tables → Tables) (s : State) : (s.updTables f).trunk = s.trunk := rfl
@[simp] theorem updTables_supply (f : Tables → Tables) (s : State) : (s.updTables f).supply = s.supply := rfl
@[simp] theorem updTables_engine (f : Tables → Tables) (s : State) : (s.updTables f).engine = s.engine := rfl
@[simp] theorem updTables_notices (f : Tables → Tables) (s : State) : (s.updTables f).notices = s.notices := rfl
@[simp] theorem updTables_draws (f : Tables → Tables) (s : State) : (s.updTables f).draws = s.draws := rfl
@[simp] theorem updTables_pending (f : Tables → Tables) (s : State) : (s.updTables f).pending = s.pending := rfl

@[simp] theorem updUse_powered (f : PerKind KindUse → PerKind KindUse) (s : State) : (s.updUse f).powered = s.powered := rfl
@[simp] theorem updUse_timeUs (f : PerKind KindUse → PerKind KindUse) (s : State) : (s.updUse f).timeUs = s.timeUs := rfl
@[simp] theorem updUse_inputs (f : PerKind KindUse → PerKind KindUse) (s : State) : (s.updUse f).inputs = s.inputs := rfl
@[simp] theorem updUse_nv (f : PerKind KindUse → PerKind KindUse) (s : State) : (s.updUse f).nv = s.nv := rfl
@[simp] theorem updUse_tables (f : PerKind KindUse → PerKind KindUse) (s : State) : (s.updUse f).tables = s.tables := rfl
@[simp] theorem updUse_use (f : PerKind KindUse → PerKind KindUse) (s : State) : (s.updUse f).use = f s.use := rfl
@[simp] theorem updUse_points (f : PerKind KindUse → PerKind KindUse) (s : State) : (s.updUse f).points = s.points := rfl
@[simp] theorem updUse_level (f : PerKind KindUse → PerKind KindUse) (s : State) : (s.updUse f).level = s.level := rfl
@[simp] theorem updUse_guard (f : PerKind KindUse → PerKind KindUse) (s : State) : (s.updUse f).guard = s.guard := rfl
@[simp] theorem updUse_fill (f : PerKind KindUse → PerKind KindUse) (s : State) : (s.updUse f).fill = s.fill := rfl
@[simp] theorem updUse_frost (f : PerKind KindUse → PerKind KindUse) (s : State) : (s.updUse f).frost = s.frost := rfl
@[simp] theorem updUse_banks (f : PerKind KindUse → PerKind KindUse) (s : State) : (s.updUse f).banks = s.banks := rfl
@[simp] theorem updUse_line (f : PerKind KindUse → PerKind KindUse) (s : State) : (s.updUse f).line = s.line := rfl
@[simp] theorem updUse_telemetry (f : PerKind KindUse → PerKind KindUse) (s : State) : (s.updUse f).telemetry = s.telemetry := rfl
@[simp] theorem updUse_out (f : PerKind KindUse → PerKind KindUse) (s : State) : (s.updUse f).out = s.out := rfl
@[simp] theorem updUse_trunk (f : PerKind KindUse → PerKind KindUse) (s : State) : (s.updUse f).trunk = s.trunk := rfl
@[simp] theorem updUse_supply (f : PerKind KindUse → PerKind KindUse) (s : State) : (s.updUse f).supply = s.supply := rfl
@[simp] theorem updUse_engine (f : PerKind KindUse → PerKind KindUse) (s : State) : (s.updUse f).engine = s.engine := rfl
@[simp] theorem updUse_notices (f : PerKind KindUse → PerKind KindUse) (s : State) : (s.updUse f).notices = s.notices := rfl
@[simp] theorem updUse_draws (f : PerKind KindUse → PerKind KindUse) (s : State) : (s.updUse f).draws = s.draws := rfl
@[simp] theorem updUse_pending (f : PerKind KindUse → PerKind KindUse) (s : State) : (s.updUse f).pending = s.pending := rfl

@[simp] theorem updPoints_powered (f : List PointState → List PointState) (s : State) : (s.updPoints f).powered = s.powered := rfl
@[simp] theorem updPoints_timeUs (f : List PointState → List PointState) (s : State) : (s.updPoints f).timeUs = s.timeUs := rfl
@[simp] theorem updPoints_inputs (f : List PointState → List PointState) (s : State) : (s.updPoints f).inputs = s.inputs := rfl
@[simp] theorem updPoints_nv (f : List PointState → List PointState) (s : State) : (s.updPoints f).nv = s.nv := rfl
@[simp] theorem updPoints_tables (f : List PointState → List PointState) (s : State) : (s.updPoints f).tables = s.tables := rfl
@[simp] theorem updPoints_use (f : List PointState → List PointState) (s : State) : (s.updPoints f).use = s.use := rfl
@[simp] theorem updPoints_points (f : List PointState → List PointState) (s : State) : (s.updPoints f).points = f s.points := rfl
@[simp] theorem updPoints_level (f : List PointState → List PointState) (s : State) : (s.updPoints f).level = s.level := rfl
@[simp] theorem updPoints_guard (f : List PointState → List PointState) (s : State) : (s.updPoints f).guard = s.guard := rfl
@[simp] theorem updPoints_fill (f : List PointState → List PointState) (s : State) : (s.updPoints f).fill = s.fill := rfl
@[simp] theorem updPoints_frost (f : List PointState → List PointState) (s : State) : (s.updPoints f).frost = s.frost := rfl
@[simp] theorem updPoints_banks (f : List PointState → List PointState) (s : State) : (s.updPoints f).banks = s.banks := rfl
@[simp] theorem updPoints_line (f : List PointState → List PointState) (s : State) : (s.updPoints f).line = s.line := rfl
@[simp] theorem updPoints_telemetry (f : List PointState → List PointState) (s : State) : (s.updPoints f).telemetry = s.telemetry := rfl
@[simp] theorem updPoints_out (f : List PointState → List PointState) (s : State) : (s.updPoints f).out = s.out := rfl
@[simp] theorem updPoints_trunk (f : List PointState → List PointState) (s : State) : (s.updPoints f).trunk = s.trunk := rfl
@[simp] theorem updPoints_supply (f : List PointState → List PointState) (s : State) : (s.updPoints f).supply = s.supply := rfl
@[simp] theorem updPoints_engine (f : List PointState → List PointState) (s : State) : (s.updPoints f).engine = s.engine := rfl
@[simp] theorem updPoints_notices (f : List PointState → List PointState) (s : State) : (s.updPoints f).notices = s.notices := rfl
@[simp] theorem updPoints_draws (f : List PointState → List PointState) (s : State) : (s.updPoints f).draws = s.draws := rfl
@[simp] theorem updPoints_pending (f : List PointState → List PointState) (s : State) : (s.updPoints f).pending = s.pending := rfl

@[simp] theorem updLevel_powered (f : LevelBlock → LevelBlock) (s : State) : (s.updLevel f).powered = s.powered := rfl
@[simp] theorem updLevel_timeUs (f : LevelBlock → LevelBlock) (s : State) : (s.updLevel f).timeUs = s.timeUs := rfl
@[simp] theorem updLevel_inputs (f : LevelBlock → LevelBlock) (s : State) : (s.updLevel f).inputs = s.inputs := rfl
@[simp] theorem updLevel_nv (f : LevelBlock → LevelBlock) (s : State) : (s.updLevel f).nv = s.nv := rfl
@[simp] theorem updLevel_tables (f : LevelBlock → LevelBlock) (s : State) : (s.updLevel f).tables = s.tables := rfl
@[simp] theorem updLevel_use (f : LevelBlock → LevelBlock) (s : State) : (s.updLevel f).use = s.use := rfl
@[simp] theorem updLevel_points (f : LevelBlock → LevelBlock) (s : State) : (s.updLevel f).points = s.points := rfl
@[simp] theorem updLevel_level (f : LevelBlock → LevelBlock) (s : State) : (s.updLevel f).level = f s.level := rfl
@[simp] theorem updLevel_guard (f : LevelBlock → LevelBlock) (s : State) : (s.updLevel f).guard = s.guard := rfl
@[simp] theorem updLevel_fill (f : LevelBlock → LevelBlock) (s : State) : (s.updLevel f).fill = s.fill := rfl
@[simp] theorem updLevel_frost (f : LevelBlock → LevelBlock) (s : State) : (s.updLevel f).frost = s.frost := rfl
@[simp] theorem updLevel_banks (f : LevelBlock → LevelBlock) (s : State) : (s.updLevel f).banks = s.banks := rfl
@[simp] theorem updLevel_line (f : LevelBlock → LevelBlock) (s : State) : (s.updLevel f).line = s.line := rfl
@[simp] theorem updLevel_telemetry (f : LevelBlock → LevelBlock) (s : State) : (s.updLevel f).telemetry = s.telemetry := rfl
@[simp] theorem updLevel_out (f : LevelBlock → LevelBlock) (s : State) : (s.updLevel f).out = s.out := rfl
@[simp] theorem updLevel_trunk (f : LevelBlock → LevelBlock) (s : State) : (s.updLevel f).trunk = s.trunk := rfl
@[simp] theorem updLevel_supply (f : LevelBlock → LevelBlock) (s : State) : (s.updLevel f).supply = s.supply := rfl
@[simp] theorem updLevel_engine (f : LevelBlock → LevelBlock) (s : State) : (s.updLevel f).engine = s.engine := rfl
@[simp] theorem updLevel_notices (f : LevelBlock → LevelBlock) (s : State) : (s.updLevel f).notices = s.notices := rfl
@[simp] theorem updLevel_draws (f : LevelBlock → LevelBlock) (s : State) : (s.updLevel f).draws = s.draws := rfl
@[simp] theorem updLevel_pending (f : LevelBlock → LevelBlock) (s : State) : (s.updLevel f).pending = s.pending := rfl

@[simp] theorem updGuard_powered (f : GuardBlock → GuardBlock) (s : State) : (s.updGuard f).powered = s.powered := rfl
@[simp] theorem updGuard_timeUs (f : GuardBlock → GuardBlock) (s : State) : (s.updGuard f).timeUs = s.timeUs := rfl
@[simp] theorem updGuard_inputs (f : GuardBlock → GuardBlock) (s : State) : (s.updGuard f).inputs = s.inputs := rfl
@[simp] theorem updGuard_nv (f : GuardBlock → GuardBlock) (s : State) : (s.updGuard f).nv = s.nv := rfl
@[simp] theorem updGuard_tables (f : GuardBlock → GuardBlock) (s : State) : (s.updGuard f).tables = s.tables := rfl
@[simp] theorem updGuard_use (f : GuardBlock → GuardBlock) (s : State) : (s.updGuard f).use = s.use := rfl
@[simp] theorem updGuard_points (f : GuardBlock → GuardBlock) (s : State) : (s.updGuard f).points = s.points := rfl
@[simp] theorem updGuard_level (f : GuardBlock → GuardBlock) (s : State) : (s.updGuard f).level = s.level := rfl
@[simp] theorem updGuard_guard (f : GuardBlock → GuardBlock) (s : State) : (s.updGuard f).guard = f s.guard := rfl
@[simp] theorem updGuard_fill (f : GuardBlock → GuardBlock) (s : State) : (s.updGuard f).fill = s.fill := rfl
@[simp] theorem updGuard_frost (f : GuardBlock → GuardBlock) (s : State) : (s.updGuard f).frost = s.frost := rfl
@[simp] theorem updGuard_banks (f : GuardBlock → GuardBlock) (s : State) : (s.updGuard f).banks = s.banks := rfl
@[simp] theorem updGuard_line (f : GuardBlock → GuardBlock) (s : State) : (s.updGuard f).line = s.line := rfl
@[simp] theorem updGuard_telemetry (f : GuardBlock → GuardBlock) (s : State) : (s.updGuard f).telemetry = s.telemetry := rfl
@[simp] theorem updGuard_out (f : GuardBlock → GuardBlock) (s : State) : (s.updGuard f).out = s.out := rfl
@[simp] theorem updGuard_trunk (f : GuardBlock → GuardBlock) (s : State) : (s.updGuard f).trunk = s.trunk := rfl
@[simp] theorem updGuard_supply (f : GuardBlock → GuardBlock) (s : State) : (s.updGuard f).supply = s.supply := rfl
@[simp] theorem updGuard_engine (f : GuardBlock → GuardBlock) (s : State) : (s.updGuard f).engine = s.engine := rfl
@[simp] theorem updGuard_notices (f : GuardBlock → GuardBlock) (s : State) : (s.updGuard f).notices = s.notices := rfl
@[simp] theorem updGuard_draws (f : GuardBlock → GuardBlock) (s : State) : (s.updGuard f).draws = s.draws := rfl
@[simp] theorem updGuard_pending (f : GuardBlock → GuardBlock) (s : State) : (s.updGuard f).pending = s.pending := rfl

@[simp] theorem updFill_powered (f : FillBlock → FillBlock) (s : State) : (s.updFill f).powered = s.powered := rfl
@[simp] theorem updFill_timeUs (f : FillBlock → FillBlock) (s : State) : (s.updFill f).timeUs = s.timeUs := rfl
@[simp] theorem updFill_inputs (f : FillBlock → FillBlock) (s : State) : (s.updFill f).inputs = s.inputs := rfl
@[simp] theorem updFill_nv (f : FillBlock → FillBlock) (s : State) : (s.updFill f).nv = s.nv := rfl
@[simp] theorem updFill_tables (f : FillBlock → FillBlock) (s : State) : (s.updFill f).tables = s.tables := rfl
@[simp] theorem updFill_use (f : FillBlock → FillBlock) (s : State) : (s.updFill f).use = s.use := rfl
@[simp] theorem updFill_points (f : FillBlock → FillBlock) (s : State) : (s.updFill f).points = s.points := rfl
@[simp] theorem updFill_level (f : FillBlock → FillBlock) (s : State) : (s.updFill f).level = s.level := rfl
@[simp] theorem updFill_guard (f : FillBlock → FillBlock) (s : State) : (s.updFill f).guard = s.guard := rfl
@[simp] theorem updFill_fill (f : FillBlock → FillBlock) (s : State) : (s.updFill f).fill = f s.fill := rfl
@[simp] theorem updFill_frost (f : FillBlock → FillBlock) (s : State) : (s.updFill f).frost = s.frost := rfl
@[simp] theorem updFill_banks (f : FillBlock → FillBlock) (s : State) : (s.updFill f).banks = s.banks := rfl
@[simp] theorem updFill_line (f : FillBlock → FillBlock) (s : State) : (s.updFill f).line = s.line := rfl
@[simp] theorem updFill_telemetry (f : FillBlock → FillBlock) (s : State) : (s.updFill f).telemetry = s.telemetry := rfl
@[simp] theorem updFill_out (f : FillBlock → FillBlock) (s : State) : (s.updFill f).out = s.out := rfl
@[simp] theorem updFill_trunk (f : FillBlock → FillBlock) (s : State) : (s.updFill f).trunk = s.trunk := rfl
@[simp] theorem updFill_supply (f : FillBlock → FillBlock) (s : State) : (s.updFill f).supply = s.supply := rfl
@[simp] theorem updFill_engine (f : FillBlock → FillBlock) (s : State) : (s.updFill f).engine = s.engine := rfl
@[simp] theorem updFill_notices (f : FillBlock → FillBlock) (s : State) : (s.updFill f).notices = s.notices := rfl
@[simp] theorem updFill_draws (f : FillBlock → FillBlock) (s : State) : (s.updFill f).draws = s.draws := rfl
@[simp] theorem updFill_pending (f : FillBlock → FillBlock) (s : State) : (s.updFill f).pending = s.pending := rfl

@[simp] theorem updFrost_powered (f : FrostBlock → FrostBlock) (s : State) : (s.updFrost f).powered = s.powered := rfl
@[simp] theorem updFrost_timeUs (f : FrostBlock → FrostBlock) (s : State) : (s.updFrost f).timeUs = s.timeUs := rfl
@[simp] theorem updFrost_inputs (f : FrostBlock → FrostBlock) (s : State) : (s.updFrost f).inputs = s.inputs := rfl
@[simp] theorem updFrost_nv (f : FrostBlock → FrostBlock) (s : State) : (s.updFrost f).nv = s.nv := rfl
@[simp] theorem updFrost_tables (f : FrostBlock → FrostBlock) (s : State) : (s.updFrost f).tables = s.tables := rfl
@[simp] theorem updFrost_use (f : FrostBlock → FrostBlock) (s : State) : (s.updFrost f).use = s.use := rfl
@[simp] theorem updFrost_points (f : FrostBlock → FrostBlock) (s : State) : (s.updFrost f).points = s.points := rfl
@[simp] theorem updFrost_level (f : FrostBlock → FrostBlock) (s : State) : (s.updFrost f).level = s.level := rfl
@[simp] theorem updFrost_guard (f : FrostBlock → FrostBlock) (s : State) : (s.updFrost f).guard = s.guard := rfl
@[simp] theorem updFrost_fill (f : FrostBlock → FrostBlock) (s : State) : (s.updFrost f).fill = s.fill := rfl
@[simp] theorem updFrost_frost (f : FrostBlock → FrostBlock) (s : State) : (s.updFrost f).frost = f s.frost := rfl
@[simp] theorem updFrost_banks (f : FrostBlock → FrostBlock) (s : State) : (s.updFrost f).banks = s.banks := rfl
@[simp] theorem updFrost_line (f : FrostBlock → FrostBlock) (s : State) : (s.updFrost f).line = s.line := rfl
@[simp] theorem updFrost_telemetry (f : FrostBlock → FrostBlock) (s : State) : (s.updFrost f).telemetry = s.telemetry := rfl
@[simp] theorem updFrost_out (f : FrostBlock → FrostBlock) (s : State) : (s.updFrost f).out = s.out := rfl
@[simp] theorem updFrost_trunk (f : FrostBlock → FrostBlock) (s : State) : (s.updFrost f).trunk = s.trunk := rfl
@[simp] theorem updFrost_supply (f : FrostBlock → FrostBlock) (s : State) : (s.updFrost f).supply = s.supply := rfl
@[simp] theorem updFrost_engine (f : FrostBlock → FrostBlock) (s : State) : (s.updFrost f).engine = s.engine := rfl
@[simp] theorem updFrost_notices (f : FrostBlock → FrostBlock) (s : State) : (s.updFrost f).notices = s.notices := rfl
@[simp] theorem updFrost_draws (f : FrostBlock → FrostBlock) (s : State) : (s.updFrost f).draws = s.draws := rfl
@[simp] theorem updFrost_pending (f : FrostBlock → FrostBlock) (s : State) : (s.updFrost f).pending = s.pending := rfl

@[simp] theorem updBanks_powered (f : PerBank (Option FaultRecord) → PerBank (Option FaultRecord)) (s : State) : (s.updBanks f).powered = s.powered := rfl
@[simp] theorem updBanks_timeUs (f : PerBank (Option FaultRecord) → PerBank (Option FaultRecord)) (s : State) : (s.updBanks f).timeUs = s.timeUs := rfl
@[simp] theorem updBanks_inputs (f : PerBank (Option FaultRecord) → PerBank (Option FaultRecord)) (s : State) : (s.updBanks f).inputs = s.inputs := rfl
@[simp] theorem updBanks_nv (f : PerBank (Option FaultRecord) → PerBank (Option FaultRecord)) (s : State) : (s.updBanks f).nv = s.nv := rfl
@[simp] theorem updBanks_tables (f : PerBank (Option FaultRecord) → PerBank (Option FaultRecord)) (s : State) : (s.updBanks f).tables = s.tables := rfl
@[simp] theorem updBanks_use (f : PerBank (Option FaultRecord) → PerBank (Option FaultRecord)) (s : State) : (s.updBanks f).use = s.use := rfl
@[simp] theorem updBanks_points (f : PerBank (Option FaultRecord) → PerBank (Option FaultRecord)) (s : State) : (s.updBanks f).points = s.points := rfl
@[simp] theorem updBanks_level (f : PerBank (Option FaultRecord) → PerBank (Option FaultRecord)) (s : State) : (s.updBanks f).level = s.level := rfl
@[simp] theorem updBanks_guard (f : PerBank (Option FaultRecord) → PerBank (Option FaultRecord)) (s : State) : (s.updBanks f).guard = s.guard := rfl
@[simp] theorem updBanks_fill (f : PerBank (Option FaultRecord) → PerBank (Option FaultRecord)) (s : State) : (s.updBanks f).fill = s.fill := rfl
@[simp] theorem updBanks_frost (f : PerBank (Option FaultRecord) → PerBank (Option FaultRecord)) (s : State) : (s.updBanks f).frost = s.frost := rfl
@[simp] theorem updBanks_banks (f : PerBank (Option FaultRecord) → PerBank (Option FaultRecord)) (s : State) : (s.updBanks f).banks = f s.banks := rfl
@[simp] theorem updBanks_line (f : PerBank (Option FaultRecord) → PerBank (Option FaultRecord)) (s : State) : (s.updBanks f).line = s.line := rfl
@[simp] theorem updBanks_telemetry (f : PerBank (Option FaultRecord) → PerBank (Option FaultRecord)) (s : State) : (s.updBanks f).telemetry = s.telemetry := rfl
@[simp] theorem updBanks_out (f : PerBank (Option FaultRecord) → PerBank (Option FaultRecord)) (s : State) : (s.updBanks f).out = s.out := rfl
@[simp] theorem updBanks_trunk (f : PerBank (Option FaultRecord) → PerBank (Option FaultRecord)) (s : State) : (s.updBanks f).trunk = s.trunk := rfl
@[simp] theorem updBanks_supply (f : PerBank (Option FaultRecord) → PerBank (Option FaultRecord)) (s : State) : (s.updBanks f).supply = s.supply := rfl
@[simp] theorem updBanks_engine (f : PerBank (Option FaultRecord) → PerBank (Option FaultRecord)) (s : State) : (s.updBanks f).engine = s.engine := rfl
@[simp] theorem updBanks_notices (f : PerBank (Option FaultRecord) → PerBank (Option FaultRecord)) (s : State) : (s.updBanks f).notices = s.notices := rfl
@[simp] theorem updBanks_draws (f : PerBank (Option FaultRecord) → PerBank (Option FaultRecord)) (s : State) : (s.updBanks f).draws = s.draws := rfl
@[simp] theorem updBanks_pending (f : PerBank (Option FaultRecord) → PerBank (Option FaultRecord)) (s : State) : (s.updBanks f).pending = s.pending := rfl

@[simp] theorem updLine_powered (f : LineBlock → LineBlock) (s : State) : (s.updLine f).powered = s.powered := rfl
@[simp] theorem updLine_timeUs (f : LineBlock → LineBlock) (s : State) : (s.updLine f).timeUs = s.timeUs := rfl
@[simp] theorem updLine_inputs (f : LineBlock → LineBlock) (s : State) : (s.updLine f).inputs = s.inputs := rfl
@[simp] theorem updLine_nv (f : LineBlock → LineBlock) (s : State) : (s.updLine f).nv = s.nv := rfl
@[simp] theorem updLine_tables (f : LineBlock → LineBlock) (s : State) : (s.updLine f).tables = s.tables := rfl
@[simp] theorem updLine_use (f : LineBlock → LineBlock) (s : State) : (s.updLine f).use = s.use := rfl
@[simp] theorem updLine_points (f : LineBlock → LineBlock) (s : State) : (s.updLine f).points = s.points := rfl
@[simp] theorem updLine_level (f : LineBlock → LineBlock) (s : State) : (s.updLine f).level = s.level := rfl
@[simp] theorem updLine_guard (f : LineBlock → LineBlock) (s : State) : (s.updLine f).guard = s.guard := rfl
@[simp] theorem updLine_fill (f : LineBlock → LineBlock) (s : State) : (s.updLine f).fill = s.fill := rfl
@[simp] theorem updLine_frost (f : LineBlock → LineBlock) (s : State) : (s.updLine f).frost = s.frost := rfl
@[simp] theorem updLine_banks (f : LineBlock → LineBlock) (s : State) : (s.updLine f).banks = s.banks := rfl
@[simp] theorem updLine_line (f : LineBlock → LineBlock) (s : State) : (s.updLine f).line = f s.line := rfl
@[simp] theorem updLine_telemetry (f : LineBlock → LineBlock) (s : State) : (s.updLine f).telemetry = s.telemetry := rfl
@[simp] theorem updLine_out (f : LineBlock → LineBlock) (s : State) : (s.updLine f).out = s.out := rfl
@[simp] theorem updLine_trunk (f : LineBlock → LineBlock) (s : State) : (s.updLine f).trunk = s.trunk := rfl
@[simp] theorem updLine_supply (f : LineBlock → LineBlock) (s : State) : (s.updLine f).supply = s.supply := rfl
@[simp] theorem updLine_engine (f : LineBlock → LineBlock) (s : State) : (s.updLine f).engine = s.engine := rfl
@[simp] theorem updLine_notices (f : LineBlock → LineBlock) (s : State) : (s.updLine f).notices = s.notices := rfl
@[simp] theorem updLine_draws (f : LineBlock → LineBlock) (s : State) : (s.updLine f).draws = s.draws := rfl
@[simp] theorem updLine_pending (f : LineBlock → LineBlock) (s : State) : (s.updLine f).pending = s.pending := rfl

@[simp] theorem updTelemetry_powered (f : TelemetryBlock → TelemetryBlock) (s : State) : (s.updTelemetry f).powered = s.powered := rfl
@[simp] theorem updTelemetry_timeUs (f : TelemetryBlock → TelemetryBlock) (s : State) : (s.updTelemetry f).timeUs = s.timeUs := rfl
@[simp] theorem updTelemetry_inputs (f : TelemetryBlock → TelemetryBlock) (s : State) : (s.updTelemetry f).inputs = s.inputs := rfl
@[simp] theorem updTelemetry_nv (f : TelemetryBlock → TelemetryBlock) (s : State) : (s.updTelemetry f).nv = s.nv := rfl
@[simp] theorem updTelemetry_tables (f : TelemetryBlock → TelemetryBlock) (s : State) : (s.updTelemetry f).tables = s.tables := rfl
@[simp] theorem updTelemetry_use (f : TelemetryBlock → TelemetryBlock) (s : State) : (s.updTelemetry f).use = s.use := rfl
@[simp] theorem updTelemetry_points (f : TelemetryBlock → TelemetryBlock) (s : State) : (s.updTelemetry f).points = s.points := rfl
@[simp] theorem updTelemetry_level (f : TelemetryBlock → TelemetryBlock) (s : State) : (s.updTelemetry f).level = s.level := rfl
@[simp] theorem updTelemetry_guard (f : TelemetryBlock → TelemetryBlock) (s : State) : (s.updTelemetry f).guard = s.guard := rfl
@[simp] theorem updTelemetry_fill (f : TelemetryBlock → TelemetryBlock) (s : State) : (s.updTelemetry f).fill = s.fill := rfl
@[simp] theorem updTelemetry_frost (f : TelemetryBlock → TelemetryBlock) (s : State) : (s.updTelemetry f).frost = s.frost := rfl
@[simp] theorem updTelemetry_banks (f : TelemetryBlock → TelemetryBlock) (s : State) : (s.updTelemetry f).banks = s.banks := rfl
@[simp] theorem updTelemetry_line (f : TelemetryBlock → TelemetryBlock) (s : State) : (s.updTelemetry f).line = s.line := rfl
@[simp] theorem updTelemetry_telemetry (f : TelemetryBlock → TelemetryBlock) (s : State) : (s.updTelemetry f).telemetry = f s.telemetry := rfl
@[simp] theorem updTelemetry_out (f : TelemetryBlock → TelemetryBlock) (s : State) : (s.updTelemetry f).out = s.out := rfl
@[simp] theorem updTelemetry_trunk (f : TelemetryBlock → TelemetryBlock) (s : State) : (s.updTelemetry f).trunk = s.trunk := rfl
@[simp] theorem updTelemetry_supply (f : TelemetryBlock → TelemetryBlock) (s : State) : (s.updTelemetry f).supply = s.supply := rfl
@[simp] theorem updTelemetry_engine (f : TelemetryBlock → TelemetryBlock) (s : State) : (s.updTelemetry f).engine = s.engine := rfl
@[simp] theorem updTelemetry_notices (f : TelemetryBlock → TelemetryBlock) (s : State) : (s.updTelemetry f).notices = s.notices := rfl
@[simp] theorem updTelemetry_draws (f : TelemetryBlock → TelemetryBlock) (s : State) : (s.updTelemetry f).draws = s.draws := rfl
@[simp] theorem updTelemetry_pending (f : TelemetryBlock → TelemetryBlock) (s : State) : (s.updTelemetry f).pending = s.pending := rfl

@[simp] theorem updOut_powered (f : Outbound → Outbound) (s : State) : (s.updOut f).powered = s.powered := rfl
@[simp] theorem updOut_timeUs (f : Outbound → Outbound) (s : State) : (s.updOut f).timeUs = s.timeUs := rfl
@[simp] theorem updOut_inputs (f : Outbound → Outbound) (s : State) : (s.updOut f).inputs = s.inputs := rfl
@[simp] theorem updOut_nv (f : Outbound → Outbound) (s : State) : (s.updOut f).nv = s.nv := rfl
@[simp] theorem updOut_tables (f : Outbound → Outbound) (s : State) : (s.updOut f).tables = s.tables := rfl
@[simp] theorem updOut_use (f : Outbound → Outbound) (s : State) : (s.updOut f).use = s.use := rfl
@[simp] theorem updOut_points (f : Outbound → Outbound) (s : State) : (s.updOut f).points = s.points := rfl
@[simp] theorem updOut_level (f : Outbound → Outbound) (s : State) : (s.updOut f).level = s.level := rfl
@[simp] theorem updOut_guard (f : Outbound → Outbound) (s : State) : (s.updOut f).guard = s.guard := rfl
@[simp] theorem updOut_fill (f : Outbound → Outbound) (s : State) : (s.updOut f).fill = s.fill := rfl
@[simp] theorem updOut_frost (f : Outbound → Outbound) (s : State) : (s.updOut f).frost = s.frost := rfl
@[simp] theorem updOut_banks (f : Outbound → Outbound) (s : State) : (s.updOut f).banks = s.banks := rfl
@[simp] theorem updOut_line (f : Outbound → Outbound) (s : State) : (s.updOut f).line = s.line := rfl
@[simp] theorem updOut_telemetry (f : Outbound → Outbound) (s : State) : (s.updOut f).telemetry = s.telemetry := rfl
@[simp] theorem updOut_out (f : Outbound → Outbound) (s : State) : (s.updOut f).out = f s.out := rfl
@[simp] theorem updOut_trunk (f : Outbound → Outbound) (s : State) : (s.updOut f).trunk = s.trunk := rfl
@[simp] theorem updOut_supply (f : Outbound → Outbound) (s : State) : (s.updOut f).supply = s.supply := rfl
@[simp] theorem updOut_engine (f : Outbound → Outbound) (s : State) : (s.updOut f).engine = s.engine := rfl
@[simp] theorem updOut_notices (f : Outbound → Outbound) (s : State) : (s.updOut f).notices = s.notices := rfl
@[simp] theorem updOut_draws (f : Outbound → Outbound) (s : State) : (s.updOut f).draws = s.draws := rfl
@[simp] theorem updOut_pending (f : Outbound → Outbound) (s : State) : (s.updOut f).pending = s.pending := rfl

@[simp] theorem updTrunk_powered (f : TrunkBlock → TrunkBlock) (s : State) : (s.updTrunk f).powered = s.powered := rfl
@[simp] theorem updTrunk_timeUs (f : TrunkBlock → TrunkBlock) (s : State) : (s.updTrunk f).timeUs = s.timeUs := rfl
@[simp] theorem updTrunk_inputs (f : TrunkBlock → TrunkBlock) (s : State) : (s.updTrunk f).inputs = s.inputs := rfl
@[simp] theorem updTrunk_nv (f : TrunkBlock → TrunkBlock) (s : State) : (s.updTrunk f).nv = s.nv := rfl
@[simp] theorem updTrunk_tables (f : TrunkBlock → TrunkBlock) (s : State) : (s.updTrunk f).tables = s.tables := rfl
@[simp] theorem updTrunk_use (f : TrunkBlock → TrunkBlock) (s : State) : (s.updTrunk f).use = s.use := rfl
@[simp] theorem updTrunk_points (f : TrunkBlock → TrunkBlock) (s : State) : (s.updTrunk f).points = s.points := rfl
@[simp] theorem updTrunk_level (f : TrunkBlock → TrunkBlock) (s : State) : (s.updTrunk f).level = s.level := rfl
@[simp] theorem updTrunk_guard (f : TrunkBlock → TrunkBlock) (s : State) : (s.updTrunk f).guard = s.guard := rfl
@[simp] theorem updTrunk_fill (f : TrunkBlock → TrunkBlock) (s : State) : (s.updTrunk f).fill = s.fill := rfl
@[simp] theorem updTrunk_frost (f : TrunkBlock → TrunkBlock) (s : State) : (s.updTrunk f).frost = s.frost := rfl
@[simp] theorem updTrunk_banks (f : TrunkBlock → TrunkBlock) (s : State) : (s.updTrunk f).banks = s.banks := rfl
@[simp] theorem updTrunk_line (f : TrunkBlock → TrunkBlock) (s : State) : (s.updTrunk f).line = s.line := rfl
@[simp] theorem updTrunk_telemetry (f : TrunkBlock → TrunkBlock) (s : State) : (s.updTrunk f).telemetry = s.telemetry := rfl
@[simp] theorem updTrunk_out (f : TrunkBlock → TrunkBlock) (s : State) : (s.updTrunk f).out = s.out := rfl
@[simp] theorem updTrunk_trunk (f : TrunkBlock → TrunkBlock) (s : State) : (s.updTrunk f).trunk = f s.trunk := rfl
@[simp] theorem updTrunk_supply (f : TrunkBlock → TrunkBlock) (s : State) : (s.updTrunk f).supply = s.supply := rfl
@[simp] theorem updTrunk_engine (f : TrunkBlock → TrunkBlock) (s : State) : (s.updTrunk f).engine = s.engine := rfl
@[simp] theorem updTrunk_notices (f : TrunkBlock → TrunkBlock) (s : State) : (s.updTrunk f).notices = s.notices := rfl
@[simp] theorem updTrunk_draws (f : TrunkBlock → TrunkBlock) (s : State) : (s.updTrunk f).draws = s.draws := rfl
@[simp] theorem updTrunk_pending (f : TrunkBlock → TrunkBlock) (s : State) : (s.updTrunk f).pending = s.pending := rfl

@[simp] theorem updSupply_powered (f : SupplyBlock → SupplyBlock) (s : State) : (s.updSupply f).powered = s.powered := rfl
@[simp] theorem updSupply_timeUs (f : SupplyBlock → SupplyBlock) (s : State) : (s.updSupply f).timeUs = s.timeUs := rfl
@[simp] theorem updSupply_inputs (f : SupplyBlock → SupplyBlock) (s : State) : (s.updSupply f).inputs = s.inputs := rfl
@[simp] theorem updSupply_nv (f : SupplyBlock → SupplyBlock) (s : State) : (s.updSupply f).nv = s.nv := rfl
@[simp] theorem updSupply_tables (f : SupplyBlock → SupplyBlock) (s : State) : (s.updSupply f).tables = s.tables := rfl
@[simp] theorem updSupply_use (f : SupplyBlock → SupplyBlock) (s : State) : (s.updSupply f).use = s.use := rfl
@[simp] theorem updSupply_points (f : SupplyBlock → SupplyBlock) (s : State) : (s.updSupply f).points = s.points := rfl
@[simp] theorem updSupply_level (f : SupplyBlock → SupplyBlock) (s : State) : (s.updSupply f).level = s.level := rfl
@[simp] theorem updSupply_guard (f : SupplyBlock → SupplyBlock) (s : State) : (s.updSupply f).guard = s.guard := rfl
@[simp] theorem updSupply_fill (f : SupplyBlock → SupplyBlock) (s : State) : (s.updSupply f).fill = s.fill := rfl
@[simp] theorem updSupply_frost (f : SupplyBlock → SupplyBlock) (s : State) : (s.updSupply f).frost = s.frost := rfl
@[simp] theorem updSupply_banks (f : SupplyBlock → SupplyBlock) (s : State) : (s.updSupply f).banks = s.banks := rfl
@[simp] theorem updSupply_line (f : SupplyBlock → SupplyBlock) (s : State) : (s.updSupply f).line = s.line := rfl
@[simp] theorem updSupply_telemetry (f : SupplyBlock → SupplyBlock) (s : State) : (s.updSupply f).telemetry = s.telemetry := rfl
@[simp] theorem updSupply_out (f : SupplyBlock → SupplyBlock) (s : State) : (s.updSupply f).out = s.out := rfl
@[simp] theorem updSupply_trunk (f : SupplyBlock → SupplyBlock) (s : State) : (s.updSupply f).trunk = s.trunk := rfl
@[simp] theorem updSupply_supply (f : SupplyBlock → SupplyBlock) (s : State) : (s.updSupply f).supply = f s.supply := rfl
@[simp] theorem updSupply_engine (f : SupplyBlock → SupplyBlock) (s : State) : (s.updSupply f).engine = s.engine := rfl
@[simp] theorem updSupply_notices (f : SupplyBlock → SupplyBlock) (s : State) : (s.updSupply f).notices = s.notices := rfl
@[simp] theorem updSupply_draws (f : SupplyBlock → SupplyBlock) (s : State) : (s.updSupply f).draws = s.draws := rfl
@[simp] theorem updSupply_pending (f : SupplyBlock → SupplyBlock) (s : State) : (s.updSupply f).pending = s.pending := rfl

@[simp] theorem updEngine_powered (f : EngineBlock → EngineBlock) (s : State) : (s.updEngine f).powered = s.powered := rfl
@[simp] theorem updEngine_timeUs (f : EngineBlock → EngineBlock) (s : State) : (s.updEngine f).timeUs = s.timeUs := rfl
@[simp] theorem updEngine_inputs (f : EngineBlock → EngineBlock) (s : State) : (s.updEngine f).inputs = s.inputs := rfl
@[simp] theorem updEngine_nv (f : EngineBlock → EngineBlock) (s : State) : (s.updEngine f).nv = s.nv := rfl
@[simp] theorem updEngine_tables (f : EngineBlock → EngineBlock) (s : State) : (s.updEngine f).tables = s.tables := rfl
@[simp] theorem updEngine_use (f : EngineBlock → EngineBlock) (s : State) : (s.updEngine f).use = s.use := rfl
@[simp] theorem updEngine_points (f : EngineBlock → EngineBlock) (s : State) : (s.updEngine f).points = s.points := rfl
@[simp] theorem updEngine_level (f : EngineBlock → EngineBlock) (s : State) : (s.updEngine f).level = s.level := rfl
@[simp] theorem updEngine_guard (f : EngineBlock → EngineBlock) (s : State) : (s.updEngine f).guard = s.guard := rfl
@[simp] theorem updEngine_fill (f : EngineBlock → EngineBlock) (s : State) : (s.updEngine f).fill = s.fill := rfl
@[simp] theorem updEngine_frost (f : EngineBlock → EngineBlock) (s : State) : (s.updEngine f).frost = s.frost := rfl
@[simp] theorem updEngine_banks (f : EngineBlock → EngineBlock) (s : State) : (s.updEngine f).banks = s.banks := rfl
@[simp] theorem updEngine_line (f : EngineBlock → EngineBlock) (s : State) : (s.updEngine f).line = s.line := rfl
@[simp] theorem updEngine_telemetry (f : EngineBlock → EngineBlock) (s : State) : (s.updEngine f).telemetry = s.telemetry := rfl
@[simp] theorem updEngine_out (f : EngineBlock → EngineBlock) (s : State) : (s.updEngine f).out = s.out := rfl
@[simp] theorem updEngine_trunk (f : EngineBlock → EngineBlock) (s : State) : (s.updEngine f).trunk = s.trunk := rfl
@[simp] theorem updEngine_supply (f : EngineBlock → EngineBlock) (s : State) : (s.updEngine f).supply = s.supply := rfl
@[simp] theorem updEngine_engine (f : EngineBlock → EngineBlock) (s : State) : (s.updEngine f).engine = f s.engine := rfl
@[simp] theorem updEngine_notices (f : EngineBlock → EngineBlock) (s : State) : (s.updEngine f).notices = s.notices := rfl
@[simp] theorem updEngine_draws (f : EngineBlock → EngineBlock) (s : State) : (s.updEngine f).draws = s.draws := rfl
@[simp] theorem updEngine_pending (f : EngineBlock → EngineBlock) (s : State) : (s.updEngine f).pending = s.pending := rfl

@[simp] theorem send_powered (d : BlockName) (n : Notice) (s : State) : (s.send d n).powered = s.powered := rfl
@[simp] theorem send_timeUs (d : BlockName) (n : Notice) (s : State) : (s.send d n).timeUs = s.timeUs := rfl
@[simp] theorem send_inputs (d : BlockName) (n : Notice) (s : State) : (s.send d n).inputs = s.inputs := rfl
@[simp] theorem send_nv (d : BlockName) (n : Notice) (s : State) : (s.send d n).nv = s.nv := rfl
@[simp] theorem send_tables (d : BlockName) (n : Notice) (s : State) : (s.send d n).tables = s.tables := rfl
@[simp] theorem send_use (d : BlockName) (n : Notice) (s : State) : (s.send d n).use = s.use := rfl
@[simp] theorem send_points (d : BlockName) (n : Notice) (s : State) : (s.send d n).points = s.points := rfl
@[simp] theorem send_level (d : BlockName) (n : Notice) (s : State) : (s.send d n).level = s.level := rfl
@[simp] theorem send_guard (d : BlockName) (n : Notice) (s : State) : (s.send d n).guard = s.guard := rfl
@[simp] theorem send_fill (d : BlockName) (n : Notice) (s : State) : (s.send d n).fill = s.fill := rfl
@[simp] theorem send_frost (d : BlockName) (n : Notice) (s : State) : (s.send d n).frost = s.frost := rfl
@[simp] theorem send_banks (d : BlockName) (n : Notice) (s : State) : (s.send d n).banks = s.banks := rfl
@[simp] theorem send_line (d : BlockName) (n : Notice) (s : State) : (s.send d n).line = s.line := rfl
@[simp] theorem send_telemetry (d : BlockName) (n : Notice) (s : State) : (s.send d n).telemetry = s.telemetry := rfl
@[simp] theorem send_out (d : BlockName) (n : Notice) (s : State) : (s.send d n).out = s.out := rfl
@[simp] theorem send_trunk (d : BlockName) (n : Notice) (s : State) : (s.send d n).trunk = s.trunk := rfl
@[simp] theorem send_supply (d : BlockName) (n : Notice) (s : State) : (s.send d n).supply = s.supply := rfl
@[simp] theorem send_engine (d : BlockName) (n : Notice) (s : State) : (s.send d n).engine = s.engine := rfl
@[simp] theorem send_notices (d : BlockName) (n : Notice) (s : State) : (s.send d n).notices = s.notices ++ [⟨d, n⟩] := rfl
@[simp] theorem send_draws (d : BlockName) (n : Notice) (s : State) : (s.send d n).draws = s.draws := rfl
@[simp] theorem send_pending (d : BlockName) (n : Notice) (s : State) : (s.send d n).pending = s.pending := rfl

@[simp] theorem broadcast_powered (ds : List BlockName) (n : Notice) (s : State) :
    (s.broadcast ds n).powered = s.powered := rfl
@[simp] theorem broadcast_timeUs (ds : List BlockName) (n : Notice) (s : State) :
    (s.broadcast ds n).timeUs = s.timeUs := rfl
@[simp] theorem broadcast_inputs (ds : List BlockName) (n : Notice) (s : State) :
    (s.broadcast ds n).inputs = s.inputs := rfl
@[simp] theorem broadcast_nv (ds : List BlockName) (n : Notice) (s : State) :
    (s.broadcast ds n).nv = s.nv := rfl
@[simp] theorem broadcast_tables (ds : List BlockName) (n : Notice) (s : State) :
    (s.broadcast ds n).tables = s.tables := rfl
@[simp] theorem broadcast_use (ds : List BlockName) (n : Notice) (s : State) :
    (s.broadcast ds n).use = s.use := rfl
@[simp] theorem broadcast_points (ds : List BlockName) (n : Notice) (s : State) :
    (s.broadcast ds n).points = s.points := rfl
@[simp] theorem broadcast_level (ds : List BlockName) (n : Notice) (s : State) :
    (s.broadcast ds n).level = s.level := rfl
@[simp] theorem broadcast_guard (ds : List BlockName) (n : Notice) (s : State) :
    (s.broadcast ds n).guard = s.guard := rfl
@[simp] theorem broadcast_fill (ds : List BlockName) (n : Notice) (s : State) :
    (s.broadcast ds n).fill = s.fill := rfl
@[simp] theorem broadcast_frost (ds : List BlockName) (n : Notice) (s : State) :
    (s.broadcast ds n).frost = s.frost := rfl
@[simp] theorem broadcast_banks (ds : List BlockName) (n : Notice) (s : State) :
    (s.broadcast ds n).banks = s.banks := rfl
@[simp] theorem broadcast_line (ds : List BlockName) (n : Notice) (s : State) :
    (s.broadcast ds n).line = s.line := rfl
@[simp] theorem broadcast_telemetry (ds : List BlockName) (n : Notice) (s : State) :
    (s.broadcast ds n).telemetry = s.telemetry := rfl
@[simp] theorem broadcast_out (ds : List BlockName) (n : Notice) (s : State) :
    (s.broadcast ds n).out = s.out := rfl
@[simp] theorem broadcast_trunk (ds : List BlockName) (n : Notice) (s : State) :
    (s.broadcast ds n).trunk = s.trunk := rfl
@[simp] theorem broadcast_supply (ds : List BlockName) (n : Notice) (s : State) :
    (s.broadcast ds n).supply = s.supply := rfl
@[simp] theorem broadcast_engine (ds : List BlockName) (n : Notice) (s : State) :
    (s.broadcast ds n).engine = s.engine := rfl
@[simp] theorem broadcast_notices (ds : List BlockName) (n : Notice) (s : State) :
    (s.broadcast ds n).notices = s.notices ++ ds.map fun d => ⟨d, n⟩ := rfl
@[simp] theorem broadcast_draws (ds : List BlockName) (n : Notice) (s : State) :
    (s.broadcast ds n).draws = s.draws := rfl
@[simp] theorem broadcast_pending (ds : List BlockName) (n : Notice) (s : State) :
    (s.broadcast ds n).pending = s.pending := rfl

end Sys2Proof.Laws
end

