-- ==== Sys2Proof/WellFormed.lean ====
section
/-! DEFINITION. What a sender of commands may send: the operand ranges that the manual gives to the event itself. The
machine is total on ill-formed commands as well; well-formedness is what statements may assume. -/

namespace Sys2Proof

/-- A trunk payload holds 0 to 200 bytes (R183). -/
def payloadFits (payload : List Byte) : Bool := payload.length ≤ 200

/-- The bytes of a trunk frame from the sync pair on: the pair first, and no more than 8 bytes of header, 200 of payload
and 2 of check (R152, R183). -/
def trunkBytesFit (frame : List Byte) : Bool :=
  frame.take 2 == [0xA5#8, 0x5A#8] && frame.length ≤ 210

/-- A field frame holds at most 3 bytes of header, 255 of payload and 2 of check (R181). -/
def fieldBytesFit (frame : List Byte) : Bool := frame.length ≤ 260

/-- The operands of a command lie in the ranges the manual gives the event. -/
def Instr.wf : Instr → Bool
  | .powerOnReset => true
  | .restart _ p => payloadFits p
  | .restartLimitExpiry _ => true
  | .restartPerform => true
  | .mainsInputChange _ => true
  | .mainsLossCountExpiry _ => true
  | .mainsReturnCountExpiry _ => true
  | .batteryLowInputChange _ => true
  | .batteryLowCountExpiry _ => true
  | .floatInputChange _ => true
  | .floatDebounceExpiry _ => true
  | .protectInputChange _ => true
  | .clearToSendChange _ => true
  | .transmissionEnd => true
  | .lineCycleStart => true
  | .fieldReplyReceived f _ => fieldBytesFit f
  | .fieldReplyQuietEnd f _ => fieldBytesFit f
  | .fieldReplyWindowExpiry => true
  | .pointStaleExpiry p _ => decide (p < 64)
  | .commandConfirmDeadlineExpiry a i _ => decide (1 ≤ a ∧ a ≤ 31 ∧ i ≤ 255)
  | .levelHoldExpiry _ => true
  | .valveConfirmDeadlineExpiry _ => true
  | .valveCloseRepeatExpiry _ => true
  | .valveCloseRetryExpiry _ => true
  | .guardReset _ p => payloadFits p
  | .clockMinute _ => true
  | .setClock _ p => payloadFits p
  | .planIntervalExpiry _ => true
  | .forceExpiry _ => true
  | .stopWaitExpiry _ => true
  | .demandRenewalExpiry _ => true
  | .riseCheckExpiry _ => true
  | .fillOrder _ p => payloadFits p
  | .stationStatus _ _ _ _ _ => true
  | .deferralExpiry z _ => decide (z < 8)
  | .levelPeriodExpiry _ => true
  | .trunkBadFrame f => trunkBytesFit f
  | .trunkByteTimeout f => trunkBytesFit f
  | .trunkFrameIgnored f => trunkBytesFit f
  | .trunkFrameUnknownKind f => trunkBytesFit f
  | .requestNoPlace _ _ p => payloadFits p
  | .requestUnknownCode c _ p => payloadFits p && !decide (0x10#8 ≤ c ∧ c ≤ 0x22#8)
  | .controlSilenceExpiry _ => true
  | .stationSilenceExpiry _ => true
  | .readPoints _ p => payloadFits p
  | .readState _ p => payloadFits p
  | .readChannels _ p => payloadFits p
  | .readZones _ p => payloadFits p
  | .readBank _ p => payloadFits p
  | .clearBank _ p => payloadFits p
  | .readTrips _ p => payloadFits p
  | .tableRead _ p => payloadFits p
  | .tableOpen _ p => payloadFits p
  | .tableWrite _ p => payloadFits p
  | .tableClose _ p => payloadFits p
  | .tableAbandon _ p => payloadFits p
  | .channelStart _ p => payloadFits p
  | .channelStop _ p => payloadFits p
  | .fieldPass _ p => payloadFits p
  | .tableEraseComplete _ => true
  | .tableRecordProgrammed _ => true
  | .tableHeaderProgrammed _ => true
  | .tripWorkProgrammed _ => true
  | .tripPreEraseComplete _ => true
  | .powerLoss => true

end Sys2Proof
end

