-- ==== Sys2Proof/Tests/Slice0.lean ====
section
/-! SUPPORT. The model's own tests: the checks of WellFormed refuse, values that the manual or a published table gives, single steps, and
for every statement with hypotheses a state and operands that meet them. -/

namespace Sys2Proof.Tests

/- The tests are elaborated one after another: each waits for the kernel to have checked all that stands before it. -/
set_option Elab.async false

open Sys2Proof.Machine

/-! ### Ill-formed commands are refused -/

theorem test_wf_payload : (Instr.readState 0 (List.replicate 201 0)).wf = false := by decide +kernel
theorem test_wf_payload_top : (Instr.readState 0 (List.replicate 200 0)).wf = true := by decide +kernel
theorem test_wf_field_frame : (Instr.fieldReplyReceived (List.replicate 261 0) 0).wf = false := by decide +kernel
theorem test_wf_point : (Instr.pointStaleExpiry 64 0).wf = false := by decide
theorem test_wf_actuator : (Instr.commandConfirmDeadlineExpiry 32 0 0).wf = false := by decide
theorem test_wf_actuator_item : (Instr.commandConfirmDeadlineExpiry 1 256 0).wf = false := by decide
theorem test_wf_zone : (Instr.deferralExpiry 8 0).wf = false := by decide
theorem test_wf_sync : (Instr.trunkBadFrame [0xA5#8, 0x5B#8]).wf = false := by decide
theorem test_wf_long : (Instr.trunkBadFrame (0xA5#8 :: 0x5A#8 :: List.replicate 209 0)).wf = false := by decide +kernel
theorem test_wf_code : (Instr.requestUnknownCode 0x22#8 0 []).wf = false := by decide
theorem test_wf_accepts : (Instr.pointStaleExpiry 63 0).wf = true := by decide

/-! ### Values given outside the model: byte times (R22) and published check values of the string 123456789 for the three forms of R182
and R183 -/

/-- The string 123456789. -/
def digits : List Byte := [0x31#8, 0x32#8, 0x33#8, 0x34#8, 0x35#8, 0x36#8, 0x37#8, 0x38#8, 0x39#8]

theorem test_byte_times :
    LineRate.byteTimeUs .baud9600 = 1146 ∧ LineRate.byteTimeUs .baud19200 = 573 ∧ LineRate.byteTimeUs .baud38400 = 287 := by decide
theorem test_field_check_msb : fieldCheck false digits = [0x31#8, 0xC3#8] := by decide +kernel
theorem test_field_check_lsb : fieldCheck true digits = [0x89#8, 0x21#8] := by decide +kernel
theorem test_trunk_check : trunkCheck digits = 0xAEE7#16 := by decide +kernel

/-! ### Numbers worked by hand from the rules -/

/-- A LEVEL point: raw 0 to 20,000, gain 2 (8,192 steps), offset −100, range 0 to 30,000 mm, stale time 60 s. -/
def levelPoint : PointRecord := ⟨.level, 0, 20000, 8192, -100, 0, 30000, 60⟩

theorem test_convert : (levelPoint.take 5000 .polled 7 {}).value = 9900 := by decide
theorem test_convert_saturates : (levelPoint.take 20000 .polled 7 {}).value = 30000 := by decide
theorem test_range_holds : (levelPoint.take 20001 .polled 7 { value := 5 }).value = 5 := by decide

/-- R59's own example: a fall that gives −64.29 mm/min is truncated to −64. -/
theorem test_rate_truncates : ringRate [⟨1030, 0⟩, ⟨1000, 28000⟩] ⟨1000, 28000⟩ = some (-64) := by decide

/-- A strapping table of two segments. -/
def strap : List Breakpoint := [⟨1000, 0⟩, ⟨2000, 100⟩, ⟨5000, 1000⟩]

theorem test_volume : volumeOf strap 1999 = 99 ∧ volumeOf strap 2000 = 100 ∧ volumeOf strap 500 = 0 ∧ volumeOf strap 5000 = 1000 := by
  decide
theorem test_clock_week : (ClockTime.plusSeconds ⟨6, 1439, 59⟩ 1) = ⟨0, 0, 0⟩ := by decide
theorem test_coast_rounds_up : coastLevel (some strap) 0 1 = 10 ∧ coastLevel (some strap) 1 1 = 4 := by decide

/-! ### States of the tests -/

/-- A GUARD_SET: overflow 10,000, margins 500 and 100, reset gap 200, hysteresis 100. -/
def guardSet : GuardSet :=
  { pointA := 0, pointB := 1, agreeBand := 50, overflow := 10000, anticipateMargin := 500, tripMargin := 100, resetGap := 200
    hysteresis := 100, frostExtra := 0, levelHold := 60, stopLatency := 60, coastVolume := 0, ratedRise := 10, valveTravel := 30
    inletAddress := 5, inletItem := 1, feedback := 2, floatLevel := 9900 }

/-- A FILL_SET. -/
def fillSet : FillSet :=
  { target := 9000, minimum := 5000, topUpBand := 500, turnover := 6000, frostWatchTemp := 20, finishReserve := 30
    planInterval := 10, pumpFlow := 500, siteMax := 4, renewal := 30, riseCheck := 10 }

/-- A SITE_SET with a repeater at address 9. -/
def site : SiteSet :=
  { own := 100, control := 1, station := 2, controlExp := 1, stationExp := 1, rate := .baud19200, lsbFirst := false, repeater := 9
    dayMap := 0, cheapBudget := 200, standardBudget := 100, peakBudget := 0, reportPeriod := 600, fastPeriod := 60, deadband := 50
    banks := ⟨⟨true, true, false, 0⟩, ⟨true, true, false, 0⟩, ⟨true, true, false, 0⟩, ⟨true, true, false, 0⟩, ⟨true, true, false, 0⟩,
      ⟨true, true, false, 0⟩, ⟨true, true, false, 0⟩⟩ }

/-- The machine after reset with tables put in use. -/
def withTables : State :=
  { State.reset with
    tables := {
      points := some [levelPoint, levelPoint], strapping := some strap, guardSet := some guardSet, fillSet := some fillSet
      channels := some [⟨3, 0, 2, 4, .normal, false, false, 0⟩], map := some [⟨3, 0, .extract 0 2 false⟩] } }

/-- A running guard: ARMED, the trip line released, a GOOD level. -/
def armed : State :=
  { withTables with
    guard := { withTables.guard with state := .armed, cause := none, tripLine := false, resetLevel := 9700 }
    level := { withTables.level with record := { w := 8000, quality := .good, v := 1000, segment := 1, rate := none, lostSince := none } }
    fill := { withTables.fill with state := .idle, inhibit := [] } }

theorem witness_ready : State.reset.Ready ∧ withTables.Ready ∧ armed.Ready := ⟨⟨rfl, rfl⟩, ⟨rfl, rfl⟩, ⟨rfl, rfl⟩⟩
theorem witness_serves : State.reset.Serves ∧ withTables.Serves ∧ armed.Serves :=
  ⟨⟨⟨rfl, rfl⟩, by decide⟩, ⟨⟨rfl, rfl⟩, by decide⟩, ⟨⟨rfl, rfl⟩, by decide⟩⟩
theorem witness_waits : State.reset.lineWaits ∧ State.reset.engineWaits ∧ State.reset.modemWaits :=
  ⟨.inr ⟨rfl, rfl⟩, ⟨rfl, .inr ⟨rfl, rfl, rfl⟩⟩, .inr (.inl rfl)⟩

/-! ### One step each -/

theorem test_reset_is_power_on : exec .powerOnReset State.reset = .next State.reset := by rfl

/-- The float input alone does not trip: it starts its 2 s (R77). -/
theorem test_float_starts_debounce :
    (match exec (.floatInputChange true) armed with
      | .next t => t.guard.floatAt == some 2000 && t.guard.state == .armed
      | _ => false) = true := by decide +kernel

/-- READ_BANK of the TRUNK bank, empty after reset: the response stands last in the queue. -/
theorem test_read_bank :
    (match exec (.readBank 7#8 [5#8]) State.reset with
      | .next t => (t.out.waiting.getLast?.map fun p => match p with
          | .response r c tag (st :: v :: _) => r == 0 && c == 0x14#8 && tag == 7#8 && st == 0x00#8 && v == 0x00#8
          | _ => false) == some true
      | _ => false) = true := by decide +kernel

/-- RESTART answers DONE and waits 60 s (R163). -/
theorem test_restart_waits :
    (match exec (.restart 1#8 []) State.reset with
      | .next t => t.trunk.restart == some ⟨some 60000, 0, false⟩
      | _ => false) = true := by decide +kernel

/-- A mains loss counts 200 ms (R177). -/
theorem test_mains_loss :
    (match exec (.mainsInputChange false) State.reset with
      | .next t => t.supply.count == .loss 200 && t.supply.mode == .mains
      | _ => false) = true := by decide +kernel

/-! ### Hypotheses that are met

One theorem for each statement with hypotheses, and for each of its clauses, at the boundary where a range has one. -/

theorem witness_unpowered : State.reset.powerLost.powered = false ∧ State.reset.powerLost.pending = [] ∧
    State.reset.powered = true ∧ State.reset.pending = [] ∧ Instr.mainsInputChange true ≠ .powerOnReset ∧
    Instr.mainsInputChange true ≠ .powerLoss := by decide +kernel

/-- A restart that is ready, and a RESTART whose limit runs. -/
def restarting : State := { State.reset with trunk := { State.reset.trunk with restart := some ⟨none, 0, true⟩ } }
def limited : State := { State.reset with trunk := { State.reset.trunk with restart := some ⟨some 60000, 0, false⟩ } }

theorem witness_restart : restarting.powered = true ∧ restarting.restartReady = true ∧ limited.Ready ∧
    limited.trunk.restart = some ⟨some 60000, 0, false⟩ ∧ limited.Serves ∧
    (State.reset.banks.get .store).isSome = true := ⟨rfl, by decide +kernel, ⟨rfl, rfl⟩, rfl, ⟨⟨rfl, rfl⟩, by decide +kernel⟩, rfl⟩

theorem witness_restart_window :
    (match exec .restartPerform restarting with
      | .next t => cheapWindow t.fill.window == none && (t.use.get .map).inUse == none
          && ignores (bankSettings t.tables.siteSet .store) .startImageBad == false
      | _ => false) = true ∧ Bank.guard ≠ .store ∧ Bank.guard ≠ .fill := by decide +kernel

/-- A clock with a minute event still to be taken is aimed by its own second after a RESTART (R88). -/
theorem test_restart_aims_the_minute : (ClockState.rebased ⟨⟨0, 10, 40⟩, 250, 5000⟩).minuteAt = 19750 := by decide

/-- At start-up the sector of the next slot is erased unless it is wholly erased, the newest record's own sector included (R174). -/
theorem test_start_pre_erase :
    startPreErase [.intact 1 (.marker 0 none 0), .erased, .erased, .erased, .erased, .erased, .erased, .erased] = some 0 ∧
    startPreErase [.intact 1 (.marker 0 none 0), .spoilt, .spoilt, .spoilt, .erased, .erased, .erased, .erased] = none ∧
    startPreErase (List.replicate 8 .erased) = none := by decide

/-- A copy programmed whole. -/
def copyOf (records : List (List Byte)) : Copy := { records := records, header := some ⟨1, records.length, recordCheck records⟩ }

/-- A store whose start-up load puts the guard's four tables in use, and a trip area with the slots given. -/
def stored (slots : List TripSlot) : State :=
  { State.reset with
    nv := { copies := { State.reset.nv.copies with
              points := ⟨copyOf [], {}⟩
              channels := ⟨copyOf [], {}⟩
              strapping := ⟨copyOf [[0, 0, 0, 0, 0, 0, 0, 0], [0, 0, 0x27, 0x10, 0, 0, 0x10, 0]], {}⟩
              guardSet := ⟨copyOf [[0, 1, 0, 50, 0x27, 0x10, 1, 0, 0, 100, 0, 200, 0, 100, 0, 0, 0, 60, 0, 60, 0, 0, 0, 0, 10, 0, 30, 5, 1,
                2, 0x20, 0]], {}⟩ }
            slots := slots } }

theorem witness_guard_start :
    (match exec .powerOnReset State.reset with | .next t => t.tables.guardReady == false | _ => false) = true ∧
    (match exec .powerOnReset (stored (List.replicate 8 .erased)) with | .next t => t.tables.guardReady | _ => false) = true ∧
    newestIntact (stored (List.replicate 8 .erased)).nv.slots = none ∧
    newestIntact [.intact 4294967295 (.marker 0 none 0), .intact 1 (.trip .float 0 .good 0 none 0)] =
      some (1, 1, .trip .float 0 .good 0 none 0) ∧
    newestIntact [.intact 1 (.marker 0 none 0), .spoilt] = some (0, 1, .marker 0 none 0) := by decide +kernel

/-- A copy of generation 2 beside one of generation 1, a spoilt copy, and a copy alone. -/
def twoCopies : State :=
  { State.reset with
    nv := { State.reset.nv with copies := { State.reset.nv.copies with
      map := ⟨{ copyOf [] with header := some ⟨2, 0, recordCheck []⟩ }, copyOf []⟩
      channels := ⟨{ copyOf [] with header := some ⟨9, 0, 1#16⟩ }, copyOf []⟩
      tariff := ⟨copyOf [], copyOf []⟩ } } }

theorem witness_start_copies : (twoCopies.nv.copies.map.a.header = some ⟨2, 0, recordCheck []⟩) ∧ recordCheck [] = 0xFFFF#16 ∧
    validateTable (siteRate none).byteTimeUs .map [] = .ok (.map [], 0) := ⟨rfl, by decide, rfl⟩

/-- The higher generation goes first, copy A where they are equal, and a copy whose check fails is passed over (R166, R174). -/
theorem test_start_copies :
    (match exec .powerOnReset twoCopies with
      | .next t => t.use.get .map == ⟨some .a, 2⟩ && t.use.get .channels == ⟨some .b, 1⟩ && t.use.get .tariff == ⟨some .a, 1⟩
          && t.use.get .zones == ⟨none, 0⟩ && t.tables.map == some [] && t.tables.zones == none
      | _ => false) = true := by decide +kernel

theorem witness_pre_erase : preEraseDue [.intact 1 (.marker 0 none 0), .erased, .erased, .erased, .erased, .erased, .erased, .erased] 0 ∧
    (∀ x, ¬ preEraseDue (List.replicate 8 .erased) x) ∧ preEraseDue (List.replicate 8 .spoilt) 0 := by
  refine ⟨⟨.inl ⟨rfl, 1, by decide, rfl, rfl⟩, ?_⟩, fun x h => ?_, ⟨rfl, ?_⟩⟩
  · exact ⟨0, rfl, by decide⟩
  · have := h.2 0 (by decide)
    exact absurd rfl this
  · show ∀ n < 4, _
    decide

theorem witness_inputs : State.reset.inputs.mains ≠ false ∧ State.reset.inputs.batteryLow ≠ true ∧ State.reset.inputs.float ≠ true ∧
    State.reset.inputs.protect ≠ true ∧ State.reset.inputs.clearToSend ≠ true := by decide

/-- Counts of the supply that run. -/
def losing : State := { State.reset with supply := { State.reset.supply with count := .loss 200, lowAt := some 5000 } }
def returning : State := { State.reset with supply := { State.reset.supply with mode := .battery, count := .ret 30000 } }

theorem witness_supply_counts : losing.Ready ∧ losing.supply.count = .loss 200 ∧ losing.supply.lowAt = some 5000 ∧ returning.Ready ∧
    returning.supply.count = .ret 30000 := ⟨⟨rfl, rfl⟩, rfl, rfl, ⟨rfl, rfl⟩, rfl⟩

/-- A load is open, and every order of the deliveries of the mains' loss and return ends with no notice waiting. -/
def losingLoad : State :=
  { losing with engine := { losing.engine with load := some { load := 1, kind := .map, next := 0, check := 0#16, last := none
                                                              protectEnded := false, erased := true, taken := [] } } }

theorem ends_losing : Laws.endsWithin 20 (losingLoad.advanceTo 200).mainsLost = true := by decide +kernel
theorem ends_returning : Laws.endsWithin 20 (returning.advanceTo 30000).mainsReturned = true := by decide +kernel

theorem witness_supply_announced : losingLoad.Ready ∧ losingLoad.supply.count = .loss 200 ∧ losingLoad.supply.mode = .mains ∧
    losingLoad.InhibitLaw ∧ losingLoad.engine.load ≠ none ∧ losingLoad.inputs.protect ≠ true ∧ losingLoad.engineWaits ∧
    (∃ t, exec (.mainsLossCountExpiry 200) losingLoad = .next t ∧ t.notices = []) ∧
    (∃ t, exec (.mainsReturnCountExpiry 30000) returning = .next t ∧ t.notices = []) :=
  ⟨⟨rfl, rfl⟩, rfl, rfl, fun _ _ => ⟨rfl, rfl⟩, by decide, by decide, ⟨rfl, .inr ⟨rfl, rfl, rfl⟩⟩,
    ⟨_, rfl, Laws.expiry_ends Config.pick 20 200 _ _ _ rfl rfl (by decide) ends_losing⟩,
    ⟨_, rfl, Laws.expiry_ends Config.pick 20 30000 _ _ _ rfl rfl (by decide) ends_returning⟩⟩

/-- A frame in transmission. -/
def sending : State :=
  { State.reset with out := { State.reset.out with sending := some ⟨.response 0 0x22#8 1#8 [0#8], []⟩ } }

theorem witness_modem : sending.Ready ∧ sending.out.sending = some ⟨.response 0 0x22#8 1#8 [0#8], []⟩ ∧ sending.lineWaits ∧
    sending.inputs.clearToSend = false ∧ State.reset.trunk.restartDue = false ∧ State.reset.out.sending = none ∧
    State.reset.out.waiting = [] ++ .frame (.fault .store (resetFault false)) :: State.reset.out.waiting.tail ∧
    Place.ready (.frame (.fault .store (resetFault false))) = true :=
  ⟨⟨rfl, rfl⟩, rfl, .inr ⟨rfl, rfl⟩, rfl, rfl, rfl, rfl, rfl⟩

/-- A channel's READ of two items in flight, in a cycle that began at 0. -/
def reading : Transaction :=
  { work := .channel 0, address := 3, request := .device (.read 0 2), wake := false, startUs := 0, byteTimeUs := 573, lsbFirst := false
    bytes := requestBytes false false 3 (.device (.read 0 2)), superseded := false }
def polling : State := { withTables with line := { withTables.line with cycle := 1, cycleStartUs := some 0, inFlight := some reading } }
def reply : List Byte :=
  frameBody 3 0xB1#8 [0#8, 0x13#8, 0x88#8, 0#8, 0#8] ++ fieldCheck false (frameBody 3 0xB1#8 [0#8, 0x13#8, 0x88#8, 0#8, 0#8])

theorem witness_cycle : State.reset.Ready ∧ State.reset.line.late = false ∧ State.reset.line.inFlight = none ∧ polling.Ready ∧
    polling.line.late = false ∧ polling.line.inFlight.isSome = true ∧ State.reset.line.live[23]? = some ({} : ChannelLive) ∧
    ({} : ChannelLive).go = true := by
  refine ⟨⟨rfl, rfl⟩, rfl, rfl, ⟨rfl, rfl⟩, rfl, rfl, rfl, rfl⟩

theorem witness_data_reply : polling.Ready ∧ reply ≠ [] ∧ polling.line.inFlight = some reading ∧
    polling.channelRecord 0 = some ⟨3, 0, 2, 4, .normal, false, false, 0⟩ ∧
    judgeReply reading reply = .accepted (.data 0 [5000, 0]) ⟨0xB1#8, [0#8, 0x13#8, 0x88#8, 0#8, 0#8]⟩ ∧
    (∀ b, polling.line.cycleStartUs = some b → max polling.timeUs (reading.startUs + 250000) ≤ b + 250000) ∧
    findExtract 3 0 polling.mapEntries = some (0, 2, false) ∧ findExtract 3 1 polling.mapEntries = none ∧
    polling.pointRecord 0 = some levelPoint ∧ 0 < polling.points.length ∧ polling.line.live[0]? = some ({} : ChannelLive) := by
  refine ⟨⟨rfl, rfl⟩, by decide, rfl, rfl, by decide +kernel, ?_, by decide, by decide, rfl, by decide, rfl⟩
  intro b hb
  cases hb
  decide

/-- A channel at its third failure. -/
def failing : State := { polling with line := { polling.line with live := polling.line.live.set 0 { failures := 2 } } }

theorem witness_failed : failing.Ready ∧ failing.line.live[0]? = some { failures := 2 } ∧ polling.line.live[0]? = some ({} : ChannelLive) ∧
    judgeReply reading [3#8] = .bad none ∧
    (∀ b, failing.line.cycleStartUs = some b → max failing.timeUs reading.windowEndUs ≤ b + 250000) := by
  refine ⟨⟨rfl, rfl⟩, by decide, by decide, by decide +kernel, ?_⟩
  intro b hb
  cases hb
  decide +kernel

/-- The answer of a field address, with its check. -/
def answer (address : Nat) (code : Byte) (payload : List Byte) : List Byte :=
  frameBody address code payload ++ fieldCheck false (frameBody address code payload)

/-- A HAND-OFF and a COLLECT of the channel in flight, and a channel that is HANDED. -/
def handing : Transaction := { reading with request := .handOff 4 (.read 0 2), address := 9 }
def collecting : Transaction := { reading with request := .collect 4 (.read 0 2), address := 9 }
def handed (pending : Nat) : ChannelLive := { handed := some 0, pendingCount := pending, collectCycle := some 1 }
def inFlight (x : Transaction) (l : ChannelLive) : State :=
  { polling with line := { polling.line with live := polling.line.live.set 0 l, inFlight := some x, slots := [⟨.channel 0, 0⟩] } }

theorem concludes_expiry (x : Transaction) (l : ChannelLive) (h : x.windowEndUs ≤ 250000) :
    (inFlight x l).Concludes x .fieldReplyWindowExpiry .noReply x.windowEndUs :=
  ⟨⟨⟨rfl, rfl⟩, rfl, .inl ⟨rfl, rfl, rfl⟩⟩, rfl, fun b hb => by cases hb; exact Nat.max_le.2 ⟨Nat.zero_le _, Nat.le_trans h (by decide)⟩⟩

theorem concludes_reply (x : Transaction) (l : ChannelLive) (frame : List Byte) (h : x.startUs + 1000 ≤ 250000) (hf : frame ≠ []) :
    (inFlight x l).Concludes x (.fieldReplyQuietEnd frame 1000) (judgeReply x frame) (x.startUs + 1000) :=
  ⟨⟨⟨rfl, rfl⟩, rfl, .inr ⟨frame, 1000, .inr rfl, hf, rfl, rfl⟩⟩, rfl,
    fun b hb => by cases hb; exact Nat.max_le.2 ⟨Nat.zero_le _, Nat.le_trans h (by decide)⟩⟩

theorem witness_channel_outcomes :
    (inFlight reading {}).Concludes reading .fieldReplyWindowExpiry .noReply reading.windowEndUs ∧
    (inFlight handing {}).Concludes handing (.fieldReplyQuietEnd (answer 9 0xB8#8 []) 1000) (judgeReply handing (answer 9 0xB8#8 [])) 1000 ∧
    (inFlight collecting (handed 3)).Concludes collecting .fieldReplyWindowExpiry .noReply collecting.windowEndUs ∧
    reading.DeviceOutcome .noReply .noReply ∧
    collecting.DeviceOutcome (.accepted (.carried (frameBody 4 0xE1#8 [])) ⟨0xB9#8, []⟩)
      (judgeInner 4 (.read 0 2) (frameBody 4 0xE1#8 [])) :=
  ⟨concludes_expiry _ _ (by decide +kernel), concludes_reply _ _ _ (by decide) (by decide), concludes_expiry _ _ (by decide +kernel),
    .inl ⟨⟨_, rfl⟩, rfl⟩, .inr (.inr ⟨4, .read 0 2, _, _, rfl, rfl, rfl⟩)⟩

/-- A transaction that ends at the cycle's last microsecond is in it, one a microsecond later is not; a start put off waits for any end
(R25). -/
theorem witness_overrun : polling.Ends reading (.fieldReplyReceived reply 250001) (judgeReply reading reply) 250001 ∧
    (∃ b, polling.line.cycleStartUs = some b ∧ b + 250000 < max polling.timeUs 250001) ∧
    ¬ (0 + 250000 < max polling.timeUs 250000) ∧
    ({ polling with line := { polling.line with late := true } } : State).Ends reading .fieldReplyWindowExpiry .noReply
      reading.windowEndUs ∧
    ignores (bankSettings polling.tables.siteSet .line) .cycleOverrun = false ∧ polling.banks.get .line = none :=
  ⟨⟨⟨rfl, rfl⟩, rfl, .inr ⟨reply, 250001, .inl rfl, by decide, rfl, rfl⟩⟩, ⟨0, rfl, by decide⟩, by decide,
    ⟨⟨rfl, rfl⟩, rfl, .inl ⟨rfl, rfl, rfl⟩⟩, by decide, rfl⟩

/-- The urgent close in flight, and the same close waiting behind a channel's transaction. -/
def closing : Transaction := { reading with work := .urgent, request := .device (.direct 1 0) }
def closeInFlight : State :=
  { inFlight closing {} with
    guard := { State.reset.guard with watch := .running (some 30000) none none }
    line := { (inFlight closing {}).line with urgent := some ⟨5, 1, true⟩ } }
def closeWaits : State := { polling with line := { polling.line with urgent := some ⟨5, 1, false⟩ } }

theorem witness_urgent : closeInFlight.Ends closing .fieldReplyWindowExpiry .noReply closing.windowEndUs ∧
    closeInFlight.Ends closing (.fieldReplyReceived (answer 3 0xB5#8 []) 1000) (judgeReply closing (answer 3 0xB5#8 [])) 1000 ∧
    closing.work = .urgent ∧ closeInFlight.guard.watch = .running (some 30000) none none ∧ closeInFlight.line.late = false ∧
    (∀ b, closeInFlight.line.cycleStartUs = some b → max closeInFlight.timeUs closing.windowEndUs ≤ b + 250000) ∧
    closeWaits.line.urgent = some ⟨5, 1, false⟩ ∧ closeWaits.Ends reading .fieldReplyWindowExpiry .noReply reading.windowEndUs ∧
    reading.work ≠ .urgent ∧ closeWaits.line.cycleStartUs ≠ none ∧
    ({ closeWaits with line := { closeWaits.line with inFlight := none } } : State).Ready :=
  ⟨⟨⟨rfl, rfl⟩, rfl, .inl ⟨rfl, rfl, rfl⟩⟩, ⟨⟨rfl, rfl⟩, rfl, .inr ⟨_, 1000, .inl rfl, by decide, rfl, rfl⟩⟩, rfl, rfl, rfl,
    fun b hb => by cases hb; decide +kernel, rfl, ⟨⟨rfl, rfl⟩, rfl, .inl ⟨rfl, rfl, rfl⟩⟩, by decide, by decide, ⟨rfl, rfl⟩⟩

/-- Each row of the outcomes is the judgment of a frame written out from R181. -/
theorem witness_outcomes :
    judgeReply reading (answer 3 0xB1#8 [0#8, 0x13#8, 0x88#8]) = .accepted (.data 0 [5000]) ⟨0xB1#8, [0#8, 0x13#8, 0x88#8]⟩ ∧
    judgeReply reading (answer 3 0xE1#8 []) = .accepted .busy ⟨0xE1#8, []⟩ ∧
    judgeReply { reading with request := .device .status } (answer 3 0xB6#8 []) = .accepted .ready ⟨0xB6#8, []⟩ ∧
    judgeReply reading (answer 3 0xE2#8 []) = .accepted .refused ⟨0xE2#8, []⟩ ∧
    judgeReply handing (answer 9 0xB8#8 []) = .accepted .taken ⟨0xB8#8, []⟩ ∧
    judgeReply handing (answer 9 0xE8#8 []) = .accepted .full ⟨0xE8#8, []⟩ ∧
    judgeReply handing (answer 9 0xE2#8 []) = .accepted .refused ⟨0xE2#8, []⟩ ∧
    judgeReply collecting (answer 9 0xE9#8 []) = .accepted .pending ⟨0xE9#8, []⟩ ∧
    judgeInner 4 (.read 0 2) (frameBody 4 0xE1#8 []) = .accepted .busy ⟨0xE1#8, []⟩ ∧
    judgeReply { reading with request := .device (.select 1 2) } (answer 3 0xB3#8 [1#8, 0#8, 2#8]) =
      .accepted (.selected 1 2) ⟨0xB3#8, [1#8, 0#8, 2#8]⟩ ∧
    judgeReply { reading with request := .device (.operate 1 2) } (answer 3 0xB2#8 []) = .accepted .done ⟨0xB2#8, []⟩ := by
  decide +kernel

/-- The fourth PENDING is a failure, and its slot stays (R35). -/
theorem test_fourth_pending :
    (match exec .fieldReplyWindowExpiry (inFlight collecting (handed 3)) with
      | .next t => t.line.slots == [⟨.channel 0, 0⟩] && t.line.live[0]? == some
          { condition := .retryError, failures := 1, countdown := 4, collectCycle := some 1 }
      | _ => false) = true := by decide +kernel

/-- A command's transaction in flight, its entry in the stage given. -/
def commanding (stage : CommandStage) (attempts : Nat) : State :=
  { inFlight { reading with work := .command 5 1, request := .device (.select 1 2) } {} with
    line := { (inFlight { reading with work := .command 5 1, request := .device (.select 1 2) } {}).line with
      commands := [{ address := 5, item := 1, feedback := 2, origin := .fill, target := 2, stage := stage, attempts := attempts
                     turnCycle := some 1 }] } }

theorem witness_command_stages : (commanding .waiting 2).CommandLaw ∧ (commanding .operated 0).CommandLaw ∧
    (commanding .waiting 2).Concludes { reading with work := .command 5 1, request := .device (.select 1 2) } .fieldReplyWindowExpiry
      .noReply (Transaction.windowEndUs { reading with work := .command 5 1, request := .device (.select 1 2) }) ∧
    (∀ c ∈ withTables.channelRecords, c.cls ≠ .guard) ∧ withTables.line.urgent = none ∧
    (commanding .waiting 2).line.commands = [] ++ (commanding .waiting 2).line.commands.head (by decide) :: [] ∧
    (commanding .waiting 2).line.commands.map CommandEntry.turnCycle = [some (commanding .waiting 2).line.cycle] :=
  ⟨⟨by decide, List.pairwise_singleton _ _⟩, ⟨by decide, List.pairwise_singleton _ _⟩,
    ⟨⟨⟨rfl, rfl⟩, rfl, .inl ⟨rfl, rfl, rfl⟩⟩, rfl, fun b hb => by cases hb; decide +kernel⟩, by decide, rfl, rfl, rfl⟩

/-- An OPERATED entry is confirmed by its GOOD feedback at the target alone (R39). -/
theorem test_confirmation :
    let s : State := { commanding .operated 0 with points := (commanding .operated 0).points.set 2 { quality := .good, value := 2 } }
    (s.lineOnPoints [2]).line.commands = [] ∧ (s.lineOnPoints [3]).line.commands = s.line.commands ∧
    (s.lineOnPoints [2]).notices = [⟨.fill, .command 5 1 2 .confirmed⟩] ∧
    ((commanding .selected 0).lineOnPoints [2]).line.commands = (commanding .selected 0).line.commands := by decide +kernel

/-- A pass-through at the head of the queue, its transaction in flight and its reservation standing. -/
def passing (x : Transaction) (e : PassEntry) : State :=
  { inFlight { x with work := .pass } {} with
    line := { (inFlight { x with work := .pass } {}).line with pass := [e], slots := [⟨.pass, 0⟩] }
    out := { withTables.out with waiting := [.reservation e.resv 0x1E#8 1#8] } }

/-- A READ behind the repeater. -/
def entry : PassEntry := { resv := 0, request := .read 0 2, address := 9, inner := some 4, wake := false, handed := some 0
                           collectCycle := some 1 }

theorem witness_pass_through : (passing reading { entry with inner := none, handed := none }).line.pass =
      { entry with inner := none, handed := none } :: [] ∧
    .reservation 0 0x1E#8 1#8 ∈ (passing reading entry).out.waiting ∧
    (passing collecting entry).Concludes { collecting with work := .pass } .fieldReplyWindowExpiry .noReply
      (Transaction.windowEndUs { collecting with work := .pass }) ∧
    (passing handing entry).Concludes { handing with work := .pass } (.fieldReplyQuietEnd (answer 9 0xE8#8 []) 1000)
      (judgeReply { handing with work := .pass } (answer 9 0xE8#8 [])) 1000 ∧
    ({ passing handing entry with tables := { withTables.tables with siteSet := some site } } : State).repeater ≠ 0 ∧
    (passing handing entry).gatePasses 4 (.read 0 2) = true ∧
    ({ withTables with tables := { withTables.tables with map := some [⟨9, 0, .gate .deny⟩] } } : State).gatePasses 9 (.write 0 0) = false ∧
    (LineRequest.device (.write 0 0)).costUs (siteRate none).byteTimeUs true ≤ 250000 ∧ (0 : Nat) + 9 ≤ 8 + 1 := by
  refine ⟨rfl, by decide, ⟨⟨⟨rfl, rfl⟩, rfl, .inl ⟨rfl, rfl, rfl⟩⟩, rfl, fun b hb => by cases hb; decide +kernel⟩,
    ⟨⟨⟨rfl, rfl⟩, rfl, .inr ⟨_, 1000, .inr rfl, by decide, rfl, rfl⟩⟩, rfl, fun b hb => by cases hb; decide +kernel⟩, by decide,
    by decide, by decide, by decide, by decide⟩

/-- A GOOD point with its stale timer, and a command whose confirmation is due. -/
def stale : State :=
  { withTables with
    points := withTables.points.set 63 { quality := .good, staleAt := some 60000 }
    line := { withTables.line with commands := [{ address := 5, item := 1, feedback := 2, origin := .fill, target := 2, stage := .operated
                                                  attempts := 2, deadline := some 30000 }] } }

theorem witness_point_and_deadline : stale.Ready ∧ 63 < stale.points.length ∧ (stale.point 63).staleAt = some 60000 ∧
    (stale.line.commands.find? (CommandEntry.isFor 5 1)).map CommandEntry.deadline = some (some 30000) ∧
    (stale.line.commands.find? (CommandEntry.isFor 5 1)).map CommandEntry.attempts = some 2 ∧
    ignores (bankSettings stale.tables.siteSet .line) .commandFailed = false := by
  refine ⟨⟨rfl, rfl⟩, ?_, ?_, ?_, ?_, ?_⟩ <;> decide +kernel

/-- A heater's command in the list of a machine with its zone, its attempts given. -/
def heaterCommand (attempts : Nat) : State :=
  { withTables with
    tables := { withTables.tables with zones := some [⟨.riser, 3, 6, 0, 4, 100, 1, 30, 50, 0⟩] }
    frost := { withTables.frost with zones := [{ heater := .commanding true }] }
    line := { withTables.line with commands := [{ address := 6, item := 0, feedback := 4, origin := .frost, target := 1
                                                  stage := .operated, attempts := attempts, deadline := some 10000 }] } }

theorem witness_heater_deadline : (heaterCommand 1).Ready ∧ (heaterCommand 1).lineWaits ∧
    (∃ e, (heaterCommand 1).line.commands.find? (CommandEntry.isFor 6 0) = some e ∧ e.deadline = some 10000 ∧ e.attempts + 1 < 3) ∧
    (∃ e, (heaterCommand 2).line.commands.find? (CommandEntry.isFor 6 0) = some e ∧ 3 ≤ e.attempts + 1 ∧ e.origin = .frost) ∧
    (heaterCommand 2).zoneRecords.findIdx? (fun r => r.heaterAddress == 6 && r.heaterItem == 0) = some 0 ∧
    (heaterCommand 2).frost.zones[0]? = some { heater := .commanding true } ∧
    (∃ e, stale.line.commands.find? (CommandEntry.isFor 5 1) = some e ∧ 3 ≤ e.attempts + 1 ∧ e.origin = .fill) :=
  ⟨⟨rfl, rfl⟩, .inr ⟨rfl, rfl⟩, ⟨_, rfl, rfl, by decide⟩, ⟨_, rfl, by decide, rfl⟩, by decide +kernel, rfl,
    ⟨_, rfl, by decide, rfl⟩⟩

theorem witness_sample : levelPoint.engLow ≤ levelPoint.engHigh ∧ levelPoint.rawMin ≤ 0 ∧ (20000 : Int) ≤ levelPoint.rawMax := by decide

/-- Points that agree at the band's edge, and points that just do not. -/
def levels (a b : Option Int) : State :=
  { withTables with
    points := (withTables.points.set 0 { quality := if a.isSome then .good else .none, value := a.getD 0 }).set 1
      { quality := if b.isSome then .good else .none, value := b.getD 0 } }

theorem witness_levels : (levels (some 8050) (some 8000)).usableA guardSet = some 8050 ∧
    (levels (some 8050) (some 8000)).usableB guardSet = some 8000 ∧ (levels (some 8051) (some 8000)).usableA guardSet = some 8051 ∧
    (levels none (some 40000)).usableA guardSet = none ∧ (levels none (some 40000)).usableB guardSet = some 40000 ∧
    (levels none none).usableB guardSet = none := by decide +kernel

theorem witness_rate : ([⟨900, 0⟩] ++ ⟨1000, 8000⟩ :: [⟨1048, 32000⟩, ⟨1100, 128000⟩] : List RingEntry).getLast? = some ⟨1100, 128000⟩ ∧
    (⟨1100, 128000⟩ : RingEntry).time ≤ (⟨1000, 8000⟩ : RingEntry).time + 120000 ∧
    ([] ++ ⟨5, 0⟩ :: [] : List RingEntry).getLast? = some ⟨5, 0⟩ := by decide

theorem witness_guard_set : armed.tables.guardSet = some guardSet ∧ armed.tables.strapping = some strap ∧
    State.reset.tables.strapping = none ∧ strap[1]? = some ⟨2000, 100⟩ ∧ strap[2]? = some ⟨5000, 1000⟩ ∧ TripCause.level ≠ .noTables := by
  decide +kernel

/-- The armed machine with another guard state, level and rate; the GUARD_SET gives T_t 9,900, T_a 9,500 and a re-arm level of 9,400, and
a rise of 100 mm per minute adds 100 mm over the stop latency of 60 s. -/
def judged (state : GuardState) (running : Nat) : State :=
  { armed with
    guard := { armed.guard with state := state, reset := some ⟨0, 0#8, none⟩ }
    fill := { armed.fill with station := some ⟨.remote, 4, running, 0, 0⟩ } }
def levelAt (w : Nat) (rate : Option Int) : LevelRecord := { armed.level.record with w := w, rate := rate }

/-- R74 at its boundaries: a level at T_t trips, one below does not, and a LOST one never does; P at T_a anticipates, and P at the re-arm
level re-arms once no pump runs. -/
theorem test_evaluation_decides :
    ((judged .armed 0).guardEvaluate (levelAt 9900 none)).guard.state = .tripped ∧
    ((judged .armed 0).guardEvaluate { levelAt 9900 none with quality := .lost }).guard.state = .anticipating ∧
    ((judged .armed 0).guardEvaluate (levelAt 9400 (some 100))).guard.state = .anticipating ∧
    ((judged .armed 0).guardEvaluate (levelAt 9399 (some 100))).guard.state = .armed ∧
    ((judged .anticipating 0).guardEvaluate (levelAt 9899 none)).guard.state = .anticipating ∧
    ((judged .anticipating 0).guardEvaluate (levelAt 9900 none)).guard.cause = some .level ∧
    ((judged .anticipating 0).guardEvaluate (levelAt 9401 none)).guard.state = .anticipating ∧
    ((judged .anticipating 0).guardEvaluate (levelAt 9400 none)).guard.state = .armed ∧
    ((judged .anticipating 1).guardEvaluate (levelAt 9400 none)).guard.state = .anticipating ∧
    (((judged .tripped 0).guardEvaluate (levelAt 9900 none)).guard.reset.map ResetInProgress.seen) = some (some .level) := by
  decide +kernel

theorem witness_evaluation : (judged .armed 0).tables.guardSet = some guardSet ∧ (judged .armed 0).line.urgent = none ∧
    (judged .armed 0).line.commands.length < 8 ∧ (levelAt 9900 none).quality ≠ .lost ∧
    ({ judged .armed 0 with line := { armed.line with urgent := some ⟨5, 1, false⟩ } } : State).line.urgent ≠ none := by
  decide +kernel

/-- A float whose debounce ends; `level` is the working level and `g` the guard. -/
def floating (active : Bool) (level : Nat) (g : GuardBlock) : State :=
  { armed with
    inputs := { armed.inputs with float := active }
    guard := { g with floatAt := some 2000, holdAt := some 60000 }
    level := { armed.level with record := { armed.level.record with w := level } } }

/-- A guard that stands TRIPPED with its watch running and a reset in progress or none. -/
def tripped (r : Option ResetInProgress) : GuardBlock :=
  { State.reset.guard with watch := .running (some 30000) (some 31000) (some 2000), reset := r, tripFlag := .programmed, resetLevel := 9700 }

theorem witness_float : (floating false 8000 armed.guard).Ready ∧ (floating true 8900 armed.guard).Ready ∧
    (floating true 8899 (tripped none)).Ready ∧ (floating true 8000 armed.guard).guard.floatAt = some 2000 ∧
    (floating true 8900 armed.guard).guard.state ≠ .tripped ∧ (floating true 8900 (tripped none)).guard.state = .tripped ∧
    (guardSet.floatLevel : Int) - 1000 ≤ (floating true 8900 (tripped none)).level.record.w ∧
    ((floating true 8899 armed.guard).level.record.w : Int) < guardSet.floatLevel - 1000 ∧
    (floating true 8900 armed.guard).guard.holdAt = some 60000 := by
  refine ⟨⟨rfl, rfl⟩, ⟨rfl, rfl⟩, ⟨rfl, rfl⟩, ?_⟩
  decide +kernel

/-- The queue and the line as a trip may find them: a DEMAND frame in transmission or not, the close in the urgent slot or an entry for
the inlet valve in the list. -/
theorem witness_trip : armed.out.sends (.demand 0 2) = false ∧
    ({ armed with out := { armed.out with sending := some ⟨.frame (.demand 3 1), []⟩ } } : State).out.sends (.demand 0 2) = true ∧
    armed.line.urgent = none ∧ ({ armed with line := { armed.line with urgent := some ⟨5, 1, false⟩ } } : State).line.urgent ≠ none ∧
    (stale.line.commands.find? (CommandEntry.isFor guardSet.inletAddress guardSet.inletItem)).isSome = true ∧
    stale.line.urgent = none ∧ TripCause.float ≠ .noTables ∧ TripCause.levelLost ≠ .noTables := by decide +kernel

/-- R129: a LEVEL report queued by a level notice carries the projection of the guard's evaluation of that notice when the guard has taken
the notice first: the projection reaches Level Telemetry before its own level notice does. -/
theorem test_guard_first :
    let s := ({ armed with
      guard := { armed.guard with frostExtra := true }
      telemetry := { armed.telemetry with projection := 1 } } : State).levelNotice true true
    let t := (s.deliverOne fun _ => 0).deliverOne fun _ => 0
    (t.telemetry.projection == t.guard.projection && t.guard.projection == 8000 && t.telemetry.record == armed.telemetry.record) = true := by
  decide +kernel

theorem witness_watch : (floating true 8000 (tripped none)).Ready ∧
    (floating true 8000 (tripped none)).guard.watch = .running (some 30000) (some 31000) (some 2000) ∧
    (floating true 8000 (tripped none)).guard.state = .tripped ∧ (floating true 8000 (tripped none)).tables.guardSet = some guardSet ∧
    ({ State.reset with guard := tripped none } : State).Ready ∧ State.reset.tables.guardSet = none ∧
    (tripped none).watch.deadlineAt = some 30000 ∧ (floating true 8000 (tripped none)).line.urgent = none := by
  refine ⟨⟨rfl, rfl⟩, rfl, rfl, rfl, ⟨rfl, rfl⟩, rfl, rfl, rfl⟩

/-- A state from which a reset can be taken, and states at each check that fails. -/
def resettable : State := { floating false 9699 (tripped none) with engine := { busy := some ⟨.preErase 0, 350⟩ }
                                                                    banks := { State.reset.banks with store := none } }

theorem witness_guard_reset : resettable.Serves ∧ resettable.guard.state = .tripped ∧ resettable.guardResetCheck = none ∧
    resettable.engineAtWork ∧ resettable.lineWaits ∧ armed.guardResetCheck = some .notTripped ∧
    State.reset.guardResetCheck = some .noTables ∧ (floating false 9700 (tripped none)).guardResetCheck = some .tooHigh ∧
    (floating false 9699 (tripped (some ⟨0, 0, none⟩))).guardResetCheck = some .busy ∧
    (floating false 9699 { tripped none with floatActive := true }).guardResetCheck = some .float ∧
    ({ resettable with level := withTables.level } : State).guardResetCheck = some .levelBad ∧
    ({ resettable with banks := { resettable.banks with guard := some { resetFault false with code := .tripFloat } } } : State).guardResetCheck =
      some .held := by
  refine ⟨⟨⟨rfl, rfl⟩, by decide +kernel⟩, rfl, by decide +kernel, ⟨_, rfl, by intro w e h; cases h⟩, .inr ⟨rfl, rfl⟩, ?_⟩
  decide +kernel

/-- The clock set to the last second of a minute. -/
def clocked : State := { armed with fill := { armed.fill with clock := some ⟨⟨6, 1439, 59⟩, 0, 1000⟩ } }

theorem witness_clock : State.reset.Serves ∧ (6#8).toNat ≤ 6 ∧ (0x05#8).toNat * 256 + (0x9F#8).toNat ≤ 1439 ∧ (59#8).toNat ≤ 59 ∧
    6 < (7#8).toNat ∧ 1439 < (0x05#8).toNat * 256 + (0xA0#8).toNat ∧ 59 < (60#8).toNat ∧ clocked.Ready ∧
    (clocked.advanceTo 1000).fill.clock = some ⟨⟨0, 0, 0⟩, 0, 1000⟩ := by
  refine ⟨⟨⟨rfl, rfl⟩, by decide +kernel⟩, by decide, by decide, by decide, by decide, by decide, by decide, ⟨rfl, rfl⟩, by decide +kernel⟩

/-- A window over midnight and one of the day. -/
def windows : List TariffWindow := [⟨.work, 1320, 360, true⟩, ⟨.work, 420, 540, false⟩]

theorem witness_windows : currentWindow none (some windows) (some ⟨0, 359, 0⟩) = some ⟨.work, 1320, 360, true⟩ ∧
    currentWindow none (some windows) (some ⟨6, 360, 0⟩) = none ∧
    currentWindow none (some windows) (some ⟨6, 420, 0⟩) = some ⟨.work, 420, 540, false⟩ := by decide

/-- A fill whose timers are due. -/
def timed : State :=
  { armed with
    guard := { armed.guard with state := .anticipating }
    fill := { armed.fill with
      planAt := some 600000
      order := .force
      forceAt := some 0
      stopWait := some 0
      stopAt := some 120000
      renewal := .aimed 30000
      rise := some ⟨8000, 600000⟩ } }

/-- The same with pumps running and the level given. -/
def pumping (w : Nat) : State :=
  { timed with
    fill := { timed.fill with station := some ⟨.remote, 4, 1, 0, 0⟩ }
    level := { timed.level with record := { timed.level.record with w := w } } }

theorem witness_fill_timers : timed.Ready ∧ timed.fill.planAt = some 600000 ∧ timed.fill.forceEnd = some 21600000 ∧
    timed.fill.stopAt = some 120000 ∧ timed.fill.closeOwed = true ∧ timed.fill.inhibit.contains .valveFault = false ∧
    timed.fill.state ≠ .opening ∧ timed.fill.state ≠ .filling ∧ timed.fill.closePlaced = false ∧ timed.tables.guardSet = some guardSet ∧
    timed.line.commands.find? (CommandEntry.isFor guardSet.inletAddress guardSet.inletItem) = none ∧ timed.line.commands.length < 8 ∧
    timed.line.urgent = none ∧ ({ timed with line := { timed.line with urgent := some ⟨5, 1, false⟩ } } : State).line.urgent ≠ none ∧
    timed.fill.renewal = .aimed 30000 ∧ State.reset.fill.renewal = .openPeriod := by
  refine ⟨⟨rfl, rfl⟩, ?_⟩
  decide +kernel

theorem witness_force_ends : timed.fill.order = .force ∧
    ({ timed with fill := { timed.fill with state := .satisfied } } : State).fill.forceEnd = some 21600000 := by decide

/-- A fill about to evaluate its plan, in a cheap window or not, with pumps to be had, in the state given. -/
def planning (cheap : Bool) (w : Nat) (state : FillState) (f : FillBlock) : State :=
  { armed with
    level := { armed.level with record := { armed.level.record with w := w, v := 900 } }
    fill := { f with
      clock := some ⟨⟨0, 300, 0⟩, 0, 700000⟩
      window := if cheap then some ⟨.work, 1320, 360, true⟩ else none
      planAt := some 600000
      state := state
      station := some ⟨.remote, 4, 0, 0, 0⟩ } }

theorem witness_plan : (∀ s ∈ [planning true 8499 .idle armed.fill, planning true 8499 .satisfied armed.fill,
      planning true 8500 .satisfied armed.fill, planning false 4999 .idle armed.fill, planning false 5000 .idle armed.fill,
      planning true 8000 .filling armed.fill, planning true 8000 .opening armed.fill, planning true 8000 .waitingTurnover armed.fill,
      planning false 8000 .filling { armed.fill with order := .force, forceAt := some 0 }],
      s.powered = true ∧ s.notices = [] ∧ s.fill.inhibit = [] ∧ s.guard.state = .armed ∧ s.fill.planAt = some 600000 ∧
        s.tables.fillSet = some fillSet) ∧
    fillSet.target - fillSet.topUpBand = 8500 ∧ fillSet.minimum = 5000 ∧
    (planning true 8499 .idle armed.fill).fill.window = some ⟨.work, 1320, 360, true⟩ ∧
    ((planning true 8499 .idle armed.fill).advanceTo 600000).clockTime = some ⟨0, 310, 0⟩ ∧
    (planning true 8499 .idle armed.fill).frost.watch = false ∧
    ({ planning true 8499 .idle armed.fill with frost := { armed.frost with watch := true } } : State).fill.turnoverDone = false ∧
    (planning true 8499 .idle { armed.fill with purpose := some .topUp }).fill.purpose = some .topUp := by
  refine ⟨?_, ?_⟩ <;> decide +kernel

theorem witness_plan_laws : (planning true 8499 .idle armed.fill).InhibitLaw ∧ (planning true 8499 .idle armed.fill).DemandLaw ∧
    ({ State.reset with fill := { State.reset.fill with planAt := some 600000 } } : State).tables.fillSet = none :=
  ⟨fun _ h => absurd rfl h, fun _ h => absurd rfl h, rfl⟩

/-- R94 worked by hand for one evaluation at 05:10 in the window that ends at 06:00: target volume 1,000 (the top of the strapping
table), V 900, no profile, finish reserve 30, pump flow 500: N 100, M 20, Q 5, one pump. -/
theorem test_plan_numbers :
    (((planning true 8499 .idle armed.fill).advanceTo 600000).planNumbers fillSet) =
      { vTarget := 1000, windowEnd := 360, m := 20, draw := 0, need := 100, flow := 5, wanted := 1, k := 1, cut := false } := by
  decide +kernel

/-- R96: frost watch with turnover not done waits for turnover whatever the quality of the level. -/
theorem test_lost_level_waits_for_turnover :
    (State.windowDecision false { armed with
      level := withTables.level
      frost := { armed.frost with watch := true }
      fill := { armed.fill with numbers := { need := 1, k := 1 } } }).fill.state = .waitingTurnover := by decide +kernel

/-- The plan of the witness above opens the valve, and the OPEN in the list is confirmed. -/
theorem witness_opening :
    (match exec (.planIntervalExpiry 600000) (planning true 8499 .idle armed.fill) with
      | .next t => t.fill.state == .opening
      | _ => false) = true ∧ (planning true 8499 .idle armed.fill).supply.mode = .mains ∧
    (planning true 8499 .idle armed.fill).line.urgent = none ∧ (planning true 8499 .idle armed.fill).line.commands.length < 8 ∧
    (planning true 8499 .opening armed.fill).fill.state = .opening ∧ (planning true 8499 .idle armed.fill).fill.state ≠ .opening := by
  decide +kernel

theorem witness_rise : timed.fill.rise = some ⟨8000, 600000⟩ ∧ timed.tables.fillSet = some fillSet ∧ timed.pumpsRunning = 0 ∧
    (pumping 8049).pumpsRunning ≠ 0 ∧ (pumping 8049).level.record.quality ≠ .lost ∧ (pumping 8049).level.record.w < 8000 + 50 ∧
    8000 + 50 ≤ (pumping 8050).level.record.w ∧ ignores (bankSettings (pumping 8049).tables.siteSet .fill) .fillNoRise = false ∧
    (pumping 8049).Ready := by
  refine ⟨rfl, rfl, rfl, by decide, by decide, by decide, by decide, by decide, ⟨rfl, rfl⟩⟩

theorem witness_orders : armed.InhibitLaw ∧ (0#8).toNat = 0 ∧ (1#8).toNat = 1 ∧ (2#8).toNat = 2 ∧ armed.tables.fillSet = some fillSet ∧
    armed.Serves ∧ 2 < (3#8).toNat ∧ (2#8).toNat ≤ 2 ∧ armed.fill.inhibit = [] ∧
    Reason.guard ≠ .orderHold ∧ .guard ∈ State.reset.fill.inhibit :=
  ⟨fun _ h => absurd rfl h, by decide, by decide, by decide, rfl, ⟨⟨rfl, rfl⟩, by decide +kernel⟩, by decide, by decide, rfl, by decide,
    by decide⟩

/-- Two zones, the second of which does not fit the budget. -/
def heating : State :=
  { withTables with
    tables := { withTables.tables with
      zones := some [⟨.riser, 3, 6, 0, 4, 100, 1, 30, 50, 0⟩, ⟨.outlet, 3, 6, 1, 5, 101, 2, 30, 50, 0⟩] }
    frost := { withTables.frost with zones := [{}, { deferredSince := some 0, deferralAt := some 1800000 }], budget := 200 } }

theorem witness_zones : heating.grantedZones = [0] ∧ heating.frost.zones[1]?.map ZoneState.deferralAt = some (some 1800000) ∧
    heating.Ready := ⟨by decide +kernel, by decide +kernel, ⟨rfl, rfl⟩⟩

/-- The same zones with a GOOD probe and feedback, temperature and heater state given. -/
def probed (temp feedback : Int) (z : ZoneState) : State :=
  { heating with
    tables := { heating.tables with
      points := some [levelPoint, levelPoint, levelPoint, { levelPoint with kind := .temperature }, { levelPoint with kind := .state }] }
    points := (heating.points.set 3 { value := temp, quality := .good }).set 4 { value := feedback, quality := .good }
    frost := { heating.frost with zones := [z, z] } }

/-- The first zone of the test table. -/
def riserZone : ZoneRecord := ⟨.riser, 3, 6, 0, 4, 100, 1, 30, 50, 0⟩

theorem witness_probes : (probed 30 1 {}).zoneTemp riserZone = some 30 ∧
    (probed 50 1 {}).zoneTemp riserZone = some 50 ∧
    heating.zoneTemp riserZone = none ∧ (probed 30 1 {}).supply.mode = .mains ∧
    (probed 30 1 {}).zoneFeedback riserZone = some 1 ∧
    heating.zoneFeedback riserZone = none ∧
    (probed 30 1 {}).zoneRecords[0]? = some riserZone ∧ (probed 30 1 {}).frost.zones[0]? = some ({} : ZoneState) ∧
    3 ∈ [3, 4] ∧ 3 ∉ [4] ∧ ({ heater := .failed (some 0) } : ZoneState).heater ≠ .failed (some 1) ∧
    (probed 30 1 {}).zoneRecords.findIdx? (fun r => r.heaterAddress == 6 && r.heaterItem == 0) = some 0 ∧
    (((probed 30 1 {}).judgeZone 0 riserZone).frost.zones[0]?).isSome = true := by decide +kernel

/-- R116: ten steps above the freeze temperature a zone is no longer frozen, nine steps above it still is (R115 likewise at the off
temperature). -/
theorem test_frozen_hysteresis :
    ((probed 9 1 {}).frostOnPoints [3]).frost.zones.map ZoneState.frozen = [true, true] ∧
    ((probed 10 1 {}).frostOnPoints [3]).frost.zones.map ZoneState.frozen = [false, false] ∧
    ((probed 49 1 {}).frostOnPoints [3]).frost.zones.map ZoneState.probeRequest = [true, true] ∧
    ((probed 50 1 {}).frostOnPoints [3]).frost.zones.map ZoneState.probeRequest = [false, false] := by decide +kernel

theorem witness_grants : State.reset.GrantLaw ∧ heating.GrantLaw ∧ heating.allocate.GrantLaw ∧
    heating.allocate.frost.zones.map ZoneState.granted = [true, false] := by
  unfold State.GrantLaw
  decide +kernel

theorem witness_reports : State.reset.telemetry.periodAt = some 600000 ∧ State.reset.trunk.controlAt = some 120000 ∧
    State.reset.trunk.stationAt = some 60000 ∧ ignores (bankSettings none .trunk) .controlSilent = false ∧
    ignores (bankSettings none .trunk) .stationSilent = false := by decide

/-- A silence of each partner with a HOLD in force, and every order of the deliveries ends with no notice waiting. -/
def onHold : State :=
  { State.reset with fill := { State.reset.fill with order := .hold, inhibit := [.guard, .orderHold, .manualClose] } }

theorem ends_control : Laws.endsWithin 12 (onHold.advanceTo 120000).controlSilence = true := by decide +kernel
theorem ends_station : Laws.endsWithin 12 (onHold.advanceTo 60000).stationSilence = true := by decide +kernel

theorem witness_silence : onHold.Ready ∧ onHold.trunk.controlAt = some 120000 ∧ onHold.trunk.stationAt = some 60000 ∧
    onHold.fill.order ≠ .auto ∧ onHold.InhibitLaw ∧ .manualClose ∈ onHold.fill.inhibit ∧
    (∃ t, exec (.controlSilenceExpiry 120000) onHold = .next t ∧ t.notices = []) ∧
    (∃ t, exec (.stationSilenceExpiry 60000) onHold = .next t ∧ t.notices = []) :=
  ⟨⟨rfl, rfl⟩, rfl, rfl, by decide, fun _ _ => ⟨rfl, rfl⟩, by decide,
    ⟨_, rfl, Laws.expiry_ends Config.pick 12 120000 _ _ _ rfl rfl (by decide) ends_control⟩,
    ⟨_, rfl, Laws.expiry_ends Config.pick 12 60000 _ _ _ rfl rfl (by decide) ends_station⟩⟩

/-- A RESPONSE to the part, from the station given, that its partner may not send. -/
def odd (source : Nat) : TrunkFrame := ⟨100, source, 0x02#8, 0x10#8, 0#8, []⟩

theorem witness_frames : readTrunk [0xA5#8, 0x5A#8, 100#8, 1#8, 1#8, 0x10#8, 0#8, 201#8] = .bad ∧
    trunkBegun [0xA5#8, 0x5A#8] = true ∧ readTrunk (odd 1).bytes = .good (odd 1) ∧ readTrunk (odd 2).bytes = .good (odd 2) ∧
    (odd 1).dest = (siteNumbers State.reset.tables.siteSet).1 ∧ (odd 1).source = (siteNumbers State.reset.tables.siteSet).2.1 ∧
    (odd 2).source = (siteNumbers State.reset.tables.siteSet).2.2 ∧ (odd 2).source ≠ (siteNumbers State.reset.tables.siteSet).2.1 ∧
    (odd 1).kind ≠ 0x01#8 ∧ (odd 2).kind ≠ 0x05#8 := by decide +kernel

/-- A queue with its five responses. -/
def crowded : State := { State.reset with out := { State.reset.out with waiting := List.replicate 5 (.reservation 0 0x10#8 0#8) } }

theorem witness_no_place : crowded.Ready ∧ crowded.placeFree = false ∧ (0x0F#8).toNat < 0x10 ∧ 0x22 < (0x23#8).toNat :=
  ⟨⟨rfl, rfl⟩, by decide +kernel, by decide, by decide⟩

theorem witness_lengths : (0x10#8, Instr.readPoints 0#8 []) ∈ requestsOf 0#8 [] ∧ ([] : List Byte).length ≠ requestLength 0x10#8 ∧
    (0x19#8, Instr.tableWrite 0#8 [0#8]) ∈ requestsOf 0#8 [0#8] ∧ TableKind.ofNumber 0 = some .points ∧
    [0#8].length ≠ 2 + TableKind.points.recordLength ∧ TableKind.ofNumber 10 = none := by decide +kernel

theorem witness_reads : Bank.number .store = (6#8).toNat ∧ 6 < (7#8).toNat ∧ TableKind.number .siteSet = (9#8).toNat ∧ 9 < (10#8).toNat ∧
    (State.reset.use.get .siteSet).inUse = none ∧
    (({ State.reset with use := State.reset.use.set .map ⟨some .b, 1⟩ } : State).use.get .map).inUse = some .b := by decide +kernel

theorem witness_clear : State.reset.holds .store = true ∧
    ({ State.reset with banks := { State.reset.banks with guard := some (resetFault false), level := some (resetFault false) } } : State).holds
      .guard = true := by decide +kernel

/-- A load of the kind given, ready for records. -/
def loading (k : TableKind) (erased ended : Bool) : OpenLoad :=
  { load := 1, kind := k, next := 1, check := 0xFFFF#16, last := some [1, 2, 3, 4, 5, 6], protectEnded := ended, erased := erased
    taken := [[1, 2, 3, 4, 5, 6]] }

/-- The machine with that load open, its STORE bank clear and the engine idle. -/
def opened (l : Option OpenLoad) : State :=
  { withTables with banks := { withTables.banks with store := none }, engine := { withTables.engine with load := l, loads := 1 } }

theorem witness_table_open : (opened none).Serves ∧ (opened none).engineIdle ∧ (opened none).holds .store = false ∧
    (opened none).lineWaits ∧ TableKind.ofNumber (9#8).toNat = some .siteSet ∧ TableKind.ofNumber (10#8).toNat = none ∧
    (opened (some (loading .map true false))).engine.load ≠ none ∧ State.reset.holds .store = true ∧ returning.supply.mode ≠ .mains := by
  refine ⟨⟨⟨rfl, rfl⟩, by decide +kernel⟩, ⟨rfl, rfl, rfl, rfl, rfl⟩, by decide +kernel, .inr ⟨rfl, rfl⟩, by decide, by decide, ?_,
    by decide +kernel, by decide⟩
  intro h; cases h

theorem witness_table_write : (opened (some (loading .map true false))).Serves ∧ TableKind.ofNumber (1#8).toNat = some .map ∧
    [1#8, 2, 3, 4, 5, 6].length = TableKind.map.recordLength ∧ (opened (some (loading .map true false))).engineIdle ∧
    (1#8).toNat = (loading .map true false).next ∧ (loading .map true false).next < TableKind.map.capacity ∧
    (0#8).toNat + 1 = (loading .map true false).next ∧ (opened (some (loading .map true false))).engine.recordOpen 1 = false ∧
    (loading .map false false).erased = false ∧ (loading .map true true).protectEnded = true ∧ (loading .tariff true false).kind ≠ .map ∧
    ¬ ((2#8).toNat = (loading .map true false).next ∧ (loading .map true false).next < TableKind.map.capacity) := by
  refine ⟨⟨⟨rfl, rfl⟩, by decide +kernel⟩, by decide, by decide, ⟨rfl, rfl, rfl, rfl, rfl⟩, ?_⟩
  decide +kernel

theorem witness_table_close : validateTable (LineRate.byteTimeUs .baud19200) .map [] = .ok (.map [], 0) ∧
    validateTable (LineRate.byteTimeUs .baud19200) .map [[1, 2, 3, 4, 5, 6]] = .error .range ∧
    (1#8).toNat = TableKind.number (loading .map true false).kind ∧ (1#8).toNat = (loading .map true false).next ∧
    0xFF#8 ++ 0xFF#8 = (loading .map true false).check ∧ (2#8).toNat ≠ (loading .map true false).next := by
  refine ⟨rfl, rfl, ?_⟩
  decide

/-- The program of the load's last record waits or runs (R169). -/
theorem witness_retry :
    ({ opened (some (loading .map true false)) with engine := { (opened (some (loading .map true false))).engine with
      busy := some ⟨.table ⟨1, .map, .record [1, 2, 3, 4, 5, 6] [0]⟩ false, 2⟩ } } : State).engine.recordOpen 1 = true ∧
    ({ opened (some (loading .map true false)) with engine := { (opened (some (loading .map true false))).engine with
      busy := some ⟨.preErase 0, 350⟩, work := [⟨1, .map, .record [1, 2, 3, 4, 5, 6] [0]⟩] } } : State).engine.recordOpen 1 = true := by
  decide

/-- The engine at the work given, its reservation standing in the queue. -/
def working (job : EngineJob) (ms : Nat) : State :=
  { opened (some (loading .map true false)) with
    engine := { (opened (some (loading .map true false))).engine with busy := some ⟨job, ms⟩ }
    out := { withTables.out with waiting := [.reservation 0 0x18#8 1#8] } }

theorem witness_table_work : (working (.table ⟨1, .map, .erase 0⟩ false) 350).Ready ∧
    (working (.table ⟨1, .map, .erase 0⟩ false) 350).engine.busy = some ⟨.table ⟨1, .map, .erase 0⟩ false, 350⟩ ∧
    (.reservation 0 0x18#8 1#8) ∈ (working (.table ⟨1, .map, .erase 0⟩ false) 350).out.waiting ∧
    (working (.table ⟨1, .map, .record [1] [0]⟩ true) 2).Ready ∧
    (working (.table ⟨1, .map, .header 0 0#16 (.map []) 0 0⟩ false) 2).Ready ∧
    ((working (.table ⟨1, .map, .header 0 0#16 (.map []) 0 0⟩ false) 2).use.get .map).generation ≠ 4294967295 ∧
    ignores (bankSettings none .store) .eraseFail = false ∧ ignores (bankSettings none .store) .programFail = false :=
  ⟨⟨rfl, rfl⟩, rfl, by decide +kernel, ⟨rfl, rfl⟩, ⟨rfl, rfl⟩, by decide, by decide, by decide⟩

/-- A record whose load has a write and a close waiting, each with its reservation. -/
def failingLoad : State :=
  { working (.table ⟨1, .map, .record [1] [0]⟩ false) 2 with
    engine := { (working (.table ⟨1, .map, .record [1] [0]⟩ false) 2).engine with
      work := [⟨1, .map, .record [2] [1]⟩, ⟨1, .map, .header 2 0#16 (.map []) 0 2⟩] }
    out := { withTables.out with waiting := [.reservation 0 0x19#8 1#8, .reservation 1 0x19#8 2#8, .reservation 2 0x1A#8 3#8] } }

theorem witness_load_dropped : failingLoad.Ready ∧
    (∀ v' ∈ failingLoad.engine.work, 1 ∈ v'.job.resvs → v' = ⟨1, .map, .record [2] [1]⟩) ∧
    .reservation 1 0x19#8 2#8 ∈ failingLoad.out.waiting ∧ 1 ∉ [0] ∧
    (working (.table ⟨1, .map, .erase 0⟩ false) 350).noWorkWaits ∧ (working (.table ⟨1, .map, .record [1] [0]⟩ true) 2).noWorkWaits ∧
    (working (.table ⟨1, .map, .header 0 0#16 (.map []) 0 0⟩ false) 2).noWorkWaits ∧
    (match exec (.tableHeaderProgrammed true) (working (.table ⟨1, .map, .header 0 0#16 (.map []) 0 0⟩ false) 2) with
      | .next t => t.engine.busy == none
      | _ => false) = true :=
  ⟨⟨rfl, rfl⟩, by decide, by decide, by decide, ⟨rfl, rfl, rfl, rfl⟩, ⟨rfl, rfl, rfl, rfl⟩, ⟨rfl, rfl, rfl, rfl⟩, by decide +kernel⟩

/-- A failed record answers the waiting write ENDED and the waiting close STORE_FAULT (R169, R185). -/
theorem test_failed_record :
    (match exec (.tableRecordProgrammed false) failingLoad with
      | .next t => t.out.waiting.take 3 == [.response 0 0x19#8 1#8 [0x07#8], .response 1 0x19#8 2#8 [0x0B#8],
          .response 2 0x1A#8 3#8 [0x07#8]] && t.engine.work == [] && t.engine.load == none
      | _ => false) = true := by decide +kernel

/-- Two headers of one kind that wait together take generations that follow one another (R170, Generation in chapter 0). -/
theorem test_generations_follow :
    let s := working (.table ⟨1, .map, .header 0 0xFFFF#16 (.map []) 0 0⟩ false) 2
    let s : State := { s with engine := { s.engine with work := [⟨2, .map, .header 0 0xFFFF#16 (.map []) 0 1⟩] } }
    (match exec (.tableHeaderProgrammed true) s with
      | .next t => (match exec (.tableHeaderProgrammed true) t with
        | .next u => (t.use.get .map).generation == 1 && (u.use.get .map).generation == 2
        | _ => false)
      | _ => false) = true := by decide +kernel

/-- What the clauses on swaps ask for: a point whose record differs, a level that is lost with its hold still to come, a HELD fill. -/
theorem witness_swaps : withTables.points.length = 64 ∧
    (withTables.tables.points.getD [])[1]? ≠ ([levelPoint] : List PointRecord)[1]? ∧ (stale.point 63).quality ≠ .none ∧
    withTables.tables.guardSet = some guardSet ∧ withTables.level.record.lostSince = some 0 ∧
    withTables.now < 0 + guardSet.levelHold * 1000 ∧ armed.level.record.lostSince = none ∧ withTables.fill.state = .held ∧
    polling.line.inFlight.map Transaction.work = some (.channel 0) ∧ (probed 30 1 {}).zoneTemp riserZone = some 30 ∧
    heating.zoneTemp riserZone = none := by decide +kernel

/-- R62 and R63 by the table of two segments: below it, in each segment, at its top. -/
theorem witness_strapping : strap.head? = some ⟨1000, 0⟩ ∧ strap.getLast? = some ⟨5000, 1000⟩ ∧ 2 ≤ strap.length ∧
    (∀ i x y, strap[i]? = some x → strap[i + 1]? = some y → x.level < y.level) ∧ withTables.level.record.w < 1000 ∧
    5000 ≤ armed.level.record.w ∧ armed.level.beyond = false := by
  refine ⟨rfl, rfl, by decide, ?_, by decide, by decide, rfl⟩
  intro i x y hx hy
  rcases i with _ | _ | i
  · cases hx; cases hy; decide
  · cases hx; cases hy; decide
  · cases hy

/-- A reset marker programmed with a reset in progress, another reason keeping the fill held. -/
def resetting (seen : Option TripCause) : State :=
  { floating false 8000 (tripped (some ⟨0, 1#8, seen⟩)) with
    fill := { armed.fill with state := .held, inhibit := [.guard, .battery] }
    engine := { busy := some ⟨.trip 0 (.marker 8000 none 0), 2⟩ }
    out := { armed.out with waiting := [.reservation 0 0x20#8 1#8] } }

theorem witness_trip_work : (resetting none).Ready ∧ (resetting none).engine.busy = some ⟨.trip 0 (.marker 8000 none 0), 2⟩ ∧
    (resetting none).nv.slots.length = 8 ∧ (resetting none).guard.reset = some ⟨0, 1#8, none⟩ ∧
    (resetting (some .float)).guard.reset = some ⟨0, 1#8, some .float⟩ ∧
    ((resetting none).level.record.w : Int) < ((resetting none).guard.withNumbers guardSet (resetting none).tables.strapping
      (resetting none).level.record (resetting none).fill.demand).trip ∧
    (((resetting none).guard.withNumbers guardSet (resetting none).tables.strapping (resetting none).level.record
      (resetting none).fill.demand).projection : Int) < ((resetting none).guard.withNumbers guardSet (resetting none).tables.strapping
      (resetting none).level.record (resetting none).fill.demand).anticipate ∧
    (∃ x ∈ (resetting none).fill.inhibit, x ≠ Reason.guard) ∧ (working (.preErase 1) 350).Ready ∧
    (working (.preErase 1) 350).engine.busy = some ⟨.preErase 1, 350⟩ ∧
    (working (.trip 7 (.trip .float 0 .good 0 none 0)) 2).engine.busy = some ⟨.trip 7 (.trip .float 0 .good 0 none 0), 2⟩ := by
  refine ⟨⟨rfl, rfl⟩, rfl, rfl, rfl, rfl, by decide +kernel, by decide +kernel, ⟨.battery, by decide, by decide⟩, ⟨rfl, rfl⟩, rfl, rfl⟩

theorem witness_channels : withTables.Serves ∧ withTables.channelRecord (0#8).toNat = some ⟨3, 0, 2, 4, .normal, false, false, 0⟩ ∧
    withTables.channelRecord (1#8).toNat = none ∧ withTables.line.live[(0#8).toNat]? = some ({} : ChannelLive) :=
  ⟨⟨⟨rfl, rfl⟩, by decide +kernel⟩, by decide +kernel, by decide +kernel, by decide +kernel⟩

/-- A COLLECT frees one slot, the second one that the channel took in a cycle staying (R35, R36). -/
theorem test_release_one_slot :
    (State.releaseSlot (.channel 0) 3 { withTables with
      line := { withTables.line with slots := [⟨.channel 0, 3⟩, ⟨.channel 0, 3⟩] } }).line.slots = [⟨.channel 0, 3⟩] := by decide +kernel

/-- The response to a pass-through carries a reply of 197 bytes whole (R183). -/
theorem test_reply_fits : (replyPayload ⟨0xB1#8, List.replicate 197 0#8⟩).length = 200 := by decide +kernel

/-- Every response begins with a status and fits the frame, that to a longer reply too (R183, R185). -/
theorem test_reply_overlong (r : RawReply) :
    (replyPayload r).length ≤ 200 ∧ ∃ status rest, replyPayload r = status :: rest ∧ status.toNat < 25 := by
  unfold replyPayload maxTrunkPayload statusCount
  dsimp only
  split
  · exact ⟨by assumption, _, _, rfl, by decide⟩
  · refine ⟨Nat.succ_le_succ (List.length_take_le _ _), _, _, rfl, ?_⟩
    rw [BitVec.toNat_ofNat]
    exact Nat.lt_of_le_of_lt (Nat.mod_le _ _) (Nat.mod_lt _ (by decide))

/-- A FIELD-PASS of a READ of 16 items passes every check, one of 17 does not, and neither does a WRITE to a denied item. -/
theorem witness_field_pass : withTables.passCheck 0x31#8 31 0 0 16 false = .ok (.read 0 16) ∧
    withTables.passCheck 0x31#8 31 0 0 17 false = .error .outOfRange ∧ withTables.passCheck 0x32#8 32 0 0 0 false = .error .outOfRange ∧
    ({ withTables with tables := { withTables.tables with map := some [⟨3, 0, .gate .deny⟩] } } : State).passCheck 0x32#8 3 0 0 0 false =
      .error .guarded ∧ withTables.lineWaits ∧ withTables.isManualClose 3 (.write 0 0) = false ∧
    ({ withTables with tables := { withTables.tables with map := some [⟨3, 0, .gate .inlet⟩] } } : State).isManualClose 3 (.write 0 0) =
      true := by
  refine ⟨by decide +kernel, by decide +kernel, by decide +kernel, by decide +kernel, .inr ⟨rfl, rfl⟩, by decide +kernel, by decide +kernel⟩

/-- The first of the GATE entries for an item decides (R14). -/
def gated : State := { withTables with tables := { withTables.tables with
  map := some [⟨3, 0, .gate .inlet⟩, ⟨3, 0, .extract 0 2 false⟩, ⟨3, 1, .gate .deny⟩, ⟨3, 1, .gate .inlet⟩] } }

theorem witness_gates : gated.FirstGate 3 0 .inlet ∧ gated.FirstGate 3 1 .deny ∧ (∀ kind, ¬ gated.FirstGate 3 2 kind) ∧
    State.reset.tables.map = none ∧ gated.gatePasses 3 (.write 0 0) = true ∧ gated.gatePasses 3 (.write 0 1) = false ∧
    ({ gated with guard := armed.guard } : State).gatePasses 3 (.select 0 1) = true ∧ gated.gatePasses 3 (.operate 1 0) = false ∧
    gated.isManualClose 3 (.operate 0 0) = true := by
  refine ⟨⟨[], _, rfl, fun e he => by cases he⟩, ⟨[⟨3, 0, .gate .inlet⟩, ⟨3, 0, .extract 0 2 false⟩], _, rfl, ?_⟩, ?_, rfl, by decide, by decide,
    by decide, by decide, by decide⟩
  · intro e he k h
    subst h
    simp at he
  · rintro kind ⟨before, after, h, -⟩
    have hm : (⟨3, 2, .gate kind⟩ : MapEntry) ∈ gated.tables.map.getD [] := by rw [h]; simp
    simp [gated] at hm

theorem witness_frame_laws : State.reset.DemandFrameLaw ∧ State.reset.CapLaw ∧ State.reset.guard.state ≠ .armed ∧
    ({ State.reset with out := {} } : State).DemandFrameLaw ∧ (planning true 8000 .filling armed.fill).CapLaw ∧
    (planning true 8000 .filling armed.fill).tables.fillSet = some fillSet := by
  refine ⟨fun _ => ⟨?_, fun h n tag hh => by cases hh⟩, fun _ => ⟨Nat.le_refl 0, fun _ => rfl, rfl, by decide, by decide⟩, by decide,
    fun _ => ⟨fun n tag h => (by cases h), fun h n tag hh => by cases hh⟩,
    fun _ => ⟨Nat.le_refl 0, fun _ => rfl, Nat.zero_le 4, Nat.zero_le 4⟩, rfl⟩
  intro n tag h
  simp [State.reset] at h
  exact h.1

theorem witness_laws : State.reset.TripLineLaw ∧ State.reset.DemandLaw ∧ State.reset.InhibitLaw ∧ State.reset.RingLaw ∧
    State.reset.CommandLaw ∧ State.reset.LineLaw ∧ State.reset.ClockLaw ∧ State.reset.SizeLaw ∧
    (∃ t, step State.reset = .next t) := by
  refine ⟨fun _ => by decide, fun _ _ => rfl, fun _ _ => ⟨rfl, rfl⟩, ⟨by decide, List.Pairwise.nil⟩, ⟨by decide, List.Pairwise.nil⟩,
    ⟨by decide, by decide⟩, (fun c hc => by cases hc), ⟨by rfl, by rfl, by rfl⟩, ⟨_, rfl⟩⟩

theorem witness_bank_law : State.reset.BankLaw := by
  intro b r h hu
  cases b <;> cases h
  exact rfl

theorem witness_queue_law : ({ State.reset with out := {} } : State).QueueLaw :=
  ⟨fun _ => Nat.zero_le 1, Nat.zero_le 5, fun h hh => by cases hh⟩

theorem witness_faults : ignores (bankSettings none .trunk) .frameCheck = false ∧ State.reset.banks.get .trunk = none ∧
    State.reset.banks.get .store = some (resetFault true) ∧
    ¬ (resetFault true).severity.rank < (FaultCode.severity .checkMismatch).rank := by decide

theorem witness_read_back : (odd 255).source < 256 ∧ (List.replicate 200 (0#8) : List Byte).length ≤ 200 ∧
    (List.replicate 40 (0#8) : List Byte).length ≤ 40 := by decide +kernel

end Sys2Proof.Tests
end

section
/-! SUPPORT. The records of the banks change by faults alone, but for a clearing and a reset (R143, R144, R150): `Faulted bs t u` says
that the banks `u` come out of `t` by faults that reach the banks `bs`, one after another. -/

namespace Sys2Proof.Laws

open Sys2Proof.Machine

/-- The banks come out of others by faults that reach the banks `bs` (R144). -/
inductive Faulted (bs : List Bank) (t : PerBank (Option FaultRecord)) : PerBank (Option FaultRecord) → Prop
  | refl : Faulted bs t t
  | arrive {u : PerBank (Option FaultRecord)} (code : FaultCode) (subject : Option Subject) (clock : Option ClockTime) (uptime : Nat) :
      code.bank ∈ bs → Faulted bs t u →
      Faulted bs t (u.set code.bank (some (arrive code subject clock uptime (u.get code.bank)).1))

/-- The banks of the blocks that log faults while they take the notices of an event. -/
def noticeBanks : List Bank := [.level, .guard, .fill, .frost]

theorem Faulted.mono {bs cs : List Bank} (hs : ∀ b ∈ bs, b ∈ cs) {t u : PerBank (Option FaultRecord)} (h : Faulted bs t u) :
    Faulted cs t u := by
  induction h with
  | refl => exact .refl
  | arrive code subject clock uptime hb _ ih => exact .arrive code subject clock uptime (hs _ hb) ih

theorem Faulted.trans {bs : List Bank} {t u v : PerBank (Option FaultRecord)} (h : Faulted bs t u) (h' : Faulted bs u v) :
    Faulted bs t v := by
  induction h' with
  | refl => exact h
  | arrive code subject clock uptime hb _ ih => exact .arrive code subject clock uptime hb ih

@[simp] theorem PerBank.get_set {α : Type} (t : PerBank α) (b c : Bank) (x : α) :
    (t.set b x).get c = if c = b then x else t.get c := by
  cases b <;> cases c <;> rfl

/-- A bank that no fault reached keeps its record. -/
theorem Faulted.get_eq {bs : List Bank} {t u : PerBank (Option FaultRecord)} (h : Faulted bs t u) {b : Bank} (hb : b ∉ bs) :
    u.get b = t.get b := by
  induction h with
  | refl => rfl
  | arrive code subject clock uptime hc _ ih =>
    have hne : b ≠ code.bank := fun e => hb (e ▸ hc)
    rw [PerBank.get_set, if_neg hne, ih]

variable {bs : List Bank} {b0 : PerBank (Option FaultRecord)}

theorem fault_faulted (code : FaultCode) (subject : Option Subject) (s : State) (hb : code.bank ∈ bs)
    (h : Faulted bs b0 (Part.banks.read s)) : Faulted bs b0 (Part.banks.read (s.fault code subject)) := by
  have h' : ∀ after : FaultRecord × Bool, after = Sys2Proof.Machine.arrive code subject s.clockTime s.uptime (s.banks.get code.bank) →
      Faulted bs b0 (s.banks.set code.bank (some after.1)) := fun _ e => e ▸ .arrive code subject _ _ hb h
  unfold State.fault
  dsimp only
  split
  · exact h
  · rw [holdNotices_read (part := .banks) (by decide)]
    split
    · rw [offer_read (part := .banks) (by decide)]; exact h' _ rfl
    · exact h' _ rfl

theorem faulted_ite {q : Prop} [Decidable q] {s u : State} (h : Faulted bs b0 (Part.banks.read s)) (h' : Faulted bs b0 (Part.banks.read u)) :
    Faulted bs b0 (Part.banks.read (if q then s else u)) := by
  split
  · exact h
  · exact h'

/-! ### The notices of an event -/

theorem judgeBeyond_faulted (s : State) (h : Faulted noticeBanks b0 (Part.banks.read s)) :
    Faulted noticeBanks b0 (Part.banks.read s.judgeBeyond) := by
  unfold State.judgeBeyond
  dsimp only
  split
  · exact fault_faulted _ _ _ (by decide) (by simpa using h)
  · simpa using h

theorem conditionFault_bank {g : GuardSet} {a b : Option Nat} {c : LevelCondition} {code : FaultCode} {x : Subject}
    (h : conditionFault g a b c = some (code, x)) : code.bank = .level := by
  cases c <;> simp only [conditionFault, Option.some.injEq, Prod.mk.injEq, reduceCtorEq] at h
  all_goals rw [← h.1]; rfl

theorem recompute_faulted (g : GuardSet) (sample : Option Nat) (s : State) (h : Faulted noticeBanks b0 (Part.banks.read s)) :
    Faulted noticeBanks b0 (Part.banks.read (s.recompute g sample)) := by
  unfold State.recompute
  dsimp only
  rw [levelNotice_read (part := .banks) (by decide)]
  refine judgeBeyond_faulted _ ?_
  split
  · simpa using h
  · split
    · rename_i code subject e
      exact fault_faulted _ _ _ (by rw [conditionFault_bank e]; decide) (by simpa using h)
    · simpa using h

theorem levelTakes_faulted (n : Notice) (s : State) (h : Faulted noticeBanks b0 (Part.banks.read s)) :
    Faulted noticeBanks b0 (Part.banks.read (s.levelTakes n)) := by
  unfold State.levelTakes State.levelOnPoints State.levelOnHousing
  repeat' split
  all_goals first | exact h | exact recompute_faulted _ _ _ h

theorem tripFault_bank {a : Option Nat} {c : TripCause} {code : FaultCode} {x : Option Subject} (h : tripFault a c = some (code, x)) :
    code.bank = .guard := by
  cases c <;> simp only [tripFault, Option.some.injEq, Prod.mk.injEq, reduceCtorEq] at h
  all_goals rw [← h.1]; rfl

theorem trip_faulted (cause : TripCause) (lr : LevelRecord) (s : State) (h : Faulted noticeBanks b0 (Part.banks.read s)) :
    Faulted noticeBanks b0 (Part.banks.read (s.trip cause lr)) := by
  unfold State.trip
  dsimp only
  rw [tellGuard_read (part := .banks) (by decide)]
  split
  · rename_i code subject e
    exact fault_faulted _ _ _ (by rw [tripFault_bank e]; decide) (by simpa using h)
  · simpa using h

theorem tripCondition_faulted (cause : TripCause) (lr : LevelRecord) (s : State) (h : Faulted noticeBanks b0 (Part.banks.read s)) :
    Faulted noticeBanks b0 (Part.banks.read (s.tripCondition cause lr)) := by
  unfold State.tripCondition
  split
  · simpa using h
  · exact h
  · exact trip_faulted _ _ _ h
  · exact trip_faulted _ _ _ h

theorem guardEvaluate_faulted (lr : LevelRecord) (s : State) (h : Faulted noticeBanks b0 (Part.banks.read s)) :
    Faulted noticeBanks b0 (Part.banks.read (s.guardEvaluate lr)) := by
  unfold State.guardEvaluate
  dsimp only
  repeat' split
  all_goals first
    | exact trip_faulted _ _ _ (by simpa using h)
    | exact tripCondition_faulted _ _ _ (by simpa using h)
    | simpa using h

theorem levelHoldEnds_faulted (s : State) (h : Faulted noticeBanks b0 (Part.banks.read s)) :
    Faulted noticeBanks b0 (Part.banks.read s.levelHoldEnds) := tripCondition_faulted _ _ _ (by simpa using h)

theorem armHold_faulted (g : GuardSet) (since : Nat) (s : State) (h : Faulted noticeBanks b0 (Part.banks.read s)) :
    Faulted noticeBanks b0 (Part.banks.read (s.armHold g since)) := by
  unfold State.armHold
  dsimp only
  split
  · exact levelHoldEnds_faulted _ h
  · simpa using h

theorem guardOnLevel_faulted (lr : LevelRecord) (s : State) (h : Faulted noticeBanks b0 (Part.banks.read s)) :
    Faulted noticeBanks b0 (Part.banks.read (s.guardOnLevel lr)) := by
  refine guardEvaluate_faulted _ _ ?_
  unfold State.holdOnNotice
  repeat' split
  all_goals first | simpa using h | exact armHold_faulted _ _ _ h

theorem completeReset_faulted (s : State) (h : Faulted noticeBanks b0 (Part.banks.read s)) :
    Faulted noticeBanks b0 (Part.banks.read s.completeReset) := by
  unfold State.completeReset
  split
  · exact h
  · split
    · exact trip_faulted _ _ _ (by simpa using h)
    · exact guardEvaluate_faulted _ _ (by simpa using h)

theorem guardTakes_faulted (n : Notice) (s : State) (h : Faulted noticeBanks b0 (Part.banks.read s)) :
    Faulted noticeBanks b0 (Part.banks.read (s.guardTakes n)) := by
  unfold State.guardTakes
  split
  case h_2 => exact guardOnLevel_faulted _ _ h
  case h_3 => exact guardEvaluate_faulted _ _ (by simpa using h)
  case h_4 => exact guardEvaluate_faulted _ _ h
  case h_6 =>
    unfold State.guardOnTripWork
    split
    · simpa using h
    · split
      · simpa using h
      · exact completeReset_faulted _ h
  all_goals simpa using h

theorem evaluatePlan_faulted (forced : Bool) (s : State) (h : Faulted noticeBanks b0 (Part.banks.read s)) :
    Faulted noticeBanks b0 (Part.banks.read (s.evaluatePlan forced)) := by
  unfold State.evaluatePlan
  split
  · simpa using h
  · dsimp only
    rw [actOnPlan_read (part := .banks) (by decide)]
    split
    · exact fault_faulted _ _ _ (by decide) h
    · exact h

theorem fillEvent_faulted (f : State → State) (s : State) (h : Faulted bs b0 (Part.banks.read (f s))) :
    Faulted bs b0 (Part.banks.read (State.fillEvent f s)) := by
  unfold State.fillEvent
  simpa using h

theorem changeInhibit_faulted (add remove : List Reason) (s : State) (h : Faulted noticeBanks b0 (Part.banks.read s)) :
    Faulted noticeBanks b0 (Part.banks.read (s.changeInhibit add remove)) := by
  unfold State.changeInhibit
  dsimp only
  repeat' split
  all_goals first | exact evaluatePlan_faulted _ _ (by simpa using h) | simpa using h

theorem fillOnLevel_faulted (lr : LevelRecord) (s : State) (h : Faulted noticeBanks b0 (Part.banks.read s)) :
    Faulted noticeBanks b0 (Part.banks.read (s.fillOnLevel lr)) := by
  unfold State.fillOnLevel
  split
  · exact h
  · dsimp only
    rw [fillOnLevelState_read (part := .banks) (by decide)]
    split
    · unfold State.turnoverBecomesDone
      have h' := evaluatePlan_faulted false (s.updFill fun f => { f with turnoverDone := true }) (by simpa using h)
      dsimp only
      split
      · simpa using h'
      · exact h'
    · exact h

theorem fillOnCommand_faulted (target : Nat) (o : CommandOutcome) (s : State) (h : Faulted noticeBanks b0 (Part.banks.read s)) :
    Faulted noticeBanks b0 (Part.banks.read (s.fillOnCommand target o)) := by
  unfold State.fillOnCommand State.closeConfirmed
  dsimp only
  repeat' split
  all_goals first
    | exact evaluatePlan_faulted _ _ (by simpa using h)
    | exact changeInhibit_faulted _ _ _ (by simpa using h)
    | simpa using h

theorem orderLapses_faulted (s : State) (h : Faulted noticeBanks b0 (Part.banks.read s)) :
    Faulted noticeBanks b0 (Part.banks.read s.orderLapses) := by
  unfold State.orderLapses
  split
  · exact h
  · exact changeInhibit_faulted _ _ _ (by simpa using h)

theorem fillTakes_faulted (n : Notice) (s : State) (h : Faulted noticeBanks b0 (Part.banks.read s)) :
    Faulted noticeBanks b0 (Part.banks.read (s.fillTakes n)) := by
  unfold State.fillTakes
  split
  case h_7 => exact h
  all_goals refine fillEvent_faulted _ _ ?_
  case h_1 => exact fillOnLevel_faulted _ _ h
  case h_2 => exact changeInhibit_faulted _ _ _ h
  case h_3 => exact fillOnCommand_faulted _ _ _ h
  case h_4 => split <;> simpa using h
  case h_5 => exact orderLapses_faulted _ h
  case h_6 => split <;> exact changeInhibit_faulted _ _ _ h

theorem judgeZone_faulted (i : Nat) (r : ZoneRecord) (s : State) (h : Faulted noticeBanks b0 (Part.banks.read s)) :
    Faulted noticeBanks b0 (Part.banks.read (s.judgeZone i r)) := by
  unfold State.judgeZone
  split
  · exact h
  · dsimp only
    split
    · refine fault_faulted _ _ _ (by decide) ?_
      split
      · exact fault_faulted _ _ _ (by decide) (by simpa using h)
      · simpa using h
    · split
      · exact fault_faulted _ _ _ (by decide) (by simpa using h)
      · simpa using h

theorem overZones_faulted (f : Nat → ZoneRecord → State → State)
    (hf : ∀ i r s, Faulted bs b0 (Part.banks.read s) → Faulted bs b0 (Part.banks.read (f i r s))) (i : Nat) (rs : List ZoneRecord)
    (s : State) (h : Faulted bs b0 (Part.banks.read s)) : Faulted bs b0 (Part.banks.read (overZones f i rs s)) := by
  induction rs generalizing i s with
  | nil => exact h
  | cons r rest ih => exact ih _ _ (hf _ _ _ h)

theorem frostOnPoints_faulted (ps : List Nat) (s : State) (h : Faulted noticeBanks b0 (Part.banks.read s)) :
    Faulted noticeBanks b0 (Part.banks.read (s.frostOnPoints ps)) := by
  have hj : Faulted noticeBanks b0 (Part.banks.read (s.judgeListed ps)) := by
    refine overZones_faulted _ (fun i r s h => ?_) _ _ _ h
    split
    · exact judgeZone_faulted _ _ _ h
    · exact h
  unfold State.frostOnPoints
  split
  · dsimp only
    rw [frostSettle_read (part := .banks) (by decide), learnListed_read (part := .banks) (by decide)]
    exact hj
  · exact h

theorem frostTakes_faulted (n : Notice) (s : State) (h : Faulted noticeBanks b0 (Part.banks.read s)) :
    Faulted noticeBanks b0 (Part.banks.read (s.frostTakes n)) := by
  unfold State.frostTakes
  split
  case h_1 => exact frostOnPoints_faulted _ _ h
  all_goals simpa using h

theorem deliver_faulted (d : Delivery) (s : State) (h : Faulted noticeBanks b0 (Part.banks.read s)) :
    Faulted noticeBanks b0 (Part.banks.read (s.deliver d)) := by
  unfold State.deliver
  split
  · exact levelTakes_faulted _ _ h
  · exact guardTakes_faulted _ _ h
  · exact fillTakes_faulted _ _ h
  · exact frostTakes_faulted _ _ h
  all_goals simpa using h

/-- The notices of an event bring faults to no other banks. -/
theorem drain_faulted (pick : Nat → Nat) (fuel : Nat) (s : State) (h : Faulted noticeBanks b0 (Part.banks.read s)) :
    Faulted noticeBanks b0 (Part.banks.read (State.drain pick fuel s)) := by
  induction fuel generalizing s with
  | zero => exact h
  | succ fuel ih =>
    simp only [State.drain]
    split
    · exact h
    · refine ih _ ?_
      rcases deliverOne_cases pick s with e | ⟨d, others, draws, -, -, -, e⟩
      · rw [e]; exact h
      · rw [e]; exact deliver_faulted d _ h

end Sys2Proof.Laws
end

section
/-! SUPPORT. Laws that no event breaks: what each of the shared frames of a command (an event, a timer's expiry, a request) keeps. -/

namespace Sys2Proof.Laws

open Sys2Proof.Machine

/-- A law of the state that the parts common to all events keep: time going on, a place reserved and a response given in the queue, the
frame of the control room counted, the notices taken, and what follows every event. -/
structure Lasting (P : State → Prop) : Prop where
  advance : ∀ us s, P s → P (s.advanceUs us)
  control : ∀ s, P s → P s.controlFrame
  queue : ∀ f s, P s → P (s.updOut f)
  drain : ∀ pick fuel s, P s → P (State.drain pick fuel s)
  settle : ∀ s, P s → P s.settle

namespace Lasting

variable {P : State → Prop} (hP : Lasting P)

include hP

theorem event (pick : Nat → Nat) (f : State → State) (hf : ∀ s, P s → P (f s)) (s : State) (h : P s) : P (State.event pick f s) := by
  unfold State.event
  split
  · exact hP.settle _ (hP.drain _ _ _ (hf _ h))
  · exact h

theorem eventIf (pick : Nat → Nat) (happens : Bool) (f : State → State) (hf : ∀ s, P s → P (f s)) (s : State) (h : P s) :
    P (State.eventIf pick happens f s) := by
  unfold State.eventIf
  split
  · exact hP.event pick f hf s h
  · exact h

theorem expiry (pick : Nat → Nat) (aim : Option Nat) (due : Nat) (f : State → State) (hf : ∀ s, P s → P (f s)) (s : State) (h : P s) :
    P (State.expiry pick aim due f s) :=
  hP.eventIf pick _ _ (fun s h => hf _ (hP.advance _ s h)) s h

theorem takeRequest (code tag : Byte) (fits : Bool) (owner : Nat → State → State) (ho : ∀ resv s, P s → P (owner resv s)) (s : State)
    (h : P s) : P (State.takeRequest code tag fits owner s) := by
  unfold State.takeRequest
  dsimp only
  split
  · split
    · exact ho _ _ (hP.queue _ _ (hP.control s h))
    · exact hP.queue _ _ (hP.queue _ _ (hP.control s h))
  · exact hP.control s h

theorem request (pick : Nat → Nat) (code tag : Byte) (fits : Bool) (owner : Nat → State → State)
    (ho : ∀ resv s, P s → P (owner resv s)) (s : State) (h : P s) : P (State.request pick code tag fits owner s) :=
  hP.event pick _ (hP.takeRequest code tag fits owner ho) s h

end Lasting

/-- A law that every effect of a command keeps: the owners' acts, one field for each meaning that `exec` gives a command, besides those
common to all events. A law with these is kept by every step (`EffectsKeep.step`). -/
structure EffectsKeep (P : State → Prop) : Prop extends Lasting P where
  pending : ∀ cs s, P s → P { s with pending := cs }
  powerOn : ∀ s, P s → P s.powerOn
  restarted : ∀ s, P s → P s.restarted
  powerLost : ∀ s, P s → P s.powerLost
  inputs : ∀ f s, P s → P (s.updInputs f)
  mainsInput : ∀ active s, P s → P (s.mainsInput active)
  mainsLost : ∀ s, P s → P s.mainsLost
  mainsReturned : ∀ s, P s → P s.mainsReturned
  batteryInput : ∀ active s, P s → P (s.batteryInput active)
  batteryDebounced : ∀ s, P s → P s.batteryDebounced
  floatChange : ∀ active s, P s → P (s.floatChange active)
  floatDebounced : ∀ s, P s → P s.floatDebounced
  protectChange : ∀ active s, P s → P (s.protectChange active)
  transmissionEnds : ∀ x s, P s → P (s.transmissionEnds x)
  cycleComesDue : ∀ s, P s → P s.cycleComesDue
  transactionEnds : ∀ x o s, P s → P (s.transactionEnds x o)
  pointStale : ∀ p s, P s → P (s.pointStale p)
  deadlinePasses : ∀ address item s, P s → P (s.deadlinePasses address item)
  levelHoldEnds : ∀ s, P s → P s.levelHoldEnds
  valveDeadline : ∀ s, P s → P s.valveDeadline
  valveRepeat : ∀ s, P s → P s.valveRepeat
  valveRetry : ∀ s, P s → P s.valveRetry
  newMinute : ∀ s, P s → P (State.fillEvent State.newMinute s)
  planInterval : ∀ s, P s → P (State.fillEvent (State.evaluatePlan false) s)
  forceEnds : ∀ s, P s → P (State.fillEvent (State.replaceOrder .auto) s)
  stopWait : ∀ s, P s → P (State.fillEvent (fun s => s) s)
  renewal : ∀ s, P s → P (State.fillEvent State.queueDemand s)
  judgeRise : ∀ check s, P s → P (State.fillEvent (State.judgeRise check) s)
  stationFrame : ∀ s, P s → P s.stationFrame
  takeStatus : ∀ c s, P s → P (State.fillEvent (State.takeStatus c) s)
  deferralEnds : ∀ zone s, P s → P (s.deferralEnds zone)
  queueLevel : ∀ s, P s → P s.queueLevel
  trunkFault : ∀ code subject s, P s → P (s.fault code subject)
  controlSilence : ∀ s, P s → P s.controlSilence
  stationSilence : ∀ s, P s → P s.stationSilence
  restartRequest : ∀ resv s, P s → P (s.restartRequest resv)
  restartComesDue : ∀ s, P s → P s.restartComesDue
  guardResetRequest : ∀ resv tag s, P s → P (s.guardResetRequest resv tag)
  setClockRequest : ∀ resv day minute second s, P s → P (s.setClockRequest resv day minute second)
  fillOrderRequest : ∀ resv order s, P s → P (s.fillOrderRequest resv order)
  clearBank : ∀ resv bank s, P s → P (s.clearBank resv bank)
  openTable : ∀ resv kind s, P s → P (s.openTable resv kind)
  writeTable : ∀ resv kind index record s, P s → P (s.writeTable resv kind index record)
  closeTable : ∀ resv kind count check s, P s → P (s.closeTable resv kind count check)
  abandonTable : ∀ resv kind s, P s → P (s.abandonTable resv kind)
  startChannel : ∀ resv index s, P s → P (s.startChannel resv index)
  stopChannel : ∀ resv index s, P s → P (s.stopChannel resv index)
  passRequestTaken : ∀ resv function address inner wake item value s, P s →
    P (s.passRequestTaken resv function address inner wake item value)
  engineFree : ∀ s, P s → P s.engineFree
  eraseEnds : ∀ w resv ended ok s, P s → P (s.eraseEnds w resv ended ok)
  recordEnds : ∀ w bytes resvs ended ok s, P s → P (s.recordEnds w bytes resvs ended ok)
  headerEnds : ∀ w count check d clamps resv ok s, P s → P (s.headerEnds w count check d clamps resv ok)
  tripProgramEnds : ∀ slot entry ok s, P s → P (s.tripProgramEnds slot entry ok)
  preEraseEnds : ∀ sector ok s, P s → P (s.preEraseEnds sector ok)

namespace EffectsKeep

variable {P : State → Prop} (hP : EffectsKeep P)

include hP

/-- An input of the part changes: with power an event, without power the level of the pin alone. -/
theorem inputChange {same : Prop} [Decidable same] (f : State → State) (hf : ∀ s, P s → P (f s)) (g : Inputs → Inputs) (s : State)
    (h : P s) : P (if same then s else if s.powered then State.event Config.pick f s else s.updInputs g) := by
  split
  · exact h
  · split
    · exact hP.event _ f hf s h
    · exact hP.inputs g s h

omit hP in
/-- A reply to the transaction in flight, or the end of its window. -/
theorem reply (f : Transaction → State → State) (hf : ∀ x s, P s → P (f x s)) (s : State) (h : P s) :
    P (match s.line.inFlight with | some x => f x s | none => s) := by
  split
  · exact hf _ s h
  · exact h

/-- A request that reads the part. -/
theorem answer (payload : State → List Byte) (resv : Nat) (s : State) (h : P s) : P (answerWith payload resv s) := by
  unfold answerWith State.respond
  exact hP.queue _ s h

/-- Work of the store engine ends. -/
theorem jobEnds (done : Nat) (f : State → State) (hf : ∀ s, P s → P (f s)) (s : State) (h : P s) :
    P (State.event Config.pick (State.jobEnds done f) s) :=
  hP.event _ _ (fun s h => hf _ (hP.engineFree _ (hP.advance _ s h))) s h

/-- One command keeps the law. -/
theorem exec (c : Instr) (s t : State) (h : exec c s = .next t) (hs : P s) : P t := by
  cases c with
  | powerOnReset => cases h; exact hP.settle _ (hP.powerOn s hs)
  | restart tag payload => cases h; exact hP.request _ _ _ _ _ hP.restartRequest s hs
  | restartLimitExpiry due => cases h; exact hP.expiry _ _ _ _ hP.restartComesDue s hs
  | restartPerform =>
    cases h
    split
    · exact hP.settle _ (hP.restarted s hs)
    · exact hs
  | mainsInputChange active => cases h; exact hP.inputChange _ (hP.mainsInput active) _ s hs
  | mainsLossCountExpiry due => cases h; exact hP.expiry _ _ _ _ hP.mainsLost s hs
  | mainsReturnCountExpiry due => cases h; exact hP.expiry _ _ _ _ hP.mainsReturned s hs
  | batteryLowInputChange active => cases h; exact hP.inputChange _ (hP.batteryInput active) _ s hs
  | batteryLowCountExpiry due => cases h; exact hP.expiry _ _ _ _ hP.batteryDebounced s hs
  | floatInputChange active => cases h; exact hP.inputChange _ (hP.floatChange active) _ s hs
  | floatDebounceExpiry due => cases h; exact hP.expiry _ _ _ _ hP.floatDebounced s hs
  | protectInputChange active => cases h; exact hP.inputChange _ (hP.protectChange active) _ s hs
  | clearToSendChange asserted => cases h; exact hP.inputChange _ (hP.inputs _) _ s hs
  | transmissionEnd =>
    cases h
    split
    · exact hP.event _ _ (hP.transmissionEnds _) s hs
    · exact hs
  | lineCycleStart => cases h; exact hP.eventIf _ _ _ (fun s h => hP.cycleComesDue _ (hP.advance _ s h)) s hs
  | fieldReplyReceived frame elapsed =>
    cases h
    exact EffectsKeep.reply _ (fun x s h => hP.eventIf _ _ _ (fun s h => hP.transactionEnds x _ _ (hP.advance _ s h)) s h) s hs
  | fieldReplyQuietEnd frame elapsed =>
    cases h
    exact EffectsKeep.reply _ (fun x s h => hP.eventIf _ _ _ (fun s h => hP.transactionEnds x _ _ (hP.advance _ s h)) s h) s hs
  | fieldReplyWindowExpiry =>
    cases h
    exact EffectsKeep.reply _ (fun x s h => hP.event _ _ (fun s h => hP.transactionEnds x _ _ (hP.advance _ s h)) s h) s hs
  | pointStaleExpiry point due => cases h; exact hP.expiry _ _ _ _ (hP.pointStale point) s hs
  | commandConfirmDeadlineExpiry address item due => cases h; exact hP.expiry _ _ _ _ (hP.deadlinePasses address item) s hs
  | levelHoldExpiry due => cases h; exact hP.expiry _ _ _ _ hP.levelHoldEnds s hs
  | valveConfirmDeadlineExpiry due => cases h; exact hP.expiry _ _ _ _ hP.valveDeadline s hs
  | valveCloseRepeatExpiry due => cases h; exact hP.expiry _ _ _ _ hP.valveRepeat s hs
  | valveCloseRetryExpiry due => cases h; exact hP.expiry _ _ _ _ hP.valveRetry s hs
  | guardReset tag payload => cases h; exact hP.request _ _ _ _ _ (fun resv => hP.guardResetRequest resv tag) s hs
  | clockMinute due => cases h; exact hP.expiry _ _ _ _ hP.newMinute s hs
  | setClock tag payload => cases h; exact hP.request _ _ _ _ _ (fun resv => hP.setClockRequest resv _ _ _) s hs
  | planIntervalExpiry due => cases h; exact hP.expiry _ _ _ _ hP.planInterval s hs
  | forceExpiry due => cases h; exact hP.expiry _ _ _ _ hP.forceEnds s hs
  | stopWaitExpiry due => cases h; exact hP.expiry _ _ _ _ hP.stopWait s hs
  | demandRenewalExpiry due => cases h; exact hP.expiry _ _ _ _ hP.renewal s hs
  | riseCheckExpiry due =>
    cases h
    split
    · exact hP.expiry _ _ _ _ (hP.judgeRise _) s hs
    · exact hs
  | fillOrder tag payload => cases h; exact hP.request _ _ _ _ _ (fun resv => hP.fillOrderRequest resv _) s hs
  | stationStatus echoed mode available running flow =>
    cases h; exact hP.event _ _ (fun s h => hP.takeStatus _ _ (hP.stationFrame s h)) s hs
  | deferralExpiry zone due => cases h; exact hP.expiry _ _ _ _ (hP.deferralEnds zone) s hs
  | levelPeriodExpiry due => cases h; exact hP.expiry _ _ _ _ hP.queueLevel s hs
  | trunkBadFrame frame => cases h; exact hP.eventIf _ _ _ (hP.trunkFault _ _) s hs
  | trunkByteTimeout frame => cases h; exact hP.eventIf _ _ _ (hP.trunkFault _ _) s hs
  | trunkFrameIgnored frame => cases h; exact hs
  | trunkFrameUnknownKind frame =>
    cases h
    split
    · split
      · refine hP.eventIf _ _ _ (fun s h => hP.trunkFault _ _ _ ?_) s hs
        unfold State.partnerFrame
        split
        · exact hP.control s h
        · exact hP.stationFrame s h
      · exact hs
    · exact hs
    · exact hs
  | requestNoPlace code tag payload => cases h; exact hP.eventIf _ _ _ hP.control s hs
  | requestUnknownCode code tag payload =>
    cases h
    exact hP.eventIf _ _ _ (hP.takeRequest _ _ _ _ fun _ s h => hP.trunkFault _ _ _ (hP.queue _ s h)) s hs
  | controlSilenceExpiry due => cases h; exact hP.expiry _ _ _ _ hP.controlSilence s hs
  | stationSilenceExpiry due => cases h; exact hP.expiry _ _ _ _ hP.stationSilence s hs
  | readPoints tag payload => cases h; exact hP.request _ _ _ _ _ (hP.answer _) s hs
  | readState tag payload => cases h; exact hP.request _ _ _ _ _ (hP.answer _) s hs
  | readChannels tag payload => cases h; exact hP.request _ _ _ _ _ (hP.answer _) s hs
  | readZones tag payload => cases h; exact hP.request _ _ _ _ _ (hP.answer _) s hs
  | readBank tag payload => cases h; exact hP.request _ _ _ _ _ (hP.answer _) s hs
  | clearBank tag payload => cases h; exact hP.request _ _ _ _ _ (fun resv => hP.clearBank resv _) s hs
  | readTrips tag payload => cases h; exact hP.request _ _ _ _ _ (hP.answer _) s hs
  | tableRead tag payload => cases h; exact hP.request _ _ _ _ _ (hP.answer _) s hs
  | tableOpen tag payload => cases h; exact hP.request _ _ _ _ _ (fun resv => hP.openTable resv _) s hs
  | tableWrite tag payload => cases h; exact hP.request _ _ _ _ _ (fun resv => hP.writeTable resv _ _ _) s hs
  | tableClose tag payload => cases h; exact hP.request _ _ _ _ _ (fun resv => hP.closeTable resv _ _ _) s hs
  | tableAbandon tag payload => cases h; exact hP.request _ _ _ _ _ (fun resv => hP.abandonTable resv _) s hs
  | channelStart tag payload => cases h; exact hP.request _ _ _ _ _ (fun resv => hP.startChannel resv _) s hs
  | channelStop tag payload => cases h; exact hP.request _ _ _ _ _ (fun resv => hP.stopChannel resv _) s hs
  | fieldPass tag payload => cases h; exact hP.request _ _ _ _ _ (fun resv => hP.passRequestTaken resv _ _ _ _ _ _) s hs
  | tableEraseComplete ok =>
    cases h
    repeat' split
    all_goals first | exact hP.jobEnds _ _ (hP.eraseEnds _ _ _ ok) s hs | exact hs
  | tableRecordProgrammed ok =>
    cases h
    repeat' split
    all_goals first | exact hP.jobEnds _ _ (hP.recordEnds _ _ _ _ ok) s hs | exact hs
  | tableHeaderProgrammed ok =>
    cases h
    repeat' split
    all_goals first | exact hP.jobEnds _ _ (hP.headerEnds _ _ _ _ _ _ ok) s hs | exact hs
  | tripWorkProgrammed ok =>
    cases h
    repeat' split
    all_goals first | exact hP.jobEnds _ _ (hP.tripProgramEnds _ _ ok) s hs | exact hs
  | tripPreEraseComplete ok =>
    cases h
    repeat' split
    all_goals first | exact hP.jobEnds _ _ (hP.preEraseEnds _ ok) s hs | exact hs
  | powerLoss => cases h; exact hP.powerLost s hs

/-- One step keeps the law. -/
theorem step (s t : State) (hs : P s) (h : step s = .next t) : P t := by
  unfold Machine.step at h
  split at h
  · cases h
    unfold State.idle
    split
    · exact hP.pending _ _ (hP.advance _ s hs)
    · exact hs
  · exact hP.exec _ _ t h (hP.pending _ s hs)

end EffectsKeep

end Sys2Proof.Laws
end

section
/-! SUPPORT. The faults that each command can bring to the banks (R143, R144), and the law of their flags. -/

namespace Sys2Proof.Laws

open Sys2Proof.Machine

/-- Every bank. -/
def everyBank : List Bank := [.level, .guard, .fill, .frost, .line, .trunk, .store]

theorem mem_everyBank (b : Bank) : b ∈ everyBank := by cases b <;> decide

variable {b0 : PerBank (Option FaultRecord)}

/-- A fault of any code. -/
theorem fault_every (code : FaultCode) (subject : Option Subject) (s : State) (h : Faulted everyBank b0 (Part.banks.read s)) :
    Faulted everyBank b0 (Part.banks.read (s.fault code subject)) := fault_faulted _ _ _ (mem_everyBank _) h

/-- What brings faults to the banks of the notices brings faults to banks. -/
theorem every_of_notice (f : State → State) (hf : ∀ {b0} (s : State), Faulted noticeBanks b0 (Part.banks.read s) →
    Faulted noticeBanks b0 (Part.banks.read (f s))) (s : State) (h : Faulted everyBank b0 (Part.banks.read s)) :
    Faulted everyBank b0 (Part.banks.read (f s)) :=
  h.trans ((hf s .refl).mono fun b _ => mem_everyBank b)

/-! ### The Fill Planner's and the guard's own events -/

theorem recomputeTariff_faulted (s : State) (h : Faulted noticeBanks b0 (Part.banks.read s)) :
    Faulted noticeBanks b0 (Part.banks.read s.recomputeTariff) := by
  unfold State.recomputeTariff State.enterWindow
  dsimp only
  repeat' split
  all_goals first | exact evaluatePlan_faulted _ _ (by simpa using h) | simpa using h

theorem newMinute_faulted (s : State) (h : Faulted noticeBanks b0 (Part.banks.read s)) :
    Faulted noticeBanks b0 (Part.banks.read s.newMinute) := recomputeTariff_faulted _ (by simpa using h)

theorem setClockRequest_faulted (resv day minute second : Nat) (s : State) (h : Faulted noticeBanks b0 (Part.banks.read s)) :
    Faulted noticeBanks b0 (Part.banks.read (s.setClockRequest resv day minute second)) := by
  unfold State.setClockRequest
  split
  · simpa using h
  · exact fillEvent_faulted _ _ (evaluatePlan_faulted _ _ (recomputeTariff_faulted _ (by simpa using h)))

theorem fillOrderRequest_faulted (resv order : Nat) (s : State) (h : Faulted noticeBanks b0 (Part.banks.read s)) :
    Faulted noticeBanks b0 (Part.banks.read (s.fillOrderRequest resv order)) := by
  unfold State.fillOrderRequest
  split
  · exact fillEvent_faulted _ _ (changeInhibit_faulted _ _ _ (by simpa using h))
  · refine fillEvent_faulted _ _ ?_
    unfold State.orderHold
    rw [replaceOrder_read (part := .banks) (by decide)]
    exact changeInhibit_faulted _ _ _ (by simpa using h)
  · exact fillEvent_faulted _ _ (evaluatePlan_faulted _ _ (faulted_ite (by simpa using h) (by simpa using h)))
  · simpa using h

theorem takeStatus_faulted (c : StationCopy) (s : State) (h : Faulted noticeBanks b0 (Part.banks.read s)) :
    Faulted noticeBanks b0 (Part.banks.read (s.takeStatus c)) := by
  have hmode : ∀ u : State, Faulted noticeBanks b0 (Part.banks.read u) → Faulted noticeBanks b0 (Part.banks.read
      (if c.mode = .remote then u.changeInhibit [] [.stationLocal, .stationSilent]
        else u.changeInhibit [.stationLocal] [.stationSilent])) :=
    fun u hu => faulted_ite (changeInhibit_faulted _ _ _ hu) (changeInhibit_faulted _ _ _ hu)
  have hcount := hmode (s.updFill fun f => { f with station := some c }) (by simpa using h)
  unfold State.takeStatus
  refine faulted_ite ?_ ?_
  all_goals
    simp only [send_read (part := .banks) (by decide), riseOnStatus_read (part := .banks) (by decide)]
    exact faulted_ite hcount (evaluatePlan_faulted _ _ hcount)

theorem judgeRise_faulted (check : RiseCheck) (s : State) (h : Faulted noticeBanks b0 (Part.banks.read s)) :
    Faulted noticeBanks b0 (Part.banks.read (s.judgeRise check)) := by
  unfold State.judgeRise
  dsimp only
  repeat' split
  all_goals first | exact fault_faulted _ _ _ (by decide) (by simpa using h) | simpa using h

theorem floatDebounced_faulted (s : State) (h : Faulted noticeBanks b0 (Part.banks.read s)) :
    Faulted noticeBanks b0 (Part.banks.read s.floatDebounced) := by
  unfold State.floatDebounced
  split
  · have h' := tripCondition_faulted .float s.level.record (s.updGuard fun b => { b with floatActive := true, floatAt := none })
      (by simpa using h)
    unfold State.floatActivates
    dsimp only
    split
    · exact h'
    · split
      · exact fault_faulted _ _ _ (by decide) h'
      · exact h'
  · simpa using h

theorem valveDeadline_faulted (s : State) (h : Faulted noticeBanks b0 (Part.banks.read s)) :
    Faulted noticeBanks b0 (Part.banks.read s.valveDeadline) := by
  unfold State.valveDeadline
  split
  · exact h
  · dsimp only
    rw [placeUrgent_read (part := .banks) (by decide)]
    exact fault_faulted _ _ _ (by decide) (by simpa using h)

theorem deferralEnds_faulted (zone : Nat) (s : State) (h : Faulted noticeBanks b0 (Part.banks.read s)) :
    Faulted noticeBanks b0 (Part.banks.read (s.deferralEnds zone)) := fault_faulted _ _ _ (by decide) (by simpa using h)

/-! ### The swaps -/

theorem swapStrapping_faulted (t : List Breakpoint) (s : State) (h : Faulted noticeBanks b0 (Part.banks.read s)) :
    Faulted noticeBanks b0 (Part.banks.read (s.swapStrapping t)) := by
  unfold State.swapStrapping
  dsimp only
  rw [levelNotice_read (part := .banks) (by decide)]
  exact judgeBeyond_faulted _ (by simpa using h)

theorem swapGuardSet_faulted (g : GuardSet) (s : State) (h : Faulted noticeBanks b0 (Part.banks.read s)) :
    Faulted noticeBanks b0 (Part.banks.read (s.swapGuardSet g)) := by
  refine fillEvent_faulted _ _ ?_
  have hl : Faulted noticeBanks b0 (Part.banks.read
      (State.levelOnGuardSet s.tables.guardSet g (s.updTables fun x => { x with guardSet := some g }))) := by
    unfold State.levelOnGuardSet
    dsimp only
    repeat' split
    all_goals first | exact recompute_faulted _ _ _ (by simpa using h) | simpa using h
  unfold State.guardOnGuardSet
  repeat' split
  all_goals first | exact hl | exact armHold_faulted _ _ _ hl

theorem swapZones_faulted (t : List ZoneRecord) (s : State) (h : Faulted noticeBanks b0 (Part.banks.read s)) :
    Faulted noticeBanks b0 (Part.banks.read (s.swapZones t)) := by
  unfold State.swapZones
  dsimp only
  rw [frostSettle_read (part := .banks) (by decide)]
  exact overZones_faulted _ (fun i r s h => judgeZone_faulted i r s h) _ _ _ (by simpa using h)

theorem swapSiteSet_faulted (x : SiteSet) (s : State) (h : Faulted noticeBanks b0 (Part.banks.read s)) :
    Faulted noticeBanks b0 (Part.banks.read (s.swapSiteSet x)) := by
  unfold State.swapSiteSet
  dsimp only
  rw [telemetryOnSite_read (part := .banks) (by decide), setBudget_read (part := .banks) (by decide)]
  exact fillEvent_faulted _ _ (recomputeTariff_faulted _ (by simpa using h))

theorem swapTable_faulted (d : TableData) (s : State) (h : Faulted noticeBanks b0 (Part.banks.read s)) :
    Faulted noticeBanks b0 (Part.banks.read (s.swapTable d)) := by
  unfold State.swapTable
  split
  case h_4 => exact swapStrapping_faulted _ _ h
  case h_5 => exact swapGuardSet_faulted _ _ h
  case h_6 =>
    dsimp only
    rw [frostSettle_read (part := .banks) (by decide)]
    exact fillEvent_faulted _ _ (evaluatePlan_faulted _ _ (by simpa using h))
  case h_7 =>
    exact fillEvent_faulted _ _ (evaluatePlan_faulted _ _ (recomputeTariff_faulted _ (by simpa using h)))
  case h_8 => exact fillEvent_faulted _ _ (evaluatePlan_faulted _ _ (by simpa using h))
  case h_9 => exact swapZones_faulted _ _ h
  case h_10 => exact swapSiteSet_faulted _ _ h
  all_goals simpa using h

/-! ### The store -/

theorem closeTable_every (resv kind count : Nat) (check : Check) (s : State) (h : Faulted everyBank b0 (Part.banks.read s)) :
    Faulted everyBank b0 (Part.banks.read (s.closeTable resv kind count check)) := by
  unfold State.closeTable
  repeat' split
  all_goals first | exact fault_every _ _ _ (by simpa using h) | simpa using h

theorem eraseEnds_every (w : TableWork) (resv : Nat) (ended ok : Bool) (s : State) (h : Faulted everyBank b0 (Part.banks.read s)) :
    Faulted everyBank b0 (Part.banks.read (s.eraseEnds w resv ended ok)) := by
  have hf := fault_every .eraseFail (some (.kind w.kind)) s h
  unfold State.eraseEnds
  cases ok <;> cases ended <;> first | simpa using h | simpa using hf

theorem recordEnds_every (w : TableWork) (bytes : List Byte) (resvs : List Nat) (ended ok : Bool) (s : State)
    (h : Faulted everyBank b0 (Part.banks.read s)) :
    Faulted everyBank b0 (Part.banks.read (s.recordEnds w bytes resvs ended ok)) := by
  have hf := fault_every .programFail (some (.kind w.kind)) s h
  unfold State.recordEnds
  cases ok <;> cases ended <;> first | simpa using h | simpa using hf

theorem headerEnds_every (w : TableWork) (count : Nat) (check : Check) (d : TableData) (clamps resv : Nat) (ok : Bool) (s : State)
    (h : Faulted everyBank b0 (Part.banks.read s)) :
    Faulted everyBank b0 (Part.banks.read (s.headerEnds w count check d clamps resv ok)) := by
  unfold State.headerEnds
  dsimp only
  split
  · split
    · simpa using h
    · rw [respond_read (part := .banks) (by decide)]
      exact every_of_notice (State.swapTable d) (fun s h => swapTable_faulted d s h) _ (by simpa using h)
  · rw [respond_read (part := .banks) (by decide)]
    exact fault_every _ _ _ h

theorem tripProgramEnds_every (slot : Nat) (entry : TripEntry) (ok : Bool) (s : State) (h : Faulted everyBank b0 (Part.banks.read s)) :
    Faulted everyBank b0 (Part.banks.read (s.tripProgramEnds slot entry ok)) := by
  unfold State.tripProgramEnds
  dsimp only
  split
  · simpa using h
  · rw [send_read (part := .banks) (by decide)]
    exact fault_every _ _ _ (by simpa using h)

theorem preEraseEnds_every (sector : Nat) (ok : Bool) (s : State) (h : Faulted everyBank b0 (Part.banks.read s)) :
    Faulted everyBank b0 (Part.banks.read (s.preEraseEnds sector ok)) := by
  unfold State.preEraseEnds
  dsimp only
  split
  · simpa using h
  · rw [beginPreErase_read (part := .banks) (by decide)]
    exact fault_every _ _ _ (by simpa using h)

/-! ### The line -/

theorem channelFails_every (i : Nat) (c : ChannelRecord) (condition : ChannelCondition) (s : State)
    (h : Faulted everyBank b0 (Part.banks.read s)) : Faulted everyBank b0 (Part.banks.read (s.channelFails i c condition)) := by
  unfold State.channelFails
  split
  · simpa using h
  · exact fault_every _ _ _ (by simpa using h)

theorem channelAnswer_every (i : Nat) (c : ChannelRecord) (o : FieldOutcome) (s : State) (h : Faulted everyBank b0 (Part.banks.read s)) :
    Faulted everyBank b0 (Part.banks.read (s.channelAnswer i c o)) := by
  unfold State.channelAnswer
  dsimp only
  repeat' split
  all_goals first
    | exact channelFails_every _ _ _ _ (by simpa using h)
    | exact fault_every _ _ _ (by simpa using h)
    | simpa using h

theorem channelOutcome_every (i : Nat) (x : Transaction) (o : FieldOutcome) (s : State) (h : Faulted everyBank b0 (Part.banks.read s)) :
    Faulted everyBank b0 (Part.banks.read (s.channelOutcome i x o)) := by
  unfold State.channelOutcome
  split
  · split
    · exact channelAnswer_every _ _ _ _ h
    · unfold State.channelHandOff
      split
      · simpa using h
      · exact h
      · exact h
      · exact channelAnswer_every _ _ _ _ h
    · unfold State.channelCollect
      split
      · refine channelAnswer_every _ _ _ _ ?_
        split <;> simpa using h
      · split
        · simpa using h
        · exact channelFails_every _ _ _ _ (by simpa using h)
  · simpa using h

theorem commandFails_every (e : CommandEntry) (s : State) (h : Faulted everyBank b0 (Part.banks.read s)) :
    Faulted everyBank b0 (Part.banks.read (s.commandFails e)) := by
  unfold State.commandFails
  split
  · simpa using h
  · rw [tellOrigin_read (part := .banks) (by decide)]
    exact fault_every _ _ _ (by simpa using h)

theorem commandOutcome_every (address item : Nat) (x : Transaction) (o : FieldOutcome) (s : State)
    (h : Faulted everyBank b0 (Part.banks.read s)) : Faulted everyBank b0 (Part.banks.read (s.commandOutcome address item x o)) := by
  unfold State.commandOutcome
  dsimp only
  repeat' split
  all_goals first | exact commandFails_every _ _ h | simpa using h

theorem deadlinePasses_every (address item : Nat) (s : State) (h : Faulted everyBank b0 (Part.banks.read s)) :
    Faulted everyBank b0 (Part.banks.read (s.deadlinePasses address item)) := by
  unfold State.deadlinePasses
  split
  · exact commandFails_every _ _ h
  · exact h

theorem transactionEnds_every (x : Transaction) (o : FieldOutcome) (s : State) (h : Faulted everyBank b0 (Part.banks.read s)) :
    Faulted everyBank b0 (Part.banks.read (s.transactionEnds x o)) := by
  have hrun : ∀ (q : Prop) [Decidable q] (u : State), Faulted everyBank b0 (Part.banks.read u) →
      Faulted everyBank b0 (Part.banks.read (if q then u.fault .cycleOverrun (some (.address x.address)) else u)) :=
    fun q _ u hu => faulted_ite (fault_every _ _ _ hu) hu
  unfold State.transactionEnds
  dsimp only
  split
  · rw [urgentEnds_read (part := .banks) (by decide)]
    exact hrun _ _ (by simpa using h)
  · exact channelOutcome_every _ _ _ _ (hrun _ _ (by simpa using h))
  · exact commandOutcome_every _ _ _ _ _ (hrun _ _ (by simpa using h))
  · rw [passOutcome_read (part := .banks) (by decide)]
    exact hrun _ _ (by simpa using h)

/-! ### The trunk -/

theorem controlSilence_every (s : State) (h : Faulted everyBank b0 (Part.banks.read s)) :
    Faulted everyBank b0 (Part.banks.read s.controlSilence) := by
  unfold State.controlSilence
  rw [send_read (part := .banks) (by decide), send_read (part := .banks) (by decide)]
  exact fault_every _ _ _ (by simpa using h)

theorem stationSilence_every (s : State) (h : Faulted everyBank b0 (Part.banks.read s)) :
    Faulted everyBank b0 (Part.banks.read s.stationSilence) := by
  unfold State.stationSilence
  rw [send_read (part := .banks) (by decide)]
  exact fault_every _ _ _ (by simpa using h)

/-! ### A start (R94, R174) -/

theorem imageFaults_faulted (s : State) (h : Faulted [.store, .fill] b0 (Part.banks.read s)) :
    Faulted [.store, .fill] b0 (Part.banks.read s.imageFaults) := by
  unfold State.imageFaults
  generalize TableKind.all = ks
  induction ks generalizing s with
  | nil => exact h
  | cons k ks ih => exact ih _ (faulted_ite (fault_faulted _ _ _ (by decide) h) h)

theorem startLoad_faulted (s : State) (h : Faulted [.store, .fill] b0 (Part.banks.read s)) :
    Faulted [.store, .fill] b0 (Part.banks.read s.startLoad) := by
  unfold State.startLoad
  dsimp only
  rw [updEngine_read (part := .banks) (by decide)]
  exact imageFaults_faulted _ h

theorem enterWindow_faulted (s : State) (h : Faulted [.store, .fill] b0 (Part.banks.read s)) :
    Faulted [.store, .fill] b0 (Part.banks.read s.enterWindow) := by
  unfold State.enterWindow State.evaluatePlan
  split
  · simpa using h
  · dsimp only
    rw [actOnPlan_read (part := .banks) (by decide)]
    exact faulted_ite (fault_faulted _ _ _ (by decide) h) h

theorem fillStart_faulted (s : State) (h : Faulted [.store, .fill] b0 (Part.banks.read s)) :
    Faulted [.store, .fill] b0 (Part.banks.read s.fillStart) := by
  unfold State.fillStart
  dsimp only
  refine faulted_ite ?_ (by simpa using h)
  rw [closeSequence_read (part := .banks) (by decide)]
  exact enterWindow_faulted _ (by simpa using h)

/-- A start brings faults to the STORE and FILL banks alone. -/
theorem startUp_faulted (s : State) : Faulted [.store, .fill] s.banks s.startUp.banks := by
  show Faulted [.store, .fill] s.banks (Part.banks.read s.startUp)
  unfold State.startUp
  dsimp only
  rw [setNotices_read (part := .banks) (by decide), telemetryStart_read (part := .banks) (by decide),
    allocate_read (part := .banks) (by decide)]
  refine fillStart_faulted _ ?_
  simp only [guardStartUp_read (part := .banks) (by decide), updLevel_read (part := .banks) (by decide),
    frostStart_read (part := .banks) (by decide), tariffStart_read (part := .banks) (by decide),
    trunkStart_read (part := .banks) (by decide), lineStart_read (part := .banks) (by decide)]
  exact startLoad_faulted _ .refl

end Sys2Proof.Laws
end

section
/-! SUPPORT. The law of the banks' flags (R144) through every effect of a command. -/

namespace Sys2Proof.Laws

open Sys2Proof.Machine

/-- A bank whose unseen flag is set has its overflow flag set as well (R144). -/
def SoundBanks (t : PerBank (Option FaultRecord)) : Prop := ∀ b r, t.get b = some r → r.unseen = true → r.overflow = true

theorem bankLaw_iff (s : State) : s.BankLaw ↔ SoundBanks (Part.banks.read s) := Iff.rfl

/-- A fault that reaches a valid bank sets its overflow flag, and an empty bank takes a record with neither flag (R144). -/
theorem arrive_sound (code : FaultCode) (subject : Option Subject) (clock : Option ClockTime) (uptime : Nat) (r : Option FaultRecord)
    (h : (arrive code subject clock uptime r).1.unseen = true) : (arrive code subject clock uptime r).1.overflow = true := by
  unfold arrive at h ⊢
  split
  · simp at h
  · split <;> rfl

/-- Faults keep the law. -/
theorem Faulted.sound {bs : List Bank} {t u : PerBank (Option FaultRecord)} (h : Faulted bs t u) (ht : SoundBanks t) : SoundBanks u := by
  induction h with
  | refl => exact ht
  | arrive code subject clock uptime _ _ ih =>
    intro b r hb hr
    rw [PerBank.get_set] at hb
    split at hb
    · cases hb; exact arrive_sound _ _ _ _ _ hr
    · exact ih b r hb hr

theorem soundBanks_empty : SoundBanks (PerBank.all none) := by
  intro b r h
  cases b <;> cases h

theorem clearBank_sound (resv bank : Nat) (s : State) (h : SoundBanks (Part.banks.read s)) :
    SoundBanks (Part.banks.read (s.clearBank resv bank)) := by
  unfold State.clearBank
  split
  · simpa using h
  · dsimp only
    rw [clearNotices_read (part := .banks) (by decide), respond_read (part := .banks) (by decide)]
    intro b r hb
    show r.unseen = true → _
    rw [show Part.banks.read _ = s.banks.set _ none from rfl, PerBank.get_set] at hb
    split at hb
    · cases hb
    · exact h b r hb

/-- The flags of the banks are kept by every effect (R144). -/
theorem soundBanks_kept : EffectsKeep fun s => SoundBanks (Part.banks.read s) where
  advance us s h := by simpa using h
  control s h := by simpa using h
  queue f s h := by simpa using h
  drain pick fuel s h := (drain_faulted pick fuel s .refl).sound h
  settle s h := by simpa using h
  pending cs s h := h
  powerOn s h := (startUp_faulted (s.wiped true)).sound soundBanks_empty
  restarted s h := (startUp_faulted _).sound h
  powerLost s h := soundBanks_empty
  inputs f s h := by simpa using h
  mainsInput active s h := by simpa using h
  mainsLost s h := by simpa using h
  mainsReturned s h := by simpa using h
  batteryInput active s h := by simpa using h
  batteryDebounced s h := by simpa using h
  floatChange active s h := by unfold State.floatChange; simpa using h
  floatDebounced s h := (floatDebounced_faulted s .refl).sound h
  protectChange active s h := by simpa using h
  transmissionEnds x s h := by simpa using h
  cycleComesDue s h := by simpa using h
  transactionEnds x o s h := (transactionEnds_every x o s .refl).sound h
  pointStale p s h := by simpa using h
  deadlinePasses address item s h := (deadlinePasses_every address item s .refl).sound h
  levelHoldEnds s h := (levelHoldEnds_faulted s .refl).sound h
  valveDeadline s h := (valveDeadline_faulted s .refl).sound h
  valveRepeat s h := by simpa using h
  valveRetry s h := by simpa using h
  newMinute s h := (fillEvent_faulted _ s (newMinute_faulted s .refl)).sound h
  planInterval s h := (fillEvent_faulted _ s (evaluatePlan_faulted false s .refl)).sound h
  forceEnds s h := by unfold State.fillEvent; simpa using h
  stopWait s h := by unfold State.fillEvent; simpa using h
  renewal s h := by unfold State.fillEvent; simpa using h
  judgeRise check s h := (fillEvent_faulted _ s (judgeRise_faulted check s .refl)).sound h
  stationFrame s h := by simpa using h
  takeStatus c s h := (fillEvent_faulted _ s (takeStatus_faulted c s .refl)).sound h
  deferralEnds zone s h := (deferralEnds_faulted zone s .refl).sound h
  queueLevel s h := by simpa using h
  trunkFault code subject s h := (fault_every code subject s .refl).sound h
  controlSilence s h := (controlSilence_every s .refl).sound h
  stationSilence s h := (stationSilence_every s .refl).sound h
  restartRequest resv s h := by simpa using h
  restartComesDue s h := by simpa using h
  guardResetRequest resv tag s h := by simpa using h
  setClockRequest resv day minute second s h := (setClockRequest_faulted resv day minute second s .refl).sound h
  fillOrderRequest resv order s h := (fillOrderRequest_faulted resv order s .refl).sound h
  clearBank := clearBank_sound
  openTable resv kind s h := by simpa using h
  writeTable resv kind index record s h := by simpa using h
  closeTable resv kind count check s h := (closeTable_every resv kind count check s .refl).sound h
  abandonTable resv kind s h := by simpa using h
  startChannel resv index s h := by simpa using h
  stopChannel resv index s h := by simpa using h
  passRequestTaken resv function address inner wake item value s h := by simpa using h
  engineFree s h := by simpa using h
  eraseEnds w resv ended ok s h := (eraseEnds_every w resv ended ok s .refl).sound h
  recordEnds w bytes resvs ended ok s h := (recordEnds_every w bytes resvs ended ok s .refl).sound h
  headerEnds w count check d clamps resv ok s h := (headerEnds_every w count check d clamps resv ok s .refl).sound h
  tripProgramEnds slot entry ok s h := (tripProgramEnds_every slot entry ok s .refl).sound h
  preEraseEnds sector ok s h := (preEraseEnds_every sector ok s .refl).sound h

/-- A bank's unseen flag goes with its overflow flag through every step (R144). -/
theorem step_bankLaw (s t : State) (hs : s.BankLaw) (h : step s = .next t) : t.BankLaw := soundBanks_kept.step s t hs h

end Sys2Proof.Laws
end

section
/-! SUPPORT. The 64 points, the 24 channels and the 8 slots of the trip area keep their numbers through every effect of a command. -/

namespace Sys2Proof.Laws

open Sys2Proof.Machine

/-! ### Points -/

@[simp] theorem takeItem_points_length (address item raw : Nat) (source : Source) (s : State) :
    (Part.points.read (s.takeItem address item raw source).1).length = (Part.points.read s).length := by
  unfold State.takeItem
  repeat' split
  all_goals first | rfl | exact List.length_set

@[simp] theorem takeItems_points_length (address : Nat) (source : Source) (item : Nat) (raws : List Nat) (s : State) :
    (Part.points.read (s.takeItems address source item raws).1).length = (Part.points.read s).length := by
  induction raws generalizing item s with
  | nil => rfl
  | cons raw rest ih => exact (ih _ _).trans (takeItem_points_length _ _ _ _ _)

@[simp] theorem extract_points_length (address : Nat) (source : Source) (start : Nat) (items : List Nat) (s : State) :
    (Part.points.read (s.extract address source start items)).length = (Part.points.read s).length := by
  unfold State.extract
  simp

theorem foldl_set_length {α β : Type} (f : β → Nat) (g : β → α) (hit : List β) (xs : List α) :
    (hit.foldl (fun acc b => acc.set (f b) (g b)) xs).length = xs.length := by
  induction hit generalizing xs with
  | nil => rfl
  | cons b hit ih => exact (ih _).trans List.length_set

@[simp] theorem haltPoints_points_length (c : ChannelRecord) (s : State) :
    (Part.points.read (s.haltPoints c)).length = (Part.points.read s).length := by
  unfold State.haltPoints
  rw [pointNotice_read (part := .points) (by decide)]
  exact foldl_set_length id _ _ _

@[simp] theorem pointStale_points_length (p : Nat) (s : State) :
    (Part.points.read (s.pointStale p)).length = (Part.points.read s).length := by
  unfold State.pointStale
  rw [pointNotice_read (part := .points) (by decide)]
  exact List.length_set

@[simp] theorem swapPoints_points_length (t : List PointRecord) (s : State) :
    (Part.points.read (s.swapPoints t)).length = (Part.points.read s).length := by
  unfold State.swapPoints
  rw [pointNotice_read (part := .points) (by decide)]
  exact foldl_set_length id (fun _ => ({} : PointState)) _ _

@[simp] theorem channelFails_points_length (i : Nat) (c : ChannelRecord) (condition : ChannelCondition) (s : State) :
    (Part.points.read (s.channelFails i c condition)).length = (Part.points.read s).length := by
  unfold State.channelFails
  split <;> simp

@[simp] theorem channelAnswer_points_length (i : Nat) (c : ChannelRecord) (o : FieldOutcome) (s : State) :
    (Part.points.read (s.channelAnswer i c o)).length = (Part.points.read s).length := by
  unfold State.channelAnswer
  dsimp only
  repeat' split
  all_goals simp

@[simp] theorem supersededOutcome_points_length (x : Transaction) (o : FieldOutcome) (s : State) :
    (Part.points.read (s.supersededOutcome x o)).length = (Part.points.read s).length := by
  unfold State.supersededOutcome
  repeat' split
  all_goals simp

@[simp] theorem channelOutcome_points_length (i : Nat) (x : Transaction) (o : FieldOutcome) (s : State) :
    (Part.points.read (s.channelOutcome i x o)).length = (Part.points.read s).length := by
  unfold State.channelOutcome State.channelHandOff State.channelCollect
  dsimp only
  repeat' split
  all_goals simp

@[simp] theorem passOutcome_points_length (x : Transaction) (o : FieldOutcome) (s : State) :
    (Part.points.read (s.passOutcome x o)).length = (Part.points.read s).length := by
  unfold State.passOutcome State.passEnds
  dsimp only
  repeat' split
  all_goals simp

@[simp] theorem transactionEnds_points_length (x : Transaction) (o : FieldOutcome) (s : State) :
    (Part.points.read (s.transactionEnds x o)).length = (Part.points.read s).length := by
  unfold State.transactionEnds
  dsimp only
  repeat' split
  all_goals simp

/-! ### Channels -/

theorem cycles_refl (l : LineBlock) : Cycles l l := ⟨rfl, rfl, rfl, rfl, rfl, rfl, rfl, rfl⟩

theorem Cycles.live {l0 l : LineBlock} (h : Cycles l0 l) : l.live = l0.live := by
  obtain ⟨-, -, -, -, -, hl, -⟩ := h
  exact hl

theorem Cycles.count {l0 l : LineBlock} (h : Cycles l0 l) : l.live.length = l0.live.length := congrArg List.length h.live

theorem Picks.count {l0 l : LineBlock} (h : Picks l0 l) : l.live.length = l0.live.length := by
  obtain ⟨-, -, -, -, -, -, hl⟩ := h
  simpa using congrArg List.length hl

section

variable {l0 : LineBlock}

theorem recomputeTariff_cycles (s : State) (h : Cycles l0 (Part.line.read s)) : Cycles l0 (Part.line.read s.recomputeTariff) := by
  unfold State.recomputeTariff State.enterWindow
  dsimp only
  repeat' split
  all_goals first
    | exact evaluatePlan_cycles _ _ (endWindow_cycles _ _ (by simpa using h))
    | exact evaluatePlan_cycles _ _ (by simpa using h)
    | exact endWindow_cycles _ _ (by simpa using h)
    | simpa using h

theorem newMinute_cycles (s : State) (h : Cycles l0 (Part.line.read s)) : Cycles l0 (Part.line.read s.newMinute) :=
  recomputeTariff_cycles _ (by simpa using h)

theorem orderAuto_cycles (s : State) (h : Cycles l0 (Part.line.read s)) : Cycles l0 (Part.line.read s.orderAuto) :=
  changeInhibit_cycles _ _ _ (replaceOrder_cycles _ _ h)

theorem orderForce_cycles (s : State) (h : Cycles l0 (Part.line.read s)) : Cycles l0 (Part.line.read s.orderForce) := by
  refine evaluatePlan_cycles _ _ ?_
  split <;> simpa using h

theorem fillOrderRequest_cycles (resv order : Nat) (s : State) (h : Cycles l0 (Part.line.read s)) :
    Cycles l0 (Part.line.read (s.fillOrderRequest resv order)) := by
  unfold State.fillOrderRequest
  split
  · exact fillEvent_cycles _ _ (orderAuto_cycles _ (by simpa using h))
  · exact fillEvent_cycles _ _ (orderHold_cycles _ (by simpa using h))
  · exact fillEvent_cycles _ _ (orderForce_cycles _ (by simpa using h))
  · simpa using h

theorem setClockRequest_cycles (resv day minute second : Nat) (s : State) (h : Cycles l0 (Part.line.read s)) :
    Cycles l0 (Part.line.read (s.setClockRequest resv day minute second)) := by
  unfold State.setClockRequest
  split
  · simpa using h
  · exact fillEvent_cycles _ _ (evaluatePlan_cycles _ _ (recomputeTariff_cycles _ (by simpa using h)))

theorem takeStatus_cycles (c : StationCopy) (s : State) (h : Cycles l0 (Part.line.read s)) :
    Cycles l0 (Part.line.read (s.takeStatus c)) := by
  unfold State.takeStatus
  dsimp only
  repeat' split
  all_goals simp only [send_read (part := .line) (by decide), riseOnStatus_read (part := .line) (by decide)]
  all_goals first
    | exact evaluatePlan_cycles _ _ (changeInhibit_cycles _ _ _ (by simpa using h))
    | exact changeInhibit_cycles _ _ _ (by simpa using h)

theorem floatDebounced_cycles (s : State) (h : Cycles l0 (Part.line.read s)) : Cycles l0 (Part.line.read s.floatDebounced) := by
  unfold State.floatDebounced State.floatActivates
  dsimp only
  repeat' split
  all_goals first
    | exact tripCondition_cycles _ _ _ (by simpa using h)
    | (rw [fault_read (part := .line) (by decide)]; exact tripCondition_cycles _ _ _ (by simpa using h))
    | simpa using h

theorem valveDeadline_cycles (s : State) (h : Cycles l0 (Part.line.read s)) : Cycles l0 (Part.line.read s.valveDeadline) := by
  unfold State.valveDeadline
  split
  · exact h
  · exact placeUrgent_cycles _ (by simpa using h)

theorem swapGuardSet_cycles (g : GuardSet) (s : State) (h : Cycles l0 (Part.line.read s)) :
    Cycles l0 (Part.line.read (s.swapGuardSet g)) := by
  refine fillEvent_cycles _ _ ?_
  unfold State.guardOnGuardSet
  repeat' split
  all_goals first | exact armHold_cycles _ _ _ (by simpa using h) | simpa using h

theorem swapSiteSet_cycles (x : SiteSet) (s : State) (h : Cycles l0 (Part.line.read s)) :
    Cycles l0 (Part.line.read (s.swapSiteSet x)) := by
  unfold State.swapSiteSet
  dsimp only
  rw [telemetryOnSite_read (part := .line) (by decide)]
  exact setBudget_cycles _ _ (fillEvent_cycles _ _ (recomputeTariff_cycles _ (by simpa using h)))

theorem swapZones_cycles (t : List ZoneRecord) (s : State) (h : Cycles l0 (Part.line.read s)) :
    Cycles l0 (Part.line.read (s.swapZones t)) := by
  refine frostSettle_cycles _ _ _ ?_
  rwa [overZones_read _ (fun i r s => judgeZone_read (part := .line) (by decide) i r s), updFrost_read (part := .line) (by decide),
    updTables_read (part := .line) (by decide)]

theorem swapFillSet_cycles (t : FillSet) (s : State) (h : Cycles l0 (Part.line.read s)) :
    Cycles l0 (Part.line.read (s.swapFillSet t)) := evaluatePlan_cycles _ _ (by simpa using h)

theorem swapTariff_cycles (t : List TariffWindow) (s : State) (h : Cycles l0 (Part.line.read s)) :
    Cycles l0 (Part.line.read (s.swapTariff t)) := evaluatePlan_cycles _ _ (recomputeTariff_cycles _ (by simpa using h))

theorem swapProfile_cycles (t : List ProfileRecord) (s : State) (h : Cycles l0 (Part.line.read s)) :
    Cycles l0 (Part.line.read (s.swapProfile t)) := evaluatePlan_cycles _ _ (by simpa using h)

end

theorem swapChannels_count (t : List ChannelRecord) (s : State) : (Part.line.read (s.swapChannels t)).live.length = 24 :=
  List.length_replicate

/-- Every swap leaves the channels' number, that of CHANNELS giving them their reset values (R48). -/
theorem swapTable_count (d : TableData) (s : State) (h : (Part.line.read s).live.length = 24) :
    (Part.line.read (s.swapTable d)).live.length = 24 := by
  have hs : Cycles (Part.line.read s) (Part.line.read s) := cycles_refl _
  cases d with
  | points t => simpa [State.swapTable] using h
  | map t => simpa [State.swapTable] using h
  | channels t => exact swapChannels_count t s
  | strapping t => simpa [State.swapTable] using h
  | guardSet t => exact (swapGuardSet_cycles t s hs).count.trans h
  | fillSet t => exact (frostSettle_cycles _ _ _ (fillEvent_cycles _ _ (swapFillSet_cycles t s hs))).count.trans h
  | tariff t => exact (fillEvent_cycles _ _ (swapTariff_cycles t s hs)).count.trans h
  | profile t => exact (fillEvent_cycles _ _ (swapProfile_cycles t s hs)).count.trans h
  | zones t => exact (swapZones_cycles t s hs).count.trans h
  | siteSet x => exact (swapSiteSet_cycles x s hs).count.trans h

@[simp] theorem updChannel_count (i : Nat) (f : ChannelLive → ChannelLive) (s : State) :
    (Part.line.read (s.updChannel i f)).live.length = (Part.line.read s).live.length := List.length_modify _ _ _

@[simp] theorem livesAtCycle_length (cs : List ChannelRecord) (low : Bool) (i : Nat) (ls : List ChannelLive) :
    (livesAtCycle cs low i ls).length = ls.length := by
  induction ls generalizing i with
  | nil => rfl
  | cons l ls ih => simp [livesAtCycle, ih]

@[simp] theorem leavePass_count (payload : List Byte) (s : State) :
    (Part.line.read (s.leavePass payload)).live.length = (Part.line.read s).live.length := by
  unfold State.leavePass
  split
  · rfl
  · rw [respond_read (part := .line) (by decide)]; rfl

@[simp] theorem slotRunsOut_count (x : RepeaterSlot) (s : State) :
    (Part.line.read (s.slotRunsOut x)).live.length = (Part.line.read s).live.length := by
  unfold State.slotRunsOut
  repeat' split
  all_goals simp

@[simp] theorem startCycle_count (s : State) : (Part.line.read s.startCycle).live.length = (Part.line.read s).live.length := by
  have hf : ∀ (xs : List RepeaterSlot) (u : State),
      (Part.line.read (xs.foldl (fun s x => s.slotRunsOut x) u)).live.length = (Part.line.read u).live.length := by
    intro xs
    induction xs with
    | nil => exact fun _ => rfl
    | cons x xs ih => exact fun u => (ih _).trans (slotRunsOut_count x u)
  unfold State.startCycle
  exact (hf _ _).trans (livesAtCycle_length _ _ _ _)

theorem picks_refl (l : LineBlock) : Picks l l := ⟨rfl, rfl, rfl, rfl, rfl, rfl, rfl⟩

@[simp] theorem lineSettle_count (s : State) : (Part.line.read s.lineSettle).live.length = (Part.line.read s).live.length := by
  unfold State.lineSettle
  split
  · rfl
  · refine (linePick_picks _ (picks_refl _)).count.trans ?_
    split <;> simp

@[simp] theorem settle_count (s : State) : (Part.line.read s.settle).live.length = (Part.line.read s).live.length := by
  unfold State.settle
  rw [trunkSettle_read (part := .line) (by decide), enginePick_read (part := .line) (by decide), lineSettle_count]

@[simp] theorem cycleComesDue_count (s : State) : (Part.line.read s.cycleComesDue).live.length = (Part.line.read s).live.length := by
  unfold State.cycleComesDue
  split
  · rfl
  · exact startCycle_count s

@[simp] theorem channelFails_count (i : Nat) (c : ChannelRecord) (condition : ChannelCondition) (s : State) :
    (Part.line.read (s.channelFails i c condition)).live.length = (Part.line.read s).live.length := by
  unfold State.channelFails
  split <;> simp

@[simp] theorem channelAnswer_count (i : Nat) (c : ChannelRecord) (o : FieldOutcome) (s : State) :
    (Part.line.read (s.channelAnswer i c o)).live.length = (Part.line.read s).live.length := by
  unfold State.channelAnswer
  dsimp only
  repeat' split
  all_goals simp

@[simp] theorem takeSlot_count (x : SlotHolder) (s : State) :
    (Part.line.read (s.takeSlot x)).live.length = (Part.line.read s).live.length := by
  show (if s.line.slots.length < 2 then _ else s.line : LineBlock).live.length = _
  split <;> rfl

@[simp] theorem releaseSlot_count (x : SlotHolder) (cycle : Nat) (s : State) :
    (Part.line.read (s.releaseSlot x cycle)).live.length = (Part.line.read s).live.length := rfl

@[simp] theorem updHead_count (f : PassEntry → PassEntry) (s : State) :
    (Part.line.read (s.updHead f)).live.length = (Part.line.read s).live.length := rfl

@[simp] theorem updCommand_count (address item : Nat) (f : CommandEntry → CommandEntry) (s : State) :
    (Part.line.read (s.updCommand address item f)).live.length = (Part.line.read s).live.length := rfl

@[simp] theorem removeCommand_count (address item : Nat) (s : State) :
    (Part.line.read (s.removeCommand address item)).live.length = (Part.line.read s).live.length := rfl

@[simp] theorem urgentEnds_count (o : FieldOutcome) (s : State) :
    (Part.line.read (s.urgentEnds o)).live.length = (Part.line.read s).live.length := rfl

@[simp] theorem supersedeChannel_count (i : Nat) (s : State) :
    (Part.line.read (s.supersedeChannel i)).live.length = (Part.line.read s).live.length := rfl

@[simp] theorem commandFails_count (e : CommandEntry) (s : State) :
    (Part.line.read (s.commandFails e)).live.length = (Part.line.read s).live.length := by
  unfold State.commandFails
  split <;> simp

@[simp] theorem channelOutcome_count (i : Nat) (x : Transaction) (o : FieldOutcome) (s : State) :
    (Part.line.read (s.channelOutcome i x o)).live.length = (Part.line.read s).live.length := by
  unfold State.channelOutcome State.channelHandOff State.channelCollect State.supersededOutcome
  dsimp only
  repeat' split
  all_goals simp

@[simp] theorem commandOutcome_count (address item : Nat) (x : Transaction) (o : FieldOutcome) (s : State) :
    (Part.line.read (s.commandOutcome address item x o)).live.length = (Part.line.read s).live.length := by
  unfold State.commandOutcome
  dsimp only
  repeat' split
  all_goals simp

@[simp] theorem passOutcome_count (x : Transaction) (o : FieldOutcome) (s : State) :
    (Part.line.read (s.passOutcome x o)).live.length = (Part.line.read s).live.length := by
  unfold State.passOutcome State.passEnds
  dsimp only
  repeat' split
  all_goals simp

@[simp] theorem transactionEnds_count (x : Transaction) (o : FieldOutcome) (s : State) :
    (Part.line.read (s.transactionEnds x o)).live.length = (Part.line.read s).live.length := by
  have hrun : ∀ b : Bool, (Part.line.read (s.updLine fun l => { l with inFlight := none, late := b })).live.length =
      (Part.line.read s).live.length := fun _ => rfl
  unfold State.transactionEnds
  dsimp only
  repeat' split
  all_goals simp [hrun]

@[simp] theorem deadlinePasses_count (address item : Nat) (s : State) :
    (Part.line.read (s.deadlinePasses address item)).live.length = (Part.line.read s).live.length := by
  unfold State.deadlinePasses
  split <;> simp

@[simp] theorem startChannel_count (resv index : Nat) (s : State) :
    (Part.line.read (s.startChannel resv index)).live.length = (Part.line.read s).live.length := by
  unfold State.startChannel
  split <;> simp

@[simp] theorem stopChannel_count (resv index : Nat) (s : State) :
    (Part.line.read (s.stopChannel resv index)).live.length = (Part.line.read s).live.length := by
  unfold State.stopChannel
  split <;> simp

@[simp] theorem passRequestTaken_count (resv : Nat) (function : Byte) (address inner : Nat) (wake : Bool) (item value : Nat) (s : State) :
    (Part.line.read (s.passRequestTaken resv function address inner wake item value)).live.length =
      (Part.line.read s).live.length := by
  unfold State.passRequestTaken
  dsimp only
  repeat' split
  all_goals rfl

/-! ### The trip area -/

@[simp] theorem setSector_length (sector : Nat) (x : TripSlot) (slots : List TripSlot) :
    (setSector sector x slots).length = slots.length := by
  unfold setSector
  exact foldl_set_length (fun i => 4 * sector + i) (fun _ => x) _ _

@[simp] theorem beginTrip_slots_length (slot : Nat) (entry : TripEntry) (rest : List TripEntry) (s : State) :
    (Part.nv.read (s.beginTrip slot entry rest)).slots.length = (Part.nv.read s).slots.length := List.length_set

@[simp] theorem beginPreErase_slots_length (sector : Nat) (s : State) :
    (Part.nv.read (s.beginPreErase sector)).slots.length = (Part.nv.read s).slots.length := setSector_length _ _ _

@[simp] theorem updCopy_slots (k : TableKind) (n : CopyName) (f : Copy → Copy) (s : State) :
    (Part.nv.read (s.updCopy k n f)).slots = (Part.nv.read s).slots := rfl

@[simp] theorem beginTable_slots (w : TableWork) (rest : List TableWork) (s : State) :
    (Part.nv.read (s.beginTable w rest)).slots = (Part.nv.read s).slots := by
  unfold State.beginTable
  dsimp only
  split <;> rfl

@[simp] theorem enginePick_slots_length (s : State) :
    (Part.nv.read s.enginePick).slots.length = (Part.nv.read s).slots.length := by
  unfold State.enginePick State.pickOther
  dsimp only
  repeat' split
  all_goals simp

@[simp] theorem settle_slots_length (s : State) : (Part.nv.read s.settle).slots.length = (Part.nv.read s).slots.length := by
  unfold State.settle
  simp

@[simp] theorem recordEnds_slots (w : TableWork) (bytes : List Byte) (resvs : List Nat) (ended ok : Bool) (s : State) :
    (Part.nv.read (s.recordEnds w bytes resvs ended ok)).slots = (Part.nv.read s).slots := by
  unfold State.recordEnds
  cases ok <;> cases ended <;> simp

@[simp] theorem tripProgramEnds_slots_length (slot : Nat) (entry : TripEntry) (ok : Bool) (s : State) :
    (Part.nv.read (s.tripProgramEnds slot entry ok)).slots.length = (Part.nv.read s).slots.length := by
  unfold State.tripProgramEnds
  dsimp only
  split
  · rw [send_read (part := .nv) (by decide), preEraseAfter_read (part := .nv) (by decide)]
    exact List.length_set
  · simp

@[simp] theorem preEraseEnds_slots_length (sector : Nat) (ok : Bool) (s : State) :
    (Part.nv.read (s.preEraseEnds sector ok)).slots.length = (Part.nv.read s).slots.length := by
  unfold State.preEraseEnds
  dsimp only
  split
  · exact setSector_length _ _ _
  · simp

@[simp] theorem copyEnters_slots (k : TableKind) (x : Header) (s : State) :
    (Part.nv.read (s.copyEnters k x)).slots = (Part.nv.read s).slots := rfl

/-! ### All of them -/

/-- The law of the sizes, part by part. -/
def Sized (s : State) : Prop :=
  (Part.points.read s).length = 64 ∧ (Part.line.read s).live.length = 24 ∧ (Part.nv.read s).slots.length = 8

theorem sizeLaw_iff (s : State) : s.SizeLaw ↔ Sized s := Iff.rfl

/-- An effect that changes none of the three numbers. -/
theorem Sized.of_eq {s t : State} (h : Sized s) (hp : (Part.points.read t).length = (Part.points.read s).length)
    (hl : (Part.line.read t).live.length = (Part.line.read s).live.length)
    (hn : (Part.nv.read t).slots.length = (Part.nv.read s).slots.length) : Sized t :=
  ⟨hp.trans h.1, hl.trans h.2.1, hn.trans h.2.2⟩

/-- An effect of the Fill Planner or the guard, which leaves the points and the store alone. -/
theorem Sized.of_cycles {s t : State} (h : Sized s) (hp : Part.points.read t = Part.points.read s)
    (hl : Cycles (Part.line.read s) (Part.line.read t)) (hn : Part.nv.read t = Part.nv.read s) : Sized t :=
  h.of_eq (by rw [hp]) hl.count (by rw [hn])

theorem fillEvent_sized (f : State → State) (s : State) (h : Sized s) (hp : Part.points.read (f s) = Part.points.read s)
    (hl : Cycles (Part.line.read s) (Part.line.read (f s))) (hn : Part.nv.read (f s) = Part.nv.read s) :
    Sized (State.fillEvent f s) :=
  h.of_cycles (fillEvent_read (by decide) f s hp) (fillEvent_cycles f s hl) (fillEvent_read (by decide) f s hn)

theorem swapTable_sized (d : TableData) (s : State) (h : Sized s) : Sized (s.swapTable d) := by
  refine ⟨?_, swapTable_count d s h.2.1, ?_⟩
  · cases d <;> simpa [State.swapTable, State.swapGuardSet, State.swapSiteSet, State.fillEvent] using h.1
  · cases d <;> simpa [State.swapTable, State.swapGuardSet, State.swapSiteSet, State.fillEvent] using h.2.2

theorem headerEnds_sized (w : TableWork) (count : Nat) (check : Check) (d : TableData) (clamps resv : Nat) (ok : Bool) (s : State)
    (h : Sized s) : Sized (s.headerEnds w count check d clamps resv ok) := by
  have hc : Sized (s.copyEnters w.kind ⟨(s.use.get w.kind).generation + 1, count, check⟩) := h
  unfold State.headerEnds
  dsimp only
  split
  · split
    · simpa [Sized] using h
    · simpa [Sized] using swapTable_sized d _ hc
  · simpa [Sized] using h

theorem guardStartUp_cycles {l0 : LineBlock} (s : State) (h : Cycles l0 (Part.line.read s)) :
    Cycles l0 (Part.line.read s.guardStartUp) := by
  unfold State.guardStartUp State.guardStart
  rw [floatInput_read (part := .line) (by decide)]
  dsimp only
  repeat' split
  all_goals first
    | (rw [startWatch_read (part := .line) (by decide)]; exact placeUrgent_cycles _ (by simpa using h))
    | simpa using h

theorem fillStart_cycles {l0 : LineBlock} (s : State) (h : Cycles l0 (Part.line.read s)) :
    Cycles l0 (Part.line.read s.fillStart) := by
  have hc : Cycles l0 (Part.line.read (State.closeSequence (State.queueDemand (s.updFill fun f => { f with
      state := if s.startInhibit = [] then .idle else .held
      inhibit := s.startInhibit
      planAt := s.tables.fillSet.map fun f => f.planInterval * 60000 })))) := closeSequence_cycles _ (by simpa using h)
  unfold State.fillStart
  dsimp only
  generalize State.closeSequence (State.queueDemand _) = u at hc ⊢
  split
  · exact closeSequence_cycles _ (evaluatePlan_cycles _ _ (by simpa using hc))
  · exact hc

/-- A start leaves the points and the store, and the channels at the number it finds. -/
theorem startUp_sized (s : State) (h : Sized s) : Sized s.startUp := by
  refine h.of_eq (by rw [startUp_read (part := .points) (by decide)]) ?_ (by rw [startUp_read (part := .nv) (by decide)])
  unfold State.startUp
  dsimp only
  rw [setNotices_read (part := .line) (by decide), telemetryStart_read (part := .line) (by decide)]
  refine (allocate_cycles _ (fillStart_cycles _ (guardStartUp_cycles _ (cycles_refl _)))).count.trans ?_
  simp only [updLevel_read (part := .line) (by decide), frostStart_read (part := .line) (by decide),
    tariffStart_read (part := .line) (by decide), trunkStart_read (part := .line) (by decide)]
  show (Part.line.read (State.startLoad _)).live.length = _
  rw [startLoad_read (part := .line) (by decide), updSupply_read (part := .line) (by decide)]

theorem wiped_sized (powered : Bool) (s : State) (h : Sized s) : Sized (s.wiped powered) :=
  ⟨List.length_replicate, List.length_replicate, h.2.2⟩

/-- The numbers of points, channels and slots are kept by every effect (R3, R27, R172). -/
theorem sized_kept : EffectsKeep Sized where
  advance us s h := by simpa [Sized] using h
  control s h := by simpa [Sized] using h
  queue f s h := by simpa [Sized] using h
  drain pick fuel s h := h.of_cycles (by simp) (drain_cycles pick fuel s (cycles_refl _)) (by simp)
  settle s h := by simpa [Sized] using h
  pending cs s h := h
  powerOn s h := startUp_sized _ (wiped_sized true s h)
  restarted s h := startUp_sized _ (wiped_sized true s h)
  powerLost s h := wiped_sized false s h
  inputs f s h := by simpa [Sized] using h
  mainsInput active s h := by simpa [Sized] using h
  mainsLost s h := by simpa [Sized] using h
  mainsReturned s h := by simpa [Sized] using h
  batteryInput active s h := by simpa [Sized] using h
  batteryDebounced s h := by simpa [Sized] using h
  floatChange active s h := by simpa [Sized, State.floatChange] using h
  floatDebounced s h := h.of_cycles (by simp) (floatDebounced_cycles s (cycles_refl _)) (by simp)
  protectChange active s h := by simpa [Sized] using h
  transmissionEnds x s h := by simpa [Sized] using h
  cycleComesDue s h := by simpa [Sized] using h
  transactionEnds x o s h := by simpa [Sized] using h
  pointStale p s h := by simpa [Sized] using h
  deadlinePasses address item s h := by simpa [Sized] using h
  levelHoldEnds s h := h.of_cycles (by simp) (levelHoldEnds_cycles s (cycles_refl _)) (by simp)
  valveDeadline s h := h.of_cycles (by simp) (valveDeadline_cycles s (cycles_refl _)) (by simp)
  valveRepeat s h := h.of_cycles (by simp) (placeUrgent_cycles _ (cycles_refl _)) (by simp)
  valveRetry s h := h.of_cycles (by simp) (placeUrgent_cycles _ (cycles_refl _)) (by simp)
  newMinute s h := fillEvent_sized _ s h (by simp) (newMinute_cycles s (cycles_refl _)) (by simp)
  planInterval s h := fillEvent_sized _ s h (by simp) (evaluatePlan_cycles _ s (cycles_refl _)) (by simp)
  forceEnds s h := fillEvent_sized _ s h (by simp) (replaceOrder_cycles _ s (cycles_refl _)) (by simp)
  stopWait s h := fillEvent_sized _ s h rfl (cycles_refl _) rfl
  renewal s h := fillEvent_sized _ s h (by simp) (by simpa using cycles_refl (Part.line.read s)) (by simp)
  judgeRise check s h := fillEvent_sized _ s h (by simp) (by simpa using cycles_refl (Part.line.read s)) (by simp)
  stationFrame s h := by simpa [Sized] using h
  takeStatus c s h := fillEvent_sized _ s h (by simp) (takeStatus_cycles c s (cycles_refl _)) (by simp)
  deferralEnds zone s h := by simpa [Sized] using h
  queueLevel s h := by simpa [Sized] using h
  trunkFault code subject s h := by simpa [Sized] using h
  controlSilence s h := by simpa [Sized] using h
  stationSilence s h := by simpa [Sized] using h
  restartRequest resv s h := by simpa [Sized] using h
  restartComesDue s h := by simpa [Sized] using h
  guardResetRequest resv tag s h := by simpa [Sized] using h
  setClockRequest resv day minute second s h :=
    h.of_cycles (by simp) (setClockRequest_cycles resv day minute second s (cycles_refl _)) (by simp)
  fillOrderRequest resv order s h := h.of_cycles (by simp) (fillOrderRequest_cycles resv order s (cycles_refl _)) (by simp)
  clearBank resv bank s h := by simpa [Sized] using h
  openTable resv kind s h := by simpa [Sized] using h
  writeTable resv kind index record s h := by simpa [Sized] using h
  closeTable resv kind count check s h := by simpa [Sized] using h
  abandonTable resv kind s h := by simpa [Sized] using h
  startChannel resv index s h := by simpa [Sized] using h
  stopChannel resv index s h := by simpa [Sized] using h
  passRequestTaken resv function address inner wake item value s h := by simpa [Sized] using h
  engineFree s h := by simpa [Sized] using h
  eraseEnds w resv ended ok s h := by simpa [Sized] using h
  recordEnds w bytes resvs ended ok s h := by simpa [Sized] using h
  headerEnds := headerEnds_sized
  tripProgramEnds slot entry ok s h := by simpa [Sized] using h
  preEraseEnds sector ok s h := by simpa [Sized] using h

/-- Points, channels and trip-area slots keep their numbers through every step. -/
theorem step_sizeLaw (s t : State) (hs : s.SizeLaw) (h : step s = .next t) : t.SizeLaw := sized_kept.step s t hs h

/-- Settles O58: each law is one that every effect of a command keeps. -/
theorem banksAndSizesAreKept : Obligations.BanksAndSizesAreKept := ⟨step_bankLaw, step_sizeLaw⟩

end Sys2Proof.Laws
end

section
/-! PROOFS. Samples, the stale timer of a point, and the end of a channel's transaction (R4 to R9, R13, R24, R29, R31). -/

namespace Sys2Proof.Laws

open Sys2Proof.Machine

/-! ### Samples (R4 to R7) -/

theorem rawValue_unsigned_two (item : Nat) (h : item < 65536) : rawValue 2 false item = item := by
  simp [rawValue, Nat.mod_eq_of_lt h]

theorem rawValue_unsigned_one (item : Nat) : rawValue 1 false item = (item % 256 : Nat) := by simp [rawValue]

theorem rawValue_signed_two (item : Nat) (h : item < 65536) :
    rawValue 2 true item = if item < 32768 then (item : Int) else (item : Int) - 65536 := by
  simp [rawValue, toSigned, Nat.mod_eq_of_lt h]

theorem rawValue_signed_one (item : Nat) :
    rawValue 1 true item = if item % 256 < 128 then ((item % 256 : Nat) : Int) else ((item % 256 : Nat) : Int) - 256 := by
  simp [rawValue, toSigned]

theorem inWindow_eq_false (r : PointRecord) (raw : Int) (h : raw < r.rawMin ∨ r.rawMax < raw) : r.inWindow raw = false := by
  simp only [PointRecord.inWindow, decide_eq_false_iff_not]; omega

theorem inWindow_eq_true (r : PointRecord) (raw : Int) (hl : r.rawMin ≤ raw) (hh : raw ≤ r.rawMax) : r.inWindow raw = true := by
  simp only [PointRecord.inWindow, decide_eq_true_eq]; omega

theorem convert_code (r : PointRecord) (raw : Int) (h : r.kind = .position ∨ r.kind = .state ∨ r.kind = .switch) :
    r.convert raw = raw := by
  rcases h with h | h | h <;> simp [PointRecord.convert, h, PointKind.engRange]

theorem convert_measured (r : PointRecord) (raw : Int) (h : r.kind = .level ∨ r.kind = .temperature ∨ r.kind = .flow) :
    r.convert raw = clampInt r.engLow r.engHigh (r.offset + (raw * r.gain).tdiv 4096) := by
  rcases h with h | h | h <;> simp [PointRecord.convert, h, PointKind.engRange]

/-- Settles O18: the raw value by width and signedness, and the sample by window and kind. -/
theorem sampleIsConverted : Obligations.SampleIsConverted := by
  refine ⟨fun item h => ⟨rawValue_unsigned_two item h, rawValue_unsigned_one item, ?_, ?_, ?_, ?_⟩,
    fun r raw src now p => ⟨rfl, rfl, rfl, fun hw => ?_, fun hl hh => ?_⟩⟩
  · intro hs; rw [rawValue_signed_two item h, if_pos hs]
  · intro hs; rw [rawValue_signed_two item h, if_neg (by omega)]
  · intro hs; rw [rawValue_signed_one, if_pos hs]
  · intro hs; rw [rawValue_signed_one, if_neg (by omega)]
  · simp [PointRecord.take, inWindow_eq_false r raw hw]
  · have hw := inWindow_eq_true r raw hl hh
    refine ⟨by simp [PointRecord.take, hw], fun hk => by simp [PointRecord.take, hw, convert_code r raw hk], fun hk ho v hv => ?_⟩
    have hc : (r.take raw src now p).value = clampInt r.engLow r.engHigh v := by
      simp [PointRecord.take, hw, convert_measured r raw hk, hv]
    rw [hc, clampInt]
    omega

/-! ### What an event whose notices may reach any block leaves -/

/-- With the parts that notices reach left open, only the rest is to be compared. -/
theorem kept_reached (ps : List Part) (s t : State) (h : ∀ p, p ∉ ps ++ reached → p ∉ goingOn → p.read t = p.read s) :
    Kept (ps ++ reached) s t where
  others := h
  line hp := absurd (List.mem_append_right ps (by decide)) hp
  engine hp := absurd (List.mem_append_right ps (by decide)) hp
  nv _ hp := absurd (List.mem_append_right ps (by decide)) hp
  out hp := absurd (List.mem_append_right ps (by decide)) hp

/-- The notices of an event and what follows it leave what neither reaches. -/
theorem drain_settle_read {p : Part} (hr : p ∉ reached) (hg : p ∉ goingOn) (pick : Nat → Nat) (fuel : Nat) (s : State) :
    p.read (State.drain pick fuel s).settle = p.read s :=
  (settle_read (by simpa [goingOn] using hg) _).trans (drain_read (by simpa [reached] using hr) pick fuel s)

/-- An event whose own effect is on the parts `ps`, its notices reaching any block. -/
theorem drain_settle_kept (ps : List Part) (pick : Nat → Nat) (fuel : Nat) (s u : State)
    (h : ∀ p, p ∉ ps ++ reached → p.read u = p.read s) : Kept (ps ++ reached) s (State.drain pick fuel u).settle :=
  kept_reached ps s _ fun p hp hg =>
    (drain_settle_read (fun hr => hp (List.mem_append_right ps hr)) hg pick fuel u).trans (h p hp)

/-! ### The stale timer of a point (R8) -/

theorem pointStale_points (p : Nat) (s : State) : (s.pointStale p).points = s.points.set p (s.point p).toStale :=
  pointNotice_read (part := .points) (by decide) _ _ _

/-- Settles O15: the point alone becomes STALE, and no notice of the event reaches a point. -/
theorem staleTimerMakesAPointStale : Obligations.StaleTimerMakesAPointStale := by
  intro s p due hs hp ha
  have hread : Part.points.read (s.advanceTo due) = Part.points.read s := advanceTo_read (by decide) due s
  have hpoints : (s.advanceTo due).points = s.points := hread
  have hpoint : (s.advanceTo due).point p = s.point p := by unfold State.point; rw [hpoints]
  have ht : (State.drain Config.pick Config.deliveryFuel ((s.advanceTo due).pointStale p)).settle.points =
      s.points.set p (s.point p).toStale := by
    refine (drain_settle_read (p := .points) (by decide) (by decide) _ _ _).trans ?_
    rw [← hpoint, ← hpoints]
    exact pointStale_points p _
  refine ⟨_, congrArg Host.Outcome.next ((expiry_due _ _ _ _ _ ha).trans (event_powered _ _ _ hs.1)), ?_, ?_, ?_⟩
  · rw [ht, List.getElem?_set_self hp]; rfl
  · intro q hq; rw [ht, List.getElem?_set_ne (Ne.symm hq)]
  · exact drain_settle_kept [.points] _ _ _ _ fun q hq => pointStale_read (by simp_all [reached]) p _

end Sys2Proof.Laws
end

section
/-! PROOFS. The items of a DATA reply, and how a channel's transaction ends (R4 to R9, R13, R24, R29, R31). -/

namespace Sys2Proof.Laws

open Sys2Proof.Machine

/-! ### What depends on the tables alone -/

theorem mapEntries_congr {s t : State} (h : Part.tables.read t = Part.tables.read s) : t.mapEntries = s.mapEntries :=
  congrArg (fun x : Tables => x.map.getD []) h

theorem pointRecord_congr {s t : State} (h : Part.tables.read t = Part.tables.read s) (p : Nat) : t.pointRecord p = s.pointRecord p :=
  congrArg (fun x : Tables => match x.points with | some r => r[p]? | none => none) h

theorem channelRecord_congr {s t : State} (h : Part.tables.read t = Part.tables.read s) (i : Nat) :
    t.channelRecord i = s.channelRecord i :=
  congrArg (fun x : Tables => (x.channels.getD [])[i]?) h

theorem now_congr {s t : State} (h : Part.timeUs.read t = Part.timeUs.read s) : t.now = s.now := congrArg (· / 1000) h

/-- A point state is the index's entry. -/
theorem point_of_getElem? {s t : State} {p : Nat} (h : t.points[p]? = s.points[p]?) : t.point p = s.point p := by
  simp only [State.point, List.getD_eq_getElem?_getD, h]

/-! ### The items of a DATA reply (R13) -/

/-- An item without an EXTRACT entry for a point leaves that point. -/
theorem takeItem_unfed (a item raw : Nat) (src : Source) (s : State) (p : Nat)
    (h : ∀ w sg, findExtract a item s.mapEntries ≠ some (p, w, sg)) :
    (s.takeItem a item raw src).1.points[p]? = s.points[p]? := by
  unfold State.takeItem
  split
  · rfl
  · next q w sg he =>
    split
    · rfl
    · split
      · exact List.getElem?_set_ne fun hq : q = p => h w sg (hq ▸ he)
      · rfl

/-- An item with an EXTRACT entry gives its sample to the entry's point. -/
theorem takeItem_fed (a item raw : Nat) (src : Source) (s : State) (p w : Nat) (sg : Bool) (r : PointRecord)
    (he : findExtract a item s.mapEntries = some (p, w, sg)) (hr : s.pointRecord p = some r) (hp : p < s.points.length) :
    (s.takeItem a item raw src).1.points[p]? = some (r.take (rawValue w sg raw) src s.now (s.point p)) := by
  simp [State.takeItem, he, hr, hp, State.updPoints]

/-- A point that no item of the reply feeds keeps its state. -/
theorem takeItems_unfed (a : Nat) (src : Source) (items : List Nat) (p : Nat) : ∀ (item : Nat) (s : State),
    (∀ j < items.length, ∀ w sg, findExtract a (item + j) s.mapEntries ≠ some (p, w, sg)) →
    (s.takeItems a src item items).1.points[p]? = s.points[p]? := by
  induction items with
  | nil => exact fun _ _ _ => rfl
  | cons raw rest ih =>
    intro item s h
    have hm : (s.takeItem a item raw src).1.mapEntries = s.mapEntries := mapEntries_congr (takeItem_read (by decide) _ _ _ _ _)
    refine (ih (item + 1) _ fun j hj w sg => ?_).trans (takeItem_unfed a item raw src s p fun w sg => h 0 (by simp) w sg)
    have hfar := h (j + 1) (by simpa using hj) w sg
    rwa [hm, Nat.add_assoc, Nat.add_comm 1 j]

/-- A point that one item of the reply alone feeds takes that item's sample. -/
theorem takeItems_fed (a : Nat) (src : Source) (items : List Nat) (p w v : Nat) (sg : Bool) (r : PointRecord) :
    ∀ (item k : Nat) (s : State), items[k]? = some v → findExtract a (item + k) s.mapEntries = some (p, w, sg) →
      s.pointRecord p = some r → p < s.points.length →
      (∀ j < items.length, j ≠ k → ∀ w' sg', findExtract a (item + j) s.mapEntries ≠ some (p, w', sg')) →
      (s.takeItems a src item items).1.points[p]? = some (r.take (rawValue w sg v) src s.now (s.point p)) := by
  induction items with
  | nil => intro item k s hv; simp at hv
  | cons raw rest ih =>
    intro item k s hv he hr hp hother
    have ht : Part.tables.read (s.takeItem a item raw src).1 = Part.tables.read s := takeItem_read (by decide) _ _ _ _ _
    have hm := mapEntries_congr ht
    have later : ∀ j, j < rest.length → j + 1 ≠ k → ∀ w' sg',
        findExtract a (item + 1 + j) (s.takeItem a item raw src).1.mapEntries ≠ some (p, w', sg') := by
      intro j hj hk w' sg'
      rw [hm, Nat.add_assoc, Nat.add_comm 1 j]
      exact hother (j + 1) (by simpa using hj) hk w' sg'
    cases k with
    | zero =>
      obtain rfl : raw = v := by simpa using hv
      exact (takeItems_unfed a src rest p (item + 1) _ fun j hj => later j hj (by omega)).trans
        (takeItem_fed a item raw src s p w sg r he hr hp)
    | succ k =>
      have hsame : (s.takeItem a item raw src).1.points[p]? = s.points[p]? :=
        takeItem_unfed a item raw src s p fun w' sg' => hother 0 (by simp) (by omega) w' sg'
      have hnow : (s.takeItem a item raw src).1.now = s.now := now_congr (takeItem_read (by decide) _ _ _ _ _)
      rw [← hnow, ← point_of_getElem? hsame]
      refine ih (item + 1) k _ (by simpa using hv) (by rw [hm, Nat.add_assoc, Nat.add_comm 1 k]; exact he)
        (by rw [pointRecord_congr ht]; exact hr) ?_ fun j hj hk => later j hj (by omega)
      exact (List.getElem?_eq_some_iff.1 (hsame.trans (List.getElem?_eq_getElem hp))).1

theorem extract_points (a : Nat) (src : Source) (start : Nat) (items : List Nat) (s : State) :
    (s.extract a src start items).points = (s.takeItems a src start items).1.points :=
  pointNotice_read (part := .points) (by decide) _ _ _

/-! ### The end of a transaction (R24, R25) -/

theorem advanceUs_timeUs (us : Nat) (s : State) : (s.advanceUs us).timeUs = max s.timeUs us := by
  unfold State.advanceUs
  split
  · omega
  · dsimp only; omega

/-- The state in which the outcome of a transaction is judged that has ended before its line cycle. -/
def landed (ends : Nat) (s : State) : State := (s.advanceUs ends).updLine fun l => { l with inFlight := none, late := false }

theorem landed_read {p : Part} (h : p ≠ .line) (ends : Nat) (s : State) : p.read (landed ends s) = p.read (s.advanceUs ends) :=
  updLine_read (by simpa using h) _ _

theorem landed_tables (ends : Nat) (s : State) : Part.tables.read (landed ends s) = Part.tables.read s :=
  (landed_read (by decide) ends s).trans (advanceUs_read (by decide) ends s)

theorem landed_points (ends : Nat) (s : State) : (landed ends s).points = s.points :=
  (landed_read (p := .points) (by decide) ends s).trans (advanceUs_read (part := .points) (by decide) ends s)

theorem landed_notices (ends : Nat) (s : State) : (landed ends s).notices = s.notices :=
  (landed_read (p := .notices) (by decide) ends s).trans (advanceUs_read (part := .notices) (by decide) ends s)

theorem landed_banks (ends : Nat) (s : State) : (landed ends s).banks = s.banks :=
  (landed_read (p := .banks) (by decide) ends s).trans (advanceUs_read (part := .banks) (by decide) ends s)

theorem landed_line (ends : Nat) (s : State) : (landed ends s).line = { s.line with inFlight := none, late := false } :=
  congrArg (fun l : LineBlock => { l with inFlight := none, late := false }) (advanceUs_read (part := .line) (by decide) ends s)

/-- The outcome of a transaction goes to the work that started it (R24). -/
def workOutcome (x : Transaction) (o : FieldOutcome) (s : State) : State :=
  match x.work with
  | .urgent => s.urgentEnds o
  | .channel i => s.channelOutcome i x o
  | .command a i => s.commandOutcome a i x o
  | .pass => s.passOutcome x o

theorem transactionEnds_inCycle {s : State} {ends : Nat} (hl : s.line.late = false)
    (hc : ∀ b, s.line.cycleStartUs = some b → max s.timeUs ends ≤ b + 250000) (x : Transaction) (o : FieldOutcome) :
    (s.advanceUs ends).transactionEnds x o = workOutcome x o (landed ends s) := by
  have hline : (s.advanceUs ends).line = s.line := advanceUs_read (part := .line) (by decide) ends s
  have hany : (s.line.cycleStartUs.any fun c => decide (c + Config.cycleUs < max s.timeUs ends)) = false := by
    rw [Option.any_eq_false_iff_get]
    intro hb
    have hle := hc _ (Option.some_get hb).symm
    exact decide_eq_false (by simp only [Config.cycleUs]; omega)
  unfold State.transactionEnds
  simp only [hline, hl, advanceUs_timeUs, hany, Bool.or_self, Bool.false_eq_true, if_false]
  rfl

/-- The command that ends a transaction is an event of the transaction's end. -/
theorem exec_ends {s : State} {x : Transaction} {cmd : Instr} {o : FieldOutcome} {ends : Nat} (h : s.Ends x cmd o ends) :
    exec cmd s = .next (State.drain Config.pick Config.deliveryFuel ((s.advanceUs ends).transactionEnds x o)).settle := by
  obtain ⟨⟨hp, -⟩, hx, ⟨rfl, rfl, rfl⟩ | ⟨frame, elapsed, rfl | rfl, hf, rfl, rfl⟩⟩ := h
  · show execFieldReplyWindowExpiry s = _
    simp only [execFieldReplyWindowExpiry, hx, event_powered _ _ _ hp]
  · show execFieldReplyReceived frame elapsed s = _
    simp only [execFieldReplyReceived, hx, State.eventIf, bne_iff_ne.2 hf, if_true, event_powered _ _ _ hp, State.replyEnds]
  · show execFieldReplyQuietEnd frame elapsed s = _
    simp only [execFieldReplyQuietEnd, hx, State.eventIf, bne_iff_ne.2 hf, if_true, event_powered _ _ _ hp, State.replyEnds]

/-- What follows the outcome of a transaction in its event: the notices, and what goes on at the event's end. -/
def concluded (u : State) : State := (State.drain Config.pick Config.deliveryFuel u).settle

theorem exec_concludes {s : State} {x : Transaction} {cmd : Instr} {o : FieldOutcome} {ends : Nat} (h : s.Concludes x cmd o ends) :
    exec cmd s = .next (concluded (workOutcome x o (landed ends s))) := by
  rw [exec_ends h.toEnds, transactionEnds_inCycle h.inCycle.1 h.inCycle.2]; rfl

/-- The outcome of a transaction in its cycle leaves internal time. -/
theorem workOutcome_read {p : Part} (h : p ∉ [Part.points, .banks, .line, .out, .notices]) (x : Transaction) (o : FieldOutcome) (s : State) :
    p.read (workOutcome x o s) = p.read s := by
  unfold workOutcome
  split
  · exact urgentEnds_read (by simp_all) _ _
  · exact channelOutcome_read (by simp_all) _ _ _ _
  · exact commandOutcome_read (by simp_all) _ _ _ _ _
  · exact passOutcome_read (by simp_all) _ _ _

theorem concluded_timeUs (x : Transaction) (o : FieldOutcome) (ends : Nat) (s : State) :
    (concluded (workOutcome x o (landed ends s))).timeUs = max s.timeUs ends := by
  refine (drain_settle_read (p := .timeUs) (by decide) (by decide) _ _ _).trans ?_
  rw [workOutcome_read (by decide), landed_read (by decide)]
  exact advanceUs_timeUs ends s

theorem concluded_points (u : State) : (concluded u).points = u.points :=
  drain_settle_read (p := .points) (by decide) (by decide) _ _ _

theorem concluded_kept (x : Transaction) (o : FieldOutcome) (ends : Nat) (s : State) :
    Kept (.points :: reached) (s.advanceUs ends) (concluded (workOutcome x o (landed ends s))) := by
  refine drain_settle_kept [.points] _ _ _ _ fun p hp => ?_
  rw [workOutcome_read (by revert hp; cases p <;> decide), landed_read (by revert hp; cases p <;> decide)]

/-! ### The channels after an event -/

/-- A pick leaves of each channel all but its split phase. -/
theorem Picks.core_getElem? {l0 l : LineBlock} (h : Picks l0 l) (i : Nat) :
    (l.live[i]?).map ChannelLive.core = (l0.live[i]?).map ChannelLive.core := by
  have hcores : l.live.map ChannelLive.core = l0.live.map ChannelLive.core := h.2.2.2.2.2.2
  rw [← List.getElem?_map, ← List.getElem?_map, hcores]

theorem Cycles.late {l0 l : LineBlock} (h : Cycles l0 l) : l.late = l0.late := by
  obtain ⟨-, -, -, -, hlate, -⟩ := h
  exact hlate

/-- Without a cycle start that was put off, an event's end is a pick. -/
theorem lineSettle_picks {s : State} (h : s.line.late = false) : Picks s.line s.lineSettle.line := by
  unfold State.lineSettle
  split
  · exact picks_refl _
  · rw [h]; exact linePick_picks s (picks_refl _)

theorem settle_picks {s : State} (h : s.line.late = false) : Picks s.line s.settle.line := by
  have hl : s.settle.line = s.lineSettle.line :=
    (trunkSettle_read (part := .line) (by decide) _).trans (enginePick_read (part := .line) (by decide) _)
  rw [hl]; exact lineSettle_picks h

/-- After an event that starts no cycle, a channel is as the event's own effect left it but for its split phase. -/
theorem concluded_live {u : State} (hl : u.line.late = false) {i : Nat} {l : ChannelLive} (hi : u.line.live[i]? = some l) :
    ∃ l', (concluded u).line.live[i]? = some l' ∧ ChannelLive.core l' = ChannelLive.core l := by
  have hd : Cycles u.line (State.drain Config.pick Config.deliveryFuel u).line := drain_cycles _ _ _ (cycles_refl _)
  have hs := (settle_picks (hd.late.trans hl)).core_getElem? i
  rw [hd.live, hi] at hs
  exact Option.map_eq_some_iff.1 hs

end Sys2Proof.Laws
end

section
/-! PROOFS. The outcomes of a channel's request of its device (R9, R13, R29, R31). -/

namespace Sys2Proof.Laws

open Sys2Proof.Machine

/-! ### A fault reaches its bank (R143, R144) -/

theorem fault_banks (code : FaultCode) (subject : Option Subject) (s : State) : (s.fault code subject).banks = s.banksAfter code subject := by
  unfold State.fault State.banksAfter
  dsimp only
  split
  · rfl
  · refine (holdNotices_read (part := .banks) (by decide) _ _).trans ?_
    split
    · exact offer_read (part := .banks) (by decide) _ _
    · rfl

/-- The banks after a fault turn on the settings, the records, the clock and internal time. -/
theorem banksAfter_congr {s t : State} (code : FaultCode) (subject : Option Subject) (ht : t.tables = s.tables) (hb : t.banks = s.banks)
    (hc : t.clockTime = s.clockTime) (hn : t.timeUs = s.timeUs) : t.banksAfter code subject = s.banksAfter code subject := by
  simp only [State.banksAfter, State.uptime, State.now, ht, hb, hc, hn]

theorem clockTime_congr {s t : State} (h : Part.fill.read t = Part.fill.read s) : t.clockTime = s.clockTime :=
  congrArg (fun f : FillBlock => f.clock.map ClockState.time) h

/-- The notices of an event bring no fault to the LINE, TRUNK and STORE banks. -/
theorem concluded_bank {b : Bank} (hb : b ∉ noticeBanks) (u : State) : (concluded u).banks.get b = u.banks.get b := by
  have hs : (concluded u).banks = (State.drain Config.pick Config.deliveryFuel u).banks := settle_read (part := .banks) (by decide) _
  rw [hs]
  exact (drain_faulted Config.pick Config.deliveryFuel u .refl).get_eq hb

/-- An outcome that raises no notice leaves the banks as it made them. -/
theorem concluded_banks_quiet {u : State} (h : u.notices = []) : (concluded u).banks = u.banks := by
  unfold concluded
  rw [drain_nil _ _ _ h]
  exact settle_read (part := .banks) (by decide) _

/-! ### The halt of a channel (R9, R31) -/

/-- Setting the entries of some indexes changes those alone. -/
theorem foldl_set_getElem? {α : Type} (g : Nat → α) (hit : List Nat) (q : Nat) : ∀ ps : List α,
    (hit.foldl (fun acc p => acc.set p (g p)) ps)[q]? = if q ∈ hit then (ps[q]?).map (fun _ => g q) else ps[q]? := by
  induction hit with
  | nil => exact fun _ => by simp
  | cons p rest ih =>
    intro ps
    rw [List.foldl_cons, ih, List.getElem?_set]
    by_cases hq : p = q
    · subst hq
      by_cases hp : p < ps.length <;> simp [hp]
    · simp [hq, Ne.symm hq]

/-- The halt notice makes the channel's GOOD and RANGE points STALE. -/
theorem haltPoints_point (c : ChannelRecord) (s : State) (p : Nat) (hp : p < s.points.length) :
    (s.haltPoints c).points[p]? =
      some (if p ∈ channelPoints c s.mapEntries ∧ (s.point p).fresh = true then (s.point p).toStale else s.point p) := by
  have hset : (s.haltPoints c).points = ((channelPoints c s.mapEntries).filter fun p => (s.point p).fresh).foldl
      (fun acc p => acc.set p (s.point p).toStale) s.points := pointNotice_read (part := .points) (by decide) _ _ _
  have hpoint : s.points[p]? = some (s.point p) := by simp [State.point, hp]
  rw [hset, foldl_set_getElem? (fun p => (s.point p).toStale), hpoint]
  simp only [List.mem_filter, Option.map_some]
  split <;> rfl

theorem updChannel_live (i : Nat) (f : ChannelLive → ChannelLive) (s : State) {l : ChannelLive} (h : s.line.live[i]? = some l) :
    (s.updChannel i f).line.live[i]? = some (f l) := by
  simp [State.updChannel, State.updLine, h]

theorem channelLive_eq {s : State} {i : Nat} {l : ChannelLive} (h : s.line.live[i]? = some l) : s.channelLive i = l := by
  simp [State.channelLive, h]

theorem channelFails_counted {s : State} {i : Nat} {l : ChannelLive} (h : s.line.live[i]? = some l) (hf : l.failures + 1 < 3)
    (c : ChannelRecord) (k : ChannelCondition) : s.channelFails i c k = s.updChannel i (ChannelLive.failed k c.interval) := by
  simp [State.channelFails, channelLive_eq h, hf]

theorem channelFails_halted {s : State} {i : Nat} {l : ChannelLive} (h : s.line.live[i]? = some l) (hf : ¬ l.failures + 1 < 3)
    (c : ChannelRecord) (k : ChannelCondition) : s.channelFails i c k =
      ((s.updChannel i (ChannelLive.halted k c.interval)).haltPoints c).fault .channelHalted (some (.channel i)) := by
  simp [State.channelFails, channelLive_eq h, hf]

theorem channelHalt_line (i j : Nat) (c : ChannelRecord) (k : ChannelCondition) (s : State) :
    (((s.updChannel i (ChannelLive.halted k c.interval)).haltPoints c).fault .channelHalted (some (.channel j))).line =
      (s.updChannel i (ChannelLive.halted k c.interval)).line :=
  (fault_read (part := .line) (by decide) _ _ _).trans (haltPoints_read (part := .line) (by decide) _ _)

theorem channelHalt_points (i j : Nat) (c : ChannelRecord) (k : ChannelCondition) (s : State) :
    (((s.updChannel i (ChannelLive.halted k c.interval)).haltPoints c).fault .channelHalted (some (.channel j))).points =
      ((s.updChannel i (ChannelLive.halted k c.interval)).haltPoints c).points :=
  fault_read (part := .points) (by decide) _ _ _

/-- The bank of a halt is that of the fault as it arrives at the halt's time. -/
theorem channelHalt_banks (i : Nat) (c : ChannelRecord) (k : ChannelCondition) (ends : Nat) (s : State) :
    ((((landed ends s).updChannel i (ChannelLive.halted k c.interval)).haltPoints c).fault .channelHalted (some (.channel i))).banks =
      (s.advanceUs ends).banksAfter .channelHalted (some (.channel i)) := by
  have hread : ∀ p : Part, p ∉ [Part.points, .line, .notices] →
      p.read (((landed ends s).updChannel i (ChannelLive.halted k c.interval)).haltPoints c) = p.read (s.advanceUs ends) := by
    intro p hp
    rw [haltPoints_read (by simp_all), updChannel_read (by simp_all), landed_read (by simp_all)]
  rw [fault_banks]
  exact banksAfter_congr _ _ (hread .tables (by decide)) (hread .banks (by decide)) (clockTime_congr (hread .fill (by decide)))
    (hread .timeUs (by decide))

/-! ### A direct request of a channel -/

theorem workOutcome_device {s : State} {x : Transaction} {i : Nat} {c : ChannelRecord} {r : DeviceRequest} (hw : x.work = .channel i)
    (hx : x.superseded = false) (hc : s.channelRecord i = some c) (hr : x.request = .device r) (o : FieldOutcome) :
    workOutcome x o s = s.channelAnswer i c o := by
  simp [workOutcome, hw, State.channelOutcome, hx, hc, hr]

theorem landed_channelRecord (ends : Nat) (s : State) (i : Nat) : (landed ends s).channelRecord i = s.channelRecord i :=
  channelRecord_congr (landed_tables ends s) i

theorem landed_live (ends : Nat) (s : State) : (landed ends s).line.live = s.line.live := by rw [landed_line]

theorem landed_late (ends : Nat) (s : State) : (landed ends s).line.late = false := by rw [landed_line]

theorem landed_point (ends : Nat) (s : State) (p : Nat) : (landed ends s).point p = s.point p :=
  point_of_getElem? (by rw [landed_points])

/-- Settles O12: the items are taken as the channel's outcome, and the event's notices reach neither a point nor a channel. -/
theorem dataReplyFillsPoints : Obligations.DataReplyFillsPoints := by
  intro s x i c frame elapsed start items raw cmd hs hcmd hf hx hw hsup hc hreq ho hlen hlate hcycle
  have hends : s.Concludes x cmd (judgeReply x frame) (x.startUs + elapsed) :=
    ⟨⟨hs, hx, .inr ⟨frame, elapsed, hcmd, hf, rfl, rfl⟩⟩, hlate, hcycle⟩
  obtain ⟨n, hn⟩ : ∃ n, n = landed (x.startUs + elapsed) s := ⟨_, rfl⟩
  have hmap : n.mapEntries = s.mapEntries := hn ▸ mapEntries_congr (landed_tables _ s)
  have hpoints : n.points = s.points := hn ▸ landed_points _ s
  have hu : workOutcome x (judgeReply x frame) n = (n.extract c.polled .polled start items).updChannel i
      fun l => { l with condition := .ok, failures := 0, countdown := c.interval } := by
    rw [workOutcome_device hw hsup (by rw [hn, landed_channelRecord, hc]) hreq, ho]
    simp [State.channelAnswer, hlen]
  have hline : (n.extract c.polled .polled start items).line = n.line := extract_read (part := .line) (by decide) _ _ _ _ _
  have hfed : (concluded (workOutcome x (judgeReply x frame) n)).points = (n.takeItems c.polled .polled start items).1.points := by
    rw [concluded_points, hu]; exact extract_points _ _ _ _ n
  have htime : (concluded (workOutcome x (judgeReply x frame) n)).timeUs = max s.timeUs (x.startUs + elapsed) := by
    rw [hn]; exact concluded_timeUs _ _ _ s
  refine ⟨_, hn ▸ exec_concludes hends, htime, ?_, ?_, ?_, hn ▸ concluded_kept _ _ _ s⟩
  · intro k v p w sg r hv he hr hp hother
    have hnow : (concluded (workOutcome x (judgeReply x frame) n)).now = n.now := by
      refine now_congr (htime.trans ?_)
      rw [hn]
      exact ((landed_read (p := .timeUs) (by decide) _ s).trans (advanceUs_timeUs _ s)).symm
    rw [hfed, hnow, ← point_of_getElem? (congrArg (·[p]?) hpoints)]
    exact takeItems_fed _ _ _ p w v sg r start k n hv (hmap ▸ he) (by rw [hn, pointRecord_congr (landed_tables _ s), hr])
      (hpoints ▸ hp) (hmap ▸ hother)
  · intro p h
    rw [hfed, takeItems_unfed _ _ _ p start n (hmap ▸ h), hpoints]
  · intro l hl
    have hlive : n.line.live[i]? = some l := by rw [hn, landed_live, hl]
    obtain ⟨l', hl', hcore⟩ := concluded_live (u := workOutcome x (judgeReply x frame) n) (i := i)
      (l := { l with condition := .ok, failures := 0, countdown := c.interval })
      (by rw [hu]; show (n.extract _ _ _ _).line.late = false; rw [hline, hn, landed_late])
      (by rw [hu]; exact updChannel_live i _ _ (by rw [hline]; exact hlive))
    simp only [ChannelLive.core, Prod.mk.injEq] at hcore
    obtain ⟨hgo, hmode, hcond, hfail, hcount, -⟩ := hcore
    exact ⟨l', hl', hcond, hfail, hcount, hgo, hmode⟩

/-- Settles O13: a failure is counted, and the third halts the channel with its fault and its points. -/
theorem failedTransactionsHaltAChannel : Obligations.FailedTransactionsHaltAChannel := by
  intro s x i c l r frame elapsed ends cmd hs hx hw hsup hc hreq hl how hlate hcycle
  obtain ⟨o, hends, hbad⟩ : ∃ o, s.Concludes x cmd o ends ∧ (o = .noReply ∨ ∃ raw, o = .bad raw) := by
    rcases how with ⟨hcmd, he⟩ | ⟨hcmd, hf, hraw, he⟩
    · exact ⟨.noReply, ⟨⟨hs, hx, .inl ⟨hcmd, rfl, he⟩⟩, hlate, hcycle⟩, .inl rfl⟩
    · exact ⟨_, ⟨⟨hs, hx, .inr ⟨frame, elapsed, hcmd, hf, rfl, he⟩⟩, hlate, hcycle⟩, .inr hraw⟩
  obtain ⟨n, hn⟩ : ∃ n, n = landed ends s := ⟨_, rfl⟩
  have hlive : n.line.live[i]? = some l := by rw [hn, landed_live, hl]
  have hnlate : n.line.late = false := by rw [hn, landed_late]
  have hu : workOutcome x o n = n.channelFails i c .retryError := by
    rw [workOutcome_device hw hsup (by rw [hn, landed_channelRecord, hc]) hreq]
    rcases hbad with rfl | ⟨raw, rfl⟩ <;> rfl
  have hexec : exec cmd s = .next (concluded (n.channelFails i c .retryError)) := by rw [← hu, hn]; exact exec_concludes hends
  have htime : (concluded (n.channelFails i c .retryError)).timeUs = max s.timeUs ends := by
    rw [← hu, hn]; exact concluded_timeUs _ _ _ s
  have hkept : Kept (.points :: reached) (s.advanceUs ends) (concluded (n.channelFails i c .retryError)) := by
    rw [← hu, hn]; exact concluded_kept _ _ _ s
  by_cases hf : l.failures + 1 < 3
  · rw [channelFails_counted hlive hf] at hexec htime hkept
    obtain ⟨l', hl', hcore⟩ := concluded_live (u := n.updChannel i (ChannelLive.failed .retryError c.interval)) hnlate
      (updChannel_live i _ n hlive)
    simp only [ChannelLive.core, ChannelLive.failed, Prod.mk.injEq] at hcore
    obtain ⟨hgo, -, hcond, hfail, hcount, -⟩ := hcore
    have hquiet : (n.updChannel i (ChannelLive.failed .retryError c.interval)).notices = [] := by
      show n.notices = []; rw [hn, landed_notices, hs.2]
    refine ⟨_, l', hexec, htime, hl', hcond, hcount, ?_, hkept⟩
    rw [if_pos hf, concluded_points, concluded_banks_quiet hquiet]
    exact ⟨hfail, hgo, hn ▸ landed_points ends s, hn ▸ landed_banks ends s⟩
  · rw [channelFails_halted hlive hf] at hexec htime hkept
    obtain ⟨l', hl', hcore⟩ := concluded_live (i := i) (l := l.halted .retryError c.interval)
      (u := ((n.updChannel i (ChannelLive.halted .retryError c.interval)).haltPoints c).fault .channelHalted (some (.channel i)))
      (by rw [channelHalt_line]; exact hnlate) (by rw [channelHalt_line]; exact updChannel_live i _ n hlive)
    simp only [ChannelLive.core, ChannelLive.halted, Prod.mk.injEq] at hcore
    obtain ⟨hgo, -, hcond, hfail, hcount, -⟩ := hcore
    refine ⟨_, l', hexec, htime, hl', hcond, hcount, ?_, hkept⟩
    rw [if_neg hf, concluded_points, concluded_bank (by decide), channelHalt_points]
    refine ⟨hfail, hgo, ?_, fun p hp => ?_⟩
    · rw [hn, channelHalt_banks]
    · have hpoint : (n.updChannel i (ChannelLive.halted .retryError c.interval)).point p = s.point p := by
        show n.point p = s.point p; rw [hn, landed_point]
      have hmap : (n.updChannel i (ChannelLive.halted .retryError c.interval)).mapEntries = s.mapEntries := by
        show n.mapEntries = s.mapEntries; rw [hn]; exact mapEntries_congr (landed_tables ends s)
      rw [haltPoints_point c _ p (by show p < n.points.length; rw [hn, landed_points]; exact hp), hpoint, hmap]

end Sys2Proof.Laws
end

section
/-! PROOFS. The acts of a start, block by block (R164, R174): the load, the guard, the queue, the store engine. -/

namespace Sys2Proof.Laws

open Sys2Proof.Machine

/-! ### The queue before anything is sent (R135, R136) -/

/-- With nothing in transmission and no frame of its kind waiting, contents join the tail. -/
theorem offer_new {c : Content} {o : Outbound} (hs : o.sending = none) (hw : ∀ p ∈ o.waiting, p.holds c = false) :
    o.offer c = { o with waiting := o.waiting ++ [.frame c] } := by
  have hany : o.waiting.any (Place.holds c) = false := by simpa using hw
  simp [Outbound.offer, hany, Outbound.sends, hs]

theorem of_mem_replaceFirst {c : Content} {q : Place} : ∀ {ps : List Place}, q ∈ replaceFirst c ps → q = .frame c ∨ q ∈ ps := by
  intro ps
  induction ps with
  | nil => exact fun h => .inr h
  | cons p rest ih =>
    intro h
    simp only [replaceFirst] at h
    split at h
    · rcases List.mem_cons.1 h with h | h
      · exact .inl h
      · exact .inr (List.mem_cons_of_mem _ h)
    · rcases List.mem_cons.1 h with h | h
      · exact .inr (h ▸ List.mem_cons_self)
      · exact (ih h).imp id (List.mem_cons_of_mem _)

/-- Nothing is in transmission or held aside, and only FAULT frames of one bank wait. -/
structure FaultsOnly (b : Bank) (o : Outbound) : Prop where
  sending : o.sending = none
  held : o.held = none
  waiting : ∀ p ∈ o.waiting, ∃ r, p = .frame (.fault b r)

theorem FaultsOnly.offer {b : Bank} {o : Outbound} (h : FaultsOnly b o) (r : FaultRecord) : FaultsOnly b (o.offer (.fault b r)) := by
  obtain ⟨hs, hh, hw⟩ := h
  unfold Outbound.offer
  split
  · refine ⟨hs, hh, fun p hp => ?_⟩
    rcases of_mem_replaceFirst hp with rfl | hp
    · exact ⟨r, rfl⟩
    · exact hw p hp
  · rw [if_neg (by simp [Outbound.sends, hs])]
    refine ⟨hs, hh, fun p hp => ?_⟩
    rcases List.mem_append.1 hp with hp | hp
    · exact hw p hp
    · exact ⟨r, List.mem_singleton.1 hp⟩

/-- The queue that a fault leaves: as it was, or with the bank's FAULT frame offered (R146). -/
theorem fault_out (code : FaultCode) (subject : Option Subject) (s : State) :
    (s.fault code subject).out = s.out ∨ ∃ r, (s.fault code subject).out = s.out.offer (.fault code.bank r) := by
  have hread : ∀ before u : State, (State.holdNotices before u).out = u.out := fun before u => holdNotices_read (part := .out) (by decide) before u
  unfold State.fault
  dsimp only
  split
  · exact .inl rfl
  · rw [hread]
    split
    · exact .inr ⟨_, rfl⟩
    · exact .inl rfl

theorem fault_faultsOnly {code : FaultCode} {s : State} (h : FaultsOnly code.bank s.out) (subject : Option Subject) :
    FaultsOnly code.bank (s.fault code subject).out := by
  rcases fault_out code subject s with ho | ⟨r, ho⟩
  · rw [ho]; exact h
  · rw [ho]; exact h.offer r

/-! ### The start-up load (R174) -/

theorem imageFaults_out {s : State} (h : FaultsOnly .store s.out) : FaultsOnly .store s.imageFaults.out := by
  unfold State.imageFaults
  generalize TableKind.all = ks
  induction ks generalizing s with
  | nil => exact h
  | cons k ks ih =>
    refine ih ?_
    dsimp only
    split
    · exact fault_faultsOnly (code := .startImageBad) h _
    · exact h

/-- The record of the STORE bank after START_IMAGE_BAD for each kind of a list that is EMPTY (R143, R144, R174). -/
def imageRecord (ks : List TableKind) (s : State) (r : Option FaultRecord) : Option FaultRecord :=
  ks.foldl (fun r k =>
    if (s.use.get k).inUse = none ∧ ignores (bankSettings s.tables.siteSet .store) .startImageBad = false
    then some (arrive .startImageBad (some (.kind k)) s.clockTime s.uptime r).1 else r) r

/-- Only the banks tell a state after a fault from the state before it, as far as the faults of a load go. -/
theorem fault_image (k : TableKind) (s : State) (r : Option FaultRecord) (ks : List TableKind) :
    imageRecord ks (s.fault .startImageBad (some (.kind k))) r = imageRecord ks s r := by
  have hread : ∀ p : Part, p ∉ [Part.banks, .out, .notices] → p.read (s.fault .startImageBad (some (.kind k))) = p.read s :=
    fun p hp => fault_read hp _ _ _
  have huse : (s.fault .startImageBad (some (.kind k))).use = s.use := hread .use (by decide)
  have htab : (s.fault .startImageBad (some (.kind k))).tables = s.tables := hread .tables (by decide)
  have hfill : (s.fault .startImageBad (some (.kind k))).fill = s.fill := hread .fill (by decide)
  have htime : (s.fault .startImageBad (some (.kind k))).timeUs = s.timeUs := hread .timeUs (by decide)
  simp only [imageRecord, State.clockTime, State.uptime, State.now, huse, htab, hfill, htime]

theorem imageFaults_store (s : State) : s.imageFaults.banks.get .store = imageRecord TableKind.all s (s.banks.get .store) := by
  unfold State.imageFaults
  generalize TableKind.all = ks
  induction ks generalizing s with
  | nil => rfl
  | cons k ks ih =>
    refine (ih _).trans ?_
    simp only [imageRecord, List.foldl_cons, Option.isNone_iff_eq_none]
    by_cases hk : (s.use.get k).inUse = none
    · rw [if_pos hk]
      refine (fault_image k s _ ks).trans ?_
      rw [fault_banks, State.banksAfter]
      cases hi : ignores (bankSettings s.tables.siteSet .store) .startImageBad
      · simp [hi, hk, imageRecord, FaultCode.bank]
      · simp [hi, imageRecord, FaultCode.bank]
    · simp [hk]

/-- Every bank but the STORE bank is as the load found it. -/
theorem imageFaults_banks (s : State) {b : Bank} (hb : b ≠ .store) : s.imageFaults.banks.get b = s.banks.get b := by
  have h : Faulted [.store] s.banks (Part.banks.read s.imageFaults) := by
    unfold State.imageFaults
    generalize TableKind.all = ks
    suffices h : ∀ u : State, Faulted [.store] s.banks (Part.banks.read u) → Faulted [.store] s.banks (Part.banks.read (ks.foldl
        (fun s k => if ((s.use.get k).inUse).isNone then s.fault .startImageBad (some (.kind k)) else s) u)) from h s .refl
    induction ks with
    | nil => exact fun _ hu => hu
    | cons k ks ih => exact fun u hu => ih _ (faulted_ite (fault_faulted _ _ _ (by decide) hu) hu)
  exact h.get_eq (by simpa using hb)

/-! ### The points at a start (R3) -/

/-- While every point has the state NONE, none is GOOD. -/
theorem goodOfKind_fresh {s : State} (h : s.points = List.replicate 64 {}) (k : PointKind) (i : Nat) : s.goodOfKind k i = none := by
  have hq : (s.point i).quality = .none := by
    simp only [State.point, h, List.getD_eq_getElem?_getD, List.getElem?_replicate]
    split <;> rfl
  unfold State.goodOfKind State.goodValue
  repeat' split
  all_goals simp_all

/-! ### The guard at a start (R77, R85) -/

/-- The urgent close of the inlet valve in an idle line with an empty command list (R41). -/
theorem placeUrgent_idle {s : State} {g : GuardSet} (hg : s.tables.guardSet = some g) (hu : s.line.urgent = none)
    (hc : s.line.commands = []) :
    s.placeUrgent.line = { s.line with urgent := some ⟨g.inletAddress, g.inletItem, false⟩ } := by
  simp [State.placeUrgent, hg, hu, hc, State.updLine]

theorem startWatch_fresh {s : State} {g : GuardSet} (hg : s.tables.guardSet = some g) (hp : s.points = List.replicate 64 {}) :
    s.startWatch.guard = { s.guard with watch := .running (some (s.now + g.valveTravel * 1000)) none none } := by
  simp [State.startWatch, hg, State.valvePosition, goodOfKind_fresh hp, State.updGuard]

/-- The state of a guard that starts TRIPPED or ARMED over the parts of `s`. -/
def guardFrom (state : GuardState) (cause : Option TripCause) (flag : TripFlag) (s : State) : GuardBlock :=
  { s.guard with
    state := state
    cause := cause
    tripLine := state == .tripped
    tripFlag := flag
    frostExtra := s.frost.flags.overflowPipe
    holdAt := s.tables.guardSet.map fun g => g.levelHold * 1000
    watch := match state, s.tables.guardSet with
      | .tripped, some g => .running (some (s.now + g.valveTravel * 1000)) none none
      | _, _ => s.guard.watch }

/-- The close that a guard's start state places in an idle line. -/
def urgentFrom (state : GuardState) (s : State) : LineBlock :=
  { s.line with
    urgent := if state = .tripped then s.tables.guardSet.map fun g => ⟨g.inletAddress, g.inletItem, false⟩ else none }

/-- The start state that the tables and the newest intact record call for (R85). -/
structure StartState (ready : Bool) (newest : Option TripEntry) (state : GuardState) (cause : Option TripCause) (flag : TripFlag) :
    Prop where
  noTables : ready = false → state = .tripped ∧ cause = some .noTables ∧ flag = .none
  trip : ready = true → ∀ c w v r clock up, newest = some (.trip c w v r clock up) →
    state = .tripped ∧ cause = some c ∧ flag = .programmed
  marker : ready = true → ∀ w clock up, newest = some (.marker w clock up) → state = .armed ∧ cause = none ∧ flag = .none
  noRecord : ready = true → newest = none → state = .armed ∧ cause = none ∧ flag = .none
  settled : state = .tripped ∨ state = .armed

theorem guardStart_outcome (newest : Option TripEntry) (s : State) (hu : s.line.urgent = none) (hc : s.line.commands = [])
    (hp : s.points = List.replicate 64 {}) : ∃ state cause flag, StartState s.tables.guardReady newest state cause flag ∧
      (s.guardStart newest).guard = guardFrom state cause flag s ∧ (s.guardStart newest).line = urgentFrom state s := by
  have tripped : ∀ cause flag (u : State),
      u = (let v := (s.updGuard fun b => { b with
          state := .tripped
          cause := some cause
          tripLine := GuardState.tripped == .tripped
          tripFlag := flag
          frostExtra := s.frost.flags.overflowPipe
          holdAt := s.tables.guardSet.map fun g => g.levelHold * 1000 }).send .fill (.inhibit [.guard] [])
        if v.tables.guardSet.isSome then v.placeUrgent.startWatch else v) →
      u.guard = guardFrom .tripped (some cause) flag s ∧ u.line = urgentFrom .tripped s := by
    rintro cause flag u rfl
    cases hg : s.tables.guardSet with
    | none => simp [State.send, State.updGuard, hg, guardFrom, urgentFrom, ← hu]
    | some g =>
      dsimp only [State.send, State.updGuard]
      rw [if_pos (by simp [hg])]
      refine ⟨(startWatch_fresh (g := g) ?_ ?_).trans ?_, (startWatch_read (part := .line) (by decide) _).trans ?_⟩
      · exact (congrArg Tables.guardSet (placeUrgent_read (part := .tables) (by decide) _)).trans hg
      · exact (placeUrgent_read (part := .points) (by decide) _).trans hp
      · have hguard : ∀ v : State, v.placeUrgent.guard = v.guard := fun v => placeUrgent_read (part := .guard) (by decide) v
        have htime : ∀ v : State, v.placeUrgent.now = v.now := fun v => now_congr (placeUrgent_read (part := .timeUs) (by decide) v)
        rw [hguard, htime]
        simp [guardFrom, hg, State.now]
      · show State.line (State.placeUrgent _) = _
        rw [placeUrgent_idle (g := g) (by exact hg) (by exact hu) (by exact hc)]
        simp [urgentFrom, hg]
  cases hr : s.tables.guardReady with
  | false =>
    refine ⟨.tripped, some .noTables, .none, ⟨fun _ => ⟨rfl, rfl, rfl⟩, by simp, by simp, by simp, .inl rfl⟩, tripped .noTables .none _ ?_⟩
    simp only [State.guardStart, hr, if_true]
  | true =>
    rcases newest with _ | (⟨c, w, v, r, clock, up⟩ | ⟨w, clock, up⟩)
    · refine ⟨.armed, none, .none, ⟨by simp, by simp, by simp, fun _ _ => ⟨rfl, rfl, rfl⟩, .inr rfl⟩, ?_⟩
      simp [State.guardStart, hr, State.updGuard, guardFrom, urgentFrom, ← hu]
    · refine ⟨.tripped, some c, .programmed, ⟨by simp, ?_, by simp, by simp, .inl rfl⟩, tripped c .programmed _ ?_⟩
      · intro _ c' _ _ _ _ _ h
        obtain rfl : c = c' := by injection h with h; injection h
        exact ⟨rfl, rfl, rfl⟩
      · simp only [State.guardStart, hr]; rfl
    · refine ⟨.armed, none, .none, ⟨by simp, by simp, fun _ _ _ _ _ => ⟨rfl, rfl, rfl⟩, by simp, .inr rfl⟩, ?_⟩
      simp [State.guardStart, hr, State.updGuard, guardFrom, urgentFrom, ← hu]

end Sys2Proof.Laws
end

section
/-! PROOFS. The acts of a start, block by block (R164, R174): the fill, the frost zones with their first allocation, the store engine. -/

namespace Sys2Proof.Laws

open Sys2Proof.Machine

/-! ### The fill at a start (R90, R95, R100, R107) -/

/-- A close sequence whose CLOSE is not due yet only waits. -/
theorem closeSequence_waits {s : State} (hruns : s.fill.closeRuns = true) (hplaced : s.fill.closePlaced = false)
    (hstation : s.fill.station = none) {start : Nat} {aim : Option Nat} (hstart : s.fill.stopWait.getD s.now = start)
    (haim : aim = s.tables.guardSet.map fun g => start + (g.stopLatency + 60) * 1000)
    (hstop : s.fill.stopAt = none ∨ s.fill.stopAt = aim) (hlater : ∀ t, aim = some t → s.now < t) :
    s.closeSequence = s.updFill fun f => { f with stopWait := some start, stopAt := aim } := by
  have hany : (aim.any fun t => decide (t ≤ s.now)) = false := by
    cases aim with
    | none => rfl
    | some t => simpa using hlater t rfl
  have hreports : ∀ f : FillBlock → FillBlock, (∀ b, (f b).station = b.station) → (s.updFill f).reportsStopped = false := by
    intro f hf; simp [State.reportsStopped, State.updFill, hf, hstation]
  have hwaits : ∀ a, aim = a → (if ((s.updFill fun f => { f with stopWait := some start, stopAt := a }).reportsStopped ||
      a.any fun t => decide (t ≤ s.now)) = true then (s.updFill fun f => { f with stopWait := some start, stopAt := a }).placeClose
      else s.updFill fun f => { f with stopWait := some start, stopAt := a }) =
        s.updFill fun f => { f with stopWait := some start, stopAt := aim } := by
    rintro _ rfl
    refine if_neg ?_
    rw [hreports, Bool.false_or, hany]
    · decide
    · exact fun _ => rfl
  unfold State.closeSequence
  simp only [hruns, hplaced, Bool.true_eq_false, if_false, Bool.false_eq_true, hstart]
  cases hs : s.fill.stopAt with
  | none => exact hwaits _ haim
  | some t => exact hwaits _ (by rcases hstop with h | h <;> simp_all)

/-- Without a station copy no pump is available, and a plan inside a window comes to k = 0 (R94). -/
theorem planNumbers_k {s : State} (fs : FillSet) (hstation : s.fill.station = none) (hpurpose : s.fill.purpose = none)
    (hwindow : s.fill.inWindow = true) : (s.planNumbers fs).k = 0 := by
  have hcap : s.pumpCap fs = 0 := by simp [State.pumpCap, hstation]
  simp [State.planNumbers, hwindow, hpurpose, hcap]

/-- The state in which an evaluation acts: its numbers are kept, and its timer starts again (R93, R94). -/
def planned (fs : FillSet) (s : State) : State :=
  { s.updFill (fun f => { f with numbers := s.planNumbers fs, planAt := some (s.now + fs.planInterval * 60000) }) with
    draws := s.draws + s.planDraws }

theorem planned_fill (fs : FillSet) (s : State) :
    (planned fs s).fill = { s.fill with numbers := s.planNumbers fs, planAt := some (s.now + fs.planInterval * 60000) } := rfl

theorem evaluatePlan_some {s : State} {fs : FillSet} (hf : s.tables.fillSet = some fs) (forced : Bool) :
    s.evaluatePlan forced =
      (if (s.planNumbers fs).cut && !s.fill.numbers.cut then (planned fs s).fault .shortfall none else planned fs s).actOnPlan fs forced := by
  simp only [State.evaluatePlan, hf]; rfl

/-- What the evaluation at the entry to a cheap window does with a fill that starts: an IDLE one may be satisfied, and nothing is started,
no pump being available. -/
theorem actOnPlan_start {u : State} {fs : FillSet} (hwindow : u.fill.inWindow = true) (hk : u.fill.numbers.k = 0)
    (hpurpose : u.fill.purpose = none) (hopen : u.fill.openWanted = false) (hrise : u.fill.rise = none)
    (hstate : u.fill.state = .held ∨ u.fill.state = .idle) :
    ∃ st, u.actOnPlan fs false = u.updFill (fun f => { f with state := st }) ∧
      (u.fill.state = .held → st = .held) ∧ (u.fill.state = .idle → st = .idle ∨ st = .satisfied) := by
  have hset : ∀ st, u.setFill st none = u.updFill fun f => { f with state := st } := by
    intro st; simp only [State.setFill, State.updFill, hpurpose, hopen, hrise, ite_self]
  rcases hstate with hs | hs
  · refine ⟨.held, ?_, fun _ => rfl, fun h => absurd (hs.symm.trans h) (by decide)⟩
    simp only [State.actOnPlan, hs]
    simp only [State.updFill, ← hs]
  · simp only [State.actOnPlan, hs, hwindow, if_true, State.windowDecision, hk, hset]
    split
    · exact ⟨.satisfied, rfl, by simp, by simp⟩
    · exact ⟨.idle, rfl, by simp, by simp⟩

/-- What an evaluation that starts nothing may have logged: SHORTFALL, or nothing. -/
inductive MayLogShortfall (s t : State) : Prop where
  | quiet (banks : t.banks = s.banks) (out : t.out = s.out)
  | logged (banks : t.banks = s.banksAfter .shortfall none) (out : t.out = s.out ∨ ∃ r, t.out = s.out.offer (.fault .fill r))

/-- The evaluation at the entry to a cheap window of a fill that starts. -/
theorem evaluatePlan_start {s : State} (hstation : s.fill.station = none) (hpurpose : s.fill.purpose = none)
    (hcheap : s.fill.inCheap = true) (hopen : s.fill.openWanted = false) (hrise : s.fill.rise = none)
    (hstate : s.fill.state = .held ∨ s.fill.state = .idle) :
    ∃ n st, (s.evaluatePlan false).fill = { s.fill with
        numbers := n
        planAt := s.tables.fillSet.map (fun f => s.now + f.planInterval * 60000)
        state := st } ∧
      (s.fill.state = .held → st = .held) ∧ (s.fill.state = .idle → st = .idle ∨ st = .satisfied) ∧
      MayLogShortfall s (s.evaluatePlan false) ∧ (s.evaluatePlan false).line = s.line := by
  have hwindow : s.fill.inWindow = true := by simp [FillBlock.inWindow, hcheap]
  cases hf : s.tables.fillSet with
  | none =>
    refine ⟨{ s.fill.numbers with k := 0, cut := false }, s.fill.state, ?_, id, fun h => .inl h, .quiet ?_ ?_, ?_⟩ <;>
      simp [State.evaluatePlan, hf, State.updFill]
  | some fs =>
    have hk := planNumbers_k fs hstation hpurpose hwindow
    rw [evaluatePlan_some hf]
    by_cases hlogs : ((s.planNumbers fs).cut && !s.fill.numbers.cut) = true
    · rw [if_pos hlogs]
      have hfill : ((planned fs s).fault .shortfall none).fill = (planned fs s).fill := fault_read (part := .fill) (by decide) _ _ _
      obtain ⟨st, ha, hheld, hidle⟩ := actOnPlan_start (u := (planned fs s).fault .shortfall none) (fs := fs) (by rw [hfill]; exact hwindow)
        (by rw [hfill]; exact hk) (by rw [hfill]; exact hpurpose) (by rw [hfill]; exact hopen) (by rw [hfill]; exact hrise)
        (by rw [hfill]; exact hstate)
      rw [hfill] at hheld hidle
      rw [ha]
      refine ⟨s.planNumbers fs, st, ?_, hheld, hidle, .logged (fault_banks _ _ _) (fault_out _ _ _), ?_⟩
      · simp only [State.updFill, hfill, planned_fill, Option.map_some]
      · exact fault_read (part := .line) (by decide) _ _ _
    · rw [if_neg hlogs]
      obtain ⟨st, ha, hheld, hidle⟩ := actOnPlan_start (u := planned fs s) (fs := fs) hwindow hk hpurpose hopen hrise hstate
      rw [ha]
      exact ⟨s.planNumbers fs, st, rfl, hheld, hidle, .quiet rfl rfl, rfl⟩

/-- The fill of a start, in the state `st` with the inhibit set `rs`, its other values those of its reset, its clock and its window. -/
def fillFrom (rs : List Reason) (st : FillState) (n : PlanNumbers) (s : State) : FillBlock :=
  { clock := s.fill.clock
    tariff := s.fill.tariff
    window := s.fill.window
    state := st
    inhibit := rs
    numbers := n
    planAt := s.tables.fillSet.map fun f => f.planInterval * 60000
    demandTag := 1
    renewal := s.renewalTimer
    stopWait := some 0
    stopAt := s.tables.guardSet.map fun g => (g.stopLatency + 60) * 1000 }

/-- A fill at its reset values but for its clock and its window. -/
def FreshFill (f : FillBlock) : Prop := ∃ c t w, f = { clock := c, tariff := t, window := w }

/-- The fill of a start once its DEMAND frame of 0 is queued. -/
def fillQueued (s : State) : State :=
  (s.updFill fun f => { f with
    state := if s.startInhibit = [] then .idle else .held
    inhibit := s.startInhibit
    planAt := s.tables.fillSet.map fun f => f.planInterval * 60000 }).queueDemand

theorem startInhibit_no_valveFault (s : State) : .valveFault ∉ s.startInhibit := by
  unfold State.startInhibit
  simp only [List.mem_append, not_or]
  refine ⟨⟨⟨⟨?_, ?_⟩, ?_⟩, ?_⟩, ?_⟩ <;> split <;> simp

/-- The close sequence of a start waits for the first stop wait to run out, station copy and time being those of the reset (R100). -/
theorem closeSequence_start {u : State} (htime : u.timeUs = 0) (howed : u.fill.closeOwed = true) (hplaced : u.fill.closePlaced = false)
    (hstation : u.fill.station = none) (hfault : .valveFault ∉ u.fill.inhibit)
    (hstate : u.fill.state = .held ∨ u.fill.state = .idle ∨ u.fill.state = .satisfied)
    (hwait : u.fill.stopWait.getD 0 = 0)
    (hstop : u.fill.stopAt = none ∨ u.fill.stopAt = u.tables.guardSet.map fun g => (g.stopLatency + 60) * 1000) :
    u.closeSequence = u.updFill fun f => { f with
      stopWait := some 0
      stopAt := u.tables.guardSet.map fun g => (g.stopLatency + 60) * 1000 } := by
  have hnow : u.now = 0 := by simp [State.now, htime]
  refine closeSequence_waits ?_ hplaced hstation (by rw [hnow]; exact hwait) (by simp) hstop fun t ht => ?_
  · rcases hstate with h | h | h <;> simp [FillBlock.closeRuns, howed, hfault, h]
  · obtain ⟨g, -, rfl⟩ := Option.map_eq_some_iff.1 ht
    rw [hnow]; omega

/-- The state that the fill takes at a start before an entry to a cheap window. -/
def firstFillState (s : State) : FillState := if s.startInhibit = [] then .idle else .held

theorem firstFillState_cases (s : State) : firstFillState s = .held ∨ firstFillState s = .idle := by
  unfold firstFillState; split <;> simp

theorem fillQueued_fill {s : State} (hfresh : FreshFill s.fill) :
    (fillQueued s).fill = { fillFrom s.startInhibit (firstFillState s) {} s with stopWait := none, stopAt := none } := by
  obtain ⟨c, t, w, hf⟩ := hfresh
  simp only [fillQueued, State.queueDemand, State.offer, State.updOut, State.updFill, State.nextTag, fillFrom, firstFillState, hf,
    State.renewalTimer, State.now]

theorem fillQueued_out {s : State} (hfresh : FreshFill s.fill) : (fillQueued s).out = s.out.offer (.demand 0 1) := by
  obtain ⟨c, t, w, hf⟩ := hfresh
  simp only [fillQueued, State.queueDemand, State.offer, State.updOut, State.updFill, State.nextTag, hf]

theorem fillQueued_read {p : Part} (h : p ∉ [Part.fill, .out]) (s : State) : p.read (fillQueued s) = p.read s :=
  (queueDemand_read h _).trans (updFill_read (by simp_all) _ _)

/-- The fill of a start once its close sequence waits. -/
def fillWaiting (s : State) : State :=
  (fillQueued s).updFill fun f => { f with
    stopWait := some 0
    stopAt := s.tables.guardSet.map fun g => (g.stopLatency + 60) * 1000 }

theorem fillWaiting_read {p : Part} (h : p ∉ [Part.fill, .out]) (s : State) : p.read (fillWaiting s) = p.read s :=
  (updFill_read (by simp_all) _ _).trans (fillQueued_read h s)

theorem fillWaiting_out {s : State} (hfresh : FreshFill s.fill) : (fillWaiting s).out = s.out.offer (.demand 0 1) :=
  fillQueued_out hfresh

theorem fillWaiting_fill {s : State} (hfresh : FreshFill s.fill) :
    (fillWaiting s).fill = fillFrom s.startInhibit (firstFillState s) {} s := by
  simp only [fillWaiting, State.updFill, fillQueued_fill hfresh]; rfl

theorem fillQueued_waits {s : State} (hfresh : FreshFill s.fill) (htime : s.timeUs = 0) :
    (fillQueued s).closeSequence = fillWaiting s := by
  have htab : (fillQueued s).tables = s.tables := fillQueued_read (p := .tables) (by decide) s
  rw [closeSequence_start ((fillQueued_read (p := .timeUs) (by decide) s).trans htime), fillWaiting, htab]
  all_goals rw [fillQueued_fill hfresh]
  · rfl
  · rfl
  · rfl
  · exact startInhibit_no_valveFault s
  · exact (firstFillState_cases s).imp id .inl
  · rfl
  · exact .inl rfl

/-- A fill with no purpose enters a cheap window by the evaluation alone (R93). -/
theorem enterWindow_none {s : State} (h : s.fill.purpose = none) : s.enterWindow = s.evaluatePlan false := by
  have hsame : s.updFill (fun f => { f with purpose := if f.purpose = some .topUp then some .window else f.purpose }) = s := by
    refine state_ext fun p => ?_
    cases p <;> first | rfl | skip
    show ({ s.fill with purpose := if s.fill.purpose = some .topUp then some .window else s.fill.purpose } : FillBlock) = s.fill
    rw [h, if_neg (by simp), ← h]
  unfold State.enterWindow
  rw [hsame]

theorem fillStart_eq {s : State} (hfresh : FreshFill s.fill) (htime : s.timeUs = 0) :
    s.fillStart = if s.fill.inCheap = true then ((fillWaiting s).evaluatePlan false).closeSequence else fillWaiting s := by
  have hcheap : (fillWaiting s).fill.inCheap = s.fill.inCheap := by rw [fillWaiting_fill hfresh]; rfl
  have hpurpose : (fillWaiting s).fill.purpose = none := by rw [fillWaiting_fill hfresh]; rfl
  rw [← hcheap, ← enterWindow_none hpurpose, ← fillQueued_waits hfresh htime]
  rfl

/-- The fill of a start in a cheap window. -/
theorem fillStart_cheap {s : State} (hfresh : FreshFill s.fill) (htime : s.timeUs = 0) (hin : s.fill.inCheap = true) :
    ∃ n st, s.fillStart.fill = fillFrom s.startInhibit st n s ∧ (firstFillState s = .held → st = .held) ∧
      (firstFillState s = .idle → st = .idle ∨ st = .satisfied) ∧ s.fillStart.line = s.line ∧ MayLogShortfall (fillWaiting s) s.fillStart := by
  have hwfill := fillWaiting_fill hfresh
  have hwtab : (fillWaiting s).tables = s.tables := fillWaiting_read (p := .tables) (by decide) s
  have hwtime : (fillWaiting s).timeUs = 0 := (fillWaiting_read (p := .timeUs) (by decide) s).trans htime
  have hwnow : (fillWaiting s).now = 0 := by simp [State.now, hwtime]
  obtain ⟨n, st, he, hh, hi, hlog, hl⟩ := evaluatePlan_start (s := fillWaiting s) (by rw [hwfill]; rfl) (by rw [hwfill]; rfl)
    (by rw [hwfill]; exact hin) (by rw [hwfill]; rfl) (by rw [hwfill]; rfl) (by rw [hwfill]; exact firstFillState_cases s)
  have hst : st = .held ∨ st = .idle ∨ st = .satisfied := by
    rw [hwfill] at hh hi
    exact (firstFillState_cases s).imp hh hi
  have htab : ((fillWaiting s).evaluatePlan false).tables = s.tables :=
    (evaluatePlan_read (part := .tables) (by decide) _ _).trans hwtab
  have hfill : ((fillWaiting s).evaluatePlan false).fill = fillFrom s.startInhibit st n s := by
    rw [he, hwfill, hwtab, hwnow]; simp [fillFrom]
  have hclose := closeSequence_start (u := (fillWaiting s).evaluatePlan false)
    ((evaluatePlan_read (part := .timeUs) (by decide) _ _).trans hwtime) (by rw [hfill]; rfl) (by rw [hfill]; rfl) (by rw [hfill]; rfl)
    (by rw [hfill]; exact startInhibit_no_valveFault s) (by rw [hfill]; exact hst) (by rw [hfill]; rfl)
    (by rw [hfill, htab]; exact .inr rfl)
  rw [fillStart_eq hfresh htime, if_pos hin, hclose]
  refine ⟨n, st, ?_, ?_, ?_, ?_, ?_⟩
  · simp only [State.updFill, hfill, htab]; rfl
  · rw [hwfill] at hh; exact hh
  · rw [hwfill] at hi; exact hi
  · exact hl.trans (fillWaiting_read (p := .line) (by decide) s)
  · rcases hlog with ⟨hb, ho⟩ | ⟨hb, ho⟩
    · exact .quiet hb ho
    · exact .logged hb ho

/-- The fill of a start: its block, and what it may have logged. -/
theorem fillStart_outcome {s : State} (hfresh : FreshFill s.fill) (htime : s.timeUs = 0) :
    ∃ n st, s.fillStart.fill = fillFrom s.startInhibit st n s ∧ (s.startInhibit ≠ [] → st = .held) ∧
      (s.startInhibit = [] → st = .idle ∨ (st = .satisfied ∧ s.fill.inCheap = true)) ∧
      s.fillStart.line = s.line ∧
      ((s.fillStart.banks = s.banks ∧ s.fillStart.out = s.out.offer (.demand 0 1)) ∨
        (s.fill.inCheap = true ∧ s.fillStart.banks = s.banksAfter .shortfall none ∧
          (s.fillStart.out = s.out.offer (.demand 0 1) ∨
            ∃ r, s.fillStart.out = (s.out.offer (.demand 0 1)).offer (.fault .fill r)))) := by
  have hheld : s.startInhibit ≠ [] → firstFillState s = .held := fun h => if_neg h
  have hidle : s.startInhibit = [] → firstFillState s = .idle := fun h => if_pos h
  have hbanks : (fillWaiting s).banks = s.banks := fillWaiting_read (p := .banks) (by decide) s
  by_cases hin : s.fill.inCheap = true
  · obtain ⟨n, st, hf, hh, hi, hl, hlog⟩ := fillStart_cheap hfresh htime hin
    refine ⟨n, st, hf, fun h => hh (hheld h), fun h => (hi (hidle h)).imp id fun h => ⟨h, hin⟩, hl, ?_⟩
    rcases hlog with ⟨hb, ho⟩ | ⟨hb, ho⟩
    · exact .inl ⟨hb.trans hbanks, ho.trans (fillWaiting_out hfresh)⟩
    · refine .inr ⟨hin, hb.trans (banksAfter_congr _ _ (fillWaiting_read (p := .tables) (by decide) s) hbanks ?_
        (fillWaiting_read (p := .timeUs) (by decide) s)), by rw [← fillWaiting_out hfresh]; exact ho⟩
      rw [State.clockTime, fillWaiting_fill hfresh]; rfl
  · rw [fillStart_eq hfresh htime, if_neg hin]
    exact ⟨{}, firstFillState s, fillWaiting_fill hfresh, hheld, fun h => .inl (hidle h), fillWaiting_read (p := .line) (by decide) s,
      .inl ⟨hbanks, fillWaiting_out hfresh⟩⟩

end Sys2Proof.Laws
end

section
/-! PROOFS. The acts of a start, block by block (R164, R174): the frost zones with their first allocation, and the store engine. -/

namespace Sys2Proof.Laws

open Sys2Proof.Machine

/-! ### The frost zones at a start (R113, R117, R118) -/

theorem zoneRecords_congr {s t : State} (h : Part.tables.read t = Part.tables.read s) : t.zoneRecords = s.zoneRecords :=
  congrArg (fun x : Tables => x.zones.getD []) h

/-- Over zones that all count as frozen, a kind's flag says whether a zone is of that kind. -/
theorem kindFrozen_start (k : ZoneKind) (rs : List ZoneRecord) :
    kindFrozen k rs (rs.map fun _ => ({} : ZoneState)) = true ↔ ∃ r ∈ rs, r.kind = k := by
  unfold kindFrozen
  induction rs with
  | nil => simp
  | cons r rs ih => simp only [List.map_cons, List.zip_cons_cons, List.any_cons, Bool.or_eq_true, ih]; simp

/-- With no probe GOOD yet, frost watch stands as soon as there is a zone. -/
theorem watchNow_start {s : State} (h : s.points = List.replicate 64 {}) : s.watchNow = true ↔ s.zoneRecords ≠ [] := by
  have htemp : ∀ r, s.zoneTemp r = none := fun r => goodOfKind_fresh h _ _
  simp only [State.watchNow, htemp, List.any_eq_true, and_true]
  exact ⟨fun ⟨r, hr⟩ hnil => by simp [hnil] at hr, List.exists_mem_of_ne_nil _⟩

/-- The Frost Unit's block after a reset, before the first allocation. -/
structure FrostReset (s : State) (hold : Bool) (f : FrostBlock) : Prop where
  zones : f.zones = s.zoneRecords.map fun _ => ({} : ZoneState)
  flags : (f.flags.riser = true ↔ ∃ r ∈ s.zoneRecords, r.kind = .riser) ∧
    (f.flags.valveChamber = true ↔ ∃ r ∈ s.zoneRecords, r.kind = .valveChamber) ∧
    (f.flags.overflowPipe = true ↔ ∃ r ∈ s.zoneRecords, r.kind = .overflowPipe) ∧
    (f.flags.outlet = true ↔ ∃ r ∈ s.zoneRecords, r.kind = .outlet) ∧
    (f.flags.sensorHousing = true ↔ ∃ r ∈ s.zoneRecords, r.kind = .sensorHousing)
  watch : f.watch = true ↔ s.zoneRecords ≠ []
  tariff : f.tariff = s.fill.tariff
  bankHold : f.bankHold = hold
  budget : f.budget = if s.supply.mode = .mains then siteBudget s.tables.siteSet s.fill.tariff else 0

theorem frostStart_outcome {s : State} (h : s.points = List.replicate 64 {}) (hold : Bool) :
    FrostReset s hold (s.frostStart hold).frost where
  zones := rfl
  flags := ⟨kindFrozen_start .riser _, kindFrozen_start .valveChamber _, kindFrozen_start .overflowPipe _, kindFrozen_start .outlet _,
    kindFrozen_start .sensorHousing _⟩
  watch := watchNow_start (s := s.updFrost fun _ => _) h
  tariff := rfl
  bankHold := rfl
  budget := rfl

/-! ### The first allocation (R120, R121) -/

/-- What holds through a step over the zone records holds after all of them. -/
theorem overZones_induct (P : State → Prop) (f : Nat → ZoneRecord → State → State) (rs : List ZoneRecord) :
    ∀ (i : Nat) (s : State), (∀ k r u, rs[k]? = some r → P u → P (f (i + k) r u)) → P s → P (overZones f i rs s) := by
  induction rs with
  | nil => exact fun _ _ _ h => h
  | cons r rs ih =>
    intro i s hf h
    refine ih (i + 1) _ (fun k r' u hk hu => ?_) (hf 0 r s rfl h)
    have hstep := hf (k + 1) r' u (by simpa using hk) hu
    rwa [Nat.add_assoc, Nat.add_comm 1 k]

/-- A zone of a start, of which only the grant, the heater and its command, and the deferral have changed since the reset. -/
structure ZoneStarted (z : ZoneState) : Prop where
  probeRequest : z.probeRequest = true
  request : z.request = true
  frozen : z.frozen = true
  probeLost : z.probeLost = true
  quiet : z.granted = false → z.heater = .off ∧ z.held = none

/-- The entry that a granted zone's heater gets. -/
def heaterEntry (r : ZoneRecord) : CommandEntry :=
  { address := r.heaterAddress, item := r.heaterItem, feedback := r.feedback, origin := .frost, target := 1 }

/-- What the first allocation has made of the zones and the command list so far. -/
structure Allocating (s : State) : Prop where
  zones : ∀ z ∈ s.frost.zones, ZoneStarted z
  commands : ∀ e ∈ s.line.commands, s.supply.mode = .mains ∧ ∃ (i : Nat) (r : ZoneRecord) (z : ZoneState),
    s.zoneRecords[i]? = some r ∧ s.frost.zones[i]? = some z ∧ z.granted = true ∧ e = heaterEntry r
  idle : s.line.inFlight = none

theorem mem_modify {α : Type} {f : α → α} {ls : List α} {i : Nat} {x : α} (h : x ∈ ls.modify i f) : x ∈ ls ∨ ∃ y ∈ ls, ls[i]? = some y ∧ x = f y := by
  obtain ⟨k, hk⟩ := List.mem_iff_getElem?.1 h
  rw [List.getElem?_modify] at hk
  obtain ⟨y, hy, rfl⟩ := Option.map_eq_some_iff.1 hk
  by_cases hki : i = k
  · subst hki
    exact .inr ⟨y, List.mem_of_getElem? hy, hy, by simp⟩
  · exact .inl (by simpa [hki] using List.mem_of_getElem? hy)

/-- A zone update that keeps the grant keeps what the allocation has made. -/
theorem Allocating.updZone {s : State} (h : Allocating s) (i : Nat) {f : ZoneState → ZoneState}
    (hf : ∀ z, s.frost.zones[i]? = some z → ZoneStarted z → ZoneStarted (f z)) (hg : ∀ z, (f z).granted = z.granted) :
    Allocating (s.updZone i f) where
  zones z hz := by
    rcases mem_modify hz with hz | ⟨y, hy, hi, rfl⟩
    · exact h.zones z hz
    · exact hf y hi (h.zones y hy)
  commands e he := by
    obtain ⟨hm, j, r, z, hr, hz, hgr, hee⟩ := h.commands e he
    refine ⟨hm, j, r, if i = j then f z else z, hr, ?_, ?_, hee⟩
    · show (s.frost.zones.modify i f)[j]? = _
      rw [List.getElem?_modify, hz]; by_cases hij : i = j <;> simp [hij]
    · split
      · rw [hg, hgr]
      · exact hgr
  idle := h.idle

/-- The answers that a heater's ON can get from the list, and what the list then holds. -/
theorem placeCommand_heater {s : State} (r : ZoneRecord) (hidle : s.line.inFlight = none) :
    ((s.placeCommand r.heaterAddress r.heaterItem r.feedback .frost 1).1 = s ∧
      (s.placeCommand r.heaterAddress r.heaterItem r.feedback .frost 1).2 ∈ [CommandOutcome.urgent, .supply, .listFull]) ∨
    ((s.placeCommand r.heaterAddress r.heaterItem r.feedback .frost 1).2 = .placed ∧ s.supply.mode = .mains ∧
      (s.placeCommand r.heaterAddress r.heaterItem r.feedback .frost 1).1.line.inFlight = none ∧
      ∀ e ∈ (s.placeCommand r.heaterAddress r.heaterItem r.feedback .frost 1).1.line.commands,
        e ∈ s.line.commands ∨ ∃ old ∈ s.line.commands ++ [heaterEntry r], e = { heaterEntry r with turnCycle := old.turnCycle }) := by
  unfold State.placeCommand
  dsimp only
  split
  · exact .inl ⟨rfl, by simp⟩
  · split
    · exact .inl ⟨rfl, by simp⟩
    · next hsupply =>
      have hmains : s.supply.mode = .mains := by simpa using hsupply
      split
      · refine .inr ⟨rfl, hmains, by simp [State.supersedeCommand, State.updLine, hidle], fun e he => ?_⟩
        obtain ⟨old, hold, rfl⟩ := List.mem_map.1 he
        split
        · exact .inr ⟨old, List.mem_append_left _ hold, rfl⟩
        · exact .inl hold
      · split
        · refine .inr ⟨rfl, hmains, hidle, fun e he => ?_⟩
          rcases List.mem_append.1 he with he | he
          · exact .inl he
          · exact .inr ⟨heaterEntry r, by simp, List.mem_singleton.1 he⟩
        · exact .inl ⟨rfl, by simp⟩

/-- A zone of a start calls for an ON when it is granted, and for nothing otherwise. -/
theorem ZoneStarted.called {z : ZoneState} (h : ZoneStarted z) {target : Bool} (hc : z.called = some target) :
    z.granted = true ∧ target = true := by
  cases hg : z.granted with
  | false => simp [ZoneState.called, hg, (h.quiet hg).1] at hc
  | true =>
    refine ⟨rfl, ?_⟩
    simp only [ZoneState.called, hg] at hc
    split at hc <;> simp_all

theorem ZoneStarted.answered {z : ZoneState} (h : ZoneStarted z) (hg : z.granted = true) (o : CommandOutcome) :
    ZoneStarted (z.answered true o) := by
  obtain ⟨h1, h2, h3, h4, -⟩ := h
  cases o <;> exact ⟨h1, h2, h3, h4, fun hf => absurd (hg.symm.trans hf) (by decide)⟩

theorem answered_granted (target : Bool) (o : CommandOutcome) (z : ZoneState) : (z.answered target o).granted = z.granted := by
  cases o <;> rfl

theorem placeHeater_allocating {s : State} {i : Nat} {r : ZoneRecord} (hr : s.zoneRecords[i]? = some r) (h : Allocating s) :
    Allocating (s.placeHeater i r) := by
  unfold State.placeHeater
  split
  · exact h
  · next z hz =>
    have hzs := h.zones z (List.mem_of_getElem? hz)
    split
    · refine h.updZone i (fun z _ hz => ?_) fun _ => rfl
      obtain ⟨h1, h2, h3, h4, h5⟩ := hz
      exact ⟨h1, h2, h3, h4, fun hg => ⟨(h5 hg).1, rfl⟩⟩
    · next target hcalled =>
      obtain ⟨hg, rfl⟩ := hzs.called hcalled
      dsimp only
      have hsame : (s.placeCommand r.heaterAddress r.heaterItem r.feedback .frost 1).1.frost = s.frost :=
        placeCommand_read (part := .frost) (by decide) _ _ _ _ _ _
      have hanswer : ∀ y, s.frost.zones[i]? = some y → ZoneStarted y → ∀ o, ZoneStarted (y.answered true o) := by
        intro y hy hys o
        obtain rfl : z = y := Option.some_injective _ (hz.symm.trans hy)
        exact hys.answered hg o
      rcases placeCommand_heater r h.idle with ⟨he, -⟩ | ⟨-, hmains, hidle, hcommands⟩
      · simp only [if_true, he]
        exact h.updZone i (fun y hy hys => hanswer y hy hys _) (answered_granted _ _)
      · simp only [if_true]
        refine Allocating.updZone (s := (s.placeCommand r.heaterAddress r.heaterItem r.feedback .frost 1).1) ⟨?_, ?_, hidle⟩ i ?_
          (answered_granted _ _)
        · rw [hsame]; exact h.zones
        · intro e he
          have hsupply : (s.placeCommand r.heaterAddress r.heaterItem r.feedback .frost 1).1.supply = s.supply :=
            placeCommand_read (part := .supply) (by decide) _ _ _ _ _ _
          have hrecords : (s.placeCommand r.heaterAddress r.heaterItem r.feedback .frost 1).1.zoneRecords = s.zoneRecords :=
            zoneRecords_congr (placeCommand_read (part := .tables) (by decide) _ _ _ _ _ _)
          rw [hsupply, hsame, hrecords]
          rcases hcommands e he with he | ⟨old, hold, rfl⟩
          · exact h.commands e he
          · refine ⟨hmains, i, r, z, hr, hz, hg, ?_⟩
            rcases List.mem_append.1 hold with hold | hold
            · obtain ⟨-, -, r', -, -, -, -, rfl⟩ := h.commands old hold; rfl
            · rw [List.mem_singleton.1 hold]
        · rw [hsame]; exact fun y hy hys => hanswer y hy hys _

/-- A command changes of the line the list and the transaction in flight. -/
theorem placeCommand_line (a i f : Nat) (o : Origin) (t : Nat) (s : State) :
    ∃ cs x, (s.placeCommand a i f o t).1.line = { s.line with commands := cs, inFlight := x } := by
  unfold State.placeCommand
  dsimp only
  repeat' split
  all_goals exact ⟨_, _, rfl⟩

/-- A heater's turn changes of the Frost Unit the zones, not their number, and of the line the command list and the transaction in
flight. -/
structure HeaterTurn (s t : State) : Prop where
  frost : ∃ zs, t.frost = { s.frost with zones := zs } ∧ zs.length = s.frost.zones.length
  line : ∃ cs x, t.line = { s.line with commands := cs, inFlight := x }
  others : ∀ p, p ∉ [Part.frost, .line] → p.read t = p.read s

theorem updZone_turn (i : Nat) (f : ZoneState → ZoneState) (s : State) : HeaterTurn s (s.updZone i f) :=
  ⟨⟨_, rfl, by simp⟩, ⟨_, _, rfl⟩, fun p hp => updZone_read (by simp_all) i f s⟩

theorem HeaterTurn.refl (s : State) : HeaterTurn s s := ⟨⟨_, rfl, rfl⟩, ⟨_, _, rfl⟩, fun _ _ => rfl⟩

theorem HeaterTurn.trans {s t u : State} (h : HeaterTurn s t) (h' : HeaterTurn t u) : HeaterTurn s u := by
  obtain ⟨⟨zs, hf, hn⟩, ⟨cs, x, hl⟩, ho⟩ := h
  obtain ⟨⟨zs', hf', hn'⟩, ⟨cs', x', hl'⟩, ho'⟩ := h'
  refine ⟨⟨zs', by rw [hf', hf], by rw [hn', hf]; exact hn⟩, ⟨cs', x', by rw [hl', hl]⟩, fun p hp => (ho' p hp).trans (ho p hp)⟩

theorem placeHeater_turn (i : Nat) (r : ZoneRecord) (s : State) : HeaterTurn s (s.placeHeater i r) := by
  have hcommand : ∀ t, HeaterTurn s (s.placeCommand r.heaterAddress r.heaterItem r.feedback .frost t).1 := fun t =>
    ⟨⟨_, placeCommand_read (part := .frost) (by decide) _ _ _ _ _ _, rfl⟩, placeCommand_line _ _ _ _ _ s,
      fun p hp => placeCommand_read (by simp_all) _ _ _ _ _ _⟩
  unfold State.placeHeater
  split
  · exact .refl s
  · split
    · exact updZone_turn i _ s
    · exact (hcommand _).trans (updZone_turn i _ _)

theorem setGranted_length (gs : List Nat) : ∀ (i : Nat) (zs : List ZoneState), (setGranted gs i zs).length = zs.length := by
  intro i zs
  induction zs generalizing i with
  | nil => rfl
  | cons z zs ih => simp [setGranted, ih]

theorem mem_setGranted {gs : List Nat} : ∀ {i : Nat} {zs : List ZoneState} {z : ZoneState}, z ∈ setGranted gs i zs →
    ∃ y ∈ zs, ∃ g, z = { y with granted := g } := by
  intro i zs z
  induction zs generalizing i with
  | nil => simp [setGranted]
  | cons y ys ih =>
    intro h
    rcases List.mem_cons.1 h with rfl | h
    · exact ⟨y, List.mem_cons_self, _, rfl⟩
    · obtain ⟨x, hx, hz⟩ := ih h
      exact ⟨x, List.mem_cons_of_mem _ hx, hz⟩

theorem ZoneStarted.defer {z : ZoneState} (h : ZoneStarted z) (mains : Bool) (now : Nat) : ZoneStarted (z.defer mains now) := by
  obtain ⟨h1, h2, h3, h4, h5⟩ := h
  unfold ZoneState.defer
  repeat' split
  all_goals exact ⟨h1, h2, h3, h4, h5⟩

theorem defer_granted (mains : Bool) (now : Nat) (z : ZoneState) : (z.defer mains now).granted = z.granted := by
  unfold ZoneState.defer
  repeat' split
  all_goals rfl

/-- The deferrals that begin after an allocation leave the grants. -/
theorem Allocating.defer {s : State} (h : Allocating s) (mains : Bool) (now : Nat) :
    Allocating (s.updFrost fun b => { b with zones := b.zones.map (ZoneState.defer mains now) }) where
  zones z hz := by
    obtain ⟨y, hy, rfl⟩ := List.mem_map.1 hz
    exact (h.zones y hy).defer _ _
  commands e he := by
    obtain ⟨hm, i, r, z, hr, hzi, hg, hee⟩ := h.commands e he
    refine ⟨hm, i, r, z.defer mains now, hr, ?_, (defer_granted _ _ z).trans hg, hee⟩
    show (s.frost.zones.map _)[i]? = _
    rw [List.getElem?_map, hzi]; rfl
  idle := h.idle

/-- The first allocation of a start. -/
theorem allocate_start {s : State} (hz : s.frost.zones = s.zoneRecords.map fun _ => ({} : ZoneState)) (hc : s.line.commands = [])
    (hi : s.line.inFlight = none) : Allocating s.allocate ∧ HeaterTurn s s.allocate := by
  obtain ⟨u, hu⟩ : ∃ u, u = s.updFrost fun b => { b with zones := setGranted s.grantedZones 0 b.zones } := ⟨_, rfl⟩
  have hfirst : Allocating u ∧ HeaterTurn s u := by
    rw [hu]
    refine ⟨⟨fun z hz' => ?_, fun e he => ?_, hi⟩,
      ⟨_, rfl, setGranted_length _ _ _⟩, ⟨_, _, rfl⟩, fun p hp => updFrost_read (by simp_all) _ _⟩
    · obtain ⟨y, hy, g, rfl⟩ := mem_setGranted hz'
      obtain ⟨_, _, rfl⟩ := List.mem_map.1 (hz ▸ hy)
      exact ⟨rfl, rfl, rfl, rfl, fun _ => ⟨rfl, rfl⟩⟩
    · have hnil : e ∈ s.line.commands := he
      simp [hc] at hnil
  have hturns : Allocating (overZones State.placeHeater 0 u.zoneRecords u) ∧ HeaterTurn s (overZones State.placeHeater 0 u.zoneRecords u) := by
    refine overZones_induct (fun v => Allocating v ∧ HeaterTurn s v) _ _ 0 u (fun k r v hk hv => ?_) hfirst
    have hrecords : v.zoneRecords = u.zoneRecords :=
      (zoneRecords_congr (hv.2.others .tables (by decide))).trans (zoneRecords_congr (hfirst.2.others .tables (by decide))).symm
    exact ⟨placeHeater_allocating (by rw [hrecords, Nat.zero_add]; exact hk) hv.1, hv.2.trans (placeHeater_turn _ _ _)⟩
  have hall : s.allocate = (overZones State.placeHeater 0 u.zoneRecords u).updFrost fun b => { b with
      zones := b.zones.map (ZoneState.defer (decide ((overZones State.placeHeater 0 u.zoneRecords u).supply.mode = .mains))
        (overZones State.placeHeater 0 u.zoneRecords u).now) } := by rw [hu]; rfl
  rw [hall]
  generalize overZones State.placeHeater 0 u.zoneRecords u = v at hturns
  exact ⟨hturns.1.defer _ _, hturns.2.trans ⟨⟨_, rfl, by simp⟩, ⟨_, _, rfl⟩, fun p hp => updFrost_read (by simp_all) _ _⟩⟩

/-! ### The store engine at a start (R172, R174) -/

theorem firstErased_isSome (slots : List TripSlot) (ns : List Nat) :
    (firstErased slots ns).isSome = true ↔ ∃ n ∈ ns, slots[n]? = some .erased := by
  simp [firstErased, List.find?_isSome]

theorem mem_sectorSlots (x n : Nat) : n ∈ sectorSlots x ↔ n / 4 = x := by
  simp only [sectorSlots, List.mem_cons, List.not_mem_nil, or_false]; omega

theorem sectorErased_iff (slots : List TripSlot) (x : Nat) : sectorErased slots x = true ↔ ∀ n, n / 4 = x → slots[n]? = some .erased := by
  simp only [sectorErased, List.all_eq_true, beq_iff_eq, mem_sectorSlots]

/-- The pre-erase of a start is the one that is due. -/
theorem startPreErase_iff (slots : List TripSlot) (x : Nat) : startPreErase slots = some x ↔ preEraseDue slots x := by
  unfold startPreErase preEraseDue startSector
  cases newestIntact slots with
  | none =>
    simp only [Option.isSome_none, Bool.false_eq_true, if_false]
    by_cases h : (firstErased slots (sectorSlots 0)).isSome = true
    · rw [if_pos h]
      obtain ⟨n, hn, he⟩ := (firstErased_isSome _ _).1 h
      have hn4 : n < 4 := by rw [mem_sectorSlots] at hn; omega
      simp only [reduceCtorEq, false_iff, not_and]
      exact fun _ hall => hall n hn4 he
    · rw [if_neg h]
      have hall : ∀ n < 4, slots[n]? ≠ some .erased := fun n hn he =>
        h ((firstErased_isSome _ _).2 ⟨n, (mem_sectorSlots 0 n).2 (by omega), he⟩)
      constructor
      · intro hx; exact ⟨(Option.some_injective _ hx).symm, hall⟩
      · rintro ⟨rfl, -⟩; rfl
  | some y =>
    obtain ⟨i, n0, e0⟩ := y
    simp only [Option.isSome_some, if_true]
    have hbehind : (firstErased slots ((sectorSlots (i / 4)).filter fun n => decide (i < n))).isSome = true ↔
        ∃ n, i < n ∧ n / 4 = i / 4 ∧ slots[n]? = some .erased := by
      simp only [firstErased_isSome, List.mem_filter, mem_sectorSlots, decide_eq_true_eq]
      exact ⟨fun ⟨n, ⟨h1, h2⟩, h3⟩ => ⟨n, h2, h1, h3⟩, fun ⟨n, h2, h1, h3⟩ => ⟨n, ⟨h1, h2⟩, h3⟩⟩
    have hdue : ∀ sector, (if sectorErased slots sector = true then none else some sector) = some x ↔
        x = sector ∧ ∃ n, n / 4 = x ∧ slots[n]? ≠ some .erased := by
      intro sector
      by_cases h : sectorErased slots sector = true
      · rw [if_pos h]
        simp only [reduceCtorEq, false_iff, not_and, not_exists]
        rintro rfl n hn hne
        exact hne ((sectorErased_iff slots x).1 h n hn)
      · rw [if_neg h]
        rw [sectorErased_iff] at h
        push Not at h
        exact ⟨fun hx => by obtain rfl := Option.some_injective _ hx; exact ⟨rfl, h⟩, fun hx => by rw [hx.1]⟩
    rw [hdue]
    refine and_congr_left fun _ => ?_
    by_cases h : (firstErased slots ((sectorSlots (i / 4)).filter fun n => decide (i < n))).isSome = true
    · rw [if_pos h]
      have hex := hbehind.1 h
      refine ⟨fun hx => .inl ⟨hx, hex⟩, ?_⟩
      rintro (⟨hx, -⟩ | ⟨-, hno⟩)
      · exact hx
      · obtain ⟨n, h1, h2, h3⟩ := hex
        exact absurd h3 (hno n h1 h2)
    · rw [if_neg h]
      refine ⟨fun hx => .inr ⟨hx, fun n h1 h2 h3 => h (hbehind.2 ⟨n, h1, h2, h3⟩)⟩, ?_⟩
      rintro (⟨-, hex⟩ | ⟨hx, -⟩)
      · exact absurd (hbehind.2 hex) h
      · exact hx

/-- The engine's pick with nothing but a pre-erase that may be due. -/
theorem enginePick_start {s : State} {due : Option Nat} (h : s.engine = { preErase := due }) (htime : s.timeUs = 0) :
    (∀ x, due = some x → s.enginePick.engine = { busy := some ⟨.preErase x, 350⟩ } ∧
      s.enginePick.nv = { s.nv with slots := setSector x .spoilt s.nv.slots }) ∧
    (due = none → s.enginePick.engine = {} ∧ s.enginePick.nv = s.nv) := by
  have hnow : s.now = 0 := by simp [State.now, htime]
  have hsuspend : s.suspendForTrip = s := by simp [State.suspendForTrip, h]
  have hdue : s.dueForTrip = s := by simp [State.dueForTrip, h]
  have hpick : s.enginePick = s.pickOther := by
    unfold State.enginePick
    simp only [hsuspend, hdue]
    simp [h]
  rw [hpick]
  refine ⟨fun x hx => ?_, fun hx => ?_⟩
  · simp [State.pickOther, h, hx, State.beginPreErase, State.engineRun, State.updEngine, State.updNv, Config.eraseMs, State.now, htime]
  · simp [State.pickOther, h, hx]

end Sys2Proof.Laws
end

section
/-! PROOFS. A start over any clock and any banks (R164, R174), and the two resets. -/

namespace Sys2Proof.Laws

open Sys2Proof.Machine

/-! ### The stages of a start -/

/-- The state that a reset of `s` starts from, with the clock and the banks that it keeps. -/
def resetFrom (clock : Option ClockState) (banks : PerBank (Option FaultRecord)) (s : State) : State :=
  ((s.wiped true).updFill fun f => { f with clock := clock }).updBanks fun _ => banks

/-- After the Supply Monitor, the load, the line rate and the silence timers. -/
def loaded (s : State) : State := (s.updSupply fun _ => supplyStart s.inputs).startLoad.lineStart.trunkStart

/-- After the tariff class and the frost zones. -/
def zoned (s : State) : State := s.tariffStart.frostStart (s.tariffStart.holds .frost)

/-- After the level record and the guard. -/
def guarded (s : State) : State := (s.updLevel fun _ => resetLevel s.tables.strapping).guardStartUp

theorem startUp_stages (s : State) :
    s.startUp = { (guarded (zoned (loaded s))).fillStart.allocate.telemetryStart with notices := [] } := rfl

theorem loaded_read {p : Part} (h : p ∉ [Part.supply, .tables, .use, .banks, .out, .engine, .notices, .line, .trunk]) (s : State) :
    p.read (loaded s) = p.read s := by
  unfold loaded
  rw [trunkStart_read (by simp_all), lineStart_read (by simp_all), startLoad_read (by simp_all), updSupply_read (by simp_all)]

theorem zoned_read {p : Part} (h : p ∉ [Part.fill, .frost]) (s : State) : p.read (zoned s) = p.read s :=
  (frostStart_read (by simp_all) _ _).trans (tariffStart_read (by simp_all) _)

theorem guarded_read {p : Part} (h : p ∉ [Part.level, .guard, .line, .notices]) (s : State) : p.read (guarded s) = p.read s :=
  (guardStartUp_read (by simp_all) _).trans (updLevel_read (by simp_all) _ _)

/-! ### After the load -/

theorem loaded_supply (s : State) : (loaded s).supply = supplyStart s.inputs := by
  show Part.supply.read (loaded s) = _
  unfold loaded
  rw [trunkStart_read (by decide), lineStart_read (by decide), startLoad_read (by decide)]
  rfl

theorem loaded_line (s : State) : (loaded s).line = { s.line with
    rate := siteRate (loaded s).tables.siteSet
    lsbFirst := siteLsbFirst (loaded s).tables.siteSet } := by
  have hline : (s.updSupply fun _ => supplyStart s.inputs).startLoad.line = s.line := startLoad_read (part := .line) (by decide) _
  exact congrArg (fun l : LineBlock => { l with
    rate := siteRate (loaded s).tables.siteSet
    lsbFirst := siteLsbFirst (loaded s).tables.siteSet }) hline

theorem loaded_trunk (s : State) (htime : s.timeUs = 0) : (loaded s).trunk = { s.trunk with
    controlAt := some (siteLimits (loaded s).tables.siteSet).1
    stationAt := some (siteLimits (loaded s).tables.siteSet).2 } := by
  have htrunk : (s.updSupply fun _ => supplyStart s.inputs).startLoad.trunk = s.trunk := startLoad_read (part := .trunk) (by decide) _
  have hnow : (s.updSupply fun _ => supplyStart s.inputs).startLoad.lineStart.now = 0 := by
    have h : (s.updSupply fun _ => supplyStart s.inputs).startLoad.lineStart.timeUs = s.timeUs :=
      (lineStart_read (part := .timeUs) (by decide) _).trans (startLoad_read (part := .timeUs) (by decide) _)
    simp [State.now, h, htime]
  have hstart : (loaded s).trunk = { (s.updSupply fun _ => supplyStart s.inputs).startLoad.trunk with
      controlAt := some ((s.updSupply fun _ => supplyStart s.inputs).startLoad.lineStart.now + (siteLimits (loaded s).tables.siteSet).1)
      stationAt := some ((s.updSupply fun _ => supplyStart s.inputs).startLoad.lineStart.now + (siteLimits (loaded s).tables.siteSet).2) } :=
    rfl
  rw [hstart, htrunk, hnow, Nat.zero_add, Nat.zero_add]

theorem loaded_engine (s : State) : (loaded s).engine = { s.engine with preErase := startPreErase s.nv.slots } := by
  show Part.engine.read (loaded s) = _
  unfold loaded
  rw [trunkStart_read (by decide), lineStart_read (by decide)]
  exact congrArg (fun e : EngineBlock => { e with preErase := startPreErase s.nv.slots }) (imageFaults_read (part := .engine) (by decide)
    { s.updSupply (fun _ => supplyStart s.inputs) with tables := (startTables s.nv).1, use := (startTables s.nv).2 })

theorem loaded_out {s : State} (h : FaultsOnly .store s.out) : FaultsOnly .store (loaded s).out := by
  have hout : (loaded s).out = (s.updSupply fun _ => supplyStart s.inputs).startLoad.out :=
    (trunkStart_read (part := .out) (by decide) _).trans (lineStart_read (part := .out) (by decide) _)
  rw [hout]
  exact imageFaults_out (s := { s.updSupply (fun _ => supplyStart s.inputs) with
    tables := (startTables s.nv).1, use := (startTables s.nv).2 }) h

theorem loaded_banks (s : State) {b : Bank} (hb : b ≠ .store) : (loaded s).banks.get b = s.banks.get b := by
  have hbanks : (loaded s).banks = (s.updSupply fun _ => supplyStart s.inputs).startLoad.banks :=
    (trunkStart_read (part := .banks) (by decide) _).trans (lineStart_read (part := .banks) (by decide) _)
  rw [hbanks]
  exact imageFaults_banks { s.updSupply (fun _ => supplyStart s.inputs) with
    tables := (startTables s.nv).1, use := (startTables s.nv).2 } hb

theorem loaded_tables (s : State) : (loaded s).tables = (startTables s.nv).1 ∧ (loaded s).use = (startTables s.nv).2 := by
  have hread : ∀ p : Part, p ∉ [Part.line, .trunk, .engine, .banks, .out, .notices] → p.read (loaded s) = p.read
      { s.updSupply (fun _ => supplyStart s.inputs) with tables := (startTables s.nv).1, use := (startTables s.nv).2 } := by
    intro p hp
    unfold loaded
    rw [trunkStart_read (by simp_all), lineStart_read (by simp_all)]
    unfold State.startLoad
    dsimp only
    rw [updEngine_read (by simp_all), imageFaults_read (by simp_all)]
    rfl
  exact ⟨hread .tables (by decide), hread .use (by decide)⟩

theorem loaded_store (s : State) : (loaded s).banks.get .store = imageRecord TableKind.all (loaded s) (s.banks.get .store) := by
  have hbanks : (loaded s).banks = (s.updSupply fun _ => supplyStart s.inputs).startLoad.banks :=
    (trunkStart_read (part := .banks) (by decide) _).trans (lineStart_read (part := .banks) (by decide) _)
  have hclock : (loaded s).clockTime = s.clockTime := clockTime_congr (loaded_read (by decide) s)
  have htime : (loaded s).timeUs = s.timeUs := loaded_read (p := .timeUs) (by decide) s
  rw [hbanks]
  refine (imageFaults_store { s.updSupply (fun _ => supplyStart s.inputs) with
    tables := (startTables s.nv).1, use := (startTables s.nv).2 }).trans ?_
  simp only [imageRecord, loaded_tables, State.uptime, State.now, hclock, htime]
  rfl

/-! ### The holds of a start (R147) -/

theorem holds_congr {s t : State} (ht : t.tables = s.tables) {b : Bank} (hb : t.banks.get b = s.banks.get b) : t.holds b = s.holds b := by
  simp only [State.holds, ht, hb]

/-- SHORTFALL, a NOTE, neither begins nor ends a hold. -/
theorem arrive_shortfall_holds (set : BankSettings) (subject : Option Subject) (clock : Option ClockTime) (up : Nat) (r : Option FaultRecord) :
    recordHolds set (some (arrive .shortfall subject clock up r).1) = recordHolds set r := by
  have hnote : (Severity.note == Severity.severe) = false := rfl
  have hnote' : (Severity.note == Severity.degraded) = false := rfl
  cases r with
  | none => simp [arrive, recordHolds, FaultCode.severity, hnote, hnote']
  | some r =>
    have hrank : ¬ r.severity.rank < FaultCode.shortfall.severity.rank := Nat.not_lt_zero _
    have hsev : (FaultCode.shortfall.severity == Severity.severe) = false := rfl
    simp [arrive, recordHolds, hrank, hsev]

theorem banksAfter_get_ne {s : State} {code : FaultCode} {subject : Option Subject} {b : Bank} (h : b ≠ code.bank) :
    (s.banksAfter code subject).get b = s.banks.get b := by
  unfold State.banksAfter
  split
  · rfl
  · cases b <;> cases hc : code.bank <;> simp_all [PerBank.get, PerBank.set]

theorem shortfall_holds {s t : State} (ht : t.tables = s.tables) (hb : t.banks = s.banksAfter .shortfall none) (b : Bank) :
    t.holds b = s.holds b := by
  by_cases hfill : b = .fill
  · subst hfill
    unfold State.holds
    rw [ht, hb, State.banksAfter]
    split
    · rfl
    · rw [show FaultCode.shortfall.bank = .fill from rfl, PerBank.get_set, if_pos rfl, arrive_shortfall_holds]
  · exact holds_congr ht (by rw [hb]; exact banksAfter_get_ne hfill)

theorem mem_startInhibit (s : State) (r : Reason) : r ∈ s.startInhibit ↔
    (r = .guard ∧ s.guard.state = .tripped) ∨ (r = .frozenRiser ∧ s.frost.flags.riser = true) ∨
    (r = .frozenValve ∧ s.frost.flags.valveChamber = true) ∨ (r = .battery ∧ s.supply.mode ≠ .mains) ∨
    (r = .bankHold ∧ ∃ b, (b = .fill ∨ b = .trunk ∨ b = .level ∨ b = .guard) ∧ s.holds b = true) := by
  have hfour : s.fourHold = true ↔ ∃ b, (b = .fill ∨ b = .trunk ∨ b = .level ∨ b = .guard) ∧ s.holds b = true := by
    simp only [State.fourHold, Bool.or_eq_true]
    constructor
    · rintro (((h | h) | h) | h)
      · exact ⟨_, .inl rfl, h⟩
      · exact ⟨_, .inr (.inl rfl), h⟩
      · exact ⟨_, .inr (.inr (.inl rfl)), h⟩
      · exact ⟨_, .inr (.inr (.inr rfl)), h⟩
    · rintro ⟨b, rfl | rfl | rfl | rfl, h⟩ <;> simp [h]
  have hmem : ∀ (p : Prop) [Decidable p] (x : Reason), (r ∈ if p then [x] else []) ↔ r = x ∧ p := by
    intro p _ x; split <;> simp_all
  unfold State.startInhibit
  simp only [List.mem_append, hmem, hfour, beq_iff_eq, bne_iff_ne, or_assoc]

theorem startInhibit_nodup (s : State) : s.startInhibit.Nodup := by
  unfold State.startInhibit
  cases s.guard.state == .tripped <;> cases s.frost.flags.riser <;> cases s.frost.flags.valveChamber <;>
    cases s.supply.mode != .mains <;> cases s.fourHold <;> decide

/-! ### The first transmission (R139) -/

/-- With no reservation waiting, the modem takes the head of the queue, whose places stay in order. -/
theorem startTransmission_places {s : State} (hs : s.out.sending = none) (hw : ∀ p ∈ s.out.waiting, p.ready = true) :
    s.startTransmission.out.places = s.out.waiting ∧ s.startTransmission.out.held = s.out.held := by
  unfold State.startTransmission
  split
  · simp [Outbound.places, hs]
  · cases hq : s.out.waiting with
    | nil => simp [takeReady, Outbound.places, hs, hq]
    | cons p rest =>
      have hp : p.ready = true := hw p (by simp [hq])
      simp [takeReady, hp, Outbound.places, State.updOut]

theorem trunkSettle_unpended {s : State} (h : s.trunk.restart = none) : s.trunkSettle = s.startTransmission := by
  simp [State.trunkSettle, TrunkBlock.restartDue, h]

end Sys2Proof.Laws
end

section
/-! PROOFS. What every start leaves (R164, R174), and the two resets. -/

namespace Sys2Proof.Laws

open Sys2Proof.Machine

theorem floatInput_guard {w : State} (h : w.guard.floatActive = false) (hn : w.now = 0) (active : Bool) :
    (w.floatInput active).guard = { w.guard with floatAt := if active then some 2000 else none } := by
  cases active <;> simp [State.floatInput, State.updGuard, h, hn, Config.floatDebounceMs]

/-- The guard's start over a state whose line is idle and whose points are all NONE (R77, R85). -/
theorem guarded_outcome {z : State} (hu : z.line.urgent = none) (hc : z.line.commands = []) (hp : z.points = List.replicate 64 {})
    (htime : z.timeUs = 0) (hfloat : z.guard.floatActive = false) : ∃ state cause flag,
    StartState z.tables.guardReady ((newestIntact z.nv.slots).map fun x => x.2.2) state cause flag ∧
      (guarded z).guard = { guardFrom state cause flag z with floatAt := if z.inputs.float then some 2000 else none } ∧
      (guarded z).line = urgentFrom state z := by
  obtain ⟨v, hv⟩ : ∃ v : State, v = z.updLevel fun _ => resetLevel z.tables.strapping := ⟨_, rfl⟩
  obtain ⟨w, hw⟩ : ∃ w : State, w = v.guardStart ((newestIntact v.nv.slots).map fun x => x.2.2) := ⟨_, rfl⟩
  obtain ⟨state, cause, flag, hstart, hg, hl⟩ := guardStart_outcome ((newestIntact v.nv.slots).map fun x => x.2.2) v
    (by rw [hv]; exact hu) (by rw [hv]; exact hc) (by rw [hv]; exact hp)
  rw [← hw] at hg hl
  have hat : guarded z = w.floatInput z.inputs.float := by rw [hw, hv]; rfl
  have hnow : w.now = 0 := by
    have h : w.timeUs = 0 := by
      rw [hw]; exact (guardStart_read (part := .timeUs) (by decide) _ _).trans (by rw [hv]; exact htime)
    simp [State.now, h]
  have hfrom : w.guard = guardFrom state cause flag z := by rw [hg, hv]; rfl
  have hinactive : w.guard.floatActive = false := by rw [hfrom]; exact hfloat
  refine ⟨state, cause, flag, by rw [hv] at hstart; exact hstart, ?_, ?_⟩
  · rw [hat]
    rw [floatInput_guard hinactive hnow, hfrom]
  · rw [hat]
    refine (floatInput_read (part := .line) (by decide) _ _).trans (hl.trans ?_)
    rw [hv]; rfl

section

variable (clock : Option ClockState) (banks : PerBank (Option FaultRecord)) (s : State)

/-! ### The states of a start -/

/-- A start of `s` after its load. -/
def atLoad : State := loaded (resetFrom clock banks s)

/-- A start of `s` once the guard has its start state, before the fill. -/
def atGuard : State := guarded (zoned (atLoad clock banks s))

/-- A start of `s` once the fill has its start values. -/
def atFill : State := (atGuard clock banks s).fillStart

/-- A start of `s` before the engine and the modem go on. -/
def atEnd : State := (resetFrom clock banks s).startUp

theorem atEnd_stages : atEnd clock banks s = { (atFill clock banks s).allocate.telemetryStart with notices := [] } := startUp_stages _

theorem atLoad_read {p : Part} (h : p ∉ [Part.supply, .tables, .use, .banks, .out, .engine, .notices, .line, .trunk]) :
    p.read (atLoad clock banks s) = p.read (resetFrom clock banks s) := loaded_read h _

theorem atGuard_read {p : Part} (h : p ∉ [Part.fill, .frost, .level, .guard, .line, .notices]) :
    p.read (atGuard clock banks s) = p.read (atLoad clock banks s) :=
  (guarded_read (by simp_all) _).trans (zoned_read (by simp_all) _)

theorem atFill_read {p : Part} (h : p ∉ [Part.fill, .banks, .line, .out, .notices, .draws]) :
    p.read (atFill clock banks s) = p.read (atGuard clock banks s) := fillStart_read (by simp_all) _

theorem atEnd_read {p : Part} (h : p ∉ [Part.frost, .line, .telemetry, .out, .notices]) :
    p.read (atEnd clock banks s) = p.read (atFill clock banks s) := by
  rw [atEnd_stages, setNotices_read (by simp_all), telemetryStart_read (by simp_all), allocate_read (by simp_all)]

/-- The parts that the guard's start leaves as they then stay. -/
theorem atEnd_read_guard {p : Part} (h : p ∉ [Part.frost, .line, .telemetry, .out, .notices, .fill, .banks, .draws]) :
    p.read (atEnd clock banks s) = p.read (atGuard clock banks s) :=
  (atEnd_read clock banks s (by simp_all)).trans (atFill_read clock banks s (by simp_all))

/-- The parts that the load leaves as they then stay. -/
theorem atEnd_read_load {p : Part} (h : p ∉ [Part.frost, .line, .telemetry, .out, .notices, .fill, .banks, .draws, .level, .guard]) :
    p.read (atEnd clock banks s) = p.read (atLoad clock banks s) :=
  (atEnd_read_guard clock banks s (by simp_all)).trans (atGuard_read clock banks s (by simp_all))

theorem atEnd_tables : (atEnd clock banks s).tables = (atLoad clock banks s).tables := atEnd_read_load (p := .tables) _ _ _ (by decide)

theorem atGuard_tables : (atGuard clock banks s).tables = (atLoad clock banks s).tables := atGuard_read (p := .tables) _ _ _ (by decide)

theorem atGuard_time : (atGuard clock banks s).timeUs = 0 :=
  (atGuard_read (p := .timeUs) _ _ _ (by decide)).trans (atLoad_read (p := .timeUs) _ _ _ (by decide))

theorem atEnd_time : (atEnd clock banks s).timeUs = 0 :=
  (atEnd_read_guard (p := .timeUs) _ _ _ (by decide)).trans (atGuard_time clock banks s)

theorem zoned_points : (zoned (atLoad clock banks s)).points = List.replicate 64 {} :=
  (zoned_read (p := .points) (by decide) _).trans (atLoad_read (p := .points) _ _ _ (by decide))

theorem atEnd_points : (atEnd clock banks s).points = List.replicate 64 {} :=
  (atEnd_read_load (p := .points) _ _ _ (by decide)).trans (atLoad_read (p := .points) _ _ _ (by decide))

theorem atEnd_supply : (atEnd clock banks s).supply = supplyStart s.inputs :=
  (atEnd_read_load (p := .supply) _ _ _ (by decide)).trans (loaded_supply _)

/-! ### The guard and the line -/

/-- The line after the load: idle, with nothing to do. -/
theorem atLoad_line : (atLoad clock banks s).line = {
    rate := siteRate (atLoad clock banks s).tables.siteSet
    lsbFirst := siteLsbFirst (atLoad clock banks s).tables.siteSet
    live := List.replicate 24 {} } := loaded_line _

theorem zoned_line : (zoned (atLoad clock banks s)).line = (atLoad clock banks s).line := zoned_read (p := .line) (by decide) _

theorem zoned_guard : (zoned (atLoad clock banks s)).guard = {} :=
  (zoned_read (p := .guard) (by decide) _).trans (atLoad_read (p := .guard) _ _ _ (by decide))

theorem zoned_tables : (zoned (atLoad clock banks s)).tables = (atLoad clock banks s).tables := zoned_read (p := .tables) (by decide) _

theorem zoned_inputs : (zoned (atLoad clock banks s)).inputs = s.inputs :=
  (zoned_read (p := .inputs) (by decide) _).trans (atLoad_read (p := .inputs) _ _ _ (by decide))

theorem zoned_nv : (zoned (atLoad clock banks s)).nv = s.nv :=
  (zoned_read (p := .nv) (by decide) _).trans (atLoad_read (p := .nv) _ _ _ (by decide))

theorem zoned_time : (zoned (atLoad clock banks s)).timeUs = 0 :=
  (zoned_read (p := .timeUs) (by decide) _).trans (atLoad_read (p := .timeUs) _ _ _ (by decide))

/-- The guard's block over the zones' flags, and the close that it places. -/
theorem atGuard_guard : ∃ state cause flag,
    StartState (atLoad clock banks s).tables.guardReady ((newestIntact s.nv.slots).map fun x => x.2.2) state cause flag ∧
      (atGuard clock banks s).guard = { guardFrom state cause flag (zoned (atLoad clock banks s)) with
        floatAt := if s.inputs.float then some 2000 else none } ∧
      (atGuard clock banks s).line = urgentFrom state (zoned (atLoad clock banks s)) := by
  have h := guarded_outcome (z := zoned (atLoad clock banks s)) (by rw [zoned_line, atLoad_line]) (by rw [zoned_line, atLoad_line])
    (zoned_points clock banks s) (zoned_time clock banks s) (by rw [zoned_guard])
  rwa [zoned_tables, zoned_nv, zoned_inputs] at h

/-! ### The fill and the frost zones -/

/-- The fill before its start values: its reset values, the clock kept, and the class of the moment. -/
theorem atGuard_fill : (atGuard clock banks s).fill =
    (let w := currentWindow (atLoad clock banks s).tables.siteSet (atLoad clock banks s).tables.tariff (clock.map ClockState.time)
     { clock := clock, tariff := windowClass w, window := w }) := by
  have hfill : (atLoad clock banks s).fill = { clock := clock } := atLoad_read (p := .fill) _ _ _ (by decide)
  have hzoned : (atGuard clock banks s).fill = (atLoad clock banks s).tariffStart.fill :=
    (guarded_read (p := .fill) (by decide) _).trans (frostStart_read (part := .fill) (by decide) _ _)
  rw [hzoned]
  simp only [State.tariffStart, State.updFill, State.clockTime, hfill]

theorem atGuard_fresh : FreshFill (atGuard clock banks s).fill := ⟨_, _, _, atGuard_fill clock banks s⟩

theorem atGuard_frost : FrostReset (atGuard clock banks s) ((atGuard clock banks s).holds .frost) (atGuard clock banks s).frost := by
  have hfrost : (atGuard clock banks s).frost = (zoned (atLoad clock banks s)).frost := guarded_read (p := .frost) (by decide) _
  have hfill : (atGuard clock banks s).fill = (atLoad clock banks s).tariffStart.fill :=
    (guarded_read (p := .fill) (by decide) _).trans (frostStart_read (part := .fill) (by decide) _ _)
  have htab : (atGuard clock banks s).tables = (atLoad clock banks s).tariffStart.tables :=
    (atGuard_tables clock banks s).trans (tariffStart_read (part := .tables) (by decide) _).symm
  have hsupply : (atGuard clock banks s).supply = (atLoad clock banks s).tariffStart.supply :=
    (atGuard_read (p := .supply) _ _ _ (by decide)).trans (tariffStart_read (part := .supply) (by decide) _).symm
  have hbanks : (atGuard clock banks s).banks = (atLoad clock banks s).tariffStart.banks :=
    (atGuard_read (p := .banks) _ _ _ (by decide)).trans (tariffStart_read (part := .banks) (by decide) _).symm
  have hpoints : (atLoad clock banks s).tariffStart.points = List.replicate 64 {} :=
    (tariffStart_read (part := .points) (by decide) _).trans (atLoad_read (p := .points) _ _ _ (by decide))
  have h := frostStart_outcome hpoints ((atLoad clock banks s).tariffStart.holds .frost)
  have hhold : (atGuard clock banks s).holds .frost = (atLoad clock banks s).tariffStart.holds .frost :=
    holds_congr htab (by rw [hbanks])
  obtain ⟨h1, h2, h3, h4, h5, h6⟩ := h
  have hrecords : (atGuard clock banks s).zoneRecords = (atLoad clock banks s).tariffStart.zoneRecords := zoneRecords_congr htab
  rw [hhold, hfrost]
  exact ⟨by rw [hrecords]; exact h1, by rw [hrecords]; exact h2, by rw [hrecords]; exact h3, by rw [hfill]; exact h4, h5,
    by rw [hsupply, htab, hfill]; exact h6⟩

theorem atFill_line : (atFill clock banks s).line = (atGuard clock banks s).line := by
  obtain ⟨n, st, -, -, -, hl, -⟩ := fillStart_outcome (atGuard_fresh clock banks s) (atGuard_time clock banks s)
  exact hl

theorem atFill_allocates : Allocating (atFill clock banks s).allocate ∧ HeaterTurn (atFill clock banks s) (atFill clock banks s).allocate := by
  have hfrost : (atFill clock banks s).frost = (atGuard clock banks s).frost := atFill_read (p := .frost) _ _ _ (by decide)
  have hrecords : (atFill clock banks s).zoneRecords = (atGuard clock banks s).zoneRecords :=
    zoneRecords_congr (atFill_read (p := .tables) _ _ _ (by decide))
  obtain ⟨state, cause, flag, -, -, hl⟩ := atGuard_guard clock banks s
  refine allocate_start ?_ ?_ ?_
  · rw [hfrost, hrecords]; exact (atGuard_frost clock banks s).zones
  · rw [atFill_line, hl, urgentFrom, zoned_line, atLoad_line]
  · rw [atFill_line, hl, urgentFrom, zoned_line, atLoad_line]

theorem atEnd_frost : (atEnd clock banks s).frost = (atFill clock banks s).allocate.frost := by
  show Part.frost.read (atEnd clock banks s) = _
  rw [atEnd_stages, setNotices_read (by decide), telemetryStart_read (by decide)]
  rfl

theorem atEnd_line : (atEnd clock banks s).line = (atFill clock banks s).allocate.line := by
  show Part.line.read (atEnd clock banks s) = _
  rw [atEnd_stages, setNotices_read (by decide), telemetryStart_read (by decide)]
  rfl

/-- Every bank holds at the end of a start as it did before the fill. -/
theorem atEnd_holds (b : Bank) : (atEnd clock banks s).holds b = (atGuard clock banks s).holds b := by
  have htab : (atEnd clock banks s).tables = (atGuard clock banks s).tables := atEnd_read_guard (p := .tables) _ _ _ (by decide)
  have hbanks : (atEnd clock banks s).banks = (atFill clock banks s).banks := atEnd_read (p := .banks) _ _ _ (by decide)
  obtain ⟨n, st, -, -, -, -, hlog⟩ := fillStart_outcome (atGuard_fresh clock banks s) (atGuard_time clock banks s)
  rcases hlog with ⟨hb, -⟩ | ⟨-, hb, -⟩
  · exact holds_congr htab (congrArg (·.get b) (hbanks.trans hb))
  · exact shortfall_holds htab (hbanks.trans hb) b

/-- Of the flags and the rest of the Frost Unit the first allocation changes the zones alone. -/
theorem atEnd_frost_others : ∃ zs, (atEnd clock banks s).frost = { (atGuard clock banks s).frost with zones := zs } ∧
    zs.length = (atGuard clock banks s).frost.zones.length := by
  have hfrost : (atFill clock banks s).frost = (atGuard clock banks s).frost := atFill_read (p := .frost) _ _ _ (by decide)
  obtain ⟨zs, hz, hn⟩ := (atFill_allocates clock banks s).2.frost
  rw [hfrost] at hz hn
  exact ⟨zs, (atEnd_frost clock banks s).trans hz, hn⟩

end

end Sys2Proof.Laws
end

section
/-! PROOFS. What every start leaves (R164, R174), and the two resets. -/

namespace Sys2Proof.Laws

open Sys2Proof.Machine

section

variable (clock : Option ClockState) (banks : PerBank (Option FaultRecord)) (s : State)

/-- The state that a start leaves. -/
def atStart : State := (atEnd clock banks s).settle

theorem atStart_read {p : Part} (h : p ∉ [Part.nv, .line, .out, .engine]) : p.read (atStart clock banks s) = p.read (atEnd clock banks s) :=
  settle_read h _

theorem atStart_tables : (atStart clock banks s).tables = (atLoad clock banks s).tables :=
  (atStart_read (p := .tables) _ _ _ (by decide)).trans (atEnd_tables clock banks s)

theorem atStart_guard : (atStart clock banks s).guard = (atGuard clock banks s).guard :=
  (atStart_read (p := .guard) _ _ _ (by decide)).trans (atEnd_read_guard (p := .guard) _ _ _ (by decide))

theorem atStart_supply : (atStart clock banks s).supply = supplyStart s.inputs :=
  (atStart_read (p := .supply) _ _ _ (by decide)).trans (atEnd_supply clock banks s)

theorem atStart_fill : (atStart clock banks s).fill = (atFill clock banks s).fill :=
  (atStart_read (p := .fill) _ _ _ (by decide)).trans (atEnd_read (p := .fill) _ _ _ (by decide))

theorem atStart_frost : (atStart clock banks s).frost = (atEnd clock banks s).frost := atStart_read (p := .frost) _ _ _ (by decide)

theorem atStart_banks : (atStart clock banks s).banks = (atFill clock banks s).banks :=
  (atStart_read (p := .banks) _ _ _ (by decide)).trans (atEnd_read (p := .banks) _ _ _ (by decide))

theorem atStart_holds (b : Bank) : (atStart clock banks s).holds b = (atGuard clock banks s).holds b :=
  (holds_congr (atStart_read (p := .tables) _ _ _ (by decide)) (congrArg (·.get b) (atStart_read (p := .banks) _ _ _ (by decide)))).trans
    (atEnd_holds clock banks s b)

theorem atStart_zoneRecords : (atStart clock banks s).zoneRecords = (atGuard clock banks s).zoneRecords :=
  zoneRecords_congr ((atStart_tables clock banks s).trans (atGuard_tables clock banks s).symm)

/-! ### The fill -/

/-- The fill's block of a start, with its window and its clock. -/
theorem atStart_fill_eq : ∃ n st, (atStart clock banks s).fill = fillFrom (atGuard clock banks s).startInhibit st n (atGuard clock banks s) ∧
    ((atGuard clock banks s).startInhibit ≠ [] → st = .held) ∧
    ((atGuard clock banks s).startInhibit = [] → st = .idle ∨ (st = .satisfied ∧ (atGuard clock banks s).fill.inCheap = true)) := by
  obtain ⟨n, st, hf, hheld, hfree, -, -⟩ := fillStart_outcome (atGuard_fresh clock banks s) (atGuard_time clock banks s)
  exact ⟨n, st, (atStart_fill clock banks s).trans hf, hheld, hfree⟩

theorem atStart_clock : (atStart clock banks s).fill.clock = clock ∧ (atStart clock banks s).fill.window = (atGuard clock banks s).fill.window ∧
    (atStart clock banks s).fill.tariff = (atGuard clock banks s).fill.tariff := by
  obtain ⟨n, st, hf, -, -⟩ := atStart_fill_eq clock banks s
  rw [hf]
  exact ⟨by rw [fillFrom, atGuard_fill], rfl, rfl⟩

theorem atStart_fillStarted : FillStarted (atStart clock banks s) := by
  obtain ⟨n, st, hf, hheld, hfree⟩ := atStart_fill_eq clock banks s
  obtain ⟨hclock, hwindow, htariff⟩ := atStart_clock clock banks s
  have htab : (atGuard clock banks s).tables = (atStart clock banks s).tables :=
    (atGuard_tables clock banks s).trans (atStart_tables clock banks s).symm
  have hnow : (atGuard clock banks s).now = 0 := by simp [State.now, atGuard_time]
  have hflags : (atStart clock banks s).frost.flags = (atGuard clock banks s).frost.flags := by
    obtain ⟨zs, hz, -⟩ := atEnd_frost_others clock banks s
    rw [atStart_frost, hz]
  have hsupply : (atStart clock banks s).supply = (atGuard clock banks s).supply :=
    (atStart_read (p := .supply) _ _ _ (by decide)).trans (atEnd_read_guard (p := .supply) _ _ _ (by decide))
  have hinhibit : (atStart clock banks s).fill.inhibit = (atGuard clock banks s).startInhibit := by rw [hf]; rfl
  have hstate : (atStart clock banks s).fill.state = st := by rw [hf]; rfl
  refine ⟨⟨by rw [hinhibit]; exact startInhibit_nodup _, fun r => ?_⟩, fun h => ?_, fun h => ?_, ⟨?_, ?_⟩, ?_, ?_, ?_, ?_⟩
  · rw [hinhibit, mem_startInhibit, atStart_guard, hflags, hsupply]
    simp only [atStart_holds]
  · rw [hstate]; exact hheld (hinhibit ▸ h)
  · rw [hstate, hwindow]
    exact (hfree (hinhibit ▸ h)).imp id fun ⟨h, hc⟩ => ⟨h, Option.isSome_iff_ne_none.1 hc⟩
  · rw [hwindow, atStart_tables, State.clockTime, hclock, atGuard_fill]
  · rw [htariff, hwindow, atGuard_fill]
  · rw [hf]
    refine ⟨rfl, rfl, ?_⟩
    cases hfill : (atStart clock banks s).tables.fillSet <;>
      simp only [fillFrom, State.renewalTimer, hnow, Nat.zero_add, htab, hfill]
  · rw [hf]; exact ⟨rfl, rfl, rfl, rfl, rfl, rfl⟩
  · rw [hf, ← htab]; exact ⟨rfl, rfl, rfl, rfl⟩
  · rw [hf, ← htab]; rfl

/-! ### The guard, the frost zones and the line -/

theorem atStart_guardStarted : GuardStarted s (atStart clock banks s) := by
  obtain ⟨state, cause, flag, ⟨hno, htrip, hmarker, hnone, hset⟩, hg, -⟩ := atGuard_guard clock banks s
  have hguard := (atStart_guard clock banks s).trans hg
  have hflags : (atStart clock banks s).frost.flags = (zoned (atLoad clock banks s)).frost.flags := by
    obtain ⟨zs, hz, -⟩ := atEnd_frost_others clock banks s
    rw [atStart_frost, hz]
    show (atGuard clock banks s).frost.flags = _
    exact congrArg FrostBlock.flags (guarded_read (p := .frost) (by decide) (zoned (atLoad clock banks s)))
  have hnow : (zoned (atLoad clock banks s)).now = 0 := by simp [State.now, zoned_time]
  refine ⟨?_, fun h => ?_, fun h i n e he => ?_, fun h he => ?_, ?_, ?_⟩
  · rw [hguard]
    exact beq_iff_eq
  · rw [atStart_tables] at h
    rw [hguard]; exact hno h
  · rw [atStart_tables] at h
    rw [hguard]
    rw [he] at htrip hmarker
    cases e with
    | trip c w q p ck up => exact htrip h c w q p ck up rfl
    | marker w ck up => exact hmarker h w ck up rfl
  · rw [atStart_tables] at h
    rw [hguard]; exact hnone h (by rw [he]; rfl)
  · rw [hguard, hflags, atStart_tables, ← zoned_tables]
    simp only [guardFrom, zoned_guard, and_self]
  · rw [hguard, atStart_tables, ← zoned_tables]
    rcases hset with rfl | rfl <;> cases hgs : (zoned (atLoad clock banks s)).tables.guardSet <;>
      simp only [guardFrom, hgs, hnow, zoned_guard, Nat.zero_add]

theorem atStart_line : (atStart clock banks s).line = (atEnd clock banks s).line := by
  refine settle_line _ (.inr ?_)
  obtain ⟨state, cause, flag, -, -, hl⟩ := atGuard_guard clock banks s
  obtain ⟨cs, x, hturn⟩ := (atFill_allocates clock banks s).2.line
  rw [atEnd_line, hturn, atFill_line, hl, urgentFrom, zoned_line, atLoad_line]
  exact ⟨rfl, rfl⟩

theorem atStart_line_eq : (atStart clock banks s).line = {
    rate := siteRate (atStart clock banks s).tables.siteSet
    lsbFirst := siteLsbFirst (atStart clock banks s).tables.siteSet
    live := List.replicate 24 {}
    commands := (atStart clock banks s).line.commands
    urgent := if (atStart clock banks s).guard.state = .tripped then
      (atStart clock banks s).tables.guardSet.map fun g => ⟨g.inletAddress, g.inletItem, false⟩ else none } := by
  obtain ⟨state, cause, flag, -, hg, hl⟩ := atGuard_guard clock banks s
  obtain ⟨cs, x, hturn⟩ := (atFill_allocates clock banks s).2.line
  have hidle := (atFill_allocates clock banks s).1.idle
  have hstate : (atStart clock banks s).guard.state = state := by rw [atStart_guard, hg]; rfl
  rw [hturn] at hidle
  obtain rfl : x = none := hidle
  have hline : (atStart clock banks s).line = { urgentFrom state (zoned (atLoad clock banks s)) with commands := cs, inFlight := none } := by
    rw [atStart_line, atEnd_line, hturn, atFill_line, hl]
  rw [hstate, hline, urgentFrom, zoned_line, atLoad_line, zoned_tables, atStart_tables]

theorem atStart_frostStarted : FrostStarted (atStart clock banks s) := by
  obtain ⟨zs, hz, hn⟩ := atEnd_frost_others clock banks s
  obtain ⟨hzones, hcommands, -⟩ := (atFill_allocates clock banks s).1
  obtain ⟨hreset, hflags, hwatch, htariff, hhold, hbudget⟩ := atGuard_frost clock banks s
  have hfrost := (atStart_frost clock banks s).trans hz
  have hsupply : (atStart clock banks s).supply = (atGuard clock banks s).supply :=
    (atStart_read (p := .supply) _ _ _ (by decide)).trans (atEnd_read_guard (p := .supply) _ _ _ (by decide))
  have htab : (atStart clock banks s).tables = (atGuard clock banks s).tables :=
    (atStart_tables clock banks s).trans (atGuard_tables clock banks s).symm
  obtain ⟨-, -, hclass⟩ := atStart_clock clock banks s
  refine ⟨⟨?_, fun z h => ?_⟩, ?_, ?_, ⟨?_, ?_, ?_⟩, fun e he => ?_⟩
  · rw [hfrost, atStart_zoneRecords]
    exact hn.trans (by rw [hreset, List.length_map])
  · rw [atStart_frost, atEnd_frost] at h
    obtain ⟨h1, h2, h3, h4, h5⟩ := hzones z h
    exact ⟨h1, h2, h3, h4, h5⟩
  · rw [hfrost, atStart_zoneRecords]; exact hflags
  · rw [hfrost, atStart_zoneRecords]; exact hwatch
  · rw [hfrost, hclass]; exact htariff
  · rw [hfrost, atStart_holds]; exact hhold
  · rw [hfrost, hsupply, htab, hclass]; exact hbudget
  · rw [atStart_line, atEnd_line] at he
    obtain ⟨hm, i, r, z, hr, hzi, hg, hee⟩ := hcommands e he
    have hallocated : (atFill clock banks s).allocate.supply = (atStart clock banks s).supply := by
      rw [hsupply]
      exact (allocate_read (part := .supply) (by decide) _).trans (atFill_read (p := .supply) _ _ _ (by decide))
    have hrecords : (atFill clock banks s).allocate.zoneRecords = (atStart clock banks s).zoneRecords := by
      rw [atStart_zoneRecords]
      exact zoneRecords_congr ((allocate_read (part := .tables) (by decide) _).trans (atFill_read (p := .tables) _ _ _ (by decide)))
    exact ⟨hallocated ▸ hm, i, r, z, hrecords ▸ hr, by rw [atStart_frost, atEnd_frost]; exact hzi, hg, hee⟩

/-! ### The store engine, the reports and the queue -/

theorem atEnd_engine : (atEnd clock banks s).engine = { preErase := startPreErase s.nv.slots } :=
  (atEnd_read_load (p := .engine) _ _ _ (by decide)).trans (loaded_engine _)

theorem atEnd_nv : (atEnd clock banks s).nv = s.nv :=
  (atEnd_read_load (p := .nv) _ _ _ (by decide)).trans (atLoad_read (p := .nv) _ _ _ (by decide))

theorem atEnd_lineSettle : (atEnd clock banks s).lineSettle = atEnd clock banks s := by
  refine lineSettle_waits _ (.inr ?_)
  rw [← atStart_line, atStart_line_eq]
  exact ⟨rfl, rfl⟩

theorem atStart_engine : (atStart clock banks s).engine = (atEnd clock banks s).enginePick.engine ∧
    (atStart clock banks s).nv = (atEnd clock banks s).enginePick.nv := by
  unfold atStart State.settle
  rw [atEnd_lineSettle]
  exact ⟨trunkSettle_read (part := .engine) (by decide) _, trunkSettle_read (part := .nv) (by decide) _⟩

theorem atStart_contents : (atStart clock banks s).telemetry = {
    record := (atStart clock banks s).level.record
    projection := (atStart clock banks s).guard.projection
    contents := (atStart clock banks s).startContents
    periodAt := if (atStart clock banks s).supply.mode = .mains then some (atStart clock banks s).reportPeriod else none } := by
  obtain ⟨e, he⟩ : ∃ e, e = (atFill clock banks s).allocate := ⟨_, rfl⟩
  have hread : ∀ p : Part, p ∉ [Part.nv, .line, .out, .engine, .telemetry, .notices] → p.read (atStart clock banks s) = p.read e := by
    intro p hp
    rw [atStart_read _ _ _ (by simp_all), atEnd_stages, setNotices_read (by simp_all), telemetryStart_read (by simp_all), he]
  have hcontents : (atStart clock banks s).startContents = e.startContents := by
    have hg : (atStart clock banks s).guard = e.guard := hread .guard (by decide)
    have hf : (atStart clock banks s).fill = e.fill := hread .fill (by decide)
    have hz : (atStart clock banks s).frost = e.frost := hread .frost (by decide)
    have hs : (atStart clock banks s).supply = e.supply := hread .supply (by decide)
    simp only [State.startContents, hg, hf, hz, hs]
  have hdemand : e.fill.demand = 0 := by
    have hf : (atStart clock banks s).fill = e.fill := hread .fill (by decide)
    rw [← hf]
    exact (atStart_fillStarted clock banks s).demand.1
  have htelemetry : (atStart clock banks s).telemetry = e.telemetryStart.telemetry := by
    refine (atStart_read (p := .telemetry) _ _ _ (by decide)).trans ?_
    rw [atEnd_stages, ← he]; rfl
  have hfinal : e.telemetryStart.telemetry = {
      record := e.level.record
      projection := e.guard.projection
      contents := e.startContents
      periodAt := if e.supply.mode = .mains then some e.telemetryStart.reportPeriod else none } := by
    show TelemetryBlock.mk .. = _
    rw [hdemand]
    rfl
  have hperiod : e.telemetryStart.reportPeriod = (atStart clock banks s).reportPeriod := by
    have ht : (atStart clock banks s).tables = e.telemetryStart.tables :=
      (hread .tables (by decide)).trans (telemetryStart_read (part := .tables) (by decide) e).symm
    simp only [State.reportPeriod, htelemetry, ht]
  rw [htelemetry, hfinal, hcontents, hperiod]
  have hl : (atStart clock banks s).level = e.level := hread .level (by decide)
  have hg : (atStart clock banks s).guard = e.guard := hread .guard (by decide)
  have hs : (atStart clock banks s).supply = e.supply := hread .supply (by decide)
  rw [hl, hg, hs]

/-- The queue of a start: the STORE bank's FAULT frames of the load, the DEMAND frame of 0, a FAULT frame of the FILL bank where the start
lies in a cheap window, and the STATE report. -/
structure StartQueue (o : Outbound) (report : StateReport) (cheap : Prop) : Prop where
  idle : o.sending = none ∧ o.held = none
  order : ∃ store fill, o.waiting = store ++ .frame (.demand 0 1) :: (fill ++ [.frame (.state report)]) ∧
    (∀ p ∈ store, ∃ r, p = .frame (.fault .store r)) ∧ (∀ p ∈ fill, ∃ r, p = .frame (.fault .fill r)) ∧ (¬ cheap → fill = [])

/-- What the load and the fill have queued so far. -/
theorem atFill_queue : (atFill clock banks s).out.sending = none ∧ (atFill clock banks s).out.held = none ∧
    ∃ store fill, (atFill clock banks s).out.waiting = store ++ .frame (.demand 0 1) :: fill ∧
      (∀ p ∈ store, ∃ r, p = .frame (.fault .store r)) ∧ (∀ p ∈ fill, ∃ r, p = .frame (.fault .fill r)) ∧
      ((atGuard clock banks s).fill.inCheap = false → fill = []) := by
  obtain ⟨hs, hh, hw⟩ : FaultsOnly .store (atGuard clock banks s).out := by
    rw [show (atGuard clock banks s).out = (atLoad clock banks s).out from atGuard_read (p := .out) _ _ _ (by decide)]
    exact loaded_out ⟨rfl, rfl, by intro p hp; simp [resetFrom, State.wiped, State.updFill, State.updBanks] at hp⟩
  have hdemand : (atGuard clock banks s).out.offer (.demand 0 1) = { (atGuard clock banks s).out with
      waiting := (atGuard clock banks s).out.waiting ++ [.frame (.demand 0 1)] } :=
    offer_new hs fun p hp => by obtain ⟨r, rfl⟩ := hw p hp; rfl
  have hquiet : (atFill clock banks s).out = (atGuard clock banks s).out.offer (.demand 0 1) →
      (atFill clock banks s).out.sending = none ∧ (atFill clock banks s).out.held = none ∧
        (atFill clock banks s).out.waiting = (atGuard clock banks s).out.waiting ++ .frame (.demand 0 1) :: [] := by
    intro h; rw [h, hdemand]; exact ⟨hs, hh, rfl⟩
  obtain ⟨n, st, -, -, -, -, ⟨-, ho⟩ | ⟨hcheap, -, ho | ⟨r, ho⟩⟩⟩ := fillStart_outcome (atGuard_fresh clock banks s) (atGuard_time clock banks s)
  · obtain ⟨h1, h2, h3⟩ := hquiet ho
    exact ⟨h1, h2, _, [], h3, hw, by simp, fun _ => rfl⟩
  · obtain ⟨h1, h2, h3⟩ := hquiet ho
    exact ⟨h1, h2, _, [], h3, hw, by simp, fun _ => rfl⟩
  · have hfault : ((atGuard clock banks s).out.offer (.demand 0 1)).offer (.fault .fill r) = { (atGuard clock banks s).out with
        waiting := (atGuard clock banks s).out.waiting ++ [.frame (.demand 0 1)] ++ [.frame (.fault .fill r)] } := by
      rw [hdemand]
      refine offer_new hs fun p hp => ?_
      rcases List.mem_append.1 hp with hp | hp
      · obtain ⟨r', rfl⟩ := hw p hp; rfl
      · rw [List.mem_singleton.1 hp]; rfl
    have hout : (atFill clock banks s).out = _ := ho.trans hfault
    rw [hout]
    exact ⟨hs, hh, _, [.frame (.fault .fill r)], by simp, hw, by simp, fun h => absurd (hcheap.symm.trans h) (by decide)⟩

theorem atEnd_queue : StartQueue (atEnd clock banks s).out ⟨(atStart clock banks s).telemetry.contents, (atStart clock banks s).clockTime, 0⟩
    (cheapWindow (atStart clock banks s).fill.window ≠ none) := by
  obtain ⟨hs, hh, store, fill, hw, hstore, hfill, hcheap⟩ := atFill_queue clock banks s
  obtain ⟨-, hwindow, -⟩ := atStart_clock clock banks s
  obtain ⟨e, he⟩ : ∃ e, e = (atFill clock banks s).allocate := ⟨_, rfl⟩
  have heout : e.out = (atFill clock banks s).out := by rw [he]; exact allocate_read (part := .out) (by decide) _
  have htelemetry : (atStart clock banks s).telemetry = e.telemetryStart.telemetry := by
    refine (atStart_read (p := .telemetry) _ _ _ (by decide)).trans ?_
    rw [atEnd_stages, ← he]; rfl
  have hclock : (atStart clock banks s).clockTime = e.clockTime := by
    refine clockTime_congr ((atStart_read _ _ _ (by decide)).trans ((atEnd_read _ _ _ (by decide)).trans ?_))
    rw [he]; exact (allocate_read (part := .fill) (by decide) _).symm
  have htime : e.timeUs = 0 := by
    rw [he]
    exact (allocate_read (part := .timeUs) (by decide) _).trans ((atFill_read (p := .timeUs) _ _ _ (by decide)).trans (atGuard_time clock banks s))
  have hreport : (atEnd clock banks s).out = e.out.offer (.state ⟨(atStart clock banks s).telemetry.contents, (atStart clock banks s).clockTime, 0⟩) := by
    have hup : e.uptime = 0 := by simp [State.uptime, State.now, htime]
    rw [atEnd_stages, ← he, htelemetry, hclock, ← hup]
    rfl
  rw [hreport, offer_new (by rw [heout, hs]) ?_, heout]
  · refine ⟨⟨hs, hh⟩, store, fill, by rw [hw]; simp, hstore, hfill, fun h => hcheap ?_⟩
    rw [← Bool.not_eq_true, FillBlock.inCheap, ← hwindow, Option.isSome_iff_ne_none]
    exact h
  · rw [heout, hw]
    intro p hp
    rcases List.mem_append.1 hp with hp | hp
    · obtain ⟨r, rfl⟩ := hstore p hp; rfl
    · rcases List.mem_cons.1 hp with rfl | hp
      · rfl
      · obtain ⟨r, rfl⟩ := hfill p hp; rfl

/-- The modem may take the head of the queue of a start. -/
theorem atStart_places : (atStart clock banks s).out.places = (atEnd clock banks s).out.waiting ∧ (atStart clock banks s).out.held = none := by
  obtain ⟨⟨hs, hh⟩, store, fill, hw, hstore, hfill, -⟩ := atEnd_queue clock banks s
  have hpick : ∀ p : Part, p ∉ [Part.nv, .engine] → p.read (atEnd clock banks s).enginePick = p.read (atEnd clock banks s) :=
    fun p hp => enginePick_read (by simp_all) _
  have hout : (atEnd clock banks s).enginePick.out = (atEnd clock banks s).out := hpick .out (by decide)
  have htrunk : (atEnd clock banks s).enginePick.trunk.restart = none := by
    have h : (atEnd clock banks s).enginePick.trunk = (atLoad clock banks s).trunk :=
      (hpick .trunk (by decide)).trans (atEnd_read_load (p := .trunk) _ _ _ (by decide))
    rw [h, atLoad, loaded_trunk _ rfl]; rfl
  have hready : ∀ p ∈ (atEnd clock banks s).out.waiting, p.ready = true := by
    rw [hw]
    intro p hp
    rcases List.mem_append.1 hp with hp | hp
    · obtain ⟨r, rfl⟩ := hstore p hp; rfl
    · rcases List.mem_cons.1 hp with rfl | hp
      · rfl
      · rcases List.mem_append.1 hp with hp | hp
        · obtain ⟨r, rfl⟩ := hfill p hp; rfl
        · rw [List.mem_singleton.1 hp]; rfl
  unfold atStart State.settle
  rw [atEnd_lineSettle, trunkSettle_unpended htrunk]
  obtain ⟨hplaces, hheld⟩ := startTransmission_places (s := (atEnd clock banks s).enginePick) (by rw [hout, hs]) (by rw [hout]; exact hready)
  exact ⟨by rw [hplaces, hout], by rw [hheld, hout, hh]⟩

/-! ### Every start -/

/-- What every start leaves, whatever clock and banks it keeps. -/
theorem atStart_started : Started s (atStart clock banks s) where
  power := ⟨(atStart_read (p := .powered) _ _ _ (by decide)).trans ((atEnd_read_load (p := .powered) _ _ _ (by decide)).trans
      (atLoad_read (p := .powered) _ _ _ (by decide))), (atStart_read (p := .timeUs) _ _ _ (by decide)).trans (atEnd_time clock banks s)⟩
  kept := by
    refine ⟨(atStart_read (p := .inputs) _ _ _ (by decide)).trans ((atEnd_read_load (p := .inputs) _ _ _ (by decide)).trans
      (atLoad_read (p := .inputs) _ _ _ (by decide))), (atStart_read (p := .pending) _ _ _ (by decide)).trans
      ((atEnd_read_load (p := .pending) _ _ _ (by decide)).trans (atLoad_read (p := .pending) _ _ _ (by decide))), ?_⟩
    obtain ⟨hdue, hnone⟩ := enginePick_start (atEnd_engine clock banks s) (atEnd_time clock banks s)
    rw [(atStart_engine clock banks s).2]
    cases hp : startPreErase s.nv.slots with
    | some x => rw [(hdue x hp).2, atEnd_nv]
    | none => rw [(hnone hp).2, atEnd_nv]
  supply := (atStart_supply clock banks s).trans rfl
  points := (atStart_read (p := .points) _ _ _ (by decide)).trans (atEnd_points clock banks s)
  level := by
    have hlevel : (atStart clock banks s).level = (atGuard clock banks s).level :=
      (atStart_read (p := .level) _ _ _ (by decide)).trans (atEnd_read_guard (p := .level) _ _ _ (by decide))
    rw [hlevel, atStart_tables, ← zoned_tables]
    exact guardStartUp_read (part := .level) (by decide) _
  guard := atStart_guardStarted clock banks s
  fill := atStart_fillStarted clock banks s
  frost := atStart_frostStarted clock banks s
  line := atStart_line_eq clock banks s
  trunk := by
    have htrunk : (atStart clock banks s).trunk = (atLoad clock banks s).trunk :=
      (atStart_read (p := .trunk) _ _ _ (by decide)).trans (atEnd_read_load (p := .trunk) _ _ _ (by decide))
    rw [htrunk, atStart_tables, atLoad, loaded_trunk _ rfl]
    rfl
  due x hx := by
    obtain ⟨hdue, -⟩ := enginePick_start (atEnd_engine clock banks s) (atEnd_time clock banks s)
    obtain ⟨he, hnv⟩ := hdue x ((startPreErase_iff _ _).2 hx)
    rw [(atStart_engine clock banks s).1, (atStart_engine clock banks s).2, he, hnv, atEnd_nv]
    exact ⟨rfl, rfl⟩
  notDue h := by
    obtain ⟨-, hnone⟩ := enginePick_start (atEnd_engine clock banks s) (atEnd_time clock banks s)
    have hno : startPreErase s.nv.slots = none := Option.eq_none_iff_forall_ne_some.2 fun x hx => h x ((startPreErase_iff _ _).1 hx)
    obtain ⟨he, hnv⟩ := hnone hno
    rw [(atStart_engine clock banks s).1, (atStart_engine clock banks s).2, he, hnv, atEnd_nv]
    exact ⟨rfl, rfl⟩
  telemetry := atStart_contents clock banks s
  queue := by
    obtain ⟨-, store, fill, hw, hstore, hfill, hcheap⟩ := atEnd_queue clock banks s
    obtain ⟨hplaces, hheld⟩ := atStart_places clock banks s
    exact ⟨hheld, store, fill, hplaces.trans hw, hstore, hfill, fun h => hcheap (not_not_intro h)⟩

  notices := by
    refine (atStart_read (p := .notices) _ _ _ (by decide)).trans ?_
    rw [atEnd_stages]; rfl

/-! ### The banks -/

/-- The load's faults go to the STORE bank, those of an entry to a cheap window to the FILL bank. -/
theorem atStart_bank_get : (∀ b, b ≠ .fill → (atStart clock banks s).banks.get b = (atLoad clock banks s).banks.get b) ∧
    (cheapWindow (atStart clock banks s).fill.window = none → (atStart clock banks s).banks.get .fill = banks.get .fill) ∧
    ((atStart clock banks s).banks.get .fill = banks.get .fill ∨
      (atStart clock banks s).banks.get .fill = some (arrive .shortfall none (clock.map ClockState.time) 0 (banks.get .fill)).1) := by
  have hload : (atGuard clock banks s).banks = (atLoad clock banks s).banks := atGuard_read (p := .banks) _ _ _ (by decide)
  have hfill : (atLoad clock banks s).banks.get .fill = banks.get .fill := loaded_banks _ (by decide)
  obtain ⟨-, hwindow, -⟩ := atStart_clock clock banks s
  rw [atStart_banks]
  obtain ⟨n, st, -, -, -, -, ⟨hb, -⟩ | ⟨hcheap, hb, -⟩⟩ := fillStart_outcome (atGuard_fresh clock banks s) (atGuard_time clock banks s)
  · have hbanks : (atFill clock banks s).banks = (atLoad clock banks s).banks := hb.trans hload
    rw [hbanks]
    exact ⟨fun _ _ => rfl, fun _ => hfill, .inl hfill⟩
  · have hbanks : (atFill clock banks s).banks = (atGuard clock banks s).banksAfter .shortfall none := hb
    rw [hbanks]
    refine ⟨fun b hb => (banksAfter_get_ne hb).trans (congrArg (·.get b) hload), fun h => ?_, ?_⟩
    · rw [FillBlock.inCheap, ← hwindow, h] at hcheap
      exact absurd hcheap (by decide)
    · unfold State.banksAfter
      split
      · exact .inl ((congrArg (·.get .fill) hload).trans hfill)
      · have hclock : (atGuard clock banks s).clockTime = clock.map ClockState.time := by rw [State.clockTime, atGuard_fill]
        have hup : (atGuard clock banks s).uptime = 0 := by simp [State.uptime, State.now, atGuard_time]
        right
        rw [show FaultCode.shortfall.bank = .fill from rfl, PerBank.get_set, if_pos rfl, hclock, hup, hload, hfill]

/-- The STORE bank of a start. -/
theorem atStart_store : (atStart clock banks s).banks.get .store = TableKind.all.foldl (fun r k =>
    if ((atStart clock banks s).use.get k).inUse = none ∧
      ignores (bankSettings (atStart clock banks s).tables.siteSet .store) .startImageBad = false
    then some (arrive .startImageBad (some (.kind k)) (clock.map ClockState.time) 0 r).1 else r) (banks.get .store) := by
  have huse : (atStart clock banks s).use = (atLoad clock banks s).use :=
    (atStart_read (p := .use) _ _ _ (by decide)).trans (atEnd_read_load (p := .use) _ _ _ (by decide))
  have hclock : (atLoad clock banks s).clockTime = clock.map ClockState.time := clockTime_congr (atLoad_read _ _ _ (by decide))
  have hup : (atLoad clock banks s).uptime = 0 := by
    have h : (atLoad clock banks s).timeUs = 0 := atLoad_read (p := .timeUs) _ _ _ (by decide)
    simp [State.uptime, State.now, h]
  rw [(atStart_bank_get clock banks s).1 _ (by decide), huse, atStart_tables, ← hclock, ← hup]
  exact loaded_store _

end

/-! ### The two resets (R164) -/

/-- Settles O3: a power-on reset is a start with the clock UNSET and every bank empty. -/
theorem powerOnResetForgets : Obligations.PowerOnResetForgets := by
  intro s
  obtain ⟨hclock, -, -⟩ := atStart_clock none (PerBank.all none) s
  obtain ⟨hbanks, hquiet, -⟩ := atStart_bank_get none (PerBank.all none) s
  refine ⟨atStart none (PerBank.all none) s, rfl, atStart_started none _ s, hclock, fun b hb => ?_, atStart_store none _ s⟩
  by_cases hfill : b = .fill
  · subst hfill
    refine (hquiet ?_).trans rfl
    obtain ⟨hw, -⟩ := (atStart_started none (PerBank.all none) s).fill.window
    rw [hw, State.clockTime, hclock]
    rfl
  · rw [hbanks b hfill]
    exact (loaded_banks _ hb).trans (by cases b <;> rfl)

/-- Settles O5: a restart is a start with the clock and the banks as they stand. -/
theorem restartKeepsClockAndBanks : Obligations.RestartKeepsClockAndBanks := by
  intro s hp hr
  obtain ⟨hclock, -, -⟩ := atStart_clock (s.fill.clock.map ClockState.rebased) s.banks s
  obtain ⟨hbanks, hquiet, hshort⟩ := atStart_bank_get (s.fill.clock.map ClockState.rebased) s.banks s
  have hstore := atStart_store (s.fill.clock.map ClockState.rebased) s.banks s
  have htime : (s.fill.clock.map ClockState.rebased).map ClockState.time = s.clockTime := by
    rw [Option.map_map]; rfl
  have hexec : exec .restartPerform s = .next (atStart (s.fill.clock.map ClockState.rebased) s.banks s) := by
    show execRestartPerform s = _
    rw [execRestartPerform, hp, hr]; rfl
  rw [htime] at hshort hstore
  exact ⟨_, hexec, atStart_started _ _ s, hclock, fun b hb hf => (hbanks b hf).trans (loaded_banks _ hb), hstore, hquiet, hshort⟩

end Sys2Proof.Laws
end

section
/-! PROOFS. What an evaluation of the plan, the calendar and the close sequence leave of the fill (R93, R96 to R100, R104). -/

namespace Sys2Proof.Laws

open Sys2Proof.Machine

/-- A fill with the inhibit set, the order and the turnover mark of `b0`. -/
structure Ordered (b0 b : FillBlock) : Prop where
  inhibit : b.inhibit = b0.inhibit
  order : b.order = b0.order
  turnover : b.turnoverDone = b0.turnoverDone

theorem Ordered.trans {a b c : FillBlock} (h : Ordered a b) (h' : Ordered b c) : Ordered a c :=
  ⟨h'.inhibit.trans h.inhibit, h'.order.trans h.order, h'.turnover.trans h.turnover⟩

/-- A fill that a HELD fill becomes: its inhibit set stays, and with HELD its demand and its order (R93, R104). -/
structure HeldKept (b0 b : FillBlock) : Prop where
  inhibit : b.inhibit = b0.inhibit
  held : b0.state = .held → b.state = .held ∧ b.demand = b0.demand ∧ b.order = b0.order

theorem HeldKept.refl (b : FillBlock) : HeldKept b b := ⟨rfl, fun h => ⟨h, rfl, rfl⟩⟩

theorem HeldKept.trans {a b c : FillBlock} (h : HeldKept a b) (h' : HeldKept b c) : HeldKept a c :=
  ⟨h'.inhibit.trans h.inhibit, fun ha => by
    obtain ⟨h1, h2, h3⟩ := h.held ha
    obtain ⟨h4, h5, h6⟩ := h'.held h1
    exact ⟨h4, h5.trans h2, h6.trans h3⟩⟩

/-- With the fill outside HELD only the inhibit set is to be compared. -/
theorem HeldKept.of_inhibit {b0 b : FillBlock} (h : b.inhibit = b0.inhibit) (hs : b0.state ≠ .held) : HeldKept b0 b :=
  ⟨h, fun hh => absurd hh hs⟩

/-! ### Opening, demand and closing (R98 to R101) -/

theorem placeCommand_fill (a i f : Nat) (o : Origin) (t : Nat) (s : State) : (s.placeCommand a i f o t).1.fill = s.fill :=
  placeCommand_read (part := .fill) (by decide) _ _ _ _ _ _

theorem placeOpen_fill (s : State) : ∃ w, s.placeOpen.fill = { s.fill with openWanted := w } := by
  unfold State.placeOpen
  split
  · exact ⟨_, rfl⟩
  · exact ⟨_, by simp only [State.updFill, placeCommand_fill]; rfl⟩

theorem enterOpening_ordered (p : Purpose) (s : State) : Ordered s.fill (s.enterOpening p).fill := by
  obtain ⟨w, hw⟩ := placeOpen_fill ((s.setFill .opening (some p)).updFill fun f => { f with
    closeOwed := true, closePlaced := false, stopWait := none, stopAt := none, hadDemand := false })
  unfold State.enterOpening
  rw [hw]
  exact ⟨rfl, rfl, rfl⟩

theorem setFill_ordered (st : FillState) (p : Option Purpose) (s : State) : Ordered s.fill (s.setFill st p).fill := ⟨rfl, rfl, rfl⟩

theorem windowDecision_ordered (turned : Bool) (s : State) : Ordered s.fill (s.windowDecision turned).fill := by
  unfold State.windowDecision
  dsimp only
  repeat' split
  all_goals first
    | exact setFill_ordered _ _ s
    | exact enterOpening_ordered _ s
    | exact ⟨rfl, rfl, rfl⟩

theorem topUp_ordered (fs : FillSet) (s : State) : Ordered s.fill (s.topUp fs).fill := by
  unfold State.topUp
  split
  · exact Ordered.trans (b := (s.takeTopUp fs).fill) ⟨rfl, rfl, rfl⟩ (enterOpening_ordered _ _)
  · exact ⟨rfl, rfl, rfl⟩

/-- A demand changes the demand with its frame, and nothing else of the fill. -/
theorem setDemand_fill (d : Nat) (s : State) : ∃ tag timer had, (s.setDemand d).fill =
    { s.fill with demand := d, demandTag := tag, renewal := timer, hadDemand := had } := by
  unfold State.setDemand
  split
  · next h => exact ⟨s.fill.demandTag, s.fill.renewal, s.fill.hadDemand, by rw [← h]⟩
  · exact ⟨_, _, _, rfl⟩

theorem enterClosing_inhibit (s : State) : s.enterClosing.fill.inhibit = s.fill.inhibit := by
  obtain ⟨tag, timer, had, h⟩ := setDemand_fill 0 (s.setFill .closing none)
  simp only [State.enterClosing, State.updFill, h]
  rfl

/-! ### The evaluation (R93) -/

/-- What an evaluation leaves of the fill: besides its orders, a FILLING fill with its rise check, and a HELD one with its demand. -/
structure Evaluated (b0 b : FillBlock) : Prop extends Ordered b0 b where
  filling : b0.state = .filling → b.state = .filling ∧ b.rise = b0.rise
  held : b0.state = .held → b.state = .held ∧ b.demand = b0.demand

theorem Evaluated.heldKept {b0 b : FillBlock} (h : Evaluated b0 b) : HeldKept b0 b :=
  ⟨h.inhibit, fun hh => ⟨(h.held hh).1, (h.held hh).2, h.order⟩⟩

theorem Ordered.evaluated {b0 b : FillBlock} (h : Ordered b0 b) (hf : b0.state ≠ .filling) (hh : b0.state ≠ .held) : Evaluated b0 b :=
  ⟨h, fun h => absurd h hf, fun h => absurd h hh⟩

theorem Evaluated.refl (b : FillBlock) : Evaluated b b := ⟨⟨rfl, rfl, rfl⟩, fun h => ⟨h, rfl⟩, fun h => ⟨h, rfl⟩⟩

theorem actOnPlan_evaluated (fs : FillSet) (forced : Bool) (s : State) : Evaluated s.fill (s.actOnPlan fs forced).fill := by
  unfold State.actOnPlan
  split
  case h_1 hs =>
    split
    · exact (windowDecision_ordered _ s).evaluated (by simp [hs]) (by simp [hs])
    · exact (topUp_ordered fs s).evaluated (by simp [hs]) (by simp [hs])
  case h_2 hs =>
    split
    · exact (windowDecision_ordered _ s).evaluated (by simp [hs]) (by simp [hs])
    · exact .refl _
  case h_3 hs =>
    split
    · obtain ⟨w, hw⟩ := placeOpen_fill s
      rw [hw]
      exact Ordered.evaluated ⟨rfl, rfl, rfl⟩ (by simp [hs]) (by simp [hs])
    · exact .refl _
  case h_4 hs =>
    obtain ⟨tag, timer, had, h⟩ := setDemand_fill (if s.guard.state = .armed then s.fill.numbers.k else 0) s
    rw [State.fillingDemand, h]
    exact ⟨⟨rfl, rfl, rfl⟩, fun _ => ⟨hs, rfl⟩, fun hh => absurd (hs.symm.trans hh) (by decide)⟩
  all_goals exact .refl _

theorem evaluatePlan_evaluated (forced : Bool) (s : State) : Evaluated s.fill (s.evaluatePlan forced).fill := by
  cases hf : s.tables.fillSet with
  | none =>
    have h : s.evaluatePlan forced = s.updFill fun f => { f with numbers := { f.numbers with k := 0, cut := false }, planAt := none } := by
      simp only [State.evaluatePlan, hf]
    rw [h]
    exact ⟨⟨rfl, rfl, rfl⟩, fun h => ⟨h, rfl⟩, fun h => ⟨h, rfl⟩⟩
  | some fs =>
    rw [evaluatePlan_some hf]
    have hstart : ∀ u : State, u.fill = (planned fs s).fill → Evaluated s.fill (u.actOnPlan fs forced).fill := by
      intro u hu
      obtain ⟨⟨h1, h2, h3⟩, h4, h5⟩ := actOnPlan_evaluated fs forced u
      rw [hu] at h1 h2 h3 h4 h5
      exact ⟨⟨h1, h2, h3⟩, h4, h5⟩
    split
    · exact hstart _ (fault_read (part := .fill) (by decide) _ _ _)
    · exact hstart _ rfl

/-! ### The calendar and the close sequence (R90, R97 to R100) -/

theorem endWindow_heldKept (force : Bool) (s : State) : HeldKept s.fill (s.endWindow force).fill := by
  have hdemand : ∀ u : State, u.fill.inhibit = s.fill.inhibit → u.fillingDemand.fill.inhibit = s.fill.inhibit := by
    intro u hu
    obtain ⟨tag, timer, had, h⟩ := setDemand_fill (if u.guard.state = .armed then u.fill.numbers.k else 0) u
    rw [State.fillingDemand, h]; exact hu
  unfold State.endWindow
  dsimp only
  split
  case h_6 => exact .refl _
  case h_5 => exact .refl _
  case h_7 => exact .refl _
  all_goals
    next hs =>
    refine .of_inhibit ?_ (by simp [hs])
    repeat' split
    all_goals first
      | exact enterClosing_inhibit s
      | exact hdemand _ rfl
      | rfl

theorem placeClose_fill (s : State) : ∃ owed placed wait aim, s.placeClose.fill =
    { s.fill with closeOwed := owed, closePlaced := placed, stopWait := wait, stopAt := aim } := by
  unfold State.placeClose
  split
  · exact ⟨_, _, _, _, rfl⟩
  · dsimp only
    split
    all_goals exact ⟨_, _, _, _, by simp only [State.updFill, placeCommand_fill]; rfl⟩

/-- The close sequence changes its own marks of the fill, and of the line the command list. -/
theorem closeSequence_fill (s : State) : ∃ owed placed wait aim, s.closeSequence.fill =
    { s.fill with closeOwed := owed, closePlaced := placed, stopWait := wait, stopAt := aim } := by
  have hplace : ∀ u : State, (∃ wait aim, u.fill = { s.fill with stopWait := wait, stopAt := aim }) → ∃ owed placed wait aim,
      u.placeClose.fill = { s.fill with closeOwed := owed, closePlaced := placed, stopWait := wait, stopAt := aim } := by
    rintro u ⟨wait, aim, hu⟩
    obtain ⟨owed, placed, wait', aim', h⟩ := placeClose_fill u
    exact ⟨owed, placed, wait', aim', by rw [h, hu]⟩
  unfold State.closeSequence
  dsimp only
  split
  · exact ⟨_, _, _, _, rfl⟩
  · split
    · exact ⟨_, _, _, _, rfl⟩
    · split
      all_goals
        split
        · exact hplace _ ⟨_, _, rfl⟩
        · exact ⟨_, _, _, _, rfl⟩

/-- An event of the Fill Planner is its own effect and the close sequence. -/
theorem fillEvent_fill (f : State → State) (s : State) : ∃ owed placed wait aim, (State.fillEvent f s).fill =
    { (f s).fill with closeOwed := owed, closePlaced := placed, stopWait := wait, stopAt := aim } := by
  have h : (State.fillEvent f s).fill = (f s).closeSequence.fill := passFill_read (part := .fill) (by decide) _ _
  rw [h]; exact closeSequence_fill _

theorem enterWindow_heldKept (s : State) : HeldKept s.fill s.enterWindow.fill :=
  HeldKept.trans (b := (s.updFill fun f => { f with purpose := if f.purpose = some .topUp then some .window else f.purpose }).fill)
    ⟨rfl, fun hh => ⟨hh, rfl, rfl⟩⟩ (evaluatePlan_evaluated false _).heldKept

end Sys2Proof.Laws
end

section
/-! PROOFS. The owners' acts at a swap (R20, R21, R48, R67, R68, R86). -/

namespace Sys2Proof.Laws

open Sys2Proof.Machine

/-! ### POINTS (R20) -/

/-- The indexes whose record differs between two POINTS tables. -/
def changedPoints (old new : List PointRecord) : List Nat := (List.range 64).filter fun i => old[i]? != new[i]?

theorem mem_changedPoints (old new : List PointRecord) (i : Nat) : i ∈ changedPoints old new ↔ i < 64 ∧ old[i]? ≠ new[i]? := by
  simp [changedPoints]

theorem swapPoints_points (t : List PointRecord) (s : State) (i : Nat) : (s.swapPoints t).points[i]? =
    if i ∈ changedPoints (s.tables.points.getD []) t then (s.points[i]?).map (fun _ => {}) else s.points[i]? := by
  have h : (s.swapPoints t).points = (changedPoints (s.tables.points.getD []) t).foldl (fun acc i => acc.set i {}) s.points :=
    pointNotice_read (part := .points) (by decide) _ _ _
  rw [h]
  exact foldl_set_getElem? (fun _ => ({} : PointState)) _ i _

/-- The changed indexes that were not NONE. -/
def listedPoints (t : List PointRecord) (s : State) : List Nat :=
  (changedPoints (s.tables.points.getD []) t).filter fun i => (s.point i).quality != .none

theorem mem_listedPoints (t : List PointRecord) (s : State) (i : Nat) :
    i ∈ listedPoints t s ↔ i ∈ changedPoints (s.tables.points.getD []) t ∧ (s.point i).quality ≠ .none := by
  simp [listedPoints]

theorem swapPoints_notices (t : List PointRecord) (s : State) : (s.swapPoints t).notices =
    if listedPoints t s = [] then s.notices else s.notices ++ [⟨.level, .points (listedPoints t s) none⟩,
      ⟨.guard, .points (listedPoints t s) none⟩, ⟨.frost, .points (listedPoints t s) none⟩, ⟨.line, .points (listedPoints t s) none⟩] := by
  show (State.pointNotice (listedPoints t s) none _).notices = _
  unfold State.pointNotice
  split <;> rfl

/-! ### STRAPPING (R62, R63, R67) -/

/-- A strapping table whose levels rise. -/
def Rising (bs : List Breakpoint) : Prop := ∀ i x y, bs[i]? = some x → bs[i + 1]? = some y → x.level < y.level

theorem Rising.le {bs : List Breakpoint} (h : Rising bs) {i j : Nat} {x y : Breakpoint} (hij : i ≤ j) (hi : bs[i]? = some x)
    (hj : bs[j]? = some y) : x.level ≤ y.level := by
  induction j, hij using Nat.le_induction generalizing y with
  | base => exact le_of_eq (congrArg Breakpoint.level (Option.some_injective _ (hi.symm.trans hj)))
  | succ j hij ih =>
    obtain ⟨hlen, -⟩ := List.getElem?_eq_some_iff.1 hj
    have hz : bs[j]? = some bs[j] := List.getElem?_eq_getElem (by omega)
    exact Nat.le_of_lt (Nat.lt_of_le_of_lt (ih hz) (h j _ _ hz hj))

/-- How many breakpoints of a rising table lie at or below a level, by the last that does. -/
theorem countP_below {bs : List Breakpoint} (h : Rising bs) {k w : Nat} (hk : k ≤ bs.length)
    (hbelow : ∀ x, 0 < k → bs[k - 1]? = some x → x.level ≤ w) (habove : ∀ y, bs[k]? = some y → w < y.level) :
    bs.countP (fun b => decide (b.level ≤ w)) = k := by
  have hsplit : bs.countP (fun b => decide (b.level ≤ w)) =
      (bs.take k).countP (fun b => decide (b.level ≤ w)) + (bs.drop k).countP (fun b => decide (b.level ≤ w)) := by
    rw [← List.countP_append, List.take_append_drop]
  have htake : (bs.take k).countP (fun b => decide (b.level ≤ w)) = k := by
    rw [List.countP_eq_length.2, List.length_take, Nat.min_eq_left hk]
    intro b hb
    obtain ⟨i, hi⟩ := List.mem_iff_getElem?.1 hb
    rw [List.getElem?_take] at hi
    split at hi
    · next hik =>
      have hlast : bs[k - 1]? = some bs[k - 1] := List.getElem?_eq_getElem (by omega)
      exact decide_eq_true (Nat.le_trans (h.le (by omega) hi hlast) (hbelow _ (by omega) hlast))
    · cases hi
  have hdrop : (bs.drop k).countP (fun b => decide (b.level ≤ w)) = 0 := by
    rw [List.countP_eq_zero]
    intro b hb
    obtain ⟨i, hi⟩ := List.mem_iff_getElem?.1 hb
    rw [List.getElem?_drop] at hi
    obtain ⟨hlen, -⟩ := List.getElem?_eq_some_iff.1 hi
    have hfirst : bs[k]? = some bs[k] := List.getElem?_eq_getElem (by omega)
    have hle := h.le (Nat.le_add_right k i) hfirst hi
    have hlt := habove _ hfirst
    simp only [decide_eq_true_eq]
    omega
  omega

theorem volumeOf_eq {bs : List Breakpoint} {w : Nat} {x y : Breakpoint} (hx : bs[segmentOf bs w]? = some x)
    (hy : bs[segmentOf bs w + 1]? = some y) :
    volumeOf bs w = if w < x.level then x.volume else if y.level ≤ w then y.volume else interpolate x y w := by
  simp only [volumeOf, hx, hy]

/-- Below the first breakpoint (R62). -/
theorem volume_below {bs : List Breakpoint} (h : Rising bs) (hlen : 2 ≤ bs.length) {w : Nat} {first : Breakpoint}
    (hfirst : bs.head? = some first) (hw : w < first.level) : volumeOf bs w = first.volume ∧ segmentOf bs w = 0 := by
  have h0 : bs[0]? = some first := by rw [← List.head?_eq_getElem?]; exact hfirst
  have hcount := countP_below h (k := 0) (w := w) (Nat.zero_le _) (by simp) fun y hy => by
    obtain rfl : first = y := Option.some_injective _ (h0.symm.trans hy); exact hw
  have hseg : segmentOf bs w = 0 := by simp [segmentOf, hcount]
  refine ⟨?_, hseg⟩
  rw [volumeOf_eq (x := first) (y := bs[1]) (by rw [hseg]; exact h0) (by rw [hseg]; exact List.getElem?_eq_getElem (by omega)), if_pos hw]

/-- At or above the last breakpoint (R62, R63). -/
theorem volume_above {bs : List Breakpoint} (h : Rising bs) (hlen : 2 ≤ bs.length) {w : Nat} {last : Breakpoint}
    (hlast : bs.getLast? = some last) (hw : last.level ≤ w) : volumeOf bs w = last.volume ∧ segmentOf bs w = bs.length - 2 := by
  have hend : bs[bs.length - 1]? = some last := by rw [← List.getLast?_eq_getElem?]; exact hlast
  have hcount := countP_below h (k := bs.length) (w := w) (Nat.le_refl _)
    (fun x _ hx => by obtain rfl : last = x := Option.some_injective _ (hend.symm.trans hx); exact hw) (fun y hy => by simp at hy)
  have hseg : segmentOf bs w = bs.length - 2 := by simp only [segmentOf, hcount]; omega
  have hx : bs[bs.length - 2]? = some bs[bs.length - 2] := List.getElem?_eq_getElem (by omega)
  have hy : bs[bs.length - 2 + 1]? = some last := by rw [show bs.length - 2 + 1 = bs.length - 1 by omega]; exact hend
  refine ⟨?_, hseg⟩
  have hless := h _ _ _ hx hy
  rw [volumeOf_eq (by rw [hseg]; exact hx) (by rw [hseg]; exact hy), if_neg (by omega), if_pos hw]

/-- Between two breakpoints (R62). -/
theorem volume_between {bs : List Breakpoint} (h : Rising bs) {w i : Nat} {x y : Breakpoint} (hx : bs[i]? = some x)
    (hy : bs[i + 1]? = some y) (hlow : x.level ≤ w) (hhigh : w < y.level) :
    segmentOf bs w = i ∧ volumeOf bs w = x.volume + (y.volume - x.volume) * (w - x.level) / (y.level - x.level) := by
  obtain ⟨hlen, -⟩ := List.getElem?_eq_some_iff.1 hy
  have hcount := countP_below h (k := i + 1) (w := w) (by omega)
    (fun z _ hz => by obtain rfl : x = z := Option.some_injective _ (hx.symm.trans hz); exact hlow)
    (fun z hz => by obtain rfl : y = z := Option.some_injective _ (hy.symm.trans hz); exact hhigh)
  have hseg : segmentOf bs w = i := by simp only [segmentOf, hcount]; omega
  refine ⟨hseg, ?_⟩
  rw [volumeOf_eq (by rw [hseg]; exact hx) (by rw [hseg]; exact hy), if_neg (by omega), if_neg (by omega), interpolate]

theorem beyondNow_some {s : State} {bs : List Breakpoint} {last : Breakpoint} (hbs : s.tables.strapping = some bs)
    (hlast : bs.getLast? = some last) (w : Nat) : s.beyondNow w = decide (last.level ≤ w) := by
  simp [State.beyondNow, hbs, lastLevel, hlast]

/-- The level's beyond-table condition is judged, and BEYOND_TABLE logged on its entry. -/
theorem judgeBeyond_outcome (s : State) :
    s.judgeBeyond.level = { s.level with beyond := s.beyondNow s.level.record.w } ∧
      s.judgeBeyond.banks = if s.beyondNow s.level.record.w = true ∧ s.level.beyond = false
        then s.banksAfter .beyondTable (some (.kind .strapping)) else s.banks := by
  unfold State.judgeBeyond
  dsimp only
  cases ha : s.beyondNow s.level.record.w <;> cases hb : s.level.beyond
  case true.false =>
    refine ⟨?_, ?_⟩
    · exact (fault_read (part := .level) (by decide) _ _ _).trans rfl
    · exact (fault_banks _ _ _).trans rfl
  all_goals exact ⟨rfl, rfl⟩

/-- A STRAPPING table has entered use, before the beyond-table condition is judged. -/
def strapped (bs : List Breakpoint) (s : State) : State :=
  (s.updTables fun x => { x with strapping := some bs }).updLevel fun l => { l with
    record := { l.record with v := volumeOf bs s.level.record.w, segment := segmentOf bs s.level.record.w } }

theorem swapStrapping_eq (bs : List Breakpoint) (s : State) : s.swapStrapping bs = (strapped bs s).judgeBeyond.levelNotice false false := rfl

theorem swapStrapping_level (bs : List Breakpoint) (s : State) : (s.swapStrapping bs).level = { s.level with
    record := { s.level.record with v := volumeOf bs s.level.record.w, segment := segmentOf bs s.level.record.w }
    beyond := (strapped bs s).beyondNow s.level.record.w } := by
  rw [swapStrapping_eq]
  exact (levelNotice_read (part := .level) (by decide) _ _ _).trans (judgeBeyond_outcome _).1

theorem swapStrapping_banks (bs : List Breakpoint) (s : State) : (s.swapStrapping bs).banks =
    if (s.swapStrapping bs).level.beyond = true ∧ s.level.beyond = false then s.banksAfter .beyondTable (some (.kind .strapping))
    else s.banks := by
  rw [swapStrapping_level, swapStrapping_eq]
  exact (levelNotice_read (part := .banks) (by decide) _ _ _).trans (judgeBeyond_outcome _).2

/-! ### CHANNELS (R48) -/

/-- A channel's transaction in flight is superseded, and no other. -/
theorem swapChannels_inFlight (t : List ChannelRecord) (s : State) (x : Transaction) (hx : s.line.inFlight = some x) :
    (∀ i, x.work = .channel i → (s.swapChannels t).line.inFlight = some { x with superseded := true }) ∧
      ((∀ i, x.work ≠ .channel i) → (s.swapChannels t).line.inFlight = some x) := by
  cases hw : x.work <;> simp [State.swapChannels, State.updLine, State.updTables, hx, hw]

end Sys2Proof.Laws
end

section
/-! PROOFS. The owners' acts at a swap of GUARD_SET (R68, R78, R86), of the planner's tables (R90, R93, R111) and of SITE_SET (R119, R165). -/

namespace Sys2Proof.Laws

open Sys2Proof.Machine

/-! ### GUARD_SET: the level record (R68) -/

/-- A recomputation's level block is that of the fused points, but for the beyond-table condition. -/
theorem recompute_level (g : GuardSet) (sample : Option Nat) (s : State) : ∃ beyond, (s.recompute g sample).level =
    { (s.level.recompute s.tables.strapping g.agreeBand s.now (s.usableA g) (s.usableB g) sample).1 with beyond := beyond } := by
  have hjudged : ∀ (u : State) (l : LevelBlock) (c d : Bool), u.level = l →
      ∃ beyond, (u.judgeBeyond.levelNotice c d).level = { l with beyond := beyond } := by
    rintro u l c d rfl
    exact ⟨_, (levelNotice_read (part := .level) (by decide) _ _ _).trans (judgeBeyond_outcome u).1⟩
  unfold State.recompute
  dsimp only
  refine hjudged _ _ _ _ ?_
  repeat' split
  all_goals first
    | rfl
    | exact fault_read (part := .level) (by decide) _ _ _

/-- With no entry to append, an empty ring and an unknown rate stay so. -/
theorem recompute_no_sample {l : LevelBlock} (hring : l.ring = []) (hrate : l.record.rate = none) (st : Option (List Breakpoint))
    (band now : Nat) (a b : Option Nat) :
    (l.recompute st band now a b none).1.ring = [] ∧ (l.recompute st band now a b none).1.record.rate = none := by
  simp only [LevelBlock.recompute, hring, hrate, ite_self, and_self]

/-- The ring and the rate are emptied, as at a GUARD_SET that names other points. -/
def unringed (s : State) : State := s.updLevel fun l => { l with ring := [], record := { l.record with rate := none } }

theorem recompute_unringed (g : GuardSet) (s : State) :
    ((unringed s).recompute g none).level.ring = [] ∧ ((unringed s).recompute g none).level.record.rate = none ∧
      ((unringed s).recompute g none).level.record.w = (s.recompute g none).level.record.w ∧
      ((unringed s).recompute g none).level.record.quality = (s.recompute g none).level.record.quality := by
  obtain ⟨b, hb⟩ := recompute_level g none (unringed s)
  obtain ⟨b', hb'⟩ := recompute_level g none s
  rw [hb, hb']
  obtain ⟨hring, hrate⟩ := recompute_no_sample (l := (unringed s).level) rfl rfl (unringed s).tables.strapping g.agreeBand (unringed s).now
    ((unringed s).usableA g) ((unringed s).usableB g)
  exact ⟨hring, hrate, rfl, rfl⟩

/-- What the Level Unit does at a GUARD_SET, by what it changes (R68). -/
theorem levelOnGuardSet_same {o g : GuardSet} (ha : o.pointA = g.pointA) (hb : o.pointB = g.pointB) (s : State) :
    s.levelOnGuardSet (some o) g = if o.agreeBand = g.agreeBand then s else s.recompute g none := by
  simp [State.levelOnGuardSet, ha, hb]

theorem levelOnGuardSet_other {old : Option GuardSet} {g : GuardSet}
    (h : ∀ o, old = some o → o.pointA ≠ g.pointA ∨ o.pointB ≠ g.pointB) (s : State) :
    s.levelOnGuardSet old g = (unringed s).recompute g none := by
  have hpoints : (old.any fun o => o.pointA == g.pointA && o.pointB == g.pointB) = false := by
    rw [Option.any_eq_false_iff_get]
    intro ho
    rcases h _ (Option.some_get ho).symm with hne | hne <;> simp [hne]
  simp [State.levelOnGuardSet, hpoints, unringed]

/-! ### GUARD_SET: the guard (R78, R86) -/

theorem guardOnGuardSet_none {old : Option GuardSet} {g : GuardSet} {s : State} (h : s.level.record.lostSince = none) :
    s.guardOnGuardSet old g = s := by
  simp [State.guardOnGuardSet, h]

/-- A hold that is still to come is aimed again by the new table, where it runs or the table is the first (R78, R86). -/
theorem guardOnGuardSet_aim {old : Option GuardSet} {g : GuardSet} {s : State} {since : Nat} (h : s.level.record.lostSince = some since)
    (hlater : s.now < since + g.levelHold * 1000) : s.guardOnGuardSet old g = s.updGuard fun b => { b with
      holdAt := match old, b.holdAt with
        | some o, some due => some (if o.levelHold = g.levelHold then due else since + g.levelHold * 1000)
        | some _, none => none
        | none, _ => some (since + g.levelHold * 1000) } := by
  have harm : s.armHold g since = s.updGuard fun b => { b with holdAt := some (since + g.levelHold * 1000) } := by
    simp only [State.armHold]
    exact if_neg (by omega)
  have hkeep : ∀ x, s.guard.holdAt = x → s = s.updGuard fun b => { b with holdAt := x } := by
    rintro x rfl; rfl
  unfold State.guardOnGuardSet
  simp only [h]
  rcases old with _ | o
  · simp [harm]
  · cases hd : s.guard.holdAt with
    | none => simpa [State.updGuard, hd] using hkeep none hd
    | some due =>
      by_cases ho : o.levelHold = g.levelHold
      · simpa [State.updGuard, hd, ho] using hkeep (some due) hd
      · simp [State.updGuard, hd, ho, harm]

/-- A trip asks the store for its record, and opens or ends no load. -/
theorem trip_load (cause : TripCause) (lr : LevelRecord) (s : State) : (s.trip cause lr).engine.load = s.engine.load := by
  have htell : ∀ u : State, u.tellGuard.engine = u.engine := fun u => tellGuard_read (part := .engine) (by decide) u
  have hfault : ∀ (c : FaultCode) (x : Option Subject) (u : State), (u.fault c x).engine = u.engine :=
    fun c x u => fault_read (part := .engine) (by decide) c x u
  have hask : ∀ (e : TripEntry) (u : State), (u.askTripWork e).engine.load = u.engine.load := fun _ _ => rfl
  have hplace : ∀ u : State, (u.placeUrgent.startWatch).engine = u.engine := fun u =>
    (startWatch_read (part := .engine) (by decide) _).trans (placeUrgent_read (part := .engine) (by decide) _)
  have hzero : ∀ u : State, u.guardZero.engine = u.engine := fun u => guardZero_read (part := .engine) (by decide) u
  have hoffer : ∀ (c : Content) (u : State), (u.offer c).engine = u.engine := fun c u => offer_read (part := .engine) (by decide) c u
  unfold State.trip
  dsimp only
  rw [htell]
  split
  all_goals simp only [hfault, updTelemetry_engine, hoffer, hask, hplace, send_engine, hzero, updGuard_engine]

theorem guardOnGuardSet_load (old : Option GuardSet) (g : GuardSet) (s : State) : (s.guardOnGuardSet old g).engine.load = s.engine.load := by
  have hcondition : ∀ (c : TripCause) (lr : LevelRecord) (u : State), (u.tripCondition c lr).engine.load = u.engine.load := by
    intro c lr u
    unfold State.tripCondition
    split <;> first | rfl | exact trip_load c lr u
  unfold State.guardOnGuardSet
  split
  · rfl
  · split
    · unfold State.armHold State.levelHoldEnds
      dsimp only
      split
      · exact hcondition _ _ _
      · rfl
    · rfl

theorem closeSequence_urgent (s : State) : s.closeSequence.line.urgent = s.line.urgent := by
  have hcommand : ∀ (a i f : Nat) (u : State), (u.placeCommand a i f .fill 0).1.line.urgent = u.line.urgent := by
    intro a i f u
    obtain ⟨cs, x, h⟩ := placeCommand_line a i f .fill 0 u
    rw [h]
  have hplace : ∀ u : State, u.placeClose.line.urgent = u.line.urgent := by
    intro u
    unfold State.placeClose
    dsimp only
    repeat' split
    · rfl
    all_goals exact hcommand _ _ _ u
  unfold State.closeSequence
  dsimp only
  repeat' split
  all_goals first
    | rfl
    | exact hplace _

/-- The level block and the guard of a GUARD_SET swap are those that the two blocks make of it; the close sequence touches neither, nor
the urgent slot, nor the engine. -/
theorem swapGuardSet_parts (g : GuardSet) (s : State) :
    (∀ p, p ∉ [Part.fill, .line, .notices] → p.read (s.swapGuardSet g) =
      p.read (State.guardOnGuardSet s.tables.guardSet g (State.levelOnGuardSet s.tables.guardSet g
        { s with tables := s.tables.put (.guardSet g) }))) ∧
      (s.swapGuardSet g).line.urgent = (State.guardOnGuardSet s.tables.guardSet g (State.levelOnGuardSet s.tables.guardSet g
        { s with tables := s.tables.put (.guardSet g) })).line.urgent := by
  refine ⟨fun p hp => fillEvent_read hp (fun u => u) _ rfl, ?_⟩
  refine (congrArg LineBlock.urgent (passFill_read (part := .line) (by decide) _ _)).trans ?_
  exact closeSequence_urgent _

/-! ### The planner's tables (R90, R93, R111) -/

/-- The window that the calendar gives now. -/
def windowNow (s : State) : Option TariffWindow := currentWindow s.tables.siteSet s.tables.tariff s.clockTime

/-- The class and the window of the moment are set, and a change is announced (R90). -/
def reclassed (s : State) : State :=
  if windowNow s != s.fill.window || windowClass (windowNow s) != s.fill.tariff then
    (s.updFill fun f => { f with tariff := windowClass (windowNow s), window := windowNow s }).broadcast [.frost, .telemetry]
      (.tariff (windowClass (windowNow s)))
  else s.updFill fun f => { f with tariff := windowClass (windowNow s), window := windowNow s }

theorem reclassed_fill (s : State) :
    (reclassed s).fill = { s.fill with tariff := windowClass (windowNow s), window := windowNow s } := by
  unfold reclassed
  split <;> rfl

/-- A cheap window that was entered before ends, and one entered now begins (R90). -/
theorem recomputeTariff_eq (s : State) : s.recomputeTariff =
    if cheapWindow s.fill.window = cheapWindow (windowNow s) then reclassed s
    else if (cheapWindow (windowNow s)).isSome then
      (if (cheapWindow s.fill.window).isSome then (reclassed s).endWindow false else reclassed s).enterWindow
    else if (cheapWindow s.fill.window).isSome then (reclassed s).endWindow false else reclassed s := rfl

/-- A new tariff class leaves a HELD fill and every inhibit set (R90, R93). -/
theorem recomputeTariff_heldKept (s : State) : HeldKept s.fill s.recomputeTariff.fill := by
  have hclass : HeldKept s.fill (reclassed s).fill := by
    rw [reclassed_fill]; exact ⟨rfl, fun h => ⟨h, rfl, rfl⟩⟩
  have hend := hclass.trans (endWindow_heldKept false (reclassed s))
  rw [recomputeTariff_eq]
  repeat' split
  · exact hclass
  · exact hend.trans (enterWindow_heldKept _)
  · exact hclass.trans (enterWindow_heldKept _)
  · exact hend
  · exact hclass

/-- The class and the window that the calendar gives (R90). -/
theorem recomputeTariff_window (s : State) : s.recomputeTariff.fill.window = windowNow s ∧
    s.recomputeTariff.fill.tariff = windowClass (windowNow s) ∧ s.recomputeTariff.fill.station = s.fill.station := by
  have hclass : Times s.fill.clock (windowClass (windowNow s)) (windowNow s) s.fill.station (Part.fill.read (reclassed s)) := by
    show Times _ _ _ _ (reclassed s).fill
    rw [reclassed_fill]; exact ⟨rfl, rfl, rfl, rfl⟩
  have hend := endWindow_times false _ hclass
  have henter : ∀ {c t w x} (u : State), Times c t w x (Part.fill.read u) → Times c t w x (Part.fill.read u.enterWindow) :=
    fun u hu => evaluatePlan_times false _ (updFill_times _ (fun _ hb => hb) u hu)
  have h : Times s.fill.clock (windowClass (windowNow s)) (windowNow s) s.fill.station (Part.fill.read s.recomputeTariff) := by
    rw [recomputeTariff_eq]
    repeat' split
    · exact hclass
    · exact henter _ hend
    · exact henter _ hclass
    · exact hend
    · exact hclass
  obtain ⟨-, ht, hw, hx⟩ := h
  exact ⟨hw, ht, hx⟩

/-! ### SITE_SET (R119, R165) -/

theorem allocate_turn_frost (s : State) : ∃ zs, s.allocate.frost = { s.frost with zones := zs } := by
  have hturns : ∀ (u : State) (rs : List ZoneRecord) (i : Nat), HeaterTurn u (overZones State.placeHeater i rs u) := fun u rs i =>
    overZones_induct (fun v => HeaterTurn u v) _ rs i u (fun k r v _ hv => hv.trans (placeHeater_turn _ _ _)) (.refl u)
  obtain ⟨u, hu⟩ : ∃ u, u = s.updFrost fun b => { b with zones := setGranted s.grantedZones 0 b.zones } := ⟨_, rfl⟩
  obtain ⟨⟨zs, hz, -⟩, -, -⟩ := hturns u u.zoneRecords 0
  refine ⟨zs.map (ZoneState.defer (decide ((overZones State.placeHeater 0 u.zoneRecords u).supply.mode = .mains))
    (overZones State.placeHeater 0 u.zoneRecords u).now), ?_⟩
  have hall : s.allocate.frost = { (overZones State.placeHeater 0 u.zoneRecords u).frost with
      zones := (overZones State.placeHeater 0 u.zoneRecords u).frost.zones.map
        (ZoneState.defer (decide ((overZones State.placeHeater 0 u.zoneRecords u).supply.mode = .mains))
          (overZones State.placeHeater 0 u.zoneRecords u).now) } := by rw [hu]; rfl
  rw [hall, hz, hu]
  rfl

/-- The rest of an event of the Frost Unit: flags and watch as they stand now, and of the zones what an allocation may change. -/
theorem frostSettle_frost (before : State) (calls : Bool) (s : State) : ∃ zs, (State.frostSettle before calls s).frost =
    { s.frost with flags := s.kindFlags, watch := s.watchNow, zones := zs } := by
  have hflags : s.frostFlags.frost = { s.frost with flags := s.kindFlags, watch := s.watchNow } := by
    unfold State.frostFlags
    dsimp only
    repeat' split
    all_goals rfl
  have hpass : ∀ b u : State, (State.passFrost b u).frost = u.frost := fun b u => passFrost_read (part := .frost) (by decide) b u
  unfold State.frostSettle
  dsimp only
  rw [hpass]
  split
  · obtain ⟨zs, hz⟩ := allocate_turn_frost s.frostFlags
    exact ⟨zs, by rw [hz, hflags]⟩
  · exact ⟨s.frost.zones, by rw [hflags]⟩

end Sys2Proof.Laws
end

section
/-! PROOFS. The owners' acts at a swap: ZONES (R116, R121, R128), and all ten kinds together (R170). -/

namespace Sys2Proof.Laws

open Sys2Proof.Machine

/-! ### ZONES: the new zones are judged (R115, R116, R128) -/

/-- A zone of a new ZONES table before it is judged: its heater is what its feedback tells. -/
def freshZone (s : State) (r : ZoneRecord) : ZoneState :=
  { heater := match s.zoneFeedback r with | some v => heaterOf v | none => .off }

/-- A zone of a new ZONES table once it is judged by its probe. -/
def judgedZone (s : State) (r : ZoneRecord) : ZoneState := r.judge s.frost.bankHold (s.zoneTemp r) (freshZone s r)

theorem judge_heater (r : ZoneRecord) (hold : Bool) (t : Option Int) (z : ZoneState) :
    (r.judge hold t z).heater = z.heater ∧ (r.judge hold t z).held = z.held ∧ (r.judge hold t z).granted = z.granted := by
  cases t <;> exact ⟨rfl, rfl, rfl⟩

/-- The requests and flags of a new zone (R115, R116): what stands at a table's entry stands until its probe shows otherwise. -/
theorem judgedZone_none {s : State} {r : ZoneRecord} (h : s.zoneTemp r = none) :
    (judgedZone s r).probeRequest = true ∧ (judgedZone s r).request = true ∧ (judgedZone s r).frozen = true ∧
      (judgedZone s r).probeLost = true := by
  simp [judgedZone, h, ZoneRecord.judge]

theorem judgedZone_some {s : State} {r : ZoneRecord} {x : Int} (h : s.zoneTemp r = some x) :
    (judgedZone s r).probeLost = false ∧ (judgedZone s r).probeRequest = decide (x ≤ r.onTemp ∨ x < r.offTemp) ∧
      (judgedZone s r).request = (s.frost.bankHold || (judgedZone s r).probeRequest) ∧
      (judgedZone s r).frozen = decide (x < r.freezeTemp + 10) := by
  simp only [judgedZone, h, ZoneRecord.judge, freshZone, true_and]
  refine ⟨?_, ?_⟩
  · split
    · next hon => simp [hon]
    · next hon => split <;> simp_all
  · split
    · next hf => rw [eq_comm, decide_eq_true_eq]; omega
    · split <;> rw [eq_comm] <;> simp only [decide_eq_true_eq, decide_eq_false_iff_not] <;> omega

/-- A zone whose conditions already stand and count as logged logs nothing when it is judged (R128). -/
theorem judgeZone_logged {s : State} {i : Nat} {z : ZoneState} (h : s.frost.zones[i]? = some z) (r : ZoneRecord)
    (hl : z.probeLost = true ∧ z.probeLogged = true ∧ z.frozen = true ∧ z.frozenLogged = true) :
    s.judgeZone i r = s.updZone i fun _ => r.judge s.frost.bankHold (s.zoneTemp r) z := by
  obtain ⟨h1, h2, h3, h4⟩ := hl
  simp [State.judgeZone, h, h1, h2, h3, h4, logsNow]

/-- Judging the zones of a new table one after the other. -/
theorem overZones_judge (s : State) (rs : List ZoneRecord) : ∀ pre : List ZoneState,
    overZones State.judgeZone pre.length rs (s.updFrost fun b => { b with zones := pre ++ rs.map (freshZone s) }) =
      s.updFrost fun b => { b with zones := pre ++ rs.map (judgedZone s) } := by
  induction rs with
  | nil => exact fun _ => rfl
  | cons r rs ih =>
    intro pre
    have hfirst : (pre ++ (r :: rs).map (freshZone s))[pre.length]? = some (freshZone s r) := by simp
    have hstep : (s.updFrost fun b => { b with zones := pre ++ (r :: rs).map (freshZone s) }).judgeZone pre.length r =
        s.updFrost fun b => { b with zones := (pre ++ [judgedZone s r]) ++ rs.map (freshZone s) } := by
      rw [judgeZone_logged (z := freshZone s r) hfirst r ⟨rfl, rfl, rfl, rfl⟩]
      have hzones : (pre ++ (r :: rs).map (freshZone s)).modify pre.length (fun _ => judgedZone s r) =
          (pre ++ [judgedZone s r]) ++ rs.map (freshZone s) := by simp [List.modify_eq_set_getElem?]
      exact congrArg (fun zs => s.updFrost fun b => { b with zones := zs }) hzones
    have hrest := ih (pre ++ [judgedZone s r])
    rw [List.length_append, List.length_singleton] at hrest
    show overZones State.judgeZone (pre.length + 1) rs (State.judgeZone pre.length r _) = _
    rw [hstep, hrest]
    simp

/-- A new ZONES table is in use, its zones judged, before flags and allocation. -/
def zonesJudged (t : List ZoneRecord) (s : State) : State :=
  (s.updTables fun x => { x with zones := some t }).updFrost fun b => { b with zones := t.map (judgedZone s) }

theorem swapZones_eq (t : List ZoneRecord) (s : State) : s.swapZones t = State.frostSettle s true (zonesJudged t s) :=
  congrArg (State.frostSettle s true) (overZones_judge (s.updTables fun x => { x with zones := some t }) t [])

/-! ### ZONES: the allocation (R120, R121) -/

/-- A step over the zone records, with the number of those already taken. -/
theorem overZones_induct_index (P : Nat → State → Prop) (f : Nat → ZoneRecord → State → State) (rs : List ZoneRecord) :
    ∀ (i : Nat) (s : State), (∀ k r u, rs[k]? = some r → P (i + k) u → P (i + k + 1) (f (i + k) r u)) → P i s →
      P (i + rs.length) (overZones f i rs s) := by
  induction rs with
  | nil => exact fun _ _ _ h => h
  | cons r rs ih =>
    intro i s hf h
    have hrest := ih (i + 1) (f i r s) (fun k r' u hk hu => ?_) (hf 0 r s rfl h)
    · rwa [Nat.add_assoc, Nat.add_comm 1] at hrest
    · have hstep := hf (k + 1) r' u (by simpa using hk)
      rw [show i + (k + 1) = i + 1 + k by omega] at hstep
      exact hstep hu

/-- What the list answers a heater's command, with the reason for a refusal (R37). -/
theorem placeCommand_answer (a i f : Nat) (o : Origin) (t : Nat) (s : State) :
    (s.placeCommand a i f o t).2 = .placed ∨ (s.placeCommand a i f o t).2 = .listFull ∨
    ((s.placeCommand a i f o t).2 = .urgent ∧ s.isInlet a i = true ∧ s.line.urgent.isSome = true) ∨
    ((s.placeCommand a i f o t).2 = .supply ∧ s.supply.mode ≠ .mains) := by
  unfold State.placeCommand
  dsimp only
  split
  · next h =>
    rw [Bool.and_eq_true] at h
    exact .inr (.inr (.inl ⟨rfl, h⟩))
  · split
    · next h =>
      rw [Bool.and_eq_true] at h
      exact .inr (.inr (.inr ⟨rfl, by simpa using h.1⟩))
    · repeat' split
      · exact .inl rfl
      · exact .inl rfl
      · exact .inr (.inl rfl)

/-- A command for an actuator leaves the entries for the others. -/
theorem placeCommand_keeps {a i f : Nat} {o : Origin} {t : Nat} {s : State} {e : CommandEntry} (he : e ∈ s.line.commands)
    (hother : e.isFor a i = false) : e ∈ (s.placeCommand a i f o t).1.line.commands := by
  unfold State.placeCommand
  dsimp only
  repeat' split
  · exact he
  · exact he
  · exact List.mem_map.2 ⟨e, he, by rw [if_neg (by simp [hother])]⟩
  · exact List.mem_append_left _ he
  · exact he

/-- A zone `z` of a new table after its heater's turn, judged as `y` before it, over the supply, the inlet valve and the urgent slot of
`s` (R121). -/
structure ZonePlaced (s : State) (r : ZoneRecord) (y z : ZoneState) : Prop where
  judged : z.probeRequest = y.probeRequest ∧ z.request = y.request ∧ z.frozen = y.frozen ∧ z.probeLost = y.probeLost
  granted : z.granted = true → z.heater ≠ .off ∨ z.held = some true ∨ s.supply.mode ≠ .mains ∨
    (s.isInlet r.heaterAddress r.heaterItem = true ∧ s.line.urgent.isSome = true)
  off : z.granted = false → y.heater = .off → z.heater = .off
  commanding : ∀ b, z.heater = .commanding b → z.granted = b

theorem ZonePlaced.defer {s : State} {r : ZoneRecord} {y z : ZoneState} (h : ZonePlaced s r y z) (mains : Bool) (now : Nat) :
    ZonePlaced s r y (z.defer mains now) := by
  obtain ⟨h1, h2, h3, h4⟩ := h
  unfold ZoneState.defer
  repeat' split
  all_goals exact ⟨h1, h2, h3, h4⟩

/-- A zone that knows its heater ON or OFF, after an answer to the command that it calls for. -/
theorem answered_placed {s : State} {r : ZoneRecord} {y : ZoneState} {target : Bool} (hc : y.called = some target)
    (hy : y.heater = .off ∨ y.heater = .on) {o : CommandOutcome}
    (ho : o = .placed ∨ o = .listFull ∨
      (o = .urgent ∧ s.isInlet r.heaterAddress r.heaterItem = true ∧ s.line.urgent.isSome = true) ∨ (o = .supply ∧ s.supply.mode ≠ .mains)) :
    ZonePlaced s r y (y.answered target o) := by
  have hcases : (y.granted = true ∧ y.heater = .off ∧ target = true) ∨ (y.granted = false ∧ y.heater = .on ∧ target = false) := by
    rcases hy with hh | hh <;> cases hg : y.granted <;> simp_all [ZoneState.called]
  rcases ho with rfl | rfl | ⟨rfl, hu⟩ | ⟨rfl, hm⟩
  all_goals refine ⟨⟨rfl, rfl, rfl, rfl⟩, ?_, ?_, ?_⟩
  all_goals rcases hcases with ⟨hg, hh, rfl⟩ | ⟨hg, hh, rfl⟩ <;> simp_all [ZoneState.answered]

/-- A zone that calls for no command (R121). -/
theorem uncalled_placed {s : State} {r : ZoneRecord} {y : ZoneState} (hc : y.called = none) (hy : y.heater = .off ∨ y.heater = .on) :
    ZonePlaced s r y { y with held := none } := by
  have hcases : (y.granted = true ∧ y.heater = .on) ∨ (y.granted = false ∧ y.heater = .off) := by
    rcases hy with hh | hh <;> cases hg : y.granted <;> simp_all [ZoneState.called]
  refine ⟨⟨rfl, rfl, rfl, rfl⟩, ?_, ?_, ?_⟩ <;> rcases hcases with ⟨hg, hh⟩ | ⟨hg, hh⟩ <;> simp_all

/-- The zones of an allocation over judged zones, the first `k` having had their heater's turn. -/
structure PlacedTo (s : State) (rs : List ZoneRecord) (ys : List ZoneState) (k : Nat) (u : State) : Prop where
  turn : HeaterTurn s u
  done : ∀ i r y z, i < k → rs[i]? = some r → ys[i]? = some y → u.frost.zones[i]? = some z → ZonePlaced s r y z
  todo : ∀ i, k ≤ i → u.frost.zones[i]? = ys[i]?
  commands : ∀ e ∈ s.line.commands, (∀ r ∈ rs, e.isFor r.heaterAddress r.heaterItem = false) → e ∈ u.line.commands

theorem HeaterTurn.urgent {s t : State} (h : HeaterTurn s t) : t.line.urgent = s.line.urgent := by
  obtain ⟨cs, x, hl⟩ := h.line
  rw [hl]

theorem HeaterTurn.isInlet {s t : State} (h : HeaterTurn s t) (a i : Nat) : t.isInlet a i = s.isInlet a i :=
  congrArg (fun x : Tables => match x.guardSet with | some g => g.inletAddress == a && g.inletItem == i | none => false)
    (h.others .tables (by decide))

theorem ZonePlaced.congr {s t : State} (h : HeaterTurn s t) {r : ZoneRecord} {y z : ZoneState} (hz : ZonePlaced t r y z) :
    ZonePlaced s r y z := by
  obtain ⟨h1, h2, h3, h4⟩ := hz
  have hs : t.supply = s.supply := h.others .supply (by decide)
  rw [h.urgent, h.isInlet, hs] at h2
  exact ⟨h1, h2, h3, h4⟩

/-- A heater's turn changes its own zone alone. -/
theorem placeHeater_zone {i : Nat} {r : ZoneRecord} {u : State} {y : ZoneState} (hy : u.frost.zones[i]? = some y)
    (hh : y.heater = .off ∨ y.heater = .on) :
    (∃ z, (u.placeHeater i r).frost.zones[i]? = some z ∧ ZonePlaced u r y z) ∧
      (∀ j, j ≠ i → (u.placeHeater i r).frost.zones[j]? = u.frost.zones[j]?) ∧
      ∀ e ∈ u.line.commands, e.isFor r.heaterAddress r.heaterItem = false → e ∈ (u.placeHeater i r).line.commands := by
  have hmodify : ∀ (v : State) (f : ZoneState → ZoneState), v.frost = u.frost →
      (v.updZone i f).frost.zones[i]? = some (f y) ∧ ∀ j, j ≠ i → (v.updZone i f).frost.zones[j]? = u.frost.zones[j]? := by
    intro v f hv
    constructor
    · show (v.frost.zones.modify i f)[i]? = _
      rw [hv, List.getElem?_modify, hy]; simp
    · intro j hj
      show (v.frost.zones.modify i f)[j]? = _
      rw [hv, List.getElem?_modify]
      simp [Ne.symm hj]
  unfold State.placeHeater
  rw [hy]
  dsimp only
  cases hc : y.called with
  | none =>
    obtain ⟨h1, h2⟩ := hmodify u (fun z => { z with held := none }) rfl
    exact ⟨⟨_, h1, uncalled_placed hc hh⟩, h2, fun e he _ => he⟩
  | some target =>
    dsimp only
    obtain ⟨h1, h2⟩ := hmodify (u.placeCommand r.heaterAddress r.heaterItem r.feedback .frost (if target then 1 else 0)).1
      (ZoneState.answered target (u.placeCommand r.heaterAddress r.heaterItem r.feedback .frost (if target then 1 else 0)).2)
      (placeCommand_read (part := .frost) (by decide) _ _ _ _ _ _)
    exact ⟨⟨_, h1, answered_placed hc hh (placeCommand_answer _ _ _ _ _ u)⟩, h2, fun e he hf => placeCommand_keeps he hf⟩

theorem placedTo_step {s u : State} {rs : List ZoneRecord} {ys : List ZoneState} {k : Nat} {r : ZoneRecord} (h : PlacedTo s rs ys k u)
    (hr : rs[k]? = some r) (hlen : ys.length = rs.length) (hys : ∀ y ∈ ys, y.heater = .off ∨ y.heater = .on) :
    PlacedTo s rs ys (k + 1) (u.placeHeater k r) := by
  obtain ⟨hturn, hdone, htodo, hcommands⟩ := h
  have hk : k < ys.length := by rw [hlen]; exact (List.getElem?_eq_some_iff.1 hr).1
  have hyk : ys[k]? = some ys[k] := List.getElem?_eq_getElem hk
  have hzone : u.frost.zones[k]? = some ys[k] := (htodo k (Nat.le_refl k)).trans hyk
  obtain ⟨⟨z', hz', hplaced⟩, hothers, hkeeps⟩ := placeHeater_zone (r := r) hzone (hys _ (List.getElem_mem hk))
  refine ⟨hturn.trans (placeHeater_turn _ _ _), fun i r' y z hi hr' hy hz => ?_, fun i hi => ?_, fun e he hf => ?_⟩
  · by_cases hik : i = k
    · subst hik
      obtain rfl : r = r' := Option.some_injective _ (hr.symm.trans hr')
      obtain rfl : ys[i] = y := Option.some_injective _ (hyk.symm.trans hy)
      obtain rfl : z' = z := Option.some_injective _ (hz'.symm.trans hz)
      exact hplaced.congr hturn
    · rw [hothers i hik] at hz
      exact hdone i r' y z (by omega) hr' hy hz
  · rw [hothers i (by omega)]
    exact htodo i (by omega)
  · exact hkeeps e (hcommands e he hf) (hf r (List.mem_of_getElem? hr))

theorem setGranted_getElem {gs : List Nat} : ∀ {i : Nat} {zs : List ZoneState} {j : Nat} {y z : ZoneState},
    (setGranted gs i zs)[j]? = some z → zs[j]? = some y → ∃ g, z = { y with granted := g } := by
  intro i zs
  induction zs generalizing i with
  | nil => intro j y z _ hy; simp at hy
  | cons x xs ih =>
    intro j y z hz hy
    cases j with
    | zero =>
      obtain rfl : x = y := by simpa using hy
      exact ⟨gs.contains i, by simpa [setGranted, eq_comm] using hz⟩
    | succ j => exact ih (by simpa [setGranted] using hz) (by simpa using hy)

/-- An allocation over zones whose heaters are known to be ON or OFF. -/
theorem allocate_placed (s : State) (hlen : s.frost.zones.length = s.zoneRecords.length)
    (hzones : ∀ y ∈ s.frost.zones, y.heater = .off ∨ y.heater = .on) :
    (∀ (i : Nat) (r : ZoneRecord) (y z : ZoneState), s.zoneRecords[i]? = some r → s.frost.zones[i]? = some y →
      s.allocate.frost.zones[i]? = some z →
      ZonePlaced s r y z) ∧ s.allocate.frost.zones.length = s.frost.zones.length ∧
    ∀ e ∈ s.line.commands, (∀ r ∈ s.zoneRecords, e.isFor r.heaterAddress r.heaterItem = false) → e ∈ s.allocate.line.commands := by
  obtain ⟨ys, hys⟩ : ∃ ys, ys = setGranted s.grantedZones 0 s.frost.zones := ⟨_, rfl⟩
  obtain ⟨u, hu⟩ : ∃ u, u = s.updFrost fun b => { b with zones := ys } := ⟨_, rfl⟩
  have hyslen : ys.length = s.zoneRecords.length := by rw [hys, setGranted_length, hlen]
  have hheaters : ∀ y ∈ ys, y.heater = .off ∨ y.heater = .on := by
    intro y hy
    obtain ⟨x, hx, g, rfl⟩ := mem_setGranted (hys ▸ hy)
    exact hzones x hx
  have hrecords : u.zoneRecords = s.zoneRecords := by rw [hu]; rfl
  have hstart : PlacedTo s s.zoneRecords ys 0 u := by
    rw [hu]
    exact ⟨⟨⟨_, rfl, by rw [hyslen, hlen]⟩, ⟨_, _, rfl⟩, fun p hp => updFrost_read (by simp_all) _ _⟩, fun i _ _ _ hi => by omega,
      fun _ _ => rfl, fun e he _ => he⟩
  have hall := overZones_induct_index (PlacedTo s s.zoneRecords ys) State.placeHeater s.zoneRecords 0 u
    (fun k r v hk hv => placedTo_step hv (by rw [Nat.zero_add]; exact hk) hyslen hheaters) hstart
  have hallocate : s.allocate = (overZones State.placeHeater 0 s.zoneRecords u).updFrost fun b => { b with
      zones := b.zones.map (ZoneState.defer (decide ((overZones State.placeHeater 0 s.zoneRecords u).supply.mode = .mains))
        (overZones State.placeHeater 0 s.zoneRecords u).now) } := by rw [← hrecords, hu, hys]; rfl
  rw [hallocate]
  obtain ⟨⟨⟨zs, hz, hn⟩, -, -⟩, hdone, -, hcommands⟩ := hall
  refine ⟨fun i r y z hr hy hzi => ?_, ?_, hcommands⟩
  · have hmapped : ((overZones State.placeHeater 0 s.zoneRecords u).frost.zones.map _)[i]? = some z := hzi
    rw [List.getElem?_map] at hmapped
    obtain ⟨x, hx, rfl⟩ := Option.map_eq_some_iff.1 hmapped
    have hlt : i < s.zoneRecords.length := (List.getElem?_eq_some_iff.1 hr).1
    obtain ⟨y', hy', hsame⟩ : ∃ y', ys[i]? = some y' ∧ ∃ g, y' = { y with granted := g } := by
      have hys' : ys[i]? = some ys[i] := List.getElem?_eq_getElem (by omega)
      exact ⟨_, hys', setGranted_getElem (by rw [← hys]; exact hys') hy⟩
    obtain ⟨g, rfl⟩ := hsame
    obtain ⟨h1, h2, h3, h4⟩ := hdone i r _ x (by omega) hr hy' hx
    have hplaced : ZonePlaced s r y x := ⟨h1, h2, h3, h4⟩
    exact hplaced.defer _ _
  · rw [State.updFrost]
    simp only [List.length_map]
    rw [hz]; exact hn

end Sys2Proof.Laws
end

section
/-! PROOFS. The ten kinds of table enter their owners (R170): one lemma for each owner's rule, and O47. -/

namespace Sys2Proof.Laws

open Sys2Proof.Machine

/-! ### POINTS, STRAPPING and CHANNELS -/

theorem points_owned (recs : List PointRecord) (changed : Nat → Prop) (s : State) (hlen : s.points.length = 64)
    (hchanged : ∀ i, changed i ↔ i < 64 ∧ (s.tables.points.getD [])[i]? ≠ recs[i]?) :
    (∀ i, changed i → (s.swapPoints recs).points[i]? = some {}) ∧
    (∀ i, ¬ changed i → (s.swapPoints recs).points[i]? = s.points[i]?) ∧
    ((∀ i, changed i → (s.point i).quality = .none) → (s.swapPoints recs).notices = s.notices) ∧
    ∀ i, changed i → (s.point i).quality ≠ .none → ∃ ps, (∀ j, j ∈ ps ↔ changed j ∧ (s.point j).quality ≠ .none) ∧
      (s.swapPoints recs).notices = s.notices ++ [⟨.level, .points ps none⟩, ⟨.guard, .points ps none⟩, ⟨.frost, .points ps none⟩,
        ⟨.line, .points ps none⟩] := by
  have hmem : ∀ i, i ∈ changedPoints (s.tables.points.getD []) recs ↔ changed i := fun i =>
    (mem_changedPoints _ _ i).trans (hchanged i).symm
  have hlisted : ∀ j, j ∈ listedPoints recs s ↔ changed j ∧ (s.point j).quality ≠ .none := fun j => by
    rw [mem_listedPoints, hmem]
  refine ⟨fun i hi => ?_, fun i hi => ?_, fun hnone => ?_, fun i hi hq => ⟨listedPoints recs s, hlisted, ?_⟩⟩
  · rw [swapPoints_points, if_pos ((hmem i).2 hi), List.getElem?_eq_getElem (by rw [hlen]; exact ((hchanged i).1 hi).1)]
    rfl
  · rw [swapPoints_points, if_neg (mt (hmem i).1 hi)]
  · rw [swapPoints_notices, if_pos]
    rw [List.eq_nil_iff_forall_not_mem]
    intro j hj
    obtain ⟨hc, hq⟩ := (hlisted j).1 hj
    exact hq (hnone j hc)
  · rw [swapPoints_notices, if_neg]
    intro hnil
    exact absurd ((hlisted i).2 ⟨hi, hq⟩) (by rw [hnil]; exact List.not_mem_nil)

/-- Volume, segment and beyond-table condition of a held level over a rising table (R62, R63). -/
theorem strapping_owned {bs : List Breakpoint} (hrising : Rising bs) (hlen : 2 ≤ bs.length) {first last : Breakpoint}
    (hfirst : bs.head? = some first) (hlast : bs.getLast? = some last) (s : State) :
    let l := (s.swapStrapping bs).level
    let w := s.level.record.w
    (l.beyond = true ↔ last.level ≤ w) ∧ (w < first.level → l.record.v = first.volume ∧ l.record.segment = 0) ∧
      (last.level ≤ w → l.record.v = last.volume ∧ l.record.segment = bs.length - 2) ∧
      ∀ i x y, bs[i]? = some x → bs[i + 1]? = some y → x.level ≤ w → w < y.level → l.record.segment = i ∧
        l.record.v = x.volume + (y.volume - x.volume) * (w - x.level) / (y.level - x.level) := by
  rw [swapStrapping_level]
  refine ⟨?_, fun hw => volume_below hrising hlen hfirst hw, fun hw => volume_above hrising hlen hlast hw,
    fun i x y hx hy hlow hhigh => volume_between hrising hx hy hlow hhigh⟩
  have hbeyond := beyondNow_some (s := strapped bs s) (bs := bs) rfl hlast s.level.record.w
  simp only [hbeyond, decide_eq_true_eq]

theorem strapping_notices (bs : List Breakpoint) (s : State) {d : BlockName} (hd : d = .guard ∨ d = .fill ∨ d = .telemetry) :
    ⟨d, .level (s.swapStrapping bs).level.record false false⟩ ∈ (s.swapStrapping bs).notices := by
  have hlevel : (s.swapStrapping bs).level = (strapped bs s).judgeBeyond.level := by
    rw [swapStrapping_eq]; exact levelNotice_read (part := .level) (by decide) _ _ _
  rw [hlevel, swapStrapping_eq, State.levelNotice, broadcast_notices]
  refine List.mem_append_right _ (List.mem_map.2 ⟨d, ?_, rfl⟩)
  rcases hd with rfl | rfl | rfl <;> decide

/-! ### GUARD_SET -/

theorem guardSet_level (g : GuardSet) (s : State) : (s.swapGuardSet g).level =
    (State.levelOnGuardSet s.tables.guardSet g { s with tables := s.tables.put (.guardSet g) }).level :=
  ((swapGuardSet_parts g s).1 .level (by decide)).trans (guardOnGuardSet_read (part := .level) (by decide) _ _ _)

theorem guardSet_load (g : GuardSet) (s : State) : (s.swapGuardSet g).engine.load = s.engine.load := by
  have h := congrArg EngineBlock.load ((swapGuardSet_parts g s).1 .engine (by decide))
  refine h.trans ((guardOnGuardSet_load _ _ _).trans ?_)
  exact congrArg EngineBlock.load (levelOnGuardSet_read (part := .engine) (by decide) _ _ _)

/-- The guard and the urgent slot after a GUARD_SET whose hold is not over (R78, R86). -/
theorem guardSet_hold (g : GuardSet) (s : State) :
    ((s.swapGuardSet g).level.record.lostSince = none → (s.swapGuardSet g).guard = s.guard ∧
      (s.swapGuardSet g).line.urgent = s.line.urgent) ∧
    ∀ since, (s.swapGuardSet g).level.record.lostSince = some since → s.now < since + g.levelHold * 1000 →
      (s.swapGuardSet g).line.urgent = s.line.urgent ∧
      (s.swapGuardSet g).guard = { s.guard with holdAt :=
        match s.tables.guardSet, s.guard.holdAt with
        | some o, some due => some (if o.levelHold = g.levelHold then due else since + g.levelHold * 1000)
        | some _, none => none
        | none, _ => some (since + g.levelHold * 1000) } := by
  obtain ⟨u, hu⟩ : ∃ u, u = State.levelOnGuardSet s.tables.guardSet g { s with tables := s.tables.put (.guardSet g) } := ⟨_, rfl⟩
  have hlevel : (s.swapGuardSet g).level = u.level := (guardSet_level g s).trans (congrArg State.level hu.symm)
  have hguard : (s.swapGuardSet g).guard = (State.guardOnGuardSet s.tables.guardSet g u).guard := by
    rw [hu]; exact (swapGuardSet_parts g s).1 .guard (by decide)
  have hurgent : (s.swapGuardSet g).line.urgent = (State.guardOnGuardSet s.tables.guardSet g u).line.urgent := by
    rw [hu]; exact (swapGuardSet_parts g s).2
  have huguard : u.guard = s.guard := by rw [hu]; exact levelOnGuardSet_read (part := .guard) (by decide) _ _ _
  have huline : u.line = s.line := by rw [hu]; exact levelOnGuardSet_read (part := .line) (by decide) _ _ _
  have hunow : u.now = s.now := by
    rw [hu]; exact now_congr (levelOnGuardSet_read (part := .timeUs) (by decide) _ _ _)
  rw [hlevel, hguard, hurgent]
  refine ⟨fun hnone => ?_, fun since hsince hlater => ?_⟩
  · rw [guardOnGuardSet_none hnone]; exact ⟨huguard, congrArg LineBlock.urgent huline⟩
  · rw [guardOnGuardSet_aim hsince (by rw [hunow]; exact hlater)]
    refine ⟨congrArg LineBlock.urgent huline, ?_⟩
    cases s.tables.guardSet <;> cases hd : s.guard.holdAt <;> simp only [updGuard_guard, huguard, hd]

/-! ### FILL_SET, PROFILE and TARIFF -/

/-- An event of the planner that ends with an evaluation of `v` (R90, R93). -/
theorem evaluated_event {f : State → State} {s v : State} (hf : f s = v.evaluatePlan false) :
    Evaluated v.fill (State.fillEvent f s).fill ∧ (State.fillEvent f s).fill.station = v.fill.station ∧
      (State.fillEvent f s).fill.window = v.fill.window ∧ (State.fillEvent f s).fill.tariff = v.fill.tariff ∧
      (State.fillEvent f s).fill.planAt = v.tables.fillSet.map fun x => v.now + x.planInterval * 60000 := by
  obtain ⟨owed, placed, wait, aim, hfill⟩ := fillEvent_fill f s
  obtain ⟨⟨h1, h2, h3⟩, h4, h5⟩ := evaluatePlan_evaluated false v
  obtain ⟨-, htariff, hwindow, hstation⟩ := evaluatePlan_times (c0 := v.fill.clock) false v ⟨rfl, rfl, rfl, rfl⟩
  have haim := evaluatePlan_aims false v rfl rfl
  rw [hfill, hf]
  exact ⟨⟨⟨h1, h2, h3⟩, h4, h5⟩, hstation, hwindow, htariff, haim⟩

theorem zoneTemp_congr {s t : State} (hpoints : t.points = s.points) (hrecords : t.tables.points = s.tables.points) (r : ZoneRecord) :
    t.zoneTemp r = s.zoneTemp r := by
  have hrecord : t.pointRecord r.tempPoint = s.pointRecord r.tempPoint := by rw [State.pointRecord, State.pointRecord, hrecords]
  have hvalue : t.goodValue r.tempPoint = s.goodValue r.tempPoint := by
    rw [State.goodValue, State.goodValue, State.point, State.point, hpoints]
  rw [State.zoneTemp, State.zoneTemp, State.goodOfKind, State.goodOfKind, hrecord, hvalue]

/-- Frost watch by a FILL_SET's temperature (R118). -/
theorem watchNow_iff {s t : State} {f : FillSet} (hset : t.tables.fillSet = some f) (hpoints : t.points = s.points)
    (hrecords : t.tables.points = s.tables.points) (hzones : t.tables.zones = s.tables.zones) :
    t.watchNow = true ↔ ∃ r ∈ s.zoneRecords, s.zoneTemp r = none ∨ ∃ x, s.zoneTemp r = some x ∧ x ≤ f.frostWatchTemp := by
  have hrs : t.zoneRecords = s.zoneRecords := congrArg (·.getD []) hzones
  rw [State.watchNow, hrs, List.any_eq_true]
  refine exists_congr fun r => and_congr_right fun _ => ?_
  rw [zoneTemp_congr hpoints hrecords r]
  cases h : s.zoneTemp r <;> simp [hset]

/-- The frost watch that a FILL_SET leaves (R118, R128). -/
theorem fillSet_watch (f : FillSet) (s : State) : (s.swapTable (.fillSet f)).frost.watch = true ↔
    ∃ r ∈ s.zoneRecords, s.zoneTemp r = none ∨ ∃ x, s.zoneTemp r = some x ∧ x ≤ f.frostWatchTemp := by
  obtain ⟨u, hu⟩ : ∃ u, u = State.fillEvent (State.swapFillSet f) s := ⟨_, rfl⟩
  obtain ⟨v, hv⟩ : ∃ v, v = s.updTables fun x => { x with fillSet := some f } := ⟨_, rfl⟩
  have hwatch : (s.swapTable (.fillSet f)).frost.watch = u.watchNow := by
    obtain ⟨zs, hz⟩ := frostSettle_frost u false u
    show (State.frostSettle (State.fillEvent _ s) false (State.fillEvent _ s)).frost.watch = _
    rw [← hu, hz]
  have hread : ∀ p ∈ [Part.tables, .points], p.read u = p.read v := by
    intro p hp
    have hevent : State.fillEvent (State.swapFillSet f) s = State.passFill s (v.evaluatePlan false).closeSequence := by rw [hv]; rfl
    have hmoved : p ∉ [Part.fill, .banks, .line, .out, .notices, .draws] := by rcases List.mem_pair.1 hp with rfl | rfl <;> decide
    rw [hu, hevent, passFill_read (by simp_all), closeSequence_read (by simp_all), evaluatePlan_read hmoved]
  have htables : u.tables = v.tables := hread .tables (by decide)
  have hpoints : u.points = v.points := hread .points (by decide)
  rw [hwatch]
  subst hv
  exact watchNow_iff (by rw [htables]; rfl) hpoints (by rw [htables]; rfl) (by rw [htables]; rfl)

/-! ### ZONES -/

theorem freshZone_heater (s : State) (r : ZoneRecord) : (judgedZone s r).heater = .off ∨ (judgedZone s r).heater = .on := by
  obtain ⟨hheater, -, -⟩ := judge_heater r s.frost.bankHold (s.zoneTemp r) (freshZone s r)
  rw [judgedZone, hheater, freshZone]
  cases s.zoneFeedback r with
  | none => exact .inl rfl
  | some v => exact (em (v = 0)).imp (fun h => if_pos h) fun h => if_neg h

/-- A new zone without a heater's feedback, or with one of 0, is OFF (R123). -/
theorem judgedZone_off {s : State} {r : ZoneRecord} (h : s.zoneFeedback r = none ∨ s.zoneFeedback r = some 0) :
    (judgedZone s r).heater = .off := by
  obtain ⟨hheater, -, -⟩ := judge_heater r s.frost.bankHold (s.zoneTemp r) (freshZone s r)
  rw [judgedZone, hheater, freshZone]
  rcases h with h | h <;> simp [h, heaterOf]

/-- A ZONES swap is judging, flags and one allocation. -/
theorem swapZones_parts (t : List ZoneRecord) (s : State) : ∃ v : State, v.frost.zones = t.map (judgedZone s) ∧ v.tables = s.tables.put (.zones t) ∧
    v.supply = s.supply ∧ v.line = s.line ∧ (s.swapZones t).frost = v.allocate.frost ∧ (s.swapZones t).line = v.allocate.line := by
  obtain ⟨v, hv⟩ : ∃ v, v = (zonesJudged t s).frostFlags := ⟨_, rfl⟩
  have hread : ∀ p, p ∉ [Part.frost, .notices] → p.read v = p.read (zonesJudged t s) := fun p hp => by
    rw [hv]; exact frostFlags_read hp _
  have hzones : v.frost.zones = t.map (judgedZone s) := by
    rw [hv]
    unfold State.frostFlags
    dsimp only
    repeat' split
    all_goals rfl
  have hswap : s.swapZones t = State.passFrost s v.allocate := by
    rw [swapZones_eq, State.frostSettle, hv]
    rfl
  refine ⟨v, hzones, hread .tables (by decide), hread .supply (by decide), hread .line (by decide), ?_, ?_⟩ <;> rw [hswap]
  · exact passFrost_read (part := .frost) (by decide) _ _
  · exact passFrost_read (part := .line) (by decide) _ _

theorem zones_owned (t : List ZoneRecord) (s : State) : (s.swapZones t).frost.zones.length = t.length ∧
    (∀ e ∈ s.line.commands, (∀ r ∈ t, e.isFor r.heaterAddress r.heaterItem = false) → e ∈ (s.swapZones t).line.commands) ∧
    ∀ (i : Nat) (r : ZoneRecord) (z : ZoneState), t[i]? = some r → (s.swapZones t).frost.zones[i]? = some z → ∃ v : State,
      v.tables = s.tables.put (.zones t) ∧ v.supply = s.supply ∧ v.line = s.line ∧ ZonePlaced v r (judgedZone s r) z := by
  obtain ⟨v, hzones, htables, hsupply, hline, hfrost, hlines⟩ := swapZones_parts t s
  have hrecords : v.zoneRecords = t := by rw [State.zoneRecords, htables]; rfl
  obtain ⟨hplaced, hlength, hcommands⟩ := allocate_placed v (by rw [hzones, hrecords, List.length_map]) (by
    rw [hzones]
    intro y hy
    obtain ⟨r, -, rfl⟩ := List.mem_map.1 hy
    exact freshZone_heater s r)
  rw [hfrost, hlines, hlength, hzones, List.length_map]
  rw [hrecords, hline] at hcommands
  refine ⟨rfl, hcommands, fun i r z hr hz => ⟨v, htables, hsupply, hline, ?_⟩⟩
  refine hplaced i r _ z (by rw [hrecords]; exact hr) ?_ hz
  rw [hzones, List.getElem?_map, hr]; rfl

/-! ### SITE_SET -/

theorem siteSet_owned (x : SiteSet) (s : State) : (s.swapSiteSet x).tables = s.tables.put (.siteSet x) ∧
    (s.swapSiteSet x).frost.tariff = s.frost.tariff ∧
    (s.swapSiteSet x).frost.budget = (if s.supply.mode = .mains then siteBudget (some x) s.frost.tariff else 0) ∧
    (s.swapSiteSet x).trunk = { s.trunk with
      controlAt := some (s.now + (siteLimits (some x)).1)
      stationAt := some (s.now + (siteLimits (some x)).2) } := by
  obtain ⟨v, hv⟩ : ∃ v, v = State.trunkOnSite (State.holdNotices s (s.updTables fun t => { t with siteSet := some x })) := ⟨_, rfl⟩
  obtain ⟨u, hu⟩ : ∃ u, u = State.fillEvent State.recomputeTariff v := ⟨_, rfl⟩
  have hheld : ∀ p, p ∉ [Part.tables, .notices, .trunk] → p.read v = p.read s := by
    intro p hp
    simp only [List.mem_cons, List.not_mem_nil, or_false, not_or] at hp
    obtain ⟨h1, h2, h3⟩ := hp
    rw [hv, trunkOnSite_read (by simpa using h3), holdNotices_read (by simpa using h2), updTables_read (by simpa using h1)]
  have hnotices : ∀ p, p ≠ Part.notices → p.read (State.holdNotices s (s.updTables fun t => { t with siteSet := some x })) =
      p.read (s.updTables fun t => { t with siteSet := some x }) := fun p hp => holdNotices_read (by simpa using hp) _ _
  have htables : v.tables = s.tables.put (.siteSet x) := by
    rw [hv]; exact hnotices .tables (by decide)
  have hnow : s.now = (State.holdNotices s (s.updTables fun t => { t with siteSet := some x })).now :=
    (now_congr (hnotices .timeUs (by decide))).symm
  have htrunk : v.trunk = { s.trunk with
      controlAt := some (s.now + (siteLimits (some x)).1)
      stationAt := some (s.now + (siteLimits (some x)).2) } := by
    have hsite : (State.holdNotices s (s.updTables fun t => { t with siteSet := some x })).tables = s.tables.put (.siteSet x) :=
      hnotices .tables (by decide)
    have hold : (State.holdNotices s (s.updTables fun t => { t with siteSet := some x })).trunk = s.trunk := hnotices .trunk (by decide)
    rw [hv, State.trunkOnSite, updTrunk_trunk, hold, hsite, ← hnow]
    rfl
  have hread : ∀ p, p ∉ [Part.fill, .banks, .line, .out, .notices, .draws] → p.read u = p.read v := fun p hp => by
    rw [hu]; exact fillEvent_read (by simp_all) _ _ (recomputeTariff_read hp _)
  have hfrost : u.frost = s.frost := (hread .frost (by decide)).trans (hheld .frost (by decide))
  have hsupply : u.supply = s.supply := (hread .supply (by decide)).trans (hheld .supply (by decide))
  have hutables : u.tables = s.tables.put (.siteSet x) := (hread .tables (by decide)).trans htables
  have hswap : ∀ p, p ∉ [Part.telemetry, .out] → p.read (s.swapSiteSet x) = p.read (u.setBudget false) := fun p hp => by
    rw [hu, hv]; exact telemetryOnSite_read hp _ _
  have hset : ∀ p, p ∉ [Part.frost, .line, .notices] → p.read (u.setBudget false) = p.read u := fun p hp => setBudget_read hp _ _
  obtain ⟨zs, hz⟩ := frostSettle_frost u (false || decide (u.budgetNow ≠ u.frost.budget)) (u.updFrost fun b => { b with budget := u.budgetNow })
  have hbudget : u.budgetNow = if s.supply.mode = .mains then siteBudget (some x) s.frost.tariff else 0 := by
    rw [State.budgetNow, hsupply, hutables, hfrost]; rfl
  have hblock : (s.swapSiteSet x).frost = _ := (hswap .frost (by decide)).trans hz
  refine ⟨(hswap .tables (by decide)).trans ((hset .tables (by decide)).trans hutables), ?_, ?_, ?_⟩
  · rw [hblock]; exact (congrArg FrostBlock.tariff hfrost :)
  · rw [hblock, ← hbudget]; rfl
  · exact (hswap .trunk (by decide)).trans ((hset .trunk (by decide)).trans ((hread .trunk (by decide)).trans htrunk))

end Sys2Proof.Laws
end

section
/-! PROOFS. The planner's three tables, and all ten kinds together (R111, R170). -/

namespace Sys2Proof.Laws

open Sys2Proof.Machine

/-- What every table of the planner leaves of the fill when it enters use (R93, R111). -/
structure PlanOwned (s t : State) (d : TableData) : Prop where
  tables : t.tables = s.tables.put d
  station : t.fill.station = s.fill.station
  kept : HeldKept s.fill t.fill
  planAt : t.fill.planAt = t.tables.fillSet.map fun f => s.now + f.planInterval * 60000

/-- FILL_SET and PROFILE: the table enters, and the plan is evaluated. -/
theorem evaluated_owned {d : TableData} {s t : State} {f : State → State}
    (hf : f s = ({ s with tables := s.tables.put d } : State).evaluatePlan false) (ht : ∀ p, p ∉ [Part.frost, .line, .notices] →
      p.read t = p.read (State.fillEvent f s)) :
    PlanOwned s t d ∧ Evaluated s.fill t.fill ∧ t.fill.window = s.fill.window := by
  obtain ⟨heval, hstation, hwindow, -, hplan⟩ := evaluated_event hf
  have hfill : t.fill = (State.fillEvent f s).fill := ht .fill (by decide)
  have htables : t.tables = s.tables.put d := by
    refine (ht .tables (by decide)).trans ?_
    rw [State.fillEvent, passFill_read (by decide), closeSequence_read (by decide), hf, evaluatePlan_read (by decide)]
    rfl
  rw [← hfill] at heval hstation hwindow hplan
  exact ⟨⟨htables, hstation, heval.heldKept, by rw [hplan, htables]; rfl⟩, heval, hwindow⟩

/-- TARIFF: the calendar's class and window, then the evaluation. -/
theorem tariff_owned (ws : List TariffWindow) (s : State) : PlanOwned s (s.swapTable (.tariff ws)) (.tariff ws) ∧
    (s.swapTable (.tariff ws)).fill.window = currentWindow s.tables.siteSet (some ws) s.clockTime ∧
    (s.swapTable (.tariff ws)).fill.tariff = windowClass (s.swapTable (.tariff ws)).fill.window := by
  obtain ⟨u, hu⟩ : ∃ u, u = s.updTables fun x => { x with tariff := some ws } := ⟨_, rfl⟩
  have hf : State.swapTariff ws s = u.recomputeTariff.evaluatePlan false := by rw [hu]; rfl
  have hswap : s.swapTable (.tariff ws) = State.fillEvent (State.swapTariff ws) s := rfl
  obtain ⟨heval, hstation, hwindow, htariff, hplan⟩ := evaluated_event hf
  obtain ⟨hw, hc, hx⟩ := recomputeTariff_window u
  have hread : ∀ p, p ∉ [Part.fill, .banks, .line, .out, .notices, .draws] → p.read u.recomputeTariff = p.read u :=
    fun p hp => recomputeTariff_read hp u
  have hnow : u.recomputeTariff.now = s.now := by
    rw [now_congr (hread .timeUs (by decide)), hu]; rfl
  have hutables : u.recomputeTariff.tables = s.tables.put (.tariff ws) := by
    refine (hread .tables (by decide)).trans ?_
    rw [hu]; rfl
  have htables : (s.swapTable (.tariff ws)).tables = s.tables.put (.tariff ws) := by
    rw [hswap]
    refine (passFill_read (part := .tables) (by decide) _ _).trans ?_
    rw [closeSequence_read (by decide), hf, evaluatePlan_read (by decide)]
    exact hutables
  have hkept : HeldKept s.fill u.recomputeTariff.fill := by
    have h := recomputeTariff_heldKept u
    rwa [show u.fill = s.fill by rw [hu]; rfl] at h
  have hstation' : u.fill.station = s.fill.station := by rw [hu]; rfl
  rw [hswap] at htables ⊢
  refine ⟨⟨htables, hstation.trans (hx.trans hstation'), hkept.trans heval.heldKept, ?_⟩, ?_, ?_⟩
  · rw [hplan, htables, hutables, hnow]
  · rw [hwindow, hw, windowNow, hu]; rfl
  · rw [htariff, hwindow, hw, hc]

/-- Settles O47: one clause for each owner's rule. -/
theorem tablesEnterTheirOwners : Obligations.TablesEnterTheirOwners := by
  refine ⟨?_, ?_, ?_, ?_, ?_, ?_, ?_, ?_⟩
  case refine_1 =>
    rintro s t recs changed rfl hlen hchanged
    exact ⟨pointNotice_read (part := .tables) (by decide) _ _ _, fun p hp => swapPoints_read hp recs s,
      points_owned recs changed s hlen hchanged⟩
  case refine_2 =>
    rintro s t recs rfl
    exact ⟨rfl, fun p hp => swapMap_read (by simpa using hp) recs s⟩
  case refine_3 =>
    rintro s t bs w rfl rfl
    refine ⟨?_, ?_, fun d hd => strapping_notices bs s hd, fun p hp => swapStrapping_read hp bs s, swapStrapping_banks bs s,
      fun first last hfirst hlast hlen hrising => strapping_owned hrising hlen hfirst hlast s⟩
    · refine (levelNotice_read (part := .tables) (by decide) _ _ _).trans ?_
      exact judgeBeyond_read (part := .tables) (by decide) (strapped bs s)
    · rw [show s.swapTable (.strapping bs) = s.swapStrapping bs from rfl, swapStrapping_level]
  case refine_4 =>
    rintro s t recs rfl
    refine ⟨rfl, rfl, fun p hp => swapChannels_read hp recs s, rfl, fun hnone => ?_, fun x hx => swapChannels_inFlight recs s x hx⟩
    show Option.map _ s.line.inFlight = none
    rw [hnone]; rfl
  case refine_5 =>
    rintro s t now g rfl rfl
    obtain ⟨hnone, haim⟩ := guardSet_hold g s
    have hread : ∀ p, p ∉ [Part.tables, .level, .guard, .fill, .banks, .line, .telemetry, .out, .engine, .notices] →
      p.read (s.swapGuardSet g) = p.read s := fun p hp => swapGuardSet_read (by simp_all) g s
    refine ⟨?_, hread .points (by decide), guardSet_load g s, fun o ho ha hb => ?_, fun hother => ?_, hnone, haim⟩
    · refine ((swapGuardSet_parts g s).1 .tables (by decide)).trans ((guardOnGuardSet_read (part := .tables) (by decide) _ _ _).trans ?_)
      exact levelOnGuardSet_read (part := .tables) (by decide) _ _ _
    · show (o.agreeBand = g.agreeBand → (s.swapGuardSet g).level = _) ∧ (o.agreeBand ≠ g.agreeBand → (s.swapGuardSet g).level = _)
      rw [guardSet_level, ho, levelOnGuardSet_same ha hb]
      exact ⟨fun h => by rw [if_pos h], fun h => by rw [if_neg h]⟩
    · have hlevel := guardSet_level g s
      rw [levelOnGuardSet_other hother] at hlevel
      have hparts := recompute_unringed g { s with tables := s.tables.put (.guardSet g) }
      rw [← hlevel] at hparts
      exact hparts
  case refine_6 =>
    rintro s t d rfl (⟨f, rfl⟩ | ⟨rs, rfl⟩ | ⟨ws, rfl⟩)
    · obtain ⟨⟨htables, hstation, hkept, hplan⟩, heval, hwindow⟩ := evaluated_owned (d := .fillSet f) (f := State.swapFillSet f)
        (t := s.swapTable (.fillSet f)) rfl fun p hp => frostSettle_read hp _ _ _
      refine ⟨htables, hstation, hkept.inhibit, hplan, fun _ => ⟨heval.order, heval.turnover, hwindow, heval.filling⟩,
        nofun, hkept.held, ?_⟩
      rintro f' h
      obtain rfl : f = f' := by cases h; rfl
      exact fillSet_watch f s
    · obtain ⟨⟨htables, hstation, hkept, hplan⟩, heval, hwindow⟩ := evaluated_owned (d := .profile rs) (f := State.swapProfile rs)
        (t := s.swapTable (.profile rs)) (s := s) rfl fun p _ => rfl
      exact ⟨htables, hstation, hkept.inhibit, hplan, fun _ => ⟨heval.order, heval.turnover, hwindow, heval.filling⟩,
        nofun, hkept.held, nofun⟩
    · obtain ⟨⟨htables, hstation, hkept, hplan⟩, hwindow, hclass⟩ := tariff_owned ws s
      refine ⟨htables, hstation, hkept.inhibit, hplan, fun h => absurd rfl (h ws), ?_, hkept.held, nofun⟩
      rintro ws' h
      obtain rfl : ws = ws' := by cases h; rfl
      exact ⟨hwindow, hclass⟩
  case refine_7 =>
    rintro s t recs rfl
    obtain ⟨hlen, hcommands, hzones⟩ := zones_owned recs s
    have hread : ∀ p, p ∉ [Part.frost, .line, .notices] → p.read (s.swapZones recs) = p.read (zonesJudged recs s) := fun p hp => by
      rw [swapZones_eq]; exact frostSettle_read hp _ _ _
    rw [show s.swapTable (.zones recs) = s.swapZones recs from rfl]
    refine ⟨hread .tables (by decide), hread .banks (by decide), hlen, hcommands, fun i r z hr hz => ?_⟩
    obtain ⟨v, htables, hsupply, hline, ⟨hprobe, hrequest, hfrozen, hlost⟩, hgranted, hoff, hcommanding⟩ := hzones i r z hr hz
    have hinlet : v.isInlet r.heaterAddress r.heaterItem = s.isInlet r.heaterAddress r.heaterItem := by
      simp only [State.isInlet, htables]; rfl
    rw [hsupply, hline, hinlet] at hgranted
    rw [hprobe, hrequest, hfrozen, hlost]
    refine ⟨fun hnone => judgedZone_none hnone, fun x hx => ?_, hgranted, fun hg hf => hoff hg (judgedZone_off hf), hcommanding⟩
    exact judgedZone_some hx
  case refine_8 =>
    rintro s t x rfl
    rw [show s.swapTable (.siteSet x) = s.swapSiteSet x from rfl]
    exact siteSet_owned x s

end Sys2Proof.Laws
end

section
/-! PROOFS. Where the elements of a payload stand (R185): a payload is read as the list of its elements, each of a known length. -/

namespace Sys2Proof.Laws

open Sys2Proof.Machine Sys2Proof.Machine.Laws

/-- The bytes `xs` stand in `p` from an offset on. -/
def Stands (p : List Byte) (off : Nat) (xs : List Byte) : Prop := ∃ a b, p = a ++ (xs ++ b) ∧ a.length = off

theorem Stands.trans {p xs ys : List Byte} {i j : Nat} (h : Stands p i xs) (h' : Stands xs j ys) : Stands p (i + j) ys := by
  obtain ⟨a, b, rfl, rfl⟩ := h
  obtain ⟨c, d, rfl, rfl⟩ := h'
  exact ⟨a ++ c, d ++ b, by simp, by simp⟩

/-- The numbers of an element are those of the payload. -/
theorem Stands.numberAt {p xs : List Byte} {i : Nat} (h : Stands p i xs) (off len : Nat) (hl : off + len ≤ xs.length) :
    Machine.numberAt p (i + off) len = Machine.numberAt xs off len := by
  obtain ⟨a, b, rfl, rfl⟩ := h
  rw [numberAt_past _ _ _ _ _ rfl, numberAt_left _ _ _ _ hl]

/-- The number of an element that is all of it. -/
theorem Stands.whole {p xs : List Byte} {i : Nat} (h : Stands p i xs) {len : Nat} (hl : xs.length = len) :
    Machine.numberAt p i len = Machine.numberAt xs 0 len := h.numberAt 0 len (by omega)

/-- An element of a list of elements, by their lengths. -/
theorem stands_flatten {cs : List (List Byte)} {ls : List Nat} (hl : cs.map List.length = ls) (i : Nat) {xs : List Byte}
    (h : cs[i]? = some xs) : Stands cs.flatten (ls.take i).sum xs := by
  obtain ⟨hi, rfl⟩ := List.getElem?_eq_some_iff.1 h
  refine ⟨(cs.take i).flatten, (cs.drop (i + 1)).flatten, ?_, ?_⟩
  · rw [← List.flatten_cons, ← List.drop_eq_getElem_cons hi, ← List.flatten_append, List.take_append_drop]
  · rw [List.length_flatten, ← hl, List.map_take]

/-- An element of a table whose elements have one length. -/
theorem stands_flatMap {α : Type} {f : α → List Byte} {n : Nat} (hf : ∀ x, (f x).length = n) {l : List α} {i : Nat} {x : α}
    (h : l[i]? = some x) : Stands (l.flatMap f) (n * i) (f x) := by
  have hlen : (l.map f).map List.length = List.replicate l.length n := by
    rw [List.map_map, List.eq_replicate_iff]
    exact ⟨by simp, by simp [hf]⟩
  have hs := stands_flatten hlen i (xs := f x) (by rw [List.getElem?_map, h]; rfl)
  rw [List.take_replicate, Nat.min_eq_left (Nat.le_of_lt (List.getElem?_eq_some_iff.1 h).1)] at hs
  simpa [Nat.mul_comm, List.flatMap] using hs

/-! ### What an element spells -/

theorem Stands.number {p : List Byte} {i width n : Nat} (h : Stands p i (encU width n)) (hn : n < 256 ^ width) :
    Machine.numberAt p i width = n := by
  rw [h.whole (by simp), numberAt_encU width n hn]

theorem Stands.flag {p : List Byte} {i : Nat} {b : Bool} (h : Stands p i (encFlag b)) : flagAt p i b := by
  rw [flagAt, h.whole (len := 1) rfl]; exact flagAt_encFlag b

/-- An enumeration whose values the list numbers. -/
theorem Stands.value {α : Type} {number : α → Nat} {values : List α} (hv : ∀ x, number x < 256 ∧ values[number x]? = some x)
    {p : List Byte} {i : Nat} {x : α} (h : Stands p i (enc1 (number x))) : valueAt values p i x := by
  rw [valueAt, h.number (hv x).1]; exact (hv x).2

theorem Stands.option {α : Type} {number : α → Nat} {values : List α} (hv : ∀ x, number x < 256 ∧ values[number x]? = some x)
    {p : List Byte} {i : Nat} {o : Option α} (h : Stands p i (encOpt1 (o.map number))) : optionAt values p i o := by
  cases o with
  | none =>
    refine (h.whole (by simp)).trans ?_
    exact numberAt_encOpt_none 1
  | some x => exact Stands.value hv h

theorem Stands.clock {p : List Byte} {i : Nat} {c : Option ClockTime} (h : Stands p i (encClock c)) : clockAt p i c := by
  have hc := clockAt_encClock c
  cases c with
  | none => exact (h.numberAt 0 1 (by simp)).trans hc
  | some t =>
    obtain ⟨hday, hminute, hsecond⟩ := hc
    exact ⟨fun hd => (h.numberAt 0 1 (by simp)).trans (hday hd), fun hm => (h.numberAt 1 2 (by simp)).trans (hminute hm),
      fun hs => (h.numberAt 3 1 (by simp)).trans (hsecond hs)⟩

/-- A signed element that is not negative, and one that is. -/
theorem Stands.signed {p : List Byte} {i width : Nat} {x : Int} (h : Stands p i (encS (width + 1) x)) :
    (0 ≤ x → x < (2 ^ (8 * width + 7) : Nat) → (Machine.numberAt p i (width + 1) : Int) = x) ∧
      (x < 0 → -(2 ^ (8 * width + 7) : Nat) ≤ x → (Machine.numberAt p i (width + 1) : Int) = x + (2 ^ (8 * width + 8) : Nat)) := by
  have hpow : 2 ^ (8 * width + 8) = 2 * 2 ^ (8 * width + 7) := Nat.pow_succ'
  rw [h.whole (by simp)]
  have hnum := numberAt_encS (width + 1) x
  rw [show 8 * (width + 1) - 1 = 8 * width + 7 by omega, show 8 * (width + 1) = 8 * width + 8 by omega] at hnum
  generalize 2 ^ (8 * width + 7) = m at *
  refine ⟨fun h0 h1 => ?_, fun h0 h1 => ?_⟩
  · rw [hnum (by omega) h1, Int.emod_eq_of_lt h0 (by omega), Int.toNat_of_nonneg h0]
  · have hmod : x % ((2 ^ (8 * width + 8) : Nat) : Int) = x + (2 ^ (8 * width + 8) : Nat) := by
      rw [← Int.add_emod_right, Int.emod_eq_of_lt (by omega) (by omega)]
    rw [hnum h1 (by omega), hmod, Int.toNat_of_nonneg (by omega)]

theorem Stands.seconds {p : List Byte} {i : Nat} {o : Option Nat} (h : Stands p i (encSeconds o)) :
    (o = none → Machine.numberAt p i 4 = 0xFFFFFFFF) ∧ ∀ n, o = some n → n / 1000 < 4294967296 → Machine.numberAt p i 4 = n / 1000 := by
  refine ⟨?_, ?_⟩
  · rintro rfl
    exact (h.whole (by simp)).trans (numberAt_encOpt_none 4)
  · rintro n rfl hn
    exact Stands.number (width := 4) h hn

theorem Stands.mm {p : List Byte} {i n : Nat} {x : Int} (h : Stands p i (encMm x)) (hn : n < 65536) (hx : x = n) :
    Machine.numberAt p i 2 = n := by
  subst hx
  rw [encMm, if_pos (Int.natCast_nonneg n)] at h
  exact h.number hn

theorem Stands.rate {p : List Byte} {i : Nat} {o : Option Int} (h : Stands p i (encRate o)) :
    (∀ r, o = some r → 0 ≤ r → r < 32768 → (Machine.numberAt p i 2 : Int) = r) ∧
      (∀ r, o = some r → r < 0 → -32768 < r → (Machine.numberAt p i 2 : Int) = r + 65536) ∧
      (o = none → Machine.numberAt p i 2 = 0x8000) := by
  refine ⟨?_, ?_, ?_⟩
  · rintro r rfl h0 h1
    exact (Stands.signed (width := 1) h).1 h0 h1
  · rintro r rfl h0 h1
    exact (Stands.signed (width := 1) h).2 h0 (Int.le_of_lt h1)
  · rintro rfl
    exact h.whole rfl

/-! ### A set of small numbers as bits -/

theorem bitsOf_testBit (ns : List Nat) (i : Nat) : (bitsOf ns).testBit i = true ↔ i ∈ ns := by
  have hfold : ∀ acc : Nat, (ns.foldl (fun acc n => acc ||| 2 ^ n) acc).testBit i = true ↔ acc.testBit i = true ∨ i ∈ ns := by
    induction ns with
    | nil => simp
    | cons n ns ih =>
      intro acc
      rw [List.foldl_cons, ih, Nat.testBit_or, Nat.testBit_two_pow, Bool.or_eq_true, decide_eq_true_eq, List.mem_cons, or_assoc,
        eq_comm (a := n)]
  simpa [bitsOf] using hfold 0

theorem bitsOf_lt {ns : List Nat} {k : Nat} (h : ∀ n ∈ ns, n < k) : bitsOf ns < 2 ^ k := by
  refine Nat.lt_pow_two_of_testBit _ fun i hi => ?_
  rw [Bool.eq_false_iff]
  intro hb
  exact absurd (h i ((bitsOf_testBit ns i).1 hb)) (by omega)

theorem Stands.inhibit {p : List Byte} {off : Nat} {rs : List Reason} (h : Stands p off (encInhibit rs)) {i : Nat} {r : Reason}
    (hr : Reason.all[i]? = some r) : (Machine.numberAt p off 2).testBit i = true ↔ r ∈ rs := by
  have hlt : bitsOf (rs.map Reason.number) < 256 ^ 2 := bitsOf_lt (k := 16) fun n hn => by
    obtain ⟨q, -, rfl⟩ := List.mem_map.1 hn
    cases q <;> decide
  have hplace : ∀ q : Reason, Reason.all[q.number]? = some q := by intro q; cases q <;> rfl
  have hnodup : Reason.all.Nodup := by decide
  have hi : i = r.number := by
    have hlen := (List.getElem?_eq_some_iff.1 hr).1
    exact (List.getElem?_inj hlen hnodup).1 (hr.trans (hplace r).symm)
  rw [Stands.number (width := 2) h hlt, bitsOf_testBit, List.mem_map, hi]
  refine ⟨fun ⟨q, hq, hqr⟩ => ?_, fun hq => ⟨r, hq, rfl⟩⟩
  have hsame : q = r := Option.some_injective _ ((hplace q).symm.trans ((congrArg (Reason.all[·]?) hqr).trans (hplace r)))
  rwa [← hsame]

end Sys2Proof.Laws
end

section
/-! PROOFS. The elements of READ_STATE and of the point, channel and zone entries, field by field (R18, R160, R161). -/

namespace Sys2Proof.Laws

open Sys2Proof.Machine Sys2Proof.Machine.Laws

/-! ### The blocks of READ_STATE (R160) -/

/-- The blocks of a READ_STATE payload. -/
def stateBlocks (s : State) : List (List Byte) :=
  [[Status.done.byte], encLevelRecord s.level.record, encGuard s.guard, encFill s.fill, encStation s.fill.station s.fill.demandTag,
    s.encToday, encFrost s.frost, stateTail s]

theorem state_block (s : State) (i : Nat) {xs : List Byte} (h : (stateBlocks s)[i]? = some xs) :
    Stands s.readStatePayload ([1, 14, 16, 31, 9, 6, 8, 63].take i).sum xs := by
  have hp : s.readStatePayload = (stateBlocks s).flatten := by rw [readState_parts]; simp [stateBlocks]
  rw [hp]
  exact stands_flatten (by simp [stateBlocks, stateTail_length]) i h

theorem level_element (s : State) (i : Nat) {xs : List Byte}
    (h : [encU 2 s.level.record.w, enc1 s.level.record.quality.number, encU 4 s.level.record.v, enc1 s.level.record.segment,
      encRate s.level.record.rate, encSeconds (if s.level.record.quality = .lost then s.level.record.lostSince else none)][i]? = some xs) :
    Stands s.readStatePayload (1 + ([2, 1, 4, 1, 2, 4].take i).sum) xs := by
  refine (state_block s 1 rfl).trans ?_
  simpa [encLevelRecord] using stands_flatten (ls := [2, 1, 4, 1, 2, 4]) (by simp) i h

theorem guard_element (s : State) (i : Nat) {xs : List Byte}
    (h : [enc1 s.guard.state.number, encOpt1 (s.guard.cause.map TripCause.number), encU 2 s.guard.projection, encU 2 s.guard.coast,
      encMm s.guard.anticipate, encMm s.guard.trip, encMm s.guard.resetLevel, encFlag s.guard.frostExtra, encFlag s.guard.floatActive,
      enc1 s.guard.tripFlag.number, encFlag s.guard.reset.isSome][i]? = some xs) :
    Stands s.readStatePayload (15 + ([1, 1, 2, 2, 2, 2, 2, 1, 1, 1, 1].take i).sum) xs := by
  refine (state_block s 2 rfl).trans ?_
  simpa [encGuard] using stands_flatten (ls := [1, 1, 2, 2, 2, 2, 2, 1, 1, 1, 1]) (by simp) i h

theorem fill_element (s : State) (i : Nat) {xs : List Byte}
    (h : [enc1 s.fill.state.number, encOpt1 (s.fill.purpose.map Purpose.number), enc1 s.fill.order.number, enc1 s.fill.demand,
      encInhibit s.fill.inhibit, encFlag s.fill.turnoverDone, encFlag s.fill.closeOwed, encNumbers s.fill.numbers][i]? = some xs) :
    Stands s.readStatePayload (31 + ([1, 1, 1, 1, 2, 1, 1, 23].take i).sum) xs := by
  refine (state_block s 3 rfl).trans ?_
  simpa [encFill] using stands_flatten (ls := [1, 1, 1, 1, 2, 1, 1, 23]) (by simp) i h

theorem numbers_element (s : State) (i : Nat) {xs : List Byte}
    (h : [encU 4 s.fill.numbers.vTarget, encS 2 (s.fill.numbers.windowEnd : Int), encS 2 s.fill.numbers.m, encU 4 s.fill.numbers.draw,
      encU 4 s.fill.numbers.need, encU 4 s.fill.numbers.flow, enc1 s.fill.numbers.wanted, enc1 s.fill.numbers.k,
      encFlag s.fill.numbers.cut][i]? = some xs) :
    Stands s.readStatePayload (39 + ([4, 2, 2, 4, 4, 4, 1, 1, 1].take i).sum) xs := by
  refine (fill_element s 7 rfl).trans ?_
  simpa [encNumbers] using stands_flatten (ls := [4, 2, 2, 4, 4, 4, 1, 1, 1]) (by simp) i h

/-- The station copy: its mode, absent with it, and the tag of the last DEMAND. -/
theorem station_element (s : State) : Stands s.readStatePayload 62 (encOpt1 ((s.fill.station.map StationCopy.mode).map StationMode.number)) ∧
    (∀ c, s.fill.station = some c → ∀ (i : Nat) xs, [enc1 c.mode.number, enc1 c.available, enc1 c.running, encU 4 c.flow,
      enc1 c.echoed][i]? = some xs → Stands s.readStatePayload (62 + ([1, 1, 1, 4, 1].take i).sum) xs) ∧
    Stands s.readStatePayload 70 (enc1 s.fill.demandTag) := by
  have hblock := state_block s 4 rfl
  have hmode : ∀ tag, Stands (encStation s.fill.station tag) 0 (encOpt1 ((s.fill.station.map StationCopy.mode).map StationMode.number)) ∧
      Stands (encStation s.fill.station tag) 8 (enc1 tag) := by
    intro tag
    cases s.fill.station with
    | none =>
      refine ⟨⟨[], _, rfl, rfl⟩, ⟨_, [], by rw [List.append_nil]; rfl, ?_⟩⟩
      simp
    | some c =>
      have h := fun i xs => stands_flatten (cs := [enc1 c.mode.number, enc1 c.available, enc1 c.running, encU 4 c.flow, enc1 c.echoed,
        enc1 tag]) (ls := [1, 1, 1, 4, 1, 1]) (by simp) i (xs := xs)
      simp only [List.flatten_cons, List.flatten_nil, List.append_nil] at h
      have hfirst : Stands (encStation (some c) tag) 0 (enc1 c.mode.number) := by simpa [encStation] using h 0 _ rfl
      exact ⟨hfirst, by simpa [encStation] using h 5 _ rfl⟩
  refine ⟨hblock.trans (hmode _).1, fun c hc i xs h => hblock.trans ?_, hblock.trans (hmode _).2⟩
  have hlt : i < 5 := (List.getElem?_eq_some_iff.1 h).1
  have hs := stands_flatten (cs := [enc1 c.mode.number, enc1 c.available, enc1 c.running, encU 4 c.flow, enc1 c.echoed])
    (ls := [1, 1, 1, 4, 1]) (by simp) i h
  obtain ⟨a, b, hab, ha⟩ := hs
  refine ⟨a, b ++ enc1 s.fill.demandTag, ?_, ha⟩
  rw [← List.append_assoc xs b, ← List.append_assoc a, ← hab, hc]
  simp [encStation]

theorem today_element (s : State) (i : Nat) {xs : List Byte}
    (h : [encClock s.clockTime, enc1 s.fill.tariff.number,
      encOpt1 (s.clockTime.map fun t => (siteDayType s.tables.siteSet t.day).number)][i]? = some xs) :
    Stands s.readStatePayload (71 + ([4, 1, 1].take i).sum) xs := by
  refine (state_block s 5 rfl).trans ?_
  simpa [State.encToday] using stands_flatten (ls := [4, 1, 1]) (by simp) i h

theorem frost_element (s : State) (i : Nat) {xs : List Byte}
    (h : [encFlag s.frost.flags.riser, encFlag s.frost.flags.valveChamber, encFlag s.frost.flags.overflowPipe, encFlag s.frost.flags.outlet,
      encFlag s.frost.flags.sensorHousing, encFlag s.frost.watch, encU 2 s.frost.budget][i]? = some xs) :
    Stands s.readStatePayload (77 + ([1, 1, 1, 1, 1, 1, 2].take i).sum) xs := by
  refine (state_block s 6 rfl).trans ?_
  simpa [encFrost] using stands_flatten (ls := [1, 1, 1, 1, 1, 1, 2]) (by simp) i h

theorem tail_element (s : State) (i : Nat) {xs : List Byte}
    (h : [enc1 s.supply.mode.number, encFlag s.trunk.islanded, encFlag s.trunk.controlSilent, encFlag s.trunk.stationSilent,
      Bank.all.flatMap (fun b => encFlag (s.banks.get b).isSome ++ encFlag (s.holds b)),
      TableKind.all.flatMap (fun k => encU 4 (s.use.get k).generation), encFlag s.trunk.restart.isSome, encU 4 s.uptime][i]? = some xs) :
    Stands s.readStatePayload (85 + ([1, 1, 1, 1, 14, 40, 1, 4].take i).sum) xs := by
  refine (state_block s 7 rfl).trans ?_
  simpa [stateTail] using stands_flatten (ls := [1, 1, 1, 1, 14, 40, 1, 4]) (by simp [Bank.all, TableKind.all]) i h

/-- The two flags of a bank. -/
theorem bank_flags (s : State) {i : Nat} {b : Bank} (h : Bank.all[i]? = some b) :
    Stands s.readStatePayload (89 + 2 * i) (encFlag (s.banks.get b).isSome) ∧
      Stands s.readStatePayload (90 + 2 * i) (encFlag (s.holds b)) := by
  have hbank := (tail_element s 4 rfl).trans (stands_flatMap (n := 2) (fun _ => rfl) h)
  refine ⟨hbank.trans (j := 0) ⟨[], _, rfl, rfl⟩, ?_⟩
  have hsecond := hbank.trans (j := 1) (ys := encFlag (s.holds b)) ⟨encFlag (s.banks.get b).isSome, [], by simp, rfl⟩
  rw [show 90 + 2 * i = 89 + 2 * i + 1 by omega]
  exact hsecond

theorem kind_generation (s : State) {i : Nat} {k : TableKind} (h : TableKind.all[i]? = some k) :
    Stands s.readStatePayload (103 + 4 * i) (encU 4 (s.use.get k).generation) :=
  (tail_element s 5 rfl).trans (stands_flatMap (n := 4) (fun _ => encU_length _ _) h)

/-! ### Entries (R18, R161) -/

theorem point_element (s : State) (j : Nat) (i : Nat) {xs : List Byte}
    (h : [enc1 j, encFlag (s.pointRecord j).isSome, encOpt1 ((s.pointRecord j).map fun x => x.kind.number), encS 4 (s.point j).value,
      enc1 (s.point j).quality.number,
      encOpt1 (if (s.point j).quality != .none then (s.point j).source.map Source.number else none),
      encSeconds (if (s.point j).quality != .none then (s.point j).updated.map fun t => s.now - t else none)][i]? = some xs) :
    Stands (s.pointEntry j) ([1, 1, 1, 4, 1, 1, 4].take i).sum xs := by
  have hs := stands_flatten (ls := [1, 1, 1, 4, 1, 1, 4]) (by simp) i h
  simpa only [State.pointEntry, List.flatten_cons, List.flatten_nil, List.append_nil, List.append_assoc] using hs

theorem pointEntry_length (s : State) (j : Nat) : (s.pointEntry j).length = 13 := by
  simp only [State.pointEntry, List.length_append, enc1_length, encFlag_length, encOpt1_length, encS_length, encSeconds_length]

theorem channel_element {s : State} {j : Nat} {c : ChannelRecord} {l : ChannelLive} (hc : s.channelRecord j = some c)
    (hl : s.line.live[j]? = some l) : (s.channelEntry j).length = 10 ∧ ∀ (i : Nat) {xs : List Byte},
      [encFlag true, encFlag l.go, enc1 l.mode.number, enc1 l.condition.number, enc1 l.failures, enc1 l.countdown, encFlag l.handed.isSome,
        enc1 l.pendingCount, enc1 l.haltedCycles, encFlag (s.isSuspended c)][i]? = some xs → Stands (s.channelEntry j) i xs := by
  have he : s.channelEntry j = [encFlag true, encFlag l.go, enc1 l.mode.number, enc1 l.condition.number, enc1 l.failures, enc1 l.countdown,
      encFlag l.handed.isSome, enc1 l.pendingCount, enc1 l.haltedCycles, encFlag (s.isSuspended c)].flatten := by
    have hlive : s.channelLive j = l := by rw [State.channelLive, List.getD_eq_getElem?_getD, hl]; rfl
    simp [State.channelEntry, hc, hlive]
  rw [he]
  refine ⟨by simp, fun i xs h => ?_⟩
  have hs := stands_flatten (ls := List.replicate 10 1) (by simp [List.replicate]) i h
  have hi : i ≤ 10 := Nat.le_of_lt (List.getElem?_eq_some_iff.1 h).1
  rwa [List.take_replicate, Nat.min_eq_left hi, List.sum_replicate, smul_eq_mul, Nat.mul_one] at hs

/-- The number of a held command (R185). -/
def heldNumber : Option Bool → Nat
  | none => 0
  | some false => 1
  | some true => 2

theorem encHeld_eq (h : Option Bool) : encHeld h = enc1 (heldNumber h) := by
  rcases h with _ | _ | _ <;> rfl

theorem zone_element {s : State} {j : Nat} {r : ZoneRecord} {z : ZoneState} (hr : s.zoneRecords[j]? = some r)
    (hz : s.frost.zones[j]? = some z) : (s.zoneEntry j).length = 15 ∧ ∀ (i : Nat) {xs : List Byte},
      [encFlag true, enc1 r.kind.number, encFlag z.probeRequest, encFlag z.request, encFlag z.granted, encHeater z.heater, encHeld z.held,
        encFlag z.frozen, encFlag z.probeLost, encSeconds (z.deferredSince.map fun t => s.now - t), encFlag z.budgetShort][i]? = some xs →
      Stands (s.zoneEntry j) ([1, 1, 1, 1, 1, 2, 1, 1, 1, 4, 1].take i).sum xs := by
  have he : s.zoneEntry j = [encFlag true, enc1 r.kind.number, encFlag z.probeRequest, encFlag z.request, encFlag z.granted,
      encHeater z.heater, encHeld z.held, encFlag z.frozen, encFlag z.probeLost, encSeconds (z.deferredSince.map fun t => s.now - t),
      encFlag z.budgetShort].flatten := by
    simp only [State.zoneEntry, hr, hz, List.flatten_cons, List.flatten_nil, List.append_nil, List.append_assoc]
  rw [he]
  refine ⟨by simp, fun i xs h => stands_flatten (by simp) i h⟩

/-- Two bytes of one number each. -/
theorem numberAt_pair {a b : Nat} (ha : a < 256) (hb : b < 256) : numberAt (enc1 a ++ enc1 b) 0 2 = a * 256 + b := by
  simp [numberAt, enc1, encU, beBytes, ha, hb, Nat.mod_eq_of_lt]

/-- The heater element by the heater's state (R161). -/
theorem Stands.heater {p : List Byte} {i : Nat} {x : Heater} (h : Stands p i (encHeater x)) :
    (x = .off → Machine.numberAt p i 2 = 0x00FF) ∧ (x = .on → Machine.numberAt p i 2 = 0x01FF) ∧
      (∀ b, x = .commanding b → Machine.numberAt p i 2 = if b then 0x0201 else 0x0200) ∧
      (x = .failed none → Machine.numberAt p i 2 = 0x03FF) ∧
      ∀ n : Nat, n < 256 → x = .failed (some n) → Machine.numberAt p i 2 = 0x0300 + n := by
  have hw := h.whole (len := 2) (by simp)
  refine ⟨?_, ?_, ?_, ?_, ?_⟩
  · rintro rfl; exact hw.trans rfl
  · rintro rfl; exact hw.trans rfl
  · rintro b rfl; cases b <;> exact hw.trans rfl
  · rintro rfl; exact hw.trans rfl
  · rintro n hn rfl; exact hw.trans (numberAt_pair (by decide) hn)

end Sys2Proof.Laws
end

section
/-! PROOFS. READ_TRIPS (R162), the answers of the read requests (R18, R149, R160 to R162, R175), and O40. -/

namespace Sys2Proof.Laws

open Sys2Proof.Machine Sys2Proof.Machine.Laws

/-! ### READ_TRIPS (R162) -/

/-- The intact record of a slot, with its number. -/
def slotEntry (slots : List TripSlot) (i : Nat) : List (Nat × Nat × TripEntry) :=
  match slots[i]? with
  | some (.intact n e) => [(i, n, e)]
  | some .erased => []
  | some .spoilt => []
  | none => []

/-- What READ_TRIPS sends of an intact record. -/
def tripBytes (x : Nat × Nat × TripEntry) : List Byte := enc1 x.1 ++ encTripEntry x.2.2

/-- What READ_TRIPS sends of a slot. -/
def slotBytes (slots : List TripSlot) (i : Nat) : List Byte := (slotEntry slots i).flatMap tripBytes

theorem slotEntry_cons (x : TripSlot) (xs : List TripSlot) (i : Nat) :
    slotEntry (x :: xs) (i + 1) = (slotEntry xs i).map fun y => (y.1 + 1, y.2) := by
  unfold slotEntry
  rw [List.getElem?_cons_succ]
  rcases xs[i]? with _ | _ | _ | _ <;> rfl

theorem intactFrom_succ (slots : List TripSlot) : ∀ i, intactFrom (i + 1) slots = (intactFrom i slots).map fun y => (y.1 + 1, y.2) := by
  induction slots with
  | nil => exact fun _ => rfl
  | cons x xs ih => intro i; cases x <;> simp [intactFrom, ih]

/-- The intact records are those of the slots, in their order. -/
theorem intactFrom_slots (slots : List TripSlot) : intactFrom 0 slots = (List.range slots.length).flatMap (slotEntry slots) := by
  induction slots with
  | nil => rfl
  | cons x xs ih =>
    have hrest : (List.range xs.length).flatMap (fun i => slotEntry (x :: xs) (i + 1)) = intactFrom 1 xs := by
      rw [intactFrom_succ, ih, List.map_flatMap]
      exact List.flatMap_congr fun i _ => slotEntry_cons x xs i
    have hhead : intactFrom 0 (x :: xs) = slotEntry (x :: xs) 0 ++ intactFrom 1 xs := by cases x <;> rfl
    rw [hhead, ← hrest, List.length_cons, List.range_succ_eq_map, List.flatMap_cons, List.flatMap_map]

/-- The intact records whose slot is of a kind are those of the slots of that kind. -/
theorem filter_slots (q : Nat → Bool) (slots : List TripSlot) (ns : List Nat) :
    (ns.flatMap (slotEntry slots)).filter (fun x => q x.1) = (ns.filter q).flatMap (slotEntry slots) := by
  have hone : ∀ n, (slotEntry slots n).filter (fun x => q x.1) = if q n then slotEntry slots n else [] := by
    intro n
    unfold slotEntry
    rcases slots[n]? with _ | _ | _ | _ <;> cases hq : q n <;> simp [hq]
  induction ns with
  | nil => rfl
  | cons n ns ih =>
    rw [List.flatMap_cons, List.filter_append, ih, hone, List.filter_cons]
    split <;> simp

/-- The newest intact record is that of a slot. -/
theorem newestIntact_slot {slots : List TripSlot} {x : Nat × Nat × TripEntry} (h : newestIntact slots = some x) : x.1 < slots.length := by
  have hx := List.mem_of_find?_eq_some h
  rw [intactFrom_slots] at hx
  obtain ⟨i, hi, hx⟩ := List.mem_flatMap.1 hx
  have hfirst : x.1 = i := by
    unfold slotEntry at hx
    split at hx <;> simp_all
  rw [hfirst]; exact List.mem_range.1 hi

/-- The order of the slots in a READ_TRIPS of eight slots: the sector with the newest record last. -/
theorem trips_order {slots : List TripSlot} (h : slots.length = 8) : (tripsInOrder slots).flatMap tripBytes =
    (match newestIntact slots with
      | some (i, _, _) => if i / 4 = 0 then [4, 5, 6, 7, 0, 1, 2, 3] else [0, 1, 2, 3, 4, 5, 6, 7]
      | none => [0, 1, 2, 3, 4, 5, 6, 7]).flatMap (slotBytes slots) := by
  have hall : intactFrom 0 slots = [0, 1, 2, 3, 4, 5, 6, 7].flatMap (slotEntry slots) := by rw [intactFrom_slots, h]; rfl
  have hflat : ∀ ns : List Nat, (ns.flatMap (slotEntry slots)).flatMap tripBytes = ns.flatMap (slotBytes slots) :=
    fun ns => List.flatMap_assoc
  cases hn : newestIntact slots with
  | none => simp only [tripsInOrder, hn, hall]; exact hflat _
  | some x =>
    obtain ⟨i, n, e⟩ := x
    have hi : i < 8 := h ▸ newestIntact_slot hn
    have hordered : tripsInOrder slots = (([0, 1, 2, 3, 4, 5, 6, 7].filter fun j => j / 4 != i / 4) ++
        ([0, 1, 2, 3, 4, 5, 6, 7].filter fun j => j / 4 == i / 4)).flatMap (slotEntry slots) := by
      simp only [tripsInOrder, hn, hall, filter_slots (fun j => j / 4 != i / 4), filter_slots (fun j => j / 4 == i / 4),
        List.flatMap_append]
    rw [hordered, hflat]
    have hsector : i / 4 = 0 ∨ i / 4 = 1 := by omega
    rcases hsector with hs | hs
    all_goals simp only [hs]; rfl

/-- How many bytes READ_TRIPS sends of a slot. -/
def slotSize : TripSlot → Nat
  | .intact _ (.trip _ _ _ _ _ _) => 16
  | .intact _ (.marker _ _ _) => 12
  | .erased => 0
  | .spoilt => 0

theorem intact_length (slots : List TripSlot) : ∀ i, ((intactFrom i slots).flatMap tripBytes).length = (slots.map slotSize).sum := by
  induction slots with
  | nil => exact fun _ => rfl
  | cons x xs ih =>
    intro i
    have hone : ∀ n e, (tripBytes (i, n, e)).length = slotSize (.intact n e) := by
      rintro n (_ | _) <;> simp [tripBytes, encTripEntry, slotSize]
    cases x with
    | intact n e =>
      rw [intactFrom, List.flatMap_cons, List.length_append, ih, hone, List.map_cons, List.sum_cons]
    | erased => simpa [intactFrom, slotSize] using ih (i + 1)
    | spoilt => simpa [intactFrom, slotSize] using ih (i + 1)

theorem trips_length (slots : List TripSlot) : ((tripsInOrder slots).flatMap tripBytes).length = (slots.map slotSize).sum := by
  have hperm : (tripsInOrder slots).Perm (intactFrom 0 slots) := by
    unfold tripsInOrder
    dsimp only
    split
    · next i _ _ _ =>
      have h := List.filter_append_perm (fun x : Nat × Nat × TripEntry => x.1 / 4 != i / 4) (intactFrom 0 slots)
      simpa only [bne, Bool.not_not] using h
    · exact .refl _
  rw [(hperm.flatMap_right tripBytes).length_eq]
  exact intact_length slots 0

theorem readTrips_parts (s : State) : s.readTripsPayload =
    Status.done.byte :: ((tripsInOrder s.nv.slots).flatMap tripBytes ++ enc1 s.guard.tripFlag.number) := rfl

theorem readTrips_length (s : State) : s.readTripsPayload.length = 2 + (s.nv.slots.map slotSize).sum := by
  rw [readTrips_parts, List.length_cons, List.length_append, trips_length, enc1_length]
  omega

/-- The trip flag stands at the end. -/
theorem readTrips_flag (s : State) : Stands s.readTripsPayload (s.readTripsPayload.length - 1) (enc1 s.guard.tripFlag.number) := by
  refine ⟨Status.done.byte :: (tripsInOrder s.nv.slots).flatMap tripBytes, [], ?_, ?_⟩
  · rw [readTrips_parts, List.append_nil, List.cons_append]
  · rw [readTrips_length, List.length_cons, trips_length]; omega

/-- What READ_TRIPS sends of a slot that holds a trip record, field by field. -/
theorem slotBytes_trip {slots : List TripSlot} {i n w pr u : Nat} {c : TripCause} {q : LevelQuality} {k : Option ClockTime}
    (hi : i < 256) (h : slots[i]? = some (.intact n (.trip c w q pr k u))) :
    (slotBytes slots i).length = 16 ∧ numberAt (slotBytes slots i) 0 2 = i * 256 ∧
      valueAt [TripCause.level, .float, .levelLost, .noTables] (slotBytes slots i) 2 c ∧
      (w < 65536 → numberAt (slotBytes slots i) 3 2 = w) ∧ valueAt [LevelQuality.good, .split, .single, .lost] (slotBytes slots i) 5 q ∧
      (pr < 65536 → numberAt (slotBytes slots i) 6 2 = pr) ∧ clockAt (slotBytes slots i) 8 k ∧
      (u < 4294967296 → numberAt (slotBytes slots i) 12 4 = u) := by
  have he : slotBytes slots i = [enc1 i ++ enc1 0, enc1 c.number, encU 2 w, enc1 q.number, encU 2 pr, encClock k, encU 4 u].flatten := by
    simp [slotBytes, slotEntry, h, tripBytes, encTripEntry]
  have hs : ∀ (j : Nat) {xs : List Byte}, [enc1 i ++ enc1 0, enc1 c.number, encU 2 w, enc1 q.number, encU 2 pr, encClock k,
      encU 4 u][j]? = some xs → Stands (slotBytes slots i) ([2, 1, 2, 1, 2, 4, 4].take j).sum xs := by
    intro j xs hj
    rw [he]; exact stands_flatten (by simp) j hj
  have hnumber : numberAt (slotBytes slots i) 0 2 = i * 256 + 0 := ((hs 0 rfl).whole (by simp)).trans (numberAt_pair hi (by decide))
  refine ⟨by rw [he]; simp, by rw [hnumber, Nat.add_zero],
    (hs 1 rfl).value fun x => by cases x <;> decide, fun hw => (hs 2 rfl).number hw, (hs 3 rfl).value fun x => by cases x <;> decide,
    fun hw => (hs 4 rfl).number hw, (hs 5 rfl).clock, fun hu => (hs 6 rfl).number hu⟩

/-- What READ_TRIPS sends of a slot that holds a reset marker, field by field. -/
theorem slotBytes_marker {slots : List TripSlot} {i n w u : Nat} {k : Option ClockTime} (hi : i < 256)
    (h : slots[i]? = some (.intact n (.marker w k u))) :
    (slotBytes slots i).length = 12 ∧ numberAt (slotBytes slots i) 0 2 = i * 256 + 1 ∧
      (w < 65536 → numberAt (slotBytes slots i) 2 2 = w) ∧ clockAt (slotBytes slots i) 4 k ∧
      (u < 4294967296 → numberAt (slotBytes slots i) 8 4 = u) := by
  have he : slotBytes slots i = [enc1 i ++ enc1 1, encU 2 w, encClock k, encU 4 u].flatten := by
    simp [slotBytes, slotEntry, h, tripBytes, encTripEntry]
  have hs : ∀ (j : Nat) {xs : List Byte}, [enc1 i ++ enc1 1, encU 2 w, encClock k, encU 4 u][j]? = some xs →
      Stands (slotBytes slots i) ([2, 2, 4, 4].take j).sum xs := by
    intro j xs hj
    rw [he]; exact stands_flatten (by simp) j hj
  exact ⟨by rw [he]; simp, ((hs 0 rfl).whole (by simp)).trans (numberAt_pair hi (by decide)), fun hw => (hs 1 rfl).number hw,
    (hs 2 rfl).clock, fun hu => (hs 3 rfl).number hu⟩

/-! ### The answers -/

/-- The state in which the owner judges a read request differs from the one before in the trunk timer, the queue and a notice. -/
theorem taken_eq (code tag : Byte) (s : State) : ∃ o ns, taken code tag s = { s with
    trunk := { s.trunk with controlAt := some (s.now + (siteLimits s.tables.siteSet).1), controlSilent := false, islanded := false }
    out := o, notices := ns } := by
  refine ⟨(taken code tag s).out, (taken code tag s).notices, state_ext fun p => ?_⟩
  by_cases ht : p = .trunk
  · subst ht; exact (updOut_read (part := .trunk) (by decide) _ _).trans (controlFrame_trunk s)
  · by_cases ho : p ∈ [Part.out, .notices]
    · rcases List.mem_pair.1 ho with rfl | rfl <;> rfl
    · rw [taken_read code tag s (by simp_all)]
      cases p <;> first | rfl | exact absurd rfl ht | exact absurd (by decide) ho

/-- A request of the right length whose owner answers it at once, with no other effect. -/
theorem answered_at_once (code tag : Byte) (owner : Nat → State → State) (s : State) (payload : List Byte) (hs : s.Serves)
    (ho : owner s.out.nextResv (taken code tag s) = (taken code tag s).respond s.out.nextResv payload) :
    Served [] s (State.request Config.pick code tag true owner s) ∧
      (State.request Config.pick code tag true owner s).out.Carries (.response s.out.nextResv code tag payload) := by
  have htaken : State.takeRequest code tag true owner s = (taken code tag s).respond s.out.nextResv payload :=
    (takeRequest_place code tag true _ s hs.2).trans ho
  obtain ⟨hserved, -, hcarries, -⟩ := request_served code tag true owner s hs [] (by decide) (by decide) (by decide)
    (by decide) fun p hp => by rw [htaken]; exact respond_read hp _ _ _
  refine ⟨hserved, hcarries _ _ _ _ ?_⟩
  rw [htaken]
  exact respond_new _ code tag _ _ (taken_reserves code tag s)

theorem arg_first (x : Byte) (xs : List Byte) : arg (x :: xs) 0 = x.toNat := by
  simp [arg, fieldU, beNat]

theorem arg_second (x y : Byte) (xs : List Byte) : arg (x :: y :: xs) 1 = y.toNat := by
  simp [arg, fieldU, beNat]

theorem runOf_eq (total first count : Nat) : runOf total first count = List.range' first (min count (total - first)) := by
  rw [runOf, List.range_eq_range', List.drop_range', Nat.zero_add, Nat.mul_one]
  rcases Nat.le_total count (total - first) with h | h
  · rw [List.take_range'_of_length_ge h, Nat.min_eq_left h]
  · rw [List.take_range'_of_length_le h, Nat.min_eq_right h]

end Sys2Proof.Laws
end

section
/-! PROOFS. The read requests and their payloads (R18, R149, R160 to R162, R175): O40. -/

namespace Sys2Proof.Laws

open Sys2Proof.Machine Sys2Proof.Machine.Laws

/-- A read request whose payload does not depend on the trunk, the queue and the notices. -/
theorem read_served (code tag : Byte) (payload : State → List Byte) (s : State) (hs : s.Serves)
    (hsame : ∀ tr o ns, payload { s with trunk := tr, out := o, notices := ns } = payload s) :
    Served [] s (State.request Config.pick code tag true (answerWith payload) s) ∧
      (State.request Config.pick code tag true (answerWith payload) s).out.Carries (.response s.out.nextResv code tag (payload s)) := by
  obtain ⟨o, ns, htaken⟩ := taken_eq code tag s
  have h := answered_at_once code tag (answerWith payload) s _ hs rfl
  rwa [htaken, hsame] at h

/-- READ_TABLE by the kind's number (R175). -/
theorem readTable_kind (s : State) (k : TableKind) (i : Nat) : s.readTable k.number i =
    match (s.use.get k).inUse with
    | none => [Status.empty.byte]
    | some c => match ((s.nv.copies.get k).get c).records[i]? with
      | some r => Status.done.byte :: (encU 4 (s.use.get k).generation ++ enc1 ((s.nv.copies.get k).get c).records.length ++ r)
      | none => [Status.outOfRange.byte] := by
  have hkind : TableKind.ofNumber k.number = some k := by cases k <;> rfl
  simp only [State.readTable, hkind, State.copyInUse]
  cases (s.use.get k).inUse with
  | none => rfl
  | some c => dsimp only [Option.map_some]; cases ((s.nv.copies.get k).get c).records[i]? <;> rfl

/-- Source and age of a point entry are absent while the point is NONE (R18). -/
theorem pointEntry_update {s : State} {j : Nat} {x : PointState} (hx : x = s.point j) :
    (x.quality = .none → numberAt (s.pointEntry j) 8 1 = 255 ∧ numberAt (s.pointEntry j) 9 4 = 0xFFFFFFFF) ∧
    (x.quality ≠ .none → optionAt [Source.polled, .passed] (s.pointEntry j) 8 x.source ∧
      ∀ u, x.updated = some u → (s.now - u) / 1000 < 4294967296 → numberAt (s.pointEntry j) 9 4 = (s.now - u) / 1000) := by
  subst hx
  have hsource := point_element s j 5 rfl
  have htime := point_element s j 6 rfl
  refine ⟨fun hq => ?_, fun hq => ?_⟩
  · have hknown : ((s.point j).quality != .none) = false := by rw [hq]; rfl
    rw [hknown] at hsource htime
    exact ⟨(hsource.whole (by simp)).trans (numberAt_encOpt_none 1), htime.seconds.1 rfl⟩
  · have hknown : ((s.point j).quality != .none) = true := by simpa using hq
    rw [hknown] at hsource htime
    exact ⟨Stands.option (fun x => by cases x <;> decide) hsource, fun u hu hn => htime.seconds.2 _ (by rw [hu]; rfl) hn⟩

/-- Settles O40: each request by its payload, each payload by its elements. -/
theorem readsAreAnswered : Obligations.ReadsAreAnswered := by
  refine ⟨?_, ?_, ?_, ?_, ?_, ?_, ?_, ?_, ?_, ?_, ?_, ?_⟩
  case refine_1 =>
    intro s tag x n hs
    obtain ⟨hserved, hcarries⟩ := read_served 0x10#8 tag (fun s => s.readPointsPayload x.toNat n.toNat) s hs fun _ _ _ => rfl
    rw [State.readPointsPayload, runOf_eq] at hcarries
    refine ⟨_, ?_, hserved, hcarries⟩
    rw [← arg_first x [n], ← arg_second x n []]
    rfl
  case refine_2 =>
    intro s tag hs
    obtain ⟨o, ns, htaken⟩ := taken_eq 0x11#8 tag s
    obtain ⟨hserved, hcarries⟩ := answered_at_once 0x11#8 tag (answerWith State.readStatePayload) s _ hs rfl
    rw [htaken] at hcarries
    exact ⟨_, rfl, hserved, hcarries⟩
  case refine_3 =>
    intro s tag x n hs
    obtain ⟨hserved, hcarries⟩ := read_served 0x12#8 tag (fun s => s.readChannelsPayload x.toNat n.toNat) s hs fun _ _ _ => rfl
    rw [State.readChannelsPayload, runOf_eq] at hcarries
    refine ⟨_, ?_, hserved, hcarries⟩
    rw [← arg_first x [n], ← arg_second x n []]
    rfl
  case refine_4 =>
    intro s tag hs
    obtain ⟨hserved, hcarries⟩ := read_served 0x13#8 tag State.readZonesPayload s hs fun _ _ _ => rfl
    exact ⟨_, rfl, hserved, hcarries⟩
  case refine_5 =>
    intro s tag n hs
    obtain ⟨hserved, hcarries⟩ := read_served 0x14#8 tag (fun s => s.readBankPayload n.toNat) s hs fun _ _ _ => rfl
    refine ⟨_, ?_, hserved, fun hn => ?_, fun b hb => ?_⟩
    · rw [← arg_first n []]
      rfl
    · have hnone : Bank.ofNumber n.toNat = none := List.getElem?_eq_none hn
      rwa [State.readBankPayload, hnone] at hcarries
    · have hbank : Bank.ofNumber n.toNat = some b := by rw [hb]; cases b <;> rfl
      rwa [State.readBankPayload, hbank] at hcarries
  case refine_6 =>
    intro s tag hs
    obtain ⟨hserved, hcarries⟩ := read_served 0x16#8 tag State.readTripsPayload s hs fun _ _ _ => rfl
    exact ⟨_, rfl, hserved, hcarries⟩
  case refine_7 =>
    intro s tag n i hs
    obtain ⟨hserved, hcarries⟩ := read_served 0x17#8 tag (fun s => s.readTable n.toNat i.toNat) s hs fun _ _ _ => rfl
    refine ⟨_, ?_, hserved, fun hn => ?_, fun k hk => ?_⟩
    · rw [← arg_first n [i], ← arg_second n i []]
      rfl
    · have hnone : TableKind.ofNumber n.toNat = none := List.getElem?_eq_none hn
      rwa [State.readTable, hnone] at hcarries
    · have hread := readTable_kind s k i.toNat
      rw [← hk] at hread
      rw [hread] at hcarries
      refine ⟨fun hnone => ?_, fun c hc => ?_⟩
      · rwa [hnone] at hcarries
      · rw [hc] at hcarries
        exact hcarries
  case refine_8 =>
    rintro s p rfl
    refine ⟨readState_length s, rfl, fun h => (level_element s 0 rfl).number h,
      (level_element s 1 rfl).value fun x => by cases x <;> decide, fun h => (level_element s 2 rfl).number h,
      fun h => (level_element s 3 rfl).number h, (level_element s 4 rfl).rate.1, (level_element s 4 rfl).rate.2.1,
      (level_element s 4 rfl).rate.2.2, fun h => (level_element s 5 rfl).seconds.1 (if_neg h),
      fun n hq hn => (level_element s 5 rfl).seconds.2 n ((if_pos hq).trans hn),
      (guard_element s 0 rfl).value fun x => by cases x <;> decide, (guard_element s 1 rfl).option fun x => by cases x <;> decide,
      fun h => (guard_element s 2 rfl).number h, fun h => (guard_element s 3 rfl).number h,
      fun n hn => ⟨(guard_element s 4 rfl).mm hn, (guard_element s 5 rfl).mm hn, (guard_element s 6 rfl).mm hn⟩,
      (guard_element s 7 rfl).flag, (guard_element s 8 rfl).flag, (guard_element s 9 rfl).value fun x => by cases x <;> decide,
      (guard_element s 10 rfl).flag,
      (fill_element s 0 rfl).value fun x => by cases x <;> decide, (fill_element s 1 rfl).option fun x => by cases x <;> decide,
      (fill_element s 2 rfl).value fun x => by cases x <;> decide, fun h => (fill_element s 3 rfl).number h,
      fun i r hr => (fill_element s 4 rfl).inhibit hr, (fill_element s 5 rfl).flag, (fill_element s 6 rfl).flag,
      fun h => (numbers_element s 0 rfl).number h, fun h => ?_, fun m hm hx => ?_, fun h => (numbers_element s 3 rfl).number h,
      fun h => (numbers_element s 4 rfl).number h, fun h => (numbers_element s 5 rfl).number h,
      fun h => (numbers_element s 6 rfl).number h, fun h => (numbers_element s 7 rfl).number h, (numbers_element s 8 rfl).flag,
      (station_element s).1.option fun x => by cases x <;> decide, fun c hc => ?_, fun h => (station_element s).2.2.number h,
      (today_element s 0 rfl).clock, (today_element s 1 rfl).value fun x => by cases x <;> decide, fun c hc => ?_,
      (frost_element s 0 rfl).flag, (frost_element s 1 rfl).flag, (frost_element s 2 rfl).flag, (frost_element s 3 rfl).flag,
      (frost_element s 4 rfl).flag, (frost_element s 5 rfl).flag, fun h => (frost_element s 6 rfl).number h,
      (tail_element s 0 rfl).value fun x => by cases x <;> decide, (tail_element s 1 rfl).flag, (tail_element s 2 rfl).flag,
      (tail_element s 3 rfl).flag, fun i b hb => ⟨(bank_flags s hb).1.flag, (bank_flags s hb).2.flag⟩,
      fun i k hk h => (kind_generation s hk).number h, (tail_element s 6 rfl).flag, fun h => (tail_element s 7 rfl).number h⟩
    · have hend := (Stands.signed (width := 1) (numbers_element s 1 rfl)).1 (Int.natCast_nonneg _) (Int.ofNat_lt.2 h)
      exact Int.ofNat_inj.1 hend
    · have hm' := (Stands.signed (width := 1) (numbers_element s 2 rfl)).1 (by omega) (by omega)
      exact Int.ofNat_inj.1 (hm'.trans hx)
    · have hcopy := (station_element s).2.1 c hc
      exact ⟨fun h => (hcopy 1 _ rfl).number h, fun h => (hcopy 2 _ rfl).number h, fun h => (hcopy 3 _ rfl).number h,
        fun h => (hcopy 4 _ rfl).number h⟩
    · have hday := today_element s 2 rfl
      rw [hc] at hday
      exact Stands.value (number := DayType.number) (fun x => by cases x <;> decide) hday
  case refine_9 =>
    rintro s i p x rfl rfl
    have hvalue := (point_element s i 3 rfl).signed (width := 3)
    obtain ⟨hnone, hknown⟩ := pointEntry_update (s := s) (j := i) rfl
    refine ⟨pointEntry_length s i, fun h => (point_element s i 0 rfl).number h, (point_element s i 1 rfl).flag,
      Stands.option (number := PointKind.number) (fun x => by cases x <;> decide) ?_, hvalue.1, hvalue.2,
      (point_element s i 4 rfl).value fun x => by cases x <;> decide, hnone, hknown⟩
    rw [Option.map_map]
    exact point_element s i 2 rfl
  case refine_10 =>
    rintro s i p l rfl hl
    refine ⟨fun hnone => by rw [State.channelEntry, hnone]; rfl, fun c hc => ?_⟩
    obtain ⟨hlen, he⟩ := channel_element hc hl
    exact ⟨hlen, (he 0 rfl).flag, (he 1 rfl).flag, (he 2 rfl).value fun x => by cases x <;> decide,
      (he 3 rfl).value fun x => by cases x <;> decide, fun h => (he 4 rfl).number h, fun h => (he 5 rfl).number h, (he 6 rfl).flag,
      fun h => (he 7 rfl).number h, fun h => (he 8 rfl).number h, (he 9 rfl).flag⟩
  case refine_11 =>
    rintro s i p rfl
    refine ⟨fun hnone => by rw [State.zoneEntry, hnone]; rfl, fun r z hr hz => ?_⟩
    obtain ⟨hlen, he⟩ := zone_element hr hz
    obtain ⟨hoff, hon, hcommanding, hunknown, hfailed⟩ := (he 5 rfl).heater
    refine ⟨hlen, (he 0 rfl).flag, (he 1 rfl).value fun x => by cases x <;> decide, (he 2 rfl).flag, (he 3 rfl).flag, (he 4 rfl).flag,
      hoff, hon, hcommanding, hunknown, hfailed, ?_, (he 7 rfl).flag, (he 8 rfl).flag, fun hd => ?_, fun d hd hn => ?_, (he 10 rfl).flag⟩
    · have hheld := he 6 rfl
      rw [encHeld_eq] at hheld
      exact hheld.value (number := heldNumber) fun x => by rcases x with _ | _ | _ <;> decide
    · exact (he 9 rfl).seconds.1 (by rw [hd]; rfl)
    · exact (he 9 rfl).seconds.2 _ (by rw [hd]; rfl) hn
  case refine_12 =>
    rintro s p rfl
    refine ⟨?_, rfl, (readTrips_flag s).value fun x => by cases x <;> decide, fun h8 => ⟨slotBytes s.nv.slots, ?_, fun i x hx => ?_⟩⟩
    · rw [readTrips_length]
      exact congrArg (fun f => 2 + (s.nv.slots.map f).sum) (funext fun x => by rcases x with _ | ⟨_, _ | _⟩ | _ <;> rfl)
    · have hdrop : s.readTripsPayload.drop (s.readTripsPayload.length - 1) = enc1 s.guard.tripFlag.number := by
        have hlen : s.readTripsPayload.length - 1 = (Status.done.byte :: (tripsInOrder s.nv.slots).flatMap tripBytes).length := by
          rw [readTrips_length, List.length_cons, trips_length]; omega
        rw [hlen, readTrips_parts, ← List.cons_append, List.drop_left]
      rw [hdrop, readTrips_parts, trips_order h8]
      rfl
    · have hi : i < 8 := h8 ▸ (List.getElem?_eq_some_iff.1 hx).1
      cases x with
      | intact n e =>
        cases e with
        | trip => exact slotBytes_trip (by omega) hx
        | marker => exact slotBytes_marker (by omega) hx
      | erased => simp [slotBytes, slotEntry, hx]
      | spoilt => simp [slotBytes, slotEntry, hx]

end Sys2Proof.Laws
end

section
/-! PROOFS. The notices that can follow an inhibition (R103): none of them takes MANUAL_CLOSE out of the inhibit set, and where the line has
nothing to begin they leave it so. Each operation is stated as an equivalence, since it only appends notices. -/

namespace Sys2Proof.Laws

open Sys2Proof.Machine

/-- The notices that a block may raise on such a notice. -/
def follows : Notice → Bool
  | .points _ _ => false | .urgentOutcome _ => false | .tripWork _ _ => false | .lapse => false | .tariff _ => false | .supply _ _ => false
  | .inhibit _ remove => !remove.contains .manualClose
  | .housing => true | .level _ _ _ => true | .overflowPipe _ => true | .evaluate => true | .command _ _ _ _ => true
  | .frostWatch _ => true | .frostBank _ _ => true | .guardState _ _ => true | .projection _ => true | .fillItems _ _ _ _ _ => true
  | .station _ _ _ => true | .frostItems _ _ _ => true | .islanded _ => true | .clockSet => true | .tripNumber _ => true

/-- Only such notices wait, and the line waits where `w` says so. -/
def Going (w : Prop) (s : State) : Prop := (∀ d ∈ s.notices, follows d.notice = true) ∧ (w → s.lineWaits)

section
variable {w : Prop} {s t : State}

theorem going_congr (hn : Part.notices.read t = Part.notices.read s) (hl : Part.line.read t = Part.line.read s) : Going w t ↔ Going w s := by
  have hn' : t.notices = s.notices := hn
  have hl' : t.line = s.line := hl
  simp only [Going, State.lineWaits, hn', hl']

/-- A change of the line that leaves a transaction in flight, and the mark of a cycle, as they were. -/
theorem updLine_going {g : LineBlock → LineBlock} (hx : ∀ l, (g l).inFlight.isSome = l.inFlight.isSome)
    (hc : ∀ l, (g l).late = l.late ∧ (g l).cycleStartUs = l.cycleStartUs) : Going w (s.updLine g) ↔ Going w s := by
  simp only [Going, State.lineWaits, State.updLine, hx, hc]

end

section
variable (w : Prop) (s : State)

@[simp] theorem send_going (b : BlockName) (n : Notice) : Going w (s.send b n) ↔ Going w s ∧ follows n = true := by
  simp only [Going, State.lineWaits, send_notices, send_line, List.mem_append, List.mem_singleton, or_imp, forall_and, forall_eq]
  tauto

theorem broadcast_going (bs : List BlockName) (n : Notice) (hn : follows n = true) : Going w (s.broadcast bs n) ↔ Going w s := by
  have hall : (∀ d ∈ s.notices ++ bs.map fun b => (⟨b, n⟩ : Delivery), follows d.notice = true) ↔ ∀ d ∈ s.notices, follows d.notice = true := by
    refine ⟨fun h d hd => h d (List.mem_append_left _ hd), fun h d hd => ?_⟩
    rcases List.mem_append.1 hd with hd | hd
    · exact h d hd
    · obtain ⟨b, -, rfl⟩ := List.mem_map.1 hd
      exact hn
  simp only [Going, State.lineWaits, broadcast_notices, broadcast_line, hall]

/-! ### Operations that send nothing and leave the line -/

@[simp] theorem updFill_going (g : FillBlock → FillBlock) : Going w (s.updFill g) ↔ Going w s := Iff.rfl
@[simp] theorem updGuard_going (g : GuardBlock → GuardBlock) : Going w (s.updGuard g) ↔ Going w s := Iff.rfl
@[simp] theorem updLevel_going (g : LevelBlock → LevelBlock) : Going w (s.updLevel g) ↔ Going w s := Iff.rfl
@[simp] theorem updFrost_going (g : FrostBlock → FrostBlock) : Going w (s.updFrost g) ↔ Going w s := Iff.rfl
@[simp] theorem updBanks_going (g : PerBank (Option FaultRecord) → PerBank (Option FaultRecord)) : Going w (s.updBanks g) ↔ Going w s := Iff.rfl
@[simp] theorem updTelemetry_going (g : TelemetryBlock → TelemetryBlock) : Going w (s.updTelemetry g) ↔ Going w s := Iff.rfl
@[simp] theorem updZone_going (i : Nat) (g : ZoneState → ZoneState) : Going w (s.updZone i g) ↔ Going w s := Iff.rfl
@[simp] theorem setFill_going (st : FillState) (p : Option Purpose) : Going w (s.setFill st p) ↔ Going w s := Iff.rfl
@[simp] theorem askTripWork_going (e : TripEntry) : Going w (s.askTripWork e) ↔ Going w s := Iff.rfl
@[simp] theorem takeTopUp_going (fs : FillSet) : Going w (s.takeTopUp fs) ↔ Going w s := Iff.rfl
@[simp] theorem setRequests_going : Going w s.setRequests ↔ Going w s := Iff.rfl
@[simp] theorem draws_going (n : Nat) : Going w ({ s with draws := n } : State) ↔ Going w s := Iff.rfl
@[simp] theorem zeroDemandHead_going : Going w s.zeroDemandHead ↔ Going w s :=
  going_congr (zeroDemandHead_read (by decide) s) (zeroDemandHead_read (by decide) s)
@[simp] theorem queueDemand_going : Going w s.queueDemand ↔ Going w s :=
  going_congr (queueDemand_read (by decide) s) (queueDemand_read (by decide) s)
@[simp] theorem offer_going (c : Content) : Going w (s.offer c) ↔ Going w s :=
  going_congr (offer_read (by decide) c s) (offer_read (by decide) c s)
@[simp] theorem startWatch_going : Going w s.startWatch ↔ Going w s :=
  going_congr (startWatch_read (by decide) s) (startWatch_read (by decide) s)

/-! ### Faults and the command list -/

@[simp] theorem holdNotices_going (before : State) : Going w (State.holdNotices before s) ↔ Going w s := by
  unfold State.holdNotices
  dsimp only
  repeat' split
  all_goals simp [follows]

@[simp] theorem fault_going (c : FaultCode) (x : Option Subject) : Going w (s.fault c x) ↔ Going w s := by
  unfold State.fault
  dsimp only
  repeat' split
  all_goals simp

@[simp] theorem supersedeCommand_going (a i : Nat) : Going w (s.supersedeCommand a i) ↔ Going w s :=
  updLine_going (fun _ => Option.isSome_map) fun _ => ⟨rfl, rfl⟩

@[simp] theorem removeCommand_going (a i : Nat) : Going w (s.removeCommand a i) ↔ Going w s :=
  (updLine_going (fun _ => rfl) fun _ => ⟨rfl, rfl⟩).trans (supersedeCommand_going w s a i)

@[simp] theorem placeCommand_going (a i f : Nat) (o : Origin) (t : Nat) : Going w (s.placeCommand a i f o t).1 ↔ Going w s := by
  unfold State.placeCommand
  dsimp only
  repeat' split
  · exact Iff.rfl
  · exact Iff.rfl
  · exact (updLine_going (fun _ => rfl) fun _ => ⟨rfl, rfl⟩).trans (supersedeCommand_going w s a i)
  · exact updLine_going (fun _ => rfl) fun _ => ⟨rfl, rfl⟩
  · exact Iff.rfl

@[simp] theorem placeUrgent_going : Going w s.placeUrgent ↔ Going w s := by
  have hplaced : ∀ (g : GuardSet) (u : State), Going w (u.updLine fun l => { l with urgent := some ⟨g.inletAddress, g.inletItem, false⟩ }) ↔
      Going w u := fun _ _ => updLine_going (fun _ => rfl) fun _ => ⟨rfl, rfl⟩
  unfold State.placeUrgent
  dsimp only
  repeat' split
  all_goals simp [hplaced, follows]

/-! ### The Level Unit and the guard -/

@[simp] theorem levelNotice_going (c d : Bool) : Going w (s.levelNotice c d) ↔ Going w s := broadcast_going w s _ _ rfl

@[simp] theorem judgeBeyond_going : Going w s.judgeBeyond ↔ Going w s := by
  unfold State.judgeBeyond
  dsimp only
  split <;> simp

@[simp] theorem recompute_going (g : GuardSet) (sample : Option Nat) : Going w (s.recompute g sample) ↔ Going w s := by
  unfold State.recompute
  dsimp only
  repeat' split
  all_goals simp

@[simp] theorem levelOnHousing_going : Going w s.levelOnHousing ↔ Going w s := by
  unfold State.levelOnHousing
  split <;> simp

@[simp] theorem tellGuard_going : Going w s.tellGuard ↔ Going w s := by simp [State.tellGuard, follows]

@[simp] theorem passFill_going (before : State) : Going w (State.passFill before s) ↔ Going w s := by
  unfold State.passFill
  split <;> simp [FillBlock.items, follows]

@[simp] theorem guardZero_going : Going w s.guardZero ↔ Going w s := by simp [State.guardZero]

@[simp] theorem trip_going (c : TripCause) (lr : LevelRecord) : Going w (s.trip c lr) ↔ Going w s := by
  unfold State.trip
  dsimp only
  split <;> simp [follows]

@[simp] theorem tripCondition_going (c : TripCause) (lr : LevelRecord) : Going w (s.tripCondition c lr) ↔ Going w s := by
  unfold State.tripCondition
  split <;> simp

@[simp] theorem anticipate_going : Going w s.anticipate ↔ Going w s := by
  unfold State.anticipate
  dsimp only
  split <;> simp [follows]

@[simp] theorem rearmGuard_going : Going w s.rearmGuard ↔ Going w s := by simp [State.rearmGuard, follows]

@[simp] theorem guardEvaluate_going (lr : LevelRecord) : Going w (s.guardEvaluate lr) ↔ Going w s := by
  unfold State.guardEvaluate
  dsimp only
  repeat' split
  all_goals simp [follows]

@[simp] theorem levelHoldEnds_going : Going w s.levelHoldEnds ↔ Going w s := by simp [State.levelHoldEnds]

@[simp] theorem armHold_going (g : GuardSet) (since : Nat) : Going w (s.armHold g since) ↔ Going w s := by
  unfold State.armHold
  dsimp only
  split <;> simp

@[simp] theorem holdOnNotice_going (lr : LevelRecord) : Going w (s.holdOnNotice lr) ↔ Going w s := by
  unfold State.holdOnNotice
  repeat' split
  all_goals simp

@[simp] theorem guardOnLevel_going (lr : LevelRecord) : Going w (s.guardOnLevel lr) ↔ Going w s := by simp [State.guardOnLevel]

@[simp] theorem guardOnPipe_going (flag : Bool) : Going w (s.guardOnPipe flag) ↔ Going w s := by simp [State.guardOnPipe]

/-! ### The Fill Planner -/

@[simp] theorem setDemand_going (d : Nat) : Going w (s.setDemand d) ↔ Going w s := by
  unfold State.setDemand
  split <;> simp [follows]

@[simp] theorem placeOpen_going : Going w s.placeOpen ↔ Going w s := by
  unfold State.placeOpen
  split <;> simp

@[simp] theorem placeClose_going : Going w s.placeClose ↔ Going w s := by
  unfold State.placeClose
  dsimp only
  repeat' split
  all_goals simp

@[simp] theorem closeSequence_going : Going w s.closeSequence ↔ Going w s := by
  unfold State.closeSequence
  dsimp only
  repeat' split
  all_goals simp

theorem fillEvent_going (f : State → State) (h : Going w (f s) ↔ Going w s) : Going w (State.fillEvent f s) ↔ Going w s := by
  simp [State.fillEvent, h]

@[simp] theorem enterClosing_going : Going w s.enterClosing ↔ Going w s := by simp [State.enterClosing]

@[simp] theorem enterHeld_going : Going w s.enterHeld ↔ Going w s := by simp [State.enterHeld]

@[simp] theorem enterOpening_going (p : Purpose) : Going w (s.enterOpening p) ↔ Going w s := by simp [State.enterOpening]

@[simp] theorem fillingDemand_going : Going w s.fillingDemand ↔ Going w s := by simp [State.fillingDemand]

@[simp] theorem windowDecision_going (turned : Bool) : Going w (s.windowDecision turned) ↔ Going w s := by
  unfold State.windowDecision
  dsimp only
  repeat' split
  all_goals simp

@[simp] theorem topUp_going (fs : FillSet) : Going w (s.topUp fs) ↔ Going w s := by
  unfold State.topUp
  split <;> simp

@[simp] theorem actOnPlan_going (fs : FillSet) (forced : Bool) : Going w (s.actOnPlan fs forced) ↔ Going w s := by
  unfold State.actOnPlan
  repeat' split
  all_goals simp

@[simp] theorem evaluatePlan_going (forced : Bool) : Going w (s.evaluatePlan forced) ↔ Going w s := by
  have hplanned : ∀ fs, Going w (planned fs s) ↔ Going w s := fun _ => Iff.rfl
  cases hf : s.tables.fillSet with
  | none => simp [State.evaluatePlan, hf]
  | some fs =>
    rw [evaluatePlan_some hf]
    split <;> simp [hplanned]

@[simp] theorem changeInhibit_going (add remove : List Reason) : Going w (s.changeInhibit add remove) ↔ Going w s := by
  unfold State.changeInhibit
  dsimp only
  repeat' split
  all_goals simp

@[simp] theorem turnoverBecomesDone_going : Going w s.turnoverBecomesDone ↔ Going w s := by
  unfold State.turnoverBecomesDone
  dsimp only
  split <;> simp

@[simp] theorem fillOnLevelState_going (fs : FillSet) (lr : LevelRecord) : Going w (State.fillOnLevelState fs lr s) ↔ Going w s := by
  unfold State.fillOnLevelState
  dsimp only
  repeat' split
  all_goals simp

@[simp] theorem fillOnLevel_going (lr : LevelRecord) : Going w (s.fillOnLevel lr) ↔ Going w s := by
  unfold State.fillOnLevel
  dsimp only
  repeat' split
  all_goals simp

@[simp] theorem closeConfirmed_going : Going w s.closeConfirmed ↔ Going w s := by
  unfold State.closeConfirmed
  dsimp only
  repeat' split
  all_goals simp

@[simp] theorem fillOnCommand_going (target : Nat) (o : CommandOutcome) : Going w (s.fillOnCommand target o) ↔ Going w s := by
  unfold State.fillOnCommand
  dsimp only
  repeat' split
  all_goals simp

/-! ### The Frost Unit -/

@[simp] theorem placeHeater_going (i : Nat) (r : ZoneRecord) : Going w (s.placeHeater i r) ↔ Going w s := by
  unfold State.placeHeater
  dsimp only
  repeat' split
  all_goals simp

theorem overZones_going {f : Nat → ZoneRecord → State → State} (hf : ∀ i r u, Going w (f i r u) ↔ Going w u) (rs : List ZoneRecord)
    (i : Nat) : Going w (overZones f i rs s) ↔ Going w s := by
  induction rs generalizing i s with
  | nil => exact Iff.rfl
  | cons r rs ih => exact (ih (f i r s) (i + 1)).trans (hf i r s)

@[simp] theorem allocate_going : Going w s.allocate ↔ Going w s :=
  overZones_going w (s.updFrost fun b => { b with zones := setGranted s.grantedZones 0 b.zones }) (fun i r u => placeHeater_going w u i r) _ 0

@[simp] theorem frostFlags_going : Going w s.frostFlags ↔ Going w s := by
  have hreason : ∀ (b : Bool) (r : Reason), r ≠ .manualClose → follows (reasonNotice b r) = true := by
    intro b r hr
    cases b <;> simp [reasonNotice, follows, hr.symm]
  have hpipe : ∀ b, follows (.overflowPipe b) = true := fun _ => rfl
  have hhousing : follows .housing = true := rfl
  have hwatch : ∀ b, follows (.frostWatch b) = true := fun _ => rfl
  unfold State.frostFlags
  dsimp only
  repeat' split
  all_goals simp [hreason, hpipe, hhousing, hwatch]

@[simp] theorem frostSettle_going (before : State) (calls : Bool) : Going w (State.frostSettle before calls s) ↔ Going w s := by
  unfold State.frostSettle State.passFrost
  dsimp only
  repeat' split
  all_goals simp [FrostBlock.items, follows]

@[simp] theorem frostOnCommand_going (a i target : Nat) (o : CommandOutcome) : Going w (s.frostOnCommand a i target o) ↔ Going w s := by
  unfold State.frostOnCommand
  dsimp only
  split <;> simp

@[simp] theorem frostOnBank_going (cleared holds : Bool) : Going w (s.frostOnBank cleared holds) ↔ Going w s := by
  unfold State.frostOnBank
  split
  · rw [frostSettle_going, setRequests_going, overZones_going w _ fun i r u => updZone_going w u i _, updFrost_going]
  · simp

end

/-! ### Deliveries -/

/-- A block that takes such a notice raises none but such notices. -/
theorem deliver_going {w : Prop} {d : Delivery} (hd : follows d.notice = true) (s : State) : Going w (s.deliver d) ↔ Going w s := by
  obtain ⟨dest, n⟩ := d
  have hevent : ∀ (f : State → State), (∀ u, Going w (f u) ↔ Going w u) → (Going w (State.fillEvent f s) ↔ Going w s) :=
    fun f hf => fillEvent_going w s f (hf s)
  cases dest with
  | level => cases n <;> first | exact Iff.rfl | exact levelOnHousing_going w s | cases hd
  | guard =>
    cases n with
    | level lr _ _ => exact guardOnLevel_going w s lr
    | overflowPipe flag => exact guardOnPipe_going w s flag
    | evaluate => exact guardEvaluate_going w s _
    | points | urgentOutcome | tripWork => cases hd
    | _ => exact Iff.rfl
  | fill =>
    cases n with
    | level lr _ _ => exact hevent _ fun u => fillOnLevel_going w u lr
    | inhibit add remove => exact hevent _ fun u => changeInhibit_going w u add remove
    | command _ _ target o => exact hevent _ fun u => fillOnCommand_going w u target o
    | frostWatch watch =>
      refine fillEvent_going w s _ ?_
      split <;> simp
    | lapse | supply => cases hd
    | _ => exact Iff.rfl
  | frost =>
    cases n with
    | command a i target o => exact frostOnCommand_going w s a i target o
    | frostBank cleared holds => exact frostOnBank_going w s cleared holds
    | points | tariff | supply => cases hd
    | _ => exact Iff.rfl
  | line => cases n <;> first | exact Iff.rfl | cases hd
  | telemetry => exact going_congr (telemetryTakes_read (by decide) _ _) (telemetryTakes_read (by decide) _ _)
  | store => cases n <;> first | exact Iff.rfl | cases hd

end Sys2Proof.Laws
end

section
/-! PROOFS. A fill that a manual close inhibits stays inhibited through the notices that can follow (R17, R103, R104). -/

namespace Sys2Proof.Laws

open Sys2Proof.Machine

/-- MANUAL_CLOSE stands in the inhibit set, and where `c` says so the fill is HELD with a demand of 0. -/
def Marked (c : Prop) (b : FillBlock) : Prop := .manualClose ∈ b.inhibit ∧ (c → b.state = .held ∧ b.demand = 0)

section
variable {c : Prop}

theorem Marked.keep {b0 b : FillBlock} (h : Marked c b0) (hk : HeldKept b0 b) : Marked c b := by
  refine ⟨by rw [hk.inhibit]; exact h.1, fun hc => ?_⟩
  obtain ⟨hstate, hdemand⟩ := h.2 hc
  obtain ⟨h1, h2, -⟩ := hk.held hstate
  exact ⟨h1, h2.trans hdemand⟩

/-! ### The guard sets the demand to 0 and nothing else (R75) -/

/-- The fill as it is, or with its demand set to 0 by the guard. -/
def Zeroed (b0 b : FillBlock) : Prop := b = b0 ∨ ∃ tag timer, b = { b0 with demand := 0, demandTag := tag, renewal := timer }

theorem Marked.zero {b0 b : FillBlock} (h : Marked c b0) (hz : Zeroed b0 b) : Marked c b := by
  obtain rfl | ⟨tag, timer, rfl⟩ := hz
  · exact h
  · exact ⟨h.1, fun hc => ⟨(h.2 hc).1, rfl⟩⟩

theorem Zeroed.trans {b0 b b' : FillBlock} (h : Zeroed b0 b) (h' : Zeroed b b') : Zeroed b0 b' := by
  obtain rfl | ⟨tag', timer', rfl⟩ := h'
  · exact h
  · obtain rfl | ⟨tag, timer, rfl⟩ := h <;> exact .inr ⟨_, _, rfl⟩

end

section
variable (s : State)

theorem guardZero_zeroed : Zeroed s.fill s.guardZero.fill :=
  .inr ⟨_, _, passFill_read (part := .fill) (by decide) _ _⟩

/-- What follows the zero demand of a trip or of an anticipation leaves the fill. -/
theorem tellGuard_fill : s.tellGuard.fill = s.fill := tellGuard_read (part := .fill) (by decide) s

theorem trip_zeroed (cause : TripCause) (lr : LevelRecord) : Zeroed s.fill (s.trip cause lr).fill := by
  obtain ⟨u, hu⟩ : ∃ u, u = (s.updGuard fun b => { b with
      state := .tripped, cause := some cause, tripLine := true, tripFlag := .pending, reset := none }).guardZero := ⟨_, rfl⟩
  have hplaced : ∀ v : State, v.fill = u.fill → (v.placeUrgent.startWatch).fill = u.fill := fun v hv =>
    ((startWatch_read (part := .fill) (by decide) _).trans (placeUrgent_read (part := .fill) (by decide) _)).trans hv
  have hoffer : ∀ (x : Content) (v : State), (v.offer x).fill = v.fill := fun x v => offer_read (part := .fill) (by decide) x v
  have hfault : ∀ (x : FaultCode) (y : Option Subject) (v : State), (v.fault x y).fill = v.fill := fun x y v =>
    fault_read (part := .fill) (by decide) x y v
  have hfill : (s.trip cause lr).fill = u.fill := by
    unfold State.trip
    dsimp only
    rw [tellGuard_fill, ← hu]
    have hrest : ∀ e r t, (((((u.send .fill (.inhibit [.guard] [])).placeUrgent.startWatch).askTripWork e).offer r).updTelemetry t).fill = u.fill := by
      intro e r t
      rw [updTelemetry_fill, hoffer]
      exact hplaced _ rfl
    split
    · rw [hfault]; exact hrest _ _ _
    · exact hrest _ _ _
  rw [hfill, hu]
  exact guardZero_zeroed _

theorem tripCondition_zeroed (cause : TripCause) (lr : LevelRecord) : Zeroed s.fill (s.tripCondition cause lr).fill := by
  unfold State.tripCondition
  split
  · exact .inl rfl
  · exact .inl rfl
  · exact trip_zeroed s cause lr
  · exact trip_zeroed s cause lr

theorem anticipate_zeroed : Zeroed s.fill s.anticipate.fill := by
  have hfill : s.anticipate.fill = (s.updGuard fun b => { b with state := .anticipating }).guardZero.fill := by
    unfold State.anticipate
    dsimp only
    rw [tellGuard_fill]
    split
    · rfl
    · exact placeCommand_fill _ _ _ _ _ _
  rw [hfill]
  exact guardZero_zeroed _

theorem guardEvaluate_zeroed (lr : LevelRecord) : Zeroed s.fill (s.guardEvaluate lr).fill := by
  unfold State.guardEvaluate
  dsimp only
  split
  · exact .inl rfl
  · split
    · split
      · exact trip_zeroed _ _ _
      · split
        · exact anticipate_zeroed _
        · exact .inl rfl
    · split
      · exact trip_zeroed _ _ _
      · split
        · exact .inl (tellGuard_fill _)
        · exact .inl rfl
    · split
      · exact tripCondition_zeroed _ _ _
      · exact .inl rfl

theorem holdOnNotice_zeroed (lr : LevelRecord) : Zeroed s.fill (s.holdOnNotice lr).fill := by
  have harm : ∀ (g : GuardSet) (since : Nat), Zeroed s.fill (s.armHold g since).fill := by
    intro g since
    unfold State.armHold
    dsimp only
    split
    · exact tripCondition_zeroed (s.updGuard fun b => { b with holdAt := none }) _ _
    · exact .inl rfl
  unfold State.holdOnNotice
  split
  · exact .inl rfl
  · split
    · split
      · exact .inl rfl
      · exact harm _ _
    · exact .inl rfl
    · exact .inl rfl

theorem guardOnLevel_zeroed (lr : LevelRecord) : Zeroed s.fill (s.guardOnLevel lr).fill :=
  (holdOnNotice_zeroed s lr).trans (guardEvaluate_zeroed _ lr)

/-! ### The Fill Planner's notices -/

theorem enterClosing_heldKept (h : s.fill.state ≠ .held) : HeldKept s.fill s.enterClosing.fill := .of_inhibit (enterClosing_inhibit s) h

theorem fillOnLevelState_heldKept (fs : FillSet) (lr : LevelRecord) : HeldKept s.fill (State.fillOnLevelState fs lr s).fill := by
  unfold State.fillOnLevelState
  dsimp only
  split
  · exact .refl _
  · split
    case h_1 hs =>
      split
      · exact .refl _
      · exact .of_inhibit (topUp_ordered fs s).inhibit (by simp [hs])
    case h_2 hs =>
      split
      · exact .of_inhibit (windowDecision_ordered true s).inhibit (by simp [hs])
      · exact .refl _
    case h_3 hs =>
      have hfull : ∀ full : Nat, HeldKept s.fill (if full ≤ lr.w then s.enterClosing else s).fill := by
        intro full
        split
        · exact enterClosing_heldKept s (by simp [hs])
        · exact .refl _
      exact hfull _
    all_goals exact .refl _

theorem turnoverBecomesDone_heldKept : HeldKept s.fill s.turnoverBecomesDone.fill := by
  obtain ⟨u, hu⟩ : ∃ u, u = (s.updFill fun f => { f with turnoverDone := true }).evaluatePlan false := ⟨_, rfl⟩
  have hset : HeldKept s.fill (s.updFill fun f => { f with turnoverDone := true }).fill := ⟨rfl, fun h => ⟨h, rfl, rfl⟩⟩
  have hdone : HeldKept s.fill u.fill := hu ▸ hset.trans (evaluatePlan_evaluated false _).heldKept
  unfold State.turnoverBecomesDone
  rw [← hu]
  dsimp only
  split
  · next hw => exact hdone.trans (.of_inhibit (windowDecision_ordered true u).inhibit (by simp [hw]))
  · exact hdone

theorem fillOnLevel_heldKept (lr : LevelRecord) : HeldKept s.fill (s.fillOnLevel lr).fill := by
  unfold State.fillOnLevel
  split
  · exact .refl _
  · dsimp only
    split
    · exact (turnoverBecomesDone_heldKept s).trans (fillOnLevelState_heldKept _ _ _)
    · exact fillOnLevelState_heldKept s _ _

theorem closeConfirmed_heldKept : HeldKept s.fill s.closeConfirmed.fill := by
  unfold State.closeConfirmed
  dsimp only
  split
  · next hclosing =>
    have hne : s.fill.state ≠ .held := by
      rw [of_decide_eq_true hclosing]; decide
    refine .of_inhibit ?_ hne
    exact (evaluatePlan_evaluated false _).inhibit
  · exact ⟨rfl, fun h => ⟨h, rfl, rfl⟩⟩

end

section
variable {c : Prop} {s : State}

/-- A change of the inhibit set that does not take MANUAL_CLOSE out (R104). -/
theorem changeInhibit_marked (h : Marked c s.fill) (add : List Reason) {remove : List Reason} (hr : .manualClose ∉ remove) :
    Marked c (s.changeInhibit add remove).fill := by
  have hin : .manualClose ∈ inhibitAfter add remove s.fill.inhibit := by
    have hall : Reason.manualClose ∈ Reason.all := by decide
    simp [inhibitAfter, hall, h.1, hr]
  unfold State.changeInhibit
  dsimp only
  rw [if_neg (List.ne_nil_of_mem hin), if_neg (List.ne_nil_of_mem h.1)]
  exact ⟨hin, h.2⟩

/-- MANUAL_CLOSE joins the set: the fill enters HELD where the set was empty, and stays as it is otherwise (R103, R104). -/
theorem changeInhibit_marks (hc : c → s.fill.inhibit ≠ [] → s.fill.state = .held ∧ s.fill.demand = 0) :
    Marked c (s.changeInhibit [.manualClose] []).fill := by
  have hin : .manualClose ∈ inhibitAfter [.manualClose] [] s.fill.inhibit := by simp [inhibitAfter, Reason.all]
  unfold State.changeInhibit
  dsimp only
  rw [if_neg (List.ne_nil_of_mem hin)]
  split
  · obtain ⟨tag, timer, had, hfill⟩ := setDemand_fill 0
      ((s.updFill fun f => { f with inhibit := inhibitAfter [.manualClose] [] s.fill.inhibit }).setFill .held none)
    rw [State.enterHeld, hfill]
    exact ⟨hin, fun _ => ⟨rfl, rfl⟩⟩
  · next hne => exact ⟨hin, fun h => hc h hne⟩

theorem fillOnCommand_marked (h : Marked c s.fill) (target : Nat) (o : CommandOutcome) : Marked c (s.fillOnCommand target o).fill := by
  have hsame : ∀ f : FillBlock → FillBlock, HeldKept s.fill (f s.fill) → Marked c (s.updFill f).fill := fun f hf => h.keep hf
  have hagain : Marked c (if s.fill.state = .opening then s.updFill fun f => { f with openWanted := true } else s).fill := by
    split
    · exact hsame _ ⟨rfl, fun hh => ⟨hh, rfl, rfl⟩⟩
    · exact h
  have hclear : Marked c (s.updFill fun f => { f with closeOwed := false, closePlaced := false, stopWait := none, stopAt := none }).fill :=
    hsame _ ⟨rfl, fun hh => ⟨hh, rfl, rfl⟩⟩
  unfold State.fillOnCommand
  dsimp only
  split
  · split
    · exact hsame _ ⟨rfl, fun hh => ⟨hh, rfl, rfl⟩⟩
    · exact h
  · split
    · exact h.keep (closeConfirmed_heldKept s)
    · split
      · next hs =>
        obtain ⟨tag, timer, had, hfill⟩ := setDemand_fill (if s.guard.state = .armed then s.fill.numbers.k else 0)
          (s.setFill .filling s.fill.purpose)
        refine h.keep (.of_inhibit ?_ (by simp [hs]))
        exact (congrArg FillBlock.inhibit hfill :)
      · exact h
  · exact changeInhibit_marked (s := s.updFill fun f => { f with closePlaced := false, closeOwed := true }) h _ (by simp)
  · exact hclear
  · split
    · exact hclear
    · exact hagain
  · split
    · exact h
    · exact hagain
  · exact h

theorem fillEvent_marked {f : State → State} (h : Marked c (f s).fill) : Marked c (State.fillEvent f s).fill := by
  obtain ⟨owed, placed, wait, aim, he⟩ := fillEvent_fill f s
  rw [he]
  exact h.keep ⟨rfl, fun hh => ⟨hh, rfl, rfl⟩⟩

end

/-! ### Deliveries -/

theorem deliver_marked {c : Prop} {d : Delivery} (hd : follows d.notice = true) {s : State} (h : Marked c s.fill) :
    Marked c (s.deliver d).fill := by
  have hother : ∀ t : State, Part.fill.read t = Part.fill.read s → Marked c t.fill := by
    intro t ht
    have ht' : t.fill = s.fill := ht
    rw [ht']; exact h
  obtain ⟨dest, n⟩ := d
  cases dest with
  | level => exact hother _ (levelTakes_read (by decide) n s)
  | guard =>
    cases n with
    | level lr _ _ => exact h.zero (guardOnLevel_zeroed s lr)
    | overflowPipe flag => exact h.zero (guardEvaluate_zeroed (s.updGuard fun b => { b with frostExtra := flag }) _)
    | evaluate => exact h.zero (guardEvaluate_zeroed s _)
    | points | urgentOutcome | tripWork => cases hd
    | _ => exact h
  | fill =>
    cases n with
    | level lr _ _ => exact fillEvent_marked (h.keep (fillOnLevel_heldKept s lr))
    | inhibit add remove => exact fillEvent_marked (changeInhibit_marked h add (by simpa [follows] using hd))
    | command _ _ target o => exact fillEvent_marked (fillOnCommand_marked h target o)
    | frostWatch watch =>
      refine fillEvent_marked ?_
      split
      · next hw => exact h.keep (.of_inhibit (windowDecision_ordered _ s).inhibit (by simp [hw.2]))
      · exact h
    | lapse | supply => cases hd
    | _ => exact h
  | frost => exact hother _ (frostTakes_read (by decide) n s)
  | line => exact hother _ (lineTakes_read (by decide) n s)
  | telemetry => exact hother _ (telemetryTakes_read (by decide) n s)
  | store => exact hother _ (storeTakes_read (by decide) n s)

theorem drain_marked {w c : Prop} (pick : Nat → Nat) (fuel : Nat) (s : State) (hg : Going w s) (h : Marked c s.fill) :
    Going w (State.drain pick fuel s) ∧ Marked c (State.drain pick fuel s).fill := by
  induction fuel generalizing s with
  | zero => exact ⟨hg, h⟩
  | succ fuel ih =>
    simp only [State.drain]
    split
    · exact ⟨hg, h⟩
    · rcases deliverOne_cases pick s with e | ⟨d, others, draws, hd, hothers, -, e⟩
      · rw [e]; exact ih s hg h
      · have hrest : Going w { s with notices := others, draws := draws } := ⟨fun x hx => hg.1 x (hothers x hx), hg.2⟩
        rw [e]
        exact ih _ ((deliver_going (hg.1 d hd) _).2 hrest) (deliver_marked (hg.1 d hd) h)

end Sys2Proof.Laws
end

section
/-! PROOFS. FIELD_PASS (R14, R15, R17, R43): the gates by the first entry, the order of the checks, and O50. -/

namespace Sys2Proof.Laws

open Sys2Proof.Machine

/-! ### The gates (R14, R15, R17) -/

/-- The gate found is the first GATE entry for the address and item. -/
theorem findGate_some {address item : Nat} {kind : GateKind} {before after : List MapEntry}
    (h : ∀ e ∈ before, ∀ k, e ≠ ⟨address, item, .gate k⟩) :
    findGate address item (before ++ ⟨address, item, .gate kind⟩ :: after) = some kind := by
  induction before with
  | nil => simp [findGate]
  | cons e before ih =>
    have hrest := ih fun x hx => h x (List.mem_cons_of_mem _ hx)
    have he := h e List.mem_cons_self
    rw [List.cons_append, findGate]
    cases ha : e.action with
    | gate k =>
      dsimp only
      rw [if_neg, hrest]
      rintro ⟨h1, h2⟩
      exact he k (by rw [← h1, ← h2, ← ha])
    | extract => exact hrest

theorem findGate_split {address item : Nat} {es : List MapEntry} {kind : GateKind} (h : findGate address item es = some kind) :
    ∃ before after, es = before ++ ⟨address, item, .gate kind⟩ :: after ∧ ∀ e ∈ before, ∀ k, e ≠ ⟨address, item, .gate k⟩ := by
  induction es with
  | nil => cases h
  | cons e es ih =>
    have hlater : findGate address item es = some kind → (∀ k, e ≠ ⟨address, item, .gate k⟩) → ∃ before after,
        e :: es = before ++ ⟨address, item, .gate kind⟩ :: after ∧ ∀ e ∈ before, ∀ k, e ≠ ⟨address, item, .gate k⟩ := by
      intro hes hne
      obtain ⟨before, after, rfl, hb⟩ := ih hes
      exact ⟨e :: before, after, rfl, fun x hx => by
        rcases List.mem_cons.1 hx with rfl | hx
        · exact hne
        · exact hb x hx⟩
    rw [findGate] at h
    cases ha : e.action with
    | gate k =>
      rw [ha] at h
      dsimp only at h
      split at h
      · next hm =>
        obtain rfl : k = kind := Option.some_injective _ h
        exact ⟨[], es, by rw [List.nil_append, ← hm.1, ← hm.2, ← ha], fun _ hx => absurd hx List.not_mem_nil⟩
      · next hm => exact hlater h fun k' he => hm (by rw [he]; exact ⟨rfl, rfl⟩)
    | extract =>
      rw [ha] at h
      exact hlater h fun k' he => by rw [he] at ha; cases ha

theorem findGate_of_firstGate {s : State} {address item : Nat} {kind : GateKind} (h : s.FirstGate address item kind) :
    findGate address item s.mapEntries = some kind := by
  obtain ⟨before, after, hmap, hb⟩ := h
  rw [State.mapEntries, hmap]
  exact findGate_some hb

theorem findGate_eq_none {s : State} {address item : Nat} (h : ∀ kind, ¬ s.FirstGate address item kind) :
    findGate address item s.mapEntries = none := by
  rw [Option.eq_none_iff_forall_ne_some]
  intro kind hk
  obtain ⟨before, after, hes, hb⟩ := findGate_split hk
  cases hm : s.tables.map with
  | none => rw [State.mapEntries, hm] at hes; simp at hes
  | some es =>
    rw [State.mapEntries, hm] at hes
    exact h kind ⟨before, after, by rw [hm]; exact congrArg some hes, hb⟩

/-- A command to an address and item, by the gate found for it (R14, R15, R17). -/
theorem gate_command {s : State} {address item v : Nat} {r : DeviceRequest} (hr : r.command = some (item, v)) :
    (findGate address item s.mapEntries = some .deny → s.gatePasses address r = false ∧ s.isManualClose address r = false) ∧
    (findGate address item s.mapEntries = some .inlet → (s.gatePasses address r = true ↔ v = 0 ∨ s.guard.state = .armed) ∧
      (s.isManualClose address r = true ↔ v = 0)) ∧
    (findGate address item s.mapEntries = none → s.gatePasses address r = true ∧ s.isManualClose address r = false) := by
  refine ⟨fun hg => ?_, fun hg => ?_, fun hg => ?_⟩ <;> simp [State.gatePasses, State.isManualClose, hr, hg]

/-- What is no command passes, and is no manual close. -/
theorem gate_other {s : State} {address : Nat} {r : DeviceRequest} (hr : r.command = none) :
    s.gatePasses address r = true ∧ s.isManualClose address r = false := by
  simp [State.gatePasses, State.isManualClose, hr]

theorem gate_emptyMap {s : State} (address : Nat) (r : DeviceRequest) (hm : s.tables.map = none) :
    s.gatePasses address r = true ∧ s.isManualClose address r = false := by
  cases hr : r.command with
  | none => exact gate_other hr
  | some c =>
    refine (gate_command hr).2.2 ?_
    rw [State.mapEntries, hm]; rfl

/-! ### The checks, in their order (R43) -/

theorem passRequest_eq (f : Byte) (x v : Nat) : passRequest f x v =
    if f = 0x31#8 then some (.read x v) else if f = 0x32#8 then some (.write x v) else if f = 0x33#8 then some (.select x v)
    else if f = 0x34#8 then some (.operate x v) else if f = 0x36#8 then some .status else none := by
  unfold passRequest
  split <;> simp_all

/-- The operands of a request are out of range only for a READ (R43). -/
theorem passRequest_inRange {f : Byte} {x v : Nat} {q : DeviceRequest} (hx : x ≤ 255) (h : passRequest f x v = some q) :
    q.inRange = false ↔ f = 0x31#8 ∧ (v < 1 ∨ 16 < v) := by
  rw [passRequest_eq] at h
  by_cases hf : f = 0x31#8
  · rw [if_pos hf] at h
    obtain rfl := Option.some_injective _ h
    simp only [DeviceRequest.inRange, decide_eq_false_iff_not, hf, true_and]
    omega
  · rw [if_neg hf] at h
    have hrange : q.inRange = true := by
      repeat' split at h
      all_goals first
        | (obtain rfl := Option.some_injective _ h; rfl)
        | cases h
    simp [hrange, hf]

/-- The first check that fails (R43), for a request and an inner address. -/
def refusal (s : State) (f a i : Byte) (v : Nat) (wake : Bool) (inner : Option Nat) (r : Option DeviceRequest) : Option Status :=
  if s.holds .line = true then some .lineHeld
  else if r.any (fun r => !s.gatePasses (inner.getD a.toNat) r) then some .guarded
  else if s.supply.mode ≠ .mains then some .battery
  else if r = none ∨ a.toNat < 1 ∨ 31 < a.toNat ∨ 31 < i.toNat ∨ (i ≠ 0x00#8 ∧ s.repeater = 0) ∨
    (f = 0x31#8 ∧ (v < 1 ∨ 16 < v)) then some .outOfRange
  else if 4 ≤ s.line.pass.length then some .full
  else if r.any (fun r => decide (250000 < passCost s.byteTime wake inner r)) then some .tooLong else none

theorem byte_zero_iff (i : Byte) : i = 0x00#8 ↔ i.toNat = 0 := by rw [BitVec.toNat_eq]; rfl

/-- The range checks of a request that its function names. -/
theorem pass_inRange {s : State} {f a i : Byte} {x v : Nat} {q : DeviceRequest} (hx : x ≤ 255) (h : passRequest f x v = some q) :
    (isAddress a.toNat = false ∨ (if i.toNat = 0 then none else some i.toNat).any (fun i => !isAddress i) = true ∨ q.inRange = false ∨
      ((if i.toNat = 0 then none else some i.toNat : Option Nat).isSome = true ∧ s.repeater = 0)) ↔
    (a.toNat < 1 ∨ 31 < a.toNat ∨ 31 < i.toNat ∨ (i ≠ 0x00#8 ∧ s.repeater = 0) ∨ (f = 0x31#8 ∧ (v < 1 ∨ 16 < v))) := by
  have hfar : isAddress a.toNat = false ↔ a.toNat < 1 ∨ 31 < a.toNat := by
    rw [isAddress, decide_eq_false_iff_not]; omega
  have hinner : (if i.toNat = 0 then none else some i.toNat).any (fun i => !isAddress i) = true ↔ 31 < i.toNat := by
    split
    · simp; omega
    · simp only [Option.any_some, Bool.not_eq_true', isAddress, decide_eq_false_iff_not]; omega
  have hsome : (if i.toNat = 0 then none else some i.toNat : Option Nat).isSome = true ↔ i ≠ 0x00#8 := by
    rw [Ne, byte_zero_iff]
    split <;> simp_all
  rw [passRequest_inRange hx h, hfar, hinner, hsome]
  tauto

theorem passCheck_eq {s : State} {f a i : Byte} {x v : Nat} (hx : x ≤ 255) (wake : Bool) {inner : Option Nat}
    (hinner : inner = if i = 0x00#8 then none else some i.toNat) : s.passCheck f a.toNat i.toNat x v wake =
      match refusal s f a i v wake inner (passRequest f x v), passRequest f x v with
      | some status, _ => .error status
      | none, some q => .ok q
      | none, none => .error .outOfRange := by
  have hinner' : inner = if i.toNat = 0 then none else some i.toNat := by simp only [hinner, byte_zero_iff]
  unfold State.passCheck refusal
  rw [← hinner']
  dsimp only
  by_cases h1 : s.holds .line = true
  · simp only [h1, if_true]
  · rw [if_neg h1, if_neg h1]
    by_cases h2 : (passRequest f x v).any (fun r => !s.gatePasses (inner.getD a.toNat) r) = true
    · simp only [h2, if_true]
    · rw [if_neg h2, if_neg h2]
      by_cases h3 : s.supply.mode ≠ .mains
      · rw [if_pos h3, if_pos h3]
      · rw [if_neg h3, if_neg h3]
        cases hq : passRequest f x v with
        | none => simp
        | some q =>
          have hrange := pass_inRange (s := s) (a := a) (i := i) hx hq
          rw [← hinner'] at hrange
          simp only [hrange, reduceCtorEq, false_or, Option.any_some, decide_eq_true_eq, Config.cycleUs]
          repeat' split
          all_goals simp_all

end Sys2Proof.Laws
end

section
/-! PROOFS. FIELD_PASS: a request that passes its checks joins the queue, and a manual close inhibits the fill (R17, R43, R103): O50. -/

namespace Sys2Proof.Laws

open Sys2Proof.Machine

theorem arg_drop (xs ys : List Byte) (b : Byte) (n : Nat) (h : xs.length = n) : arg (xs ++ b :: ys) n = b.toNat := by
  subst h
  simp [arg, fieldU, beNat]

theorem arg2_drop (xs ys : List Byte) (b c : Byte) (n : Nat) (h : xs.length = n) : arg2 (xs ++ b :: c :: ys) n = b.toNat * 256 + c.toNat := by
  subst h
  simp [arg2, fieldU, beNat]

/-- The entry of a request joins the tail of the pass queue. -/
def joinPass (e : PassEntry) (s : State) : State := s.updLine fun l => { l with pass := l.pass ++ [e] }

/-- The owner of a FIELD_PASS that passes every check. -/
theorem passRequestTaken_ok {s : State} {f : Byte} {a i x v : Nat} {wake : Bool} {q : DeviceRequest} (resv : Nat)
    (h : s.passCheck f a i x v wake = .ok q) : State.passRequestTaken resv f a i wake x v s =
      if s.isManualClose ((if i = 0 then none else some i : Option Nat).getD a) q then
        (joinPass { resv := resv, request := q, address := a, inner := if i = 0 then none else some i, wake := wake } s).send .fill
          (.inhibit [.manualClose] [])
      else joinPass { resv := resv, request := q, address := a, inner := if i = 0 then none else some i, wake := wake } s := by
  rw [State.passRequestTaken, h]
  rfl

theorem passRequestTaken_error {s : State} {f : Byte} {a i x v : Nat} {wake : Bool} {status : Status} (resv : Nat)
    (h : s.passCheck f a i x v wake = .error status) :
    State.passRequestTaken resv f a i wake x v s = s.respond resv [status.byte] := by
  rw [State.passRequestTaken, h]

/-! ### The inhibition (R17, R103) -/

/-- One notice for one block is delivered. -/
theorem drain_one {pick : Nat → Nat} {fuel : Nat} {u : State} {d : Delivery} (h : u.notices = [d]) (hline : inLine [d] = [d]) :
    State.drain pick (fuel + 1) u = State.drain pick fuel (State.deliver d { u with notices := [] }) := by
  have hone : u.deliverOne pick = State.deliver d { u with notices := [] } := by
    simp only [State.deliverOne, h, hline, takeFirst]
    simp
  rw [State.drain, if_neg (by rw [h]; simp), hone]

/-- An event whose notice makes MANUAL_CLOSE join the set, a notice for Level Telemetry coming first where the frame ends an islanding. -/
theorem drain_inhibits {w c : Prop} {pick : Nat → Nat} {fuel : Nat} {u v : State} (hn : TellsIslanding v)
    (hu : u = v.send .fill (.inhibit [.manualClose] [])) (hw : w → v.lineWaits)
    (hc : c → v.fill.inhibit ≠ [] → v.fill.state = .held ∧ v.fill.demand = 0) :
    Going w (State.drain pick (fuel + 2) u) ∧ Marked c (State.drain pick (fuel + 2) u).fill := by
  have hlast : ∀ (k : Nat) (x : State), x.notices = [⟨.fill, .inhibit [.manualClose] []⟩] → x.line = v.line → x.fill = v.fill →
      Going w (State.drain pick (k + 1) x) ∧ Marked c (State.drain pick (k + 1) x).fill := by
    intro k x hx hline hfill
    obtain ⟨y, hy⟩ : ∃ y, y = ({ x with notices := [] } : State) := ⟨_, rfl⟩
    have hwaits : y.lineWaits ↔ v.lineWaits := by rw [hy]; simp only [State.lineWaits, hline]
    have hgoing : Going w y := ⟨by rw [hy]; exact fun d hd => absurd hd List.not_mem_nil, fun h => hwaits.2 (hw h)⟩
    have hyfill : y.fill = v.fill := by rw [hy]; exact hfill
    rw [drain_one hx (by decide), ← hy]
    refine drain_marked pick k _ ((deliver_going (d := ⟨.fill, .inhibit [.manualClose] []⟩) rfl y).2 hgoing) ?_
    exact fillEvent_marked (changeInhibit_marks (by rw [hyfill]; exact hc))
  rcases hn with hn | hn
  · refine hlast (fuel + 1) u ?_ (by rw [hu]; rfl) (by rw [hu]; rfl)
    rw [hu, send_notices, hn]; rfl
  · have hnotices : u.notices = [⟨.telemetry, .islanded false⟩, ⟨.fill, .inhibit [.manualClose] []⟩] := by
      rw [hu, send_notices, hn]; rfl
    obtain ⟨y, hy⟩ : ∃ y, y = ({ u with notices := [⟨.fill, .inhibit [.manualClose] []⟩] } : State).passContents
      fun x => { x with islanded := false } := ⟨_, rfl⟩
    have hone : u.deliverOne pick = y := by
      rw [hy]
      unfold State.deliverOne
      rw [hnotices]
      rfl
    rw [State.drain, if_neg (by rw [hnotices]; simp), hone, hy]
    refine hlast fuel _ (passContents_read (part := .notices) (by decide) _ _) ?_ ?_
    · exact (passContents_read (part := .line) (by decide) _ _).trans (by rw [hu]; rfl)
    · exact (passContents_read (part := .fill) (by decide) _ _).trans (by rw [hu]; rfl)

/-! ### The request (R43) -/

/-- What a FIELD_PASS that passes its checks leaves. -/
theorem fieldPass_joins (owner : Nat → State → State) (tag : Byte) (e : PassEntry) (manual : Bool) (s : State) (hs : s.Serves)
    (ho : owner s.out.nextResv (taken 0x1E#8 tag s) = if manual then (joinPass e (taken 0x1E#8 tag s)).send .fill (.inhibit [.manualClose] [])
      else joinPass e (taken 0x1E#8 tag s)) :
    let t := State.request Config.pick 0x1E#8 tag true owner s
    (s.lineWaits → manual = false → t.line = { s.line with pass := s.line.pass ++ [e] } ∧ Served [.line] s t) ∧
      (manual = true → .manualClose ∈ t.fill.inhibit ∧ (s.InhibitLaw → t.fill.state = .held ∧ t.fill.demand = 0) ∧
        (s.lineWaits → t.line.pass = s.line.pass ++ [e])) ∧ Kept (.trunk :: reached) s t := by
  have hready := hs.1
  obtain ⟨v, hv⟩ : ∃ v, v = joinPass e (taken 0x1E#8 tag s) := ⟨_, rfl⟩
  have hread : ∀ p, p ∉ [Part.trunk, .out, .notices, .line] → p.read v = p.read s := by
    intro p hp
    rw [hv, joinPass, updLine_read (by simp_all), taken_read _ _ _ (by simp_all)]
  have hline : v.line = { s.line with pass := s.line.pass ++ [e] } := by
    have htaken : (taken 0x1E#8 tag s).line = s.line := taken_read 0x1E#8 tag s (p := .line) (by decide)
    rw [hv, joinPass, updLine_line, htaken]
  have hwaits : v.lineWaits ↔ s.lineWaits := by simp only [State.lineWaits, hline]
  have htake : State.takeRequest 0x1E#8 tag true owner s = if manual then v.send .fill (.inhibit [.manualClose] []) else v := by
    rw [takeRequest_place _ _ _ _ _ hs.2, if_pos rfl, ho, hv]
  have hrequest : State.request Config.pick 0x1E#8 tag true owner s =
      (State.drain Config.pick Config.deliveryFuel (if manual then v.send .fill (.inhibit [.manualClose] []) else v)).settle := by
    rw [State.request, event_powered _ _ _ hready.1, htake]
  refine ⟨fun hw hm => ?_, fun hm => ?_, ?_⟩
  · rw [hm] at htake
    obtain ⟨hserved, -, -, u, hu, huread⟩ := request_served 0x1E#8 tag true owner s hs [.line] (by decide) (by decide) (by decide)
      (by decide) fun p hp => by rw [htake, if_neg (by decide), hv]; exact updLine_read (by simp_all) _ _
    have huline : u.line = v.line := (huread .line (by decide)).trans (by rw [htake]; rfl)
    have huwaits : u.lineWaits := by
      rw [State.lineWaits, huline]; exact hwaits.2 hw
    exact ⟨by rw [hu, settle_line u huwaits, huline, hline], hserved⟩
  · rw [hm, if_pos rfl] at hrequest
    have hvn : TellsIslanding v := by
      have hnotices : v.notices = s.controlFrame.notices := by rw [hv]; rfl
      rw [TellsIslanding, hnotices]
      exact (controlFrame_notices s hready.2).1
    have hfill : v.fill = s.fill := hread .fill (by decide)
    obtain ⟨hgoing, hmarked⟩ := drain_inhibits (w := s.lineWaits) (c := s.InhibitLaw) (pick := Config.pick) (fuel := 398) hvn rfl hwaits.2
      (fun hlaw hne => by rw [hfill] at hne ⊢; exact hlaw hready.1 hne)
    have hcycles := drain_cycles (l0 := v.line) Config.pick Config.deliveryFuel (v.send .fill (.inhibit [.manualClose] [])) (cycles_refl _)
    obtain ⟨u, hu⟩ : ∃ u, u = State.drain Config.pick Config.deliveryFuel (v.send .fill (.inhibit [.manualClose] [])) := ⟨_, rfl⟩
    rw [← hu] at hrequest hcycles
    change Going _ (State.drain Config.pick Config.deliveryFuel _) at hgoing
    change Marked _ (State.drain Config.pick Config.deliveryFuel _).fill at hmarked
    rw [← hu] at hgoing hmarked
    have hfinal : u.settle.fill = u.fill := settle_read (part := .fill) (by decide) u
    obtain ⟨-, -, -, -, -, -, -, hpass⟩ := hcycles
    rw [hrequest, hfinal]
    refine ⟨hmarked.1, hmarked.2, fun hw => ?_⟩
    rw [settle_line u (hgoing.2 hw)]
    exact hpass.trans (congrArg LineBlock.pass hline)
  · rw [hrequest]
    refine drain_settle_kept [.trunk] Config.pick Config.deliveryFuel s _ fun p hp => ?_
    have hp' : p ∉ [Part.trunk, .out, .notices, .line] := fun h => hp (by
      simp only [List.mem_cons, List.not_mem_nil, or_false] at h
      rcases h with rfl | rfl | rfl | rfl <;> decide)
    have hnotices : p ∉ [Part.notices] := fun h => hp' (by simp_all)
    split
    · rw [send_read hnotices, hread p hp']
    · exact hread p hp'

/-- Settles O50: the checks by `passCheck_eq`, the queue and the inhibition by `fieldPass_joins`, the gates by the first entry found. -/
theorem fieldPassIsCheckedInOrder : Obligations.FieldPassIsCheckedInOrder := by
  refine ⟨?_, ?_⟩
  · intro s tag f a i w x hi lo inner r refused hs hw hinner hr hrefused
    obtain ⟨v, hv⟩ : ∃ v, v = hi.toNat * 256 + lo.toNat := ⟨_, rfl⟩
    rw [← hv] at hr hrefused
    have hwake : passWake w.toNat = (w == 0x01#8) := by rcases hw with rfl | rfl <;> rfl
    have hr' : r = passRequest f x.toNat v := hr.trans (passRequest_eq f x.toNat v).symm
    have hinner' : inner = if i.toNat = 0 then none else some i.toNat := by simp only [hinner, byte_zero_iff]
    obtain ⟨owner, howner⟩ : ∃ owner : Nat → State → State, owner =
      fun resv => State.passRequestTaken resv f a.toNat i.toNat (w == 0x01#8) x.toNat v := ⟨_, rfl⟩
    have hexec : exec (.fieldPass tag [f, a, i, w, x, hi, lo]) s = .next (State.request Config.pick 0x1E#8 tag true owner s) := by
      have hargs : (fun resv => State.passRequestTaken resv f (arg [f, a, i, w, x, hi, lo] 1) (arg [f, a, i, w, x, hi, lo] 2)
          (passWake (arg [f, a, i, w, x, hi, lo] 3)) (arg [f, a, i, w, x, hi, lo] 4) (arg2 [f, a, i, w, x, hi, lo] 5)) = owner := by
        have ha : arg [f, a, i, w, x, hi, lo] 1 = a.toNat := arg_drop [f] _ a 1 rfl
        have hi' : arg [f, a, i, w, x, hi, lo] 2 = i.toNat := arg_drop [f, a] _ i 2 rfl
        have hw' : arg [f, a, i, w, x, hi, lo] 3 = w.toNat := arg_drop [f, a, i] _ w 3 rfl
        have hx : arg [f, a, i, w, x, hi, lo] 4 = x.toNat := arg_drop [f, a, i, w] _ x 4 rfl
        have hvalue : arg2 [f, a, i, w, x, hi, lo] 5 = hi.toNat * 256 + lo.toNat := arg2_drop [f, a, i, w, x] [] hi lo 5 rfl
        rw [howner, ha, hi', hw', hx, hvalue, hwake, ← hv]
      rw [← hargs]
      rfl
    obtain ⟨o, ns, htaken⟩ := taken_eq 0x1E#8 tag s
    have hsame : (taken 0x1E#8 tag s).passCheck f a.toNat i.toNat x.toNat v (w == 0x01#8) =
        s.passCheck f a.toNat i.toNat x.toNat v (w == 0x01#8) := by rw [htaken]; rfl
    have hcheck := passCheck_eq (s := s) (f := f) (a := a) (v := v) (Nat.le_of_lt_succ x.isLt) (w == 0x01#8) hinner
    have hrefusal : refusal s f a i v (w == 0x01#8) inner (passRequest f x.toNat v) = refused := by rw [hrefused, hr']; rfl
    rw [hrefusal, ← hr', ← hsame] at hcheck
    have hjoins : ∀ q, refused = none → r = some q → _ := fun q hnone hq =>
      fieldPass_joins owner tag { resv := s.out.nextResv, request := q, address := a.toNat, inner := inner, wake := w == 0x01#8 }
        (s.isManualClose (inner.getD a.toNat) q) s hs (by
          rw [howner, hinner']
          rw [hnone, hq] at hcheck
          have hmanual : (taken 0x1E#8 tag s).isManualClose ((if i.toNat = 0 then none else some i.toNat : Option Nat).getD a.toNat) q =
              s.isManualClose ((if i.toNat = 0 then none else some i.toNat : Option Nat).getD a.toNat) q := by rw [htaken]; rfl
          rw [← hmanual]
          exact passRequestTaken_ok s.out.nextResv hcheck)
    refine ⟨_, hexec, fun status hst => ?_, fun hnone q hq => ?_⟩
    · rw [hst] at hcheck
      obtain ⟨hserved, hcarries⟩ := answered_at_once 0x1E#8 tag owner s [status.byte] hs
        (by rw [howner]; exact passRequestTaken_error s.out.nextResv hcheck)
      exact ⟨hcarries, hserved⟩
    · obtain ⟨hqueue, hmanual, hkept⟩ := hjoins q hnone hq
      exact ⟨hqueue, hmanual, hkept⟩
  · intro s address item v r
    refine ⟨fun hr => ?_, fun hr => ?_⟩
    · have hcommand : r.command = some (item, v) := by rcases hr with rfl | rfl | rfl <;> rfl
      obtain ⟨hdeny, hinlet, hnone⟩ := gate_command (s := s) (address := address) hcommand
      exact ⟨fun h => hdeny (findGate_of_firstGate h), fun h => hinlet (findGate_of_firstGate h), fun h => hnone (findGate_eq_none h)⟩
    · rcases hr with rfl | rfl | hm
      · exact gate_other rfl
      · exact gate_other rfl
      · exact gate_emptyMap address r hm

end Sys2Proof.Laws
end

section
/-! PROOFS. What a pick leaves of the pass queue and of the command list (R26, R44, R49). -/

namespace Sys2Proof.Laws

open Sys2Proof.Machine

/-! ### The turns before the pass queue's -/

/-- What the turns of the channels and of the command list leave: the pass queue, the cycle, and the entries but for their turns. -/
structure Turned (s t : State) : Prop where
  pass : t.line.pass = s.line.pass
  cycle : t.line.cycle = s.line.cycle
  entries : t.entries = s.entries
  others : ∀ p, p ≠ Part.line → p.read t = p.read s

theorem Turned.refl (s : State) : Turned s s := ⟨rfl, rfl, rfl, fun _ _ => rfl⟩

theorem Turned.trans {s t u : State} (h : Turned s t) (h' : Turned t u) : Turned s u :=
  ⟨h'.pass.trans h.pass, h'.cycle.trans h.cycle, h'.entries.trans h.entries, fun p hp => (h'.others p hp).trans (h.others p hp)⟩

theorem Turned.updLine {s t : State} {g : LineBlock → LineBlock} (h : Turned s t) (hp : ∀ l, (g l).pass = l.pass)
    (hc : ∀ l, (g l).cycle = l.cycle)
    (he : ∀ l, (g l).commands.map (fun e => { e with turnCycle := none }) = l.commands.map fun e => { e with turnCycle := none }) :
    Turned s (t.updLine g) :=
  h.trans ⟨hp _, hc _, he _, fun p h => updLine_read (by simpa using h) _ _⟩

theorem startTransaction_turned (w : LineWork) (a : Nat) (wake : Bool) (r : LineRequest) (s : State) :
    Turned s (s.startTransaction w a wake r) := by
  unfold State.startTransaction
  apply (Turned.refl s).updLine <;> exact fun _ => rfl

theorem updChannel_turned (i : Nat) (f : ChannelLive → ChannelLive) (s : State) : Turned s (s.updChannel i f) := by
  unfold State.updChannel
  apply (Turned.refl s).updLine <;> exact fun _ => rfl

theorem tryChannel_turned (left i : Nat) (c : ChannelRecord) (s : State) : Turned s (s.tryChannel left i c).1 := by
  have hstarts : ∀ (a : Nat) (r : LineRequest), Turned s
      (if s.fits left c.wake r = true then (s.startTransaction (.channel i) a c.wake r, true) else (s, false)).1 := by
    intro a r
    split
    · exact startTransaction_turned _ _ _ _ s
    · exact .refl s
  unfold State.tryChannel
  dsimp only
  split
  · exact .refl s
  · split
    · split
      · exact .refl s
      · split
        · exact updChannel_turned _ _ s
        · split
          · exact (startTransaction_turned _ _ _ _ s).trans (updChannel_turned _ _ _)
          · exact .refl s
    · split
      · exact .refl s
      · split
        · split
          · exact .refl s
          · exact hstarts _ _
        · exact hstarts _ _

theorem tryChannels_turned (left : Nat) (cls : ChannelClass) (cs : List ChannelRecord) : ∀ (i : Nat) (s : State),
    Turned s (tryChannels left cls i cs s).1 := by
  induction cs with
  | nil => exact fun _ s => .refl s
  | cons c rest ih =>
    intro i s
    simp only [tryChannels]
    split
    · split
      · exact tryChannel_turned left i c s
      · exact (tryChannel_turned left i c s).trans (ih _ _)
    · exact ih _ s

theorem turn_map (a i : Nat) (n : Option Nat) (cs : List CommandEntry) :
    (cs.map fun e => if e.isFor a i then { e with turnCycle := n } else e).map (fun e => { e with turnCycle := none }) =
      cs.map fun e => { e with turnCycle := none } := by
  rw [List.map_map]
  refine List.map_congr_left fun e _ => ?_
  simp only [Function.comp_apply]
  split <;> rfl

theorem tryCommands_turned (left : Nat) (es : List CommandEntry) (s : State) : Turned s (tryCommands left es s).1 := by
  induction es with
  | nil => exact .refl s
  | cons e rest ih =>
    simp only [tryCommands]
    split
    · exact ih
    · split
      · exact ih
      · unfold State.updCommand
        dsimp only
        apply Turned.updLine (startTransaction_turned _ _ _ _ s)
        · exact fun _ => rfl
        · exact fun _ => rfl
        · exact fun l => turn_map _ _ _ l.commands

/-! ### The pass queue's turn (R44) -/

/-- A pass queue that has lost some of its first entries, and the entries of the command list but for their turns. -/
structure Passed (s t : State) : Prop where
  pass : t.line.pass.map PassEntry.resv <:+ s.line.pass.map PassEntry.resv
  entries : t.entries = s.entries

theorem Passed.refl (s : State) : Passed s s := ⟨List.suffix_refl _, rfl⟩

theorem Passed.trans {s t u : State} (h : Passed s t) (h' : Passed t u) : Passed s u :=
  ⟨h'.pass.trans h.pass, h'.entries.trans h.entries⟩

theorem Turned.passed {s t : State} (h : Turned s t) : Passed s t := ⟨by rw [h.pass], h.entries⟩

/-- The head leaves the queue. -/
theorem leavePass_line (payload : List Byte) (s : State) : (s.leavePass payload).line = { s.line with pass := s.line.pass.tail } := by
  unfold State.leavePass
  split
  · next h => exact (congrArg (fun ps => { s.line with pass := ps }) (by simp [h] : s.line.pass = s.line.pass.tail))
  · next h => rw [h]; rfl

theorem leavePass_passed (payload : List Byte) (s : State) : Passed s (s.leavePass payload) := by
  refine ⟨?_, ?_⟩
  · rw [leavePass_line]; exact (List.tail_suffix _).map _
  · simp only [State.entries, leavePass_line]

theorem updHead_line (f : PassEntry → PassEntry) (s : State) {e : PassEntry} {rest : List PassEntry} (h : s.line.pass = e :: rest) :
    (s.updHead f).line = { s.line with pass := f e :: rest } := by
  show ({ s.line with pass := _ } : LineBlock) = _
  rw [h]

theorem Passed.updHead {s t : State} {f : PassEntry → PassEntry} (h : Passed s t) (hf : ∀ e, (f e).resv = e.resv) :
    Passed s (t.updHead f) := by
  refine h.trans ⟨?_, rfl⟩
  unfold State.updHead
  rw [updLine_line]
  cases hp : t.line.pass <;> simp [hf]

theorem tryPass_passed (left fuel : Nat) (s : State) : Passed s (s.tryPass left fuel).1 := by
  induction fuel generalizing s with
  | zero => exact .refl s
  | succ fuel ih =>
    have hleaves : ∀ p, Passed s ((s.leavePass p).tryPass left fuel).1 := fun p => (leavePass_passed p s).trans (ih _)
    have hstarts : ∀ a wake r, Passed s (s.startTransaction .pass a wake r) := fun _ _ _ => (startTransaction_turned _ _ _ _ s).passed
    simp only [State.tryPass]
    split
    · exact .refl s
    · split
      · split
        · exact hleaves _
        · split
          · exact .refl s
          · split
            · dsimp only
              apply (hstarts _ _ _).updHead
              exact fun _ => rfl
            · exact .refl s
      · split
        · exact hleaves _
        · split
          · exact .refl s
          · split
            · exact hstarts _ _ _
            · exact hleaves _
      · split
        · exact .refl s
        · split
          · exact hstarts _ _ _
          · exact hleaves _

/-- The work before the pass queue's turn, which comes last. -/
theorem pickWork_cases (left : Nat) (s : State) : ∃ u, Turned s u ∧
    (s.pickWork left = u ∨ s.pickWork left = (u.tryPass left (u.line.pass.length + 1)).1) := by
  obtain ⟨a, ha⟩ : ∃ a, a = tryChannels left .guard 0 s.channelRecords s := ⟨_, rfl⟩
  obtain ⟨b, hb⟩ : ∃ b, b = tryCommands left a.1.line.commands a.1 := ⟨_, rfl⟩
  obtain ⟨c, hc⟩ : ∃ c, c = tryChannels left .normal 0 b.1.channelRecords b.1 := ⟨_, rfl⟩
  have h1 : Turned s a.1 := ha ▸ tryChannels_turned left .guard s.channelRecords 0 s
  have h2 : Turned s b.1 := h1.trans (hb ▸ tryCommands_turned left _ a.1)
  have h3 : Turned s c.1 := h2.trans (hc ▸ tryChannels_turned left .normal _ 0 b.1)
  have hpick : s.pickWork left = if a.2 then a.1 else if b.2 then b.1 else if c.2 then c.1 else
      (c.1.tryPass left (c.1.line.pass.length + 1)).1 := by rw [hc, hb, ha]; rfl
  rw [hpick]
  repeat' split
  · exact ⟨_, h1, .inl rfl⟩
  · exact ⟨_, h2, .inl rfl⟩
  · exact ⟨_, h3, .inl rfl⟩
  · exact ⟨_, h3, .inr rfl⟩

theorem linePick_cases (s : State) : ∃ u, Turned s u ∧
    (s.linePick = u ∨ ∃ left, s.linePick = (u.tryPass left (u.line.pass.length + 1)).1) := by
  unfold State.linePick
  split
  · exact ⟨_, .refl s, .inl rfl⟩
  · split
    · exact ⟨_, .refl s, .inl rfl⟩
    · split
      · refine ⟨_, ?_, .inl rfl⟩
        apply Turned.updLine (startTransaction_turned _ _ _ _ s) <;> exact fun _ => rfl
      · next left _ _ _ =>
        obtain ⟨u, hu, h | h⟩ := pickWork_cases left s
        · exact ⟨u, hu, .inl h⟩
        · exact ⟨u, hu, .inr ⟨left, h⟩⟩

theorem linePick_passed (s : State) : Passed s s.linePick := by
  obtain ⟨u, hu, h | ⟨left, h⟩⟩ := linePick_cases s
  · rw [h]; exact hu.passed
  · rw [h]; exact hu.passed.trans (tryPass_passed _ _ _)

/-! ### A head that stays (R44) -/

/-- A head that a pick leaves in its place: handed off in this cycle or asked for in it, or still to hand off with its gate open. -/
def HeadStays (e : PassEntry) (s : State) : Prop :=
  e.inner.isSome = true ∧ s.repeater ≠ 0 ∧ ((∃ h, e.handed = some h ∧ (s.line.cycle ≤ h ∨ e.collectCycle = some s.line.cycle)) ∨
    (e.handed = none ∧ s.gatePasses e.device e.request = true))

theorem repeater_congr {s t : State} (h : Part.tables.read t = Part.tables.read s) : t.repeater = s.repeater :=
  congrArg (fun x : Tables => siteRepeater x.siteSet) h

theorem gatePasses_congr {s t : State} (ht : Part.tables.read t = Part.tables.read s) (hg : Part.guard.read t = Part.guard.read s)
    (a : Nat) (r : DeviceRequest) : t.gatePasses a r = s.gatePasses a r := by
  have hg' : t.guard = s.guard := hg
  cases hr : r.command with
  | none => rw [(gate_other (s := s) hr).1, (gate_other (s := t) hr).1]
  | some c =>
    obtain ⟨item, v⟩ := c
    have hm := mapEntries_congr ht
    rw [Bool.eq_iff_iff]
    obtain ⟨hs1, hs2, hs3⟩ := gate_command (s := s) (address := a) hr
    obtain ⟨ht1, ht2, ht3⟩ := gate_command (s := t) (address := a) hr
    rw [hm] at ht1 ht2 ht3
    cases hf : findGate a item s.mapEntries with
    | none => rw [(hs3 hf).1, (ht3 hf).1]
    | some k =>
      cases k with
      | deny => rw [(hs1 hf).1, (ht1 hf).1]
      | inlet => rw [(hs2 hf).1, (ht2 hf).1, hg']

theorem HeadStays.congr {e : PassEntry} {s t : State} (h : HeadStays e s) (hc : t.line.cycle = s.line.cycle)
    (ht : Part.tables.read t = Part.tables.read s) (hg : Part.guard.read t = Part.guard.read s) : HeadStays e t := by
  unfold HeadStays at h ⊢
  rwa [repeater_congr ht, hc, gatePasses_congr ht hg]

theorem tryPass_stays {e : PassEntry} {rest : List PassEntry} {s : State} (hp : s.line.pass = e :: rest) (h : HeadStays e s)
    (left fuel : Nat) : (s.tryPass left (fuel + 1)).1.line.pass = s.line.pass := by
  obtain ⟨hinner, hrep, hwhy⟩ := h
  obtain ⟨inner, hi⟩ := Option.isSome_iff_exists.1 hinner
  rcases hwhy with ⟨n, hn, hlate⟩ | ⟨hn, hgate⟩
  · simp only [State.tryPass, hp, hi, hn, if_neg hrep, if_pos hlate]
  · simp only [State.tryPass, hp, hi, hn, if_neg hrep, hgate, if_true]
    split
    · exact hp
    · exact hp

theorem linePick_stays {e : PassEntry} {rest : List PassEntry} {s : State} (hp : s.line.pass = e :: rest) (h : HeadStays e s) :
    s.linePick.line.pass = s.line.pass := by
  obtain ⟨u, hu, h' | ⟨left, h'⟩⟩ := linePick_cases s
  · rw [h', hu.pass]
  · rw [h', tryPass_stays (hu.pass.trans hp) (h.congr hu.cycle (hu.others .tables (by decide)) (hu.others .guard (by decide))), hu.pass]

/-! ### The end of an event that starts no cycle -/

theorem settle_passed {s : State} (hl : s.line.late = false) : Passed s s.settle := by
  have hline : s.settle.line = s.lineSettle.line :=
    (trunkSettle_read (part := .line) (by decide) _).trans (enginePick_read (part := .line) (by decide) _)
  have hpick : Passed s s.lineSettle := by
    unfold State.lineSettle
    split
    · exact .refl s
    · rw [hl]; exact linePick_passed s
  refine ⟨by rw [hline]; exact hpick.pass, ?_⟩
  rw [State.entries, hline]; exact hpick.entries

theorem settle_stays {e : PassEntry} {rest : List PassEntry} {s : State} (hl : s.line.late = false) (hp : s.line.pass = e :: rest)
    (h : HeadStays e s) : s.settle.line.pass = s.line.pass := by
  have hline : s.settle.line = s.lineSettle.line :=
    (trunkSettle_read (part := .line) (by decide) _).trans (enginePick_read (part := .line) (by decide) _)
  rw [hline]
  unfold State.lineSettle
  split
  · rfl
  · rw [hl]; exact linePick_stays hp h

end Sys2Proof.Laws
end

section
/-! PROOFS. A pass-through entry leaves the queue with its device's outcome (R45). -/

namespace Sys2Proof.Laws

open Sys2Proof.Machine

/-! ### The response (R45, R183, R185) -/

theorem replyPayload_whole {r : RawReply} (h : r.payload.length ≤ 197) :
    replyPayload r = Status.done.byte :: r.code :: BitVec.ofNat 8 r.payload.length :: r.payload := by
  have hlen : enc1 r.payload.length = [BitVec.ofNat 8 r.payload.length] := by
    rw [enc1, encU, if_pos (by omega)]
    rfl
  rw [replyPayload, hlen]
  exact if_pos (by simp only [List.length_cons, List.length_append, List.length_nil, maxTrunkPayload]; omega)

/-- A reply that does not fit gives a response of at most 200 bytes that begins with some status (log entry 32). -/
theorem replyPayload_overlong {r : RawReply} (h : 197 < r.payload.length) :
    ∃ (status : Byte) (p : List Byte), status.toNat < 25 ∧ p.length < 200 ∧ replyPayload r = status :: p := by
  obtain ⟨whole, hwhole⟩ : ∃ whole, whole = Status.done.byte :: r.code :: (enc1 r.payload.length ++ r.payload) := ⟨_, rfl⟩
  have hlong : ¬ whole.length ≤ maxTrunkPayload := by
    rw [hwhole]
    simp only [List.length_cons, List.length_append, Machine.Laws.enc1_length, maxTrunkPayload]
    omega
  refine ⟨_, _, ?_, ?_, (if_neg (hwhole ▸ hlong) : replyPayload r = _)⟩
  · rw [BitVec.toNat_ofNat]
    simp only [statusCount]
    omega
  · rw [List.length_take]
    simp only [maxTrunkPayload]
    omega

/-- The head that leaves the queue is answered. -/
theorem leavePass_answers {s : State} {e : PassEntry} {rest : List PassEntry} (hp : s.line.pass = e :: rest) {code tag : Byte}
    (hw : .reservation e.resv code tag ∈ s.out.waiting) (payload : List Byte) :
    (s.leavePass payload).out.Carries (.response e.resv code tag payload) := by
  have hleaves : s.leavePass payload = (s.updLine fun l => { l with pass := rest }).respond e.resv payload := by
    simp only [State.leavePass, hp]
  rw [hleaves]
  exact respond_new _ code tag payload e.resv hw

/-! ### The items of accepted DATA (R13, R45) -/

/-- The points that a reply feeds depend on the points, the tables and internal time alone. -/
theorem takeItems_points_congr {s t : State} (hp : t.points = s.points) (ht : Part.tables.read t = Part.tables.read s)
    (hu : Part.timeUs.read t = Part.timeUs.read s) (a : Nat) (src : Source) (items : List Nat) : ∀ item,
    (t.takeItems a src item items).1.points = (s.takeItems a src item items).1.points := by
  induction items generalizing s t with
  | nil => exact fun _ => hp
  | cons raw rest ih =>
    intro item
    refine ih ?_ ?_ ?_ (item + 1)
    · have hpoint : ∀ p, t.point p = s.point p := fun p => by rw [State.point, State.point, hp]
      simp only [State.takeItem, mapEntries_congr ht]
      split
      · exact hp
      · simp only [pointRecord_congr ht, hp, hpoint, now_congr hu]
        split
        · exact hp
        · split
          · show List.set _ _ _ = List.set _ _ _
            rw [hp]
          · exact hp
    · rw [takeItem_read (by decide), takeItem_read (by decide), ht]
    · rw [takeItem_read (by decide), takeItem_read (by decide), hu]

theorem passEnds_data (device start : Nat) (items : List Nat) (raw : RawReply) (s : State) :
    s.passEnds device (.accepted (.data start items) raw) =
      (s.leavePass (replyPayload raw)).extract device .passed start items := rfl

theorem passEnds_other (device : Nat) {a : FieldOutcome} (h : ∀ start items raw, a ≠ .accepted (.data start items) raw) (s : State) :
    s.passEnds device a = s.leavePass (passPayload a) := by
  unfold State.passEnds
  dsimp only
  split
  · next start items raw => exact absurd rfl (h start items raw)
  · rfl

/-! ### The outcome of the head's device (R44, R45) -/

/-- The slots after the outcome of a transaction of the head. -/
def slotsAfter (x : Transaction) (e : PassEntry) (l : LineBlock) : List RepeaterSlot :=
  match x.request, e.handed with
  | .collect _ _, some h => l.slots.eraseP fun y => y.holder == .pass && y.cycle == h
  | _, _ => l.slots

/-- The state in which the head leaves with its device's outcome, its slot being released. -/
def slotFreed (x : Transaction) (e : PassEntry) (s : State) : State := s.updLine fun l => { l with slots := slotsAfter x e l }

theorem slotFreed_eq {x : Transaction} {e : PassEntry} (h : ∀ inner r, x.request ≠ .collect inner r) (s : State) : slotFreed x e s = s := by
  have hslots : slotsAfter x e s.line = s.line.slots := by
    unfold slotsAfter
    split
    · next hx _ => exact absurd hx (h _ _)
    · rfl
  exact congrArg (fun ss => { s with line := { s.line with slots := ss } }) hslots

theorem slotFreed_collect {x : Transaction} {e : PassEntry} {inner : Nat} {r : DeviceRequest} (hx : x.request = .collect inner r) (s : State) :
    slotFreed x e s = match e.handed with
      | some h => s.releaseSlot .pass h
      | none => s := by
  cases hh : e.handed <;> simp only [slotFreed, slotsAfter, hx, hh] <;> rfl

/-- A HAND-OFF that found no slot because of its device ends the entry as any outcome of the device does; otherwise accepted DATA is
extracted for the device. -/
theorem passOutcome_device {s : State} {x : Transaction} {o a : FieldOutcome} {e : PassEntry} {rest : List PassEntry}
    (hp : s.line.pass = e :: rest) (hd : x.DeviceOutcome o a) :
    ((∃ inner r, x.request = .handOff inner r) ∧ s.passOutcome x o = (slotFreed x e s).leavePass (passPayload a)) ∨
      ∃ device, (∀ d, ((∃ r, x.request = .device r) ∧ d = e.inner.getD e.address) ∨ (∃ r, x.request = .collect d r) → d = device) ∧
        s.passOutcome x o = (slotFreed x e s).passEnds device a := by
  rcases hd with ⟨⟨r, hr⟩, rfl⟩ | ⟨⟨inner, r, hr⟩, rfl, hnot⟩ | ⟨inner, r, bytes, raw, hr, rfl, rfl⟩
  · refine .inr ⟨e.device, ?_, ?_⟩
    · rintro d (⟨-, rfl⟩ | ⟨r', hr'⟩)
      · rfl
      · rw [hr] at hr'; cases hr'
    · rw [slotFreed_eq (by rw [hr]; nofun)]
      simp only [State.passOutcome, hp, hr]
  · refine .inl ⟨⟨inner, r, hr⟩, ?_⟩
    rw [slotFreed_eq (by rw [hr]; nofun)]
    simp only [State.passOutcome, hp, hr]
    split
    · next raw => exact absurd rfl (hnot raw).1
    · next raw => exact absurd rfl (hnot raw).2.1
    · next raw => exact absurd rfl (hnot raw).2.2
    · rfl
  · refine .inr ⟨inner, ?_, ?_⟩
    · rintro d (⟨⟨r', hr'⟩, -⟩ | ⟨r', hr'⟩)
      · rw [hr] at hr'; cases hr'
      · rw [hr] at hr'; cases hr'; rfl
    · rw [slotFreed_collect hr]
      simp only [State.passOutcome, hp, hr] <;> cases e.handed <;> rfl

/-- What an entry's end leaves, the points and notices aside. -/
theorem deviceOutcome_left {s : State} {x : Transaction} {o a : FieldOutcome} {e : PassEntry} {rest : List PassEntry}
    (hp : s.line.pass = e :: rest) (hd : x.DeviceOutcome o a) :
    (s.passOutcome x o).line = { s.line with pass := rest, slots := slotsAfter x e s.line } ∧
      (s.passOutcome x o).out = ((slotFreed x e s).leavePass (passPayload a)).out ∧
      ((∀ start items raw, a ≠ .accepted (.data start items) raw) → s.passOutcome x o = (slotFreed x e s).leavePass (passPayload a)) := by
  obtain ⟨w, hw⟩ : ∃ w, w = (slotFreed x e s).leavePass (passPayload a) := ⟨_, rfl⟩
  have hline : w.line = { s.line with pass := rest, slots := slotsAfter x e s.line } := by
    have hfreed : (slotFreed x e s).line = { s.line with slots := slotsAfter x e s.line } := rfl
    rw [hw, leavePass_line, hfreed, hp]
    rfl
  have hends : ∀ device, ((slotFreed x e s).passEnds device a).line = w.line ∧ ((slotFreed x e s).passEnds device a).out = w.out := by
    intro device
    by_cases ha : ∃ start items raw, a = .accepted (.data start items) raw
    · obtain ⟨start, items, raw, rfl⟩ := ha
      rw [passEnds_data, hw]
      exact ⟨extract_read (part := .line) (by decide) _ _ _ _ _, extract_read (part := .out) (by decide) _ _ _ _ _⟩
    · rw [passEnds_other device (fun start items raw h => ha ⟨start, items, raw, h⟩), hw]
      exact ⟨rfl, rfl⟩
  rw [← hw, ← hline]
  rcases passOutcome_device hp hd with ⟨-, h⟩ | ⟨device, -, h⟩
  · rw [h, hw]
    exact ⟨rfl, rfl, fun _ => rfl⟩
  · rw [h]
    exact ⟨(hends device).1, (hends device).2, fun ha => by rw [passEnds_other device ha, hw]⟩

/-- Accepted DATA feeds the points of the device. -/
theorem deviceOutcome_points {s : State} {x : Transaction} {o : FieldOutcome} {e : PassEntry} {rest : List PassEntry} {start device : Nat}
    {items : List Nat} {raw : RawReply} (hp : s.line.pass = e :: rest) (hd : x.DeviceOutcome o (.accepted (.data start items) raw))
    (hx : ((∃ r, x.request = .device r) ∧ device = e.inner.getD e.address) ∨ (∃ r, x.request = .collect device r)) :
    (s.passOutcome x o).points = (s.extract device .passed start items).points := by
  rcases passOutcome_device hp hd with ⟨⟨inner, r, hr⟩, -⟩ | ⟨d, hdevice, h⟩
  · rcases hx with ⟨⟨r', hr'⟩, -⟩ | ⟨r', hr'⟩ <;> rw [hr] at hr' <;> cases hr'
  · obtain rfl := hdevice device hx
    have hread : ∀ p, p ∉ [Part.line, .out] → p.read ((slotFreed x e s).leavePass (replyPayload raw)) = p.read s := by
      intro p hp'
      rw [leavePass_read hp', slotFreed, updLine_read (by simp_all)]
    rw [h, passEnds_data, extract_points, extract_points]
    exact takeItems_points_congr (hread .points (by decide)) (hread .tables (by decide)) (hread .timeUs (by decide)) _ _ _ _

end Sys2Proof.Laws
end

section
/-! PROOFS. The ends of a pass-through transaction (R34, R35, R44, R45): O51's clauses about a transaction of the head. -/

namespace Sys2Proof.Laws

open Sys2Proof.Machine

theorem workOutcome_pass {x : Transaction} (hw : x.work = .pass) (o : FieldOutcome) (s : State) : workOutcome x o s = s.passOutcome x o := by
  simp only [workOutcome, hw]

theorem landed_out (ends : Nat) (s : State) : (landed ends s).out = s.out :=
  (landed_read (p := .out) (by decide) ends s).trans (advanceUs_read (part := .out) (by decide) ends s)

/-! ### The line after an event (R25, R26) -/

/-- The pass queue, the slots and the channels after an event that starts no cycle. -/
theorem concluded_line {u : State} (hl : u.line.late = false) :
    (concluded u).line.pass.map PassEntry.resv <:+ u.line.pass.map PassEntry.resv ∧ (concluded u).line.slots = u.line.slots := by
  have hd : Cycles u.line (State.drain Config.pick Config.deliveryFuel u).line := drain_cycles _ _ _ (cycles_refl _)
  have hlate := hd.late.trans hl
  have hpassed := (settle_passed hlate).pass
  have hslots := settle_picks hlate
  obtain ⟨-, -, -, -, -, -, hds, hdp⟩ := hd
  obtain ⟨-, -, -, -, -, hps, -⟩ := hslots
  rw [hdp] at hpassed
  exact ⟨hpassed, hps.trans hds⟩

/-- An event that raises no notice goes on at once. -/
theorem concluded_quiet {u : State} (hn : u.notices = []) : concluded u = u.settle := congrArg State.settle (drain_nil _ _ _ hn)

theorem concluded_carries {u : State} {r : Nat} {c t : Byte} {p : List Byte} (h : u.out.Carries (.response r c t p)) :
    (concluded u).out.Carries (.response r c t p) := settle_carries _ (drain_carries _ _ _ h)

/-- A transaction's end without a notice leaves all but the line and the queue. -/
theorem quiet_kept {s u : State} (h : ∀ p, p ∉ [Part.line, .out] → p.read u = p.read s) : Kept [.line, .out] s u.settle :=
  settle_kept [.line, .out] s u h (congrArg Inputs.clearToSend (h .inputs (by decide))) (congrArg TrunkBlock.restartDue (h .trunk (by decide)))

/-- The command list of a transaction's end that changes none. -/
theorem settled_entries {s u : State} (hl : u.line.late = false) (hc : u.line.commands = s.line.commands) : u.settle.entries = s.entries := by
  rw [(settle_passed hl).entries, State.entries, hc]
  rfl

/-! ### The outcome of the head's device (R45) -/

/-- The first clause of O51: the head whose device's outcome is in leaves the queue with its response. -/
theorem deviceOutcome_ends {s : State} {x : Transaction} {cmd : Instr} {o a : FieldOutcome} {ends : Nat} {e : PassEntry}
    {rest : List PassEntry} {code tag : Byte} (hc : s.Concludes x cmd o ends) (hw : x.work = .pass) (hp : s.line.pass = e :: rest)
    (hres : .reservation e.resv code tag ∈ s.out.waiting) (hd : x.DeviceOutcome o a) : ∃ (t now : State), now = s.advanceUs ends ∧
      exec cmd s = .next t ∧ Kept (.points :: reached) now t ∧ t.line.pass.map PassEntry.resv <:+ rest.map PassEntry.resv ∧
      t.out.Carries (.response e.resv code tag (passPayload a)) ∧
      (∀ start items raw device, a = .accepted (.data start items) raw →
        ((∃ r, x.request = .device r) ∧ device = e.inner.getD e.address) ∨ (∃ r, x.request = .collect device r) →
        t.points = (now.extract device .passed start items).points) ∧
      ((∀ start items raw, a ≠ .accepted (.data start items) raw) → t.points = s.points ∧ t.banks = s.banks ∧ t.entries = s.entries) ∧
      (∀ inner r h, x.request = .collect inner r → e.handed = some h →
        t.line.slots = s.line.slots.eraseP fun y => y.holder == .pass && y.cycle == h) ∧
      ∀ (j : Nat) (l : ChannelLive), s.line.live[j]? = some l → ∃ l' : ChannelLive, t.line.live[j]? = some l' ∧
        ChannelLive.core l' = ChannelLive.core l := by
  obtain ⟨v, hv⟩ : ∃ v, v = landed ends s := ⟨_, rfl⟩
  obtain ⟨u, hu⟩ : ∃ u, u = v.passOutcome x o := ⟨_, rfl⟩
  have hexec : exec cmd s = .next (concluded u) := by rw [exec_concludes hc, workOutcome_pass hw, ← hv, ← hu]
  have hvline : v.line = { s.line with inFlight := none, late := false } := by rw [hv]; exact landed_line ends s
  have hvpass : v.line.pass = e :: rest := by rw [hvline]; exact hp
  obtain ⟨hline, hout, hleft⟩ := deviceOutcome_left hvpass hd
  rw [← hu] at hline hout hleft
  have hlate : u.line.late = false := by rw [hline, hvline]
  obtain ⟨hpass, hslots⟩ := concluded_line hlate
  have hcarries : u.out.Carries (.response e.resv code tag (passPayload a)) := by
    rw [hout]
    refine leavePass_answers (s := slotFreed x e v) (rest := rest) hvpass ?_ _
    show _ ∈ v.out.waiting
    rw [hv, landed_out]
    exact hres
  refine ⟨concluded u, s.advanceUs ends, rfl, hexec, ?_, ?_, concluded_carries hcarries, ?_, fun ha => ?_, ?_, fun j l hj => ?_⟩
  · have hkept := concluded_kept x o ends s
    rwa [workOutcome_pass hw, ← hv, ← hu] at hkept
  · rwa [hline] at hpass
  · rintro start items raw device rfl hx
    rw [concluded_points, hu, deviceOutcome_points hvpass hd hx, extract_points, extract_points, hv]
    exact takeItems_points_congr (landed_read (p := .points) (by decide) ends s) (landed_read (by decide) ends s)
      (landed_read (by decide) ends s) _ _ _ _
  · have hleaves := hleft ha
    have hread : ∀ p, p ∉ [Part.line, .out] → p.read u = p.read v := by
      intro p hp'
      rw [hleaves, leavePass_read hp', slotFreed, updLine_read (by simp_all)]
    have hnotices : u.notices = [] := (hread .notices (by decide)).trans (by rw [hv]; exact (landed_notices ends s).trans hc.ready.2)
    refine ⟨?_, ?_, ?_⟩
    · rw [concluded_points]
      exact (hread .points (by decide)).trans (by rw [hv]; exact landed_points ends s)
    · rw [concluded_quiet hnotices]
      refine (settle_read (part := .banks) (by decide) u).trans ((hread .banks (by decide)).trans ?_)
      rw [hv]; exact landed_banks ends s
    · rw [concluded_quiet hnotices]
      exact settled_entries hlate (by rw [hline, hvline])
  · intro inner r h hx hh
    rw [hslots, hline, hvline]
    simp only [slotsAfter, hx, hh]
  · refine concluded_live hlate ?_
    rw [hline, hvline]
    exact hj

/-! ### The repeater's answers to a HAND-OFF and to a COLLECT (R34, R35, R44) -/

/-- A transaction of the head whose outcome changes the line, and the queue of responses at most. -/
theorem exec_quiet {s : State} {x : Transaction} {cmd : Instr} {o : FieldOutcome} {ends : Nat} (hc : s.Concludes x cmd o ends)
    (hw : x.work = .pass) (hread : ∀ p, p ∉ [Part.line, .out] → p.read ((landed ends s).passOutcome x o) = p.read (landed ends s)) :
    exec cmd s = .next ((landed ends s).passOutcome x o).settle ∧
      Kept [.line, .out] (s.advanceUs ends) ((landed ends s).passOutcome x o).settle := by
  refine ⟨?_, quiet_kept fun p hp => (hread p hp).trans (landed_read (by simp_all) ends s)⟩
  rw [exec_concludes hc, workOutcome_pass hw, concluded_quiet]
  exact (hread .notices (by decide)).trans ((landed_notices ends s).trans hc.ready.2)

theorem handOff_taken {s : State} {x : Transaction} {cmd : Instr} {ends inner : Nat} {e : PassEntry} {rest : List PassEntry}
    {r : DeviceRequest} {raw : RawReply} (hc : s.Concludes x cmd (.accepted .taken raw) ends) (hw : x.work = .pass)
    (hp : s.line.pass = e :: rest) (hi : e.inner = some inner) (hx : x.request = .handOff inner r) (hrep : s.repeater ≠ 0) :
    ∃ t, exec cmd s = .next t ∧ Kept [.line, .out] (s.advanceUs ends) t ∧ t.entries = s.entries ∧
      t.line.pass = { e with handed := some s.line.cycle, pendingCount := 0 } :: rest ∧
      t.line.slots = if s.line.slots.length < 2 then s.line.slots ++ [⟨.pass, s.line.cycle⟩] else s.line.slots := by
  obtain ⟨u, hu⟩ : ∃ u, u = (landed ends s).passOutcome x (.accepted .taken raw) := ⟨_, rfl⟩
  have hvpass : (landed ends s).line.pass = e :: rest := by rw [landed_line]; exact hp
  have htaken : u = ((landed ends s).takeSlot .pass).updHead fun y => { y with handed := some (landed ends s).line.cycle, pendingCount := 0 } := by
    rw [hu]; simp only [State.passOutcome, hvpass, hx]
  have hslot : ((landed ends s).takeSlot .pass).line = { (landed ends s).line with
      slots := if s.line.slots.length < 2 then s.line.slots ++ [⟨.pass, s.line.cycle⟩] else s.line.slots } := by
    rw [State.takeSlot, updLine_line, landed_line]
    split <;> rfl
  have hline : u.line = { (landed ends s).line with
      slots := if s.line.slots.length < 2 then s.line.slots ++ [⟨.pass, s.line.cycle⟩] else s.line.slots
      pass := { e with handed := some s.line.cycle, pendingCount := 0 } :: rest } := by
    rw [htaken, updHead_line _ _ (by rw [hslot]; exact hvpass), hslot, landed_line]
  have hread : ∀ p, p ∉ [Part.line, .out] → p.read u = p.read (landed ends s) := by
    intro p hp'
    rw [htaken, updHead_read (by simp_all), takeSlot_read (by simp_all)]
  obtain ⟨hexec, hkept⟩ := exec_quiet hc hw (by rw [← hu]; exact hread)
  rw [← hu] at hexec hkept
  have hlate : u.line.late = false := by rw [hline, landed_line]
  have hstays : HeadStays { e with handed := some s.line.cycle, pendingCount := 0 } u := by
    refine ⟨by rw [hi]; rfl, ?_, .inl ⟨_, rfl, .inl ?_⟩⟩
    · rw [repeater_congr ((hread .tables (by decide)).trans (landed_tables ends s))]; exact hrep
    · rw [hline, landed_line]
  have hpass := settle_stays hlate (by rw [hline]) hstays
  obtain ⟨-, -, -, -, -, hslots, -⟩ := settle_picks hlate
  refine ⟨_, hexec, hkept, settled_entries hlate (by rw [hline, landed_line]), ?_, ?_⟩
  · rw [hpass, hline]
  · rw [hslots, hline]

theorem handOff_waits {s : State} {x : Transaction} {cmd : Instr} {o : FieldOutcome} {ends inner : Nat} {e : PassEntry}
    {rest : List PassEntry} {r : DeviceRequest} {raw : RawReply} (hc : s.Concludes x cmd o ends) (hw : x.work = .pass)
    (hp : s.line.pass = e :: rest) (hi : e.inner = some inner) (hx : x.request = .handOff inner r) (hrep : s.repeater ≠ 0)
    (ho : o = .accepted .full raw ∨ o = .accepted .busy raw) (hh : e.handed = none) (hg : s.gatePasses inner e.request = true) :
    ∃ t, exec cmd s = .next t ∧ Kept [.line, .out] (s.advanceUs ends) t ∧ t.line.pass = s.line.pass ∧
      t.line.slots = s.line.slots ∧ t.entries = s.entries := by
  have hvpass : (landed ends s).line.pass = e :: rest := by rw [landed_line]; exact hp
  have hsame : (landed ends s).passOutcome x o = landed ends s := by
    rcases ho with rfl | rfl <;> simp only [State.passOutcome, hvpass, hx]
  obtain ⟨hexec, hkept⟩ := exec_quiet hc hw (by rw [hsame]; exact fun _ _ => rfl)
  rw [hsame] at hexec hkept
  have hlate : (landed ends s).line.late = false := by rw [landed_line]
  have hguard : Part.guard.read (landed ends s) = Part.guard.read s :=
    (landed_read (by decide) ends s).trans (advanceUs_read (by decide) ends s)
  have hstays : HeadStays e (landed ends s) := by
    refine ⟨by rw [hi]; rfl, ?_, .inr ⟨hh, ?_⟩⟩
    · rw [repeater_congr (landed_tables ends s)]; exact hrep
    · rw [gatePasses_congr (landed_tables ends s) hguard, PassEntry.device, hi]; exact hg
  have hpass := settle_stays hlate hvpass hstays
  obtain ⟨-, -, -, -, -, hslots, -⟩ := settle_picks hlate
  refine ⟨_, hexec, hkept, ?_, ?_, settled_entries hlate (by rw [landed_line])⟩
  · rw [hpass, landed_line]
  · rw [hslots, landed_line]

/-- A COLLECT without an inner reply counts as PENDING (R35). -/
theorem passOutcome_pending {s : State} {x : Transaction} {o : FieldOutcome} {e : PassEntry} {rest : List PassEntry} {inner : Nat}
    {r : DeviceRequest} (hp : s.line.pass = e :: rest) (hx : x.request = .collect inner r)
    (ho : ∀ bytes raw, o ≠ .accepted (.carried bytes) raw) : s.passOutcome x o =
      if e.pendingCount + 1 < 4 then s.updHead fun y => { y with pendingCount := y.pendingCount + 1 }
      else s.leavePass [Status.noReply.byte] := by
  simp only [State.passOutcome, hp, hx]

theorem collect_pending {s : State} {x : Transaction} {cmd : Instr} {o : FieldOutcome} {ends inner : Nat} {e : PassEntry}
    {rest : List PassEntry} {r : DeviceRequest} {code tag : Byte} (hc : s.Concludes x cmd o ends) (hw : x.work = .pass)
    (hp : s.line.pass = e :: rest) (hx : x.request = .collect inner r) (ho : ∀ bytes raw, o ≠ .accepted (.carried bytes) raw) :
    ∃ t, exec cmd s = .next t ∧ Kept [.line, .out] (s.advanceUs ends) t ∧ t.line.slots = s.line.slots ∧ t.entries = s.entries ∧
      (e.pendingCount + 1 < 4 → e.inner = some inner → e.handed.isSome = true → e.collectCycle = some s.line.cycle →
        s.repeater ≠ 0 → t.line.pass = { e with pendingCount := e.pendingCount + 1 } :: rest) ∧
      (4 ≤ e.pendingCount + 1 → .reservation e.resv code tag ∈ s.out.waiting →
        t.out.Carries (.response e.resv code tag [Status.noReply.byte]) ∧
        t.line.pass.map PassEntry.resv <:+ rest.map PassEntry.resv) := by
  obtain ⟨v, hv⟩ : ∃ v, v = landed ends s := ⟨_, rfl⟩
  have hvline : v.line = { s.line with inFlight := none, late := false } := by rw [hv]; exact landed_line ends s
  have hvpass : v.line.pass = e :: rest := by rw [hvline]; exact hp
  have hout := passOutcome_pending hvpass hx ho
  obtain ⟨u, hu⟩ : ∃ u, u = v.passOutcome x o := ⟨_, rfl⟩
  rw [← hu] at hout
  have hline : u.line = { v.line with pass := if e.pendingCount + 1 < 4 then { e with pendingCount := e.pendingCount + 1 } :: rest else rest } := by
    rw [hout]
    split
    · exact updHead_line _ _ hvpass
    · rw [leavePass_line, hvpass]; rfl
  have hread : ∀ p, p ∉ [Part.line, .out] → p.read u = p.read v := by
    intro p hp'
    rw [hout]
    split
    · exact updHead_read (by simp_all) _ _
    · exact leavePass_read hp' _ _
  obtain ⟨hexec, hkept⟩ := exec_quiet hc hw (by rw [← hv, ← hu]; exact hread)
  rw [← hv, ← hu] at hexec hkept
  have hlate : u.line.late = false := by rw [hline, hvline]
  obtain ⟨-, -, -, -, -, hslots, -⟩ := settle_picks hlate
  refine ⟨_, hexec, hkept, by rw [hslots, hline, hvline], settled_entries hlate (by rw [hline, hvline]), ?_, ?_⟩
  · intro hmore hi hh hcollect hrep
    have hupass : u.line.pass = { e with pendingCount := e.pendingCount + 1 } :: rest := by rw [hline, if_pos hmore]
    obtain ⟨h, hh'⟩ := Option.isSome_iff_exists.1 hh
    have htables : Part.tables.read u = Part.tables.read s := by
      rw [hread .tables (by decide), hv, landed_tables]
    have hstays : HeadStays { e with pendingCount := e.pendingCount + 1 } u := by
      refine ⟨by rw [hi]; rfl, ?_, .inl ⟨h, hh', .inr ?_⟩⟩
      · rw [repeater_congr htables]; exact hrep
      · rw [hline, hvline]; exact hcollect
    rw [settle_stays hlate hupass hstays, hupass]
  · intro hlast hres
    refine ⟨settle_carries _ ?_, ?_⟩
    · show Outbound.Carries _ u.out
      rw [hout, if_neg (by omega)]
      refine leavePass_answers hvpass ?_ _
      rw [hv, landed_out]
      exact hres
    · have hpass := (settle_passed hlate).pass
      rwa [hline, if_neg (by omega)] at hpass

end Sys2Proof.Laws
end

section
/-! PROOFS. The head at a line cycle start (R16, R36, R44), and O51. -/

namespace Sys2Proof.Laws

open Sys2Proof.Machine

/-! ### Slots that run out (R36, R44) -/

/-- A slot's release by time touches channels, or takes the head out of the pass queue. -/
theorem slotRunsOut_line (x : RepeaterSlot) (s : State) : ∃ live pass, (s.slotRunsOut x).line = { s.line with live := live, pass := pass } := by
  unfold State.slotRunsOut
  split
  · split
    · exact ⟨_, s.line.pass, rfl⟩
    · exact ⟨s.line.live, s.line.pass, rfl⟩
  · split
    · split
      · exact ⟨s.line.live, _, leavePass_line _ s⟩
      · exact ⟨s.line.live, s.line.pass, rfl⟩
    · exact ⟨s.line.live, s.line.pass, rfl⟩
  · exact ⟨s.line.live, s.line.pass, rfl⟩

theorem slotRunsOut_passed (x : RepeaterSlot) (s : State) : Passed s (s.slotRunsOut x) := by
  unfold State.slotRunsOut
  split
  · split
    · exact (updChannel_turned _ _ s).passed
    · exact .refl s
  · split
    · split
      · exact leavePass_passed _ s
      · exact .refl s
    · exact .refl s
  · exact .refl s

/-- A slot that is not the head's leaves the head. -/
theorem slotRunsOut_other {s : State} {x : RepeaterSlot} {e : PassEntry} {rest : List PassEntry} (hp : s.line.pass = e :: rest)
    (hx : ∀ h, e.handed = some h → x ≠ ⟨.pass, h⟩) : (s.slotRunsOut x).line.pass = e :: rest ∧ (s.slotRunsOut x).out = s.out := by
  obtain ⟨holder, cycle⟩ := x
  cases holder with
  | channel i =>
    unfold State.slotRunsOut
    dsimp only
    split
    · exact ⟨hp, rfl⟩
    · exact ⟨hp, rfl⟩
  | pass =>
    have hne : e.handed ≠ some cycle := fun h => hx cycle h rfl
    simp only [State.slotRunsOut, hp, if_neg hne, and_self]
  | nobody => exact ⟨hp, rfl⟩

theorem slotRunsOut_head {s : State} {e : PassEntry} {rest : List PassEntry} {h : Nat} (hp : s.line.pass = e :: rest)
    (hh : e.handed = some h) : s.slotRunsOut ⟨.pass, h⟩ = s.leavePass [Status.noReply.byte] := by
  simp only [State.slotRunsOut, hp, hh, if_true]

/-- All the slots that run out at one cycle start. -/
theorem slotsRunOut_line (xs : List RepeaterSlot) (s : State) :
    ∃ live pass, (xs.foldl (fun s x => s.slotRunsOut x) s).line = { s.line with live := live, pass := pass } := by
  induction xs generalizing s with
  | nil => exact ⟨_, _, rfl⟩
  | cons x xs ih =>
    obtain ⟨l1, p1, h1⟩ := slotRunsOut_line x s
    obtain ⟨l2, p2, h2⟩ := ih (s.slotRunsOut x)
    exact ⟨l2, p2, by rw [List.foldl_cons, h2, h1]⟩

theorem slotsRunOut_after (xs : List RepeaterSlot) {s : State} {r : Nat} {c t : Byte} {p : List Byte}
    (h : s.out.Carries (.response r c t p)) : Passed s (xs.foldl (fun s x => s.slotRunsOut x) s) ∧
      (xs.foldl (fun s x => s.slotRunsOut x) s).out.Carries (.response r c t p) := by
  induction xs generalizing s with
  | nil => exact ⟨.refl s, h⟩
  | cons x xs ih =>
    obtain ⟨h1, h2⟩ := ih (slotRunsOut_carries x s h)
    exact ⟨(slotRunsOut_passed x s).trans h1, h2⟩

theorem slotsRunOut_other (xs : List RepeaterSlot) {s : State} {e : PassEntry} {rest : List PassEntry} (hp : s.line.pass = e :: rest)
    (hx : ∀ x ∈ xs, ∀ h, e.handed = some h → x ≠ ⟨.pass, h⟩) : (xs.foldl (fun s x => s.slotRunsOut x) s).line.pass = e :: rest ∧
      (xs.foldl (fun s x => s.slotRunsOut x) s).out = s.out := by
  induction xs generalizing s with
  | nil => exact ⟨hp, rfl⟩
  | cons x xs ih =>
    obtain ⟨hpass, hout⟩ := slotRunsOut_other hp (hx x List.mem_cons_self)
    obtain ⟨h1, h2⟩ := ih hpass fun y hy => hx y (List.mem_cons_of_mem _ hy)
    exact ⟨h1, h2.trans hout⟩

/-- The head whose slot runs out leaves with NO_REPLY, whatever other slots run out with it. -/
theorem slotsRunOut_head (xs : List RepeaterSlot) {s : State} {e : PassEntry} {rest : List PassEntry} {h : Nat} {code tag : Byte}
    (hp : s.line.pass = e :: rest) (hh : e.handed = some h) (hres : .reservation e.resv code tag ∈ s.out.waiting)
    (hmem : ⟨.pass, h⟩ ∈ xs) :
    (xs.foldl (fun s x => s.slotRunsOut x) s).out.Carries (.response e.resv code tag [Status.noReply.byte]) ∧
      (xs.foldl (fun s x => s.slotRunsOut x) s).line.pass.map PassEntry.resv <:+ rest.map PassEntry.resv := by
  induction xs generalizing s with
  | nil => cases hmem
  | cons x xs ih =>
    by_cases hx : x = ⟨.pass, h⟩
    · have hleaves : s.slotRunsOut x = s.leavePass [Status.noReply.byte] := hx ▸ slotRunsOut_head hp hh
      have hcarries := leavePass_answers hp hres [Status.noReply.byte]
      have hpass : (s.leavePass [Status.noReply.byte]).line.pass = rest := by rw [leavePass_line, hp]; rfl
      obtain ⟨hpassed, hkept⟩ := slotsRunOut_after xs hcarries
      rw [List.foldl_cons, hleaves]
      refine ⟨hkept, ?_⟩
      have hsuffix := hpassed.pass
      rwa [hpass] at hsuffix
    · obtain ⟨hpass, hout⟩ := slotRunsOut_other (x := x) hp fun n hn hxn => hx (by
        rw [hxn, Option.some_injective _ (hn.symm.trans hh)])
      refine ih hpass (by rw [hout]; exact hres) ?_
      rcases List.mem_cons.1 hmem with hm | hm
      · exact absurd hm.symm hx
      · exact hm

/-! ### A line cycle start (R25) -/

/-- The line of a cycle start before any slot runs out. -/
def cycleBegun (s : State) : State := s.updLine fun l => { l with
  cycle := s.line.cycle + 1
  cycleStartUs := some s.timeUs
  late := false
  rate := siteRate s.tables.siteSet
  lsbFirst := siteLsbFirst s.tables.siteSet
  slots := l.slots.filter fun x => decide (s.line.cycle + 1 < x.cycle + 9)
  live := livesAtCycle s.channelRecords (decide (s.supply.mode = .batteryLow)) 0 l.live }

/-- The slots that run out at a cycle start. -/
def slotsOver (s : State) : List RepeaterSlot := s.line.slots.filter fun x => decide (x.cycle + 9 ≤ s.line.cycle + 1)

theorem startCycle_eq (s : State) : s.startCycle = (slotsOver s).foldl (fun s x => s.slotRunsOut x) (cycleBegun s) := rfl

/-- A LINE_CYCLE_START with an idle line is a cycle start and what goes on at the event's end. -/
theorem exec_cycleStart {s : State} (hs : s.Ready) (hl : s.line.late = false) (hf : s.line.inFlight = none) :
    exec .lineCycleStart s = .next (s.advanceUs s.cycleDueUs).startCycle.settle ∧
      Kept [.line, .out] (s.advanceUs s.cycleDueUs) (s.advanceUs s.cycleDueUs).startCycle.settle ∧
      (s.advanceUs s.cycleDueUs).startCycle.settle.entries = s.entries := by
  obtain ⟨v, hv⟩ : ∃ v, v = s.advanceUs s.cycleDueUs := ⟨_, rfl⟩
  have hline : v.line = s.line := by rw [hv]; exact advanceUs_read (part := .line) (by decide) _ s
  have hnotices : v.startCycle.notices = [] := by
    refine (startCycle_read (part := .notices) (by decide) v).trans ?_
    rw [hv]
    exact (advanceUs_read (part := .notices) (by decide) _ s).trans hs.2
  have hdue : v.cycleComesDue = v.startCycle := by
    unfold State.cycleComesDue
    rw [hline, hf]
    rfl
  obtain ⟨live, pass, hstart⟩ := slotsRunOut_line (slotsOver v) (cycleBegun v)
  rw [← startCycle_eq] at hstart
  have hlate : v.startCycle.line.late = false := by rw [hstart]; rfl
  have hexec : exec .lineCycleStart s = .next v.startCycle.settle := by
    show execLineCycleStart s = _
    rw [execLineCycleStart, hl, State.eventIf]
    simp only [Bool.not_false, if_true]
    rw [event_powered _ _ _ hs.1, ← hv, hdue, drain_nil _ _ _ hnotices]
  rw [← hv]
  refine ⟨hexec, quiet_kept fun p hp => startCycle_read hp v, settled_entries hlate ?_⟩
  rw [hstart, ← hline]
  rfl

/-- The head whose slot is released by time leaves with NO_REPLY (R36). -/
theorem cycleStart_noReply {s : State} {e : PassEntry} {rest : List PassEntry} {code tag : Byte} {h : Nat} (hs : s.Ready)
    (hl : s.line.late = false) (hf : s.line.inFlight = none) (hp : s.line.pass = e :: rest)
    (hres : .reservation e.resv code tag ∈ s.out.waiting) (hh : e.handed = some h) (hslot : ⟨.pass, h⟩ ∈ s.line.slots)
    (hover : h + 9 ≤ s.line.cycle + 1) : ∃ t, exec .lineCycleStart s = .next t ∧
      Kept [.line, .out] (s.advanceUs s.cycleDueUs) t ∧ t.entries = s.entries ∧
      t.out.Carries (.response e.resv code tag [Status.noReply.byte]) ∧ t.line.pass.map PassEntry.resv <:+ rest.map PassEntry.resv := by
  obtain ⟨hexec, hkept, hentries⟩ := exec_cycleStart hs hl hf
  obtain ⟨v, hv⟩ : ∃ v, v = s.advanceUs s.cycleDueUs := ⟨_, rfl⟩
  rw [← hv] at hexec hkept hentries ⊢
  have hline : v.line = s.line := by rw [hv]; exact advanceUs_read (part := .line) (by decide) _ s
  have hout : v.out = s.out := by rw [hv]; exact advanceUs_read (part := .out) (by decide) _ s
  have hmem : ⟨.pass, h⟩ ∈ slotsOver v := by
    rw [slotsOver, hline, List.mem_filter]
    exact ⟨hslot, decide_eq_true hover⟩
  obtain ⟨hcarries, hpass⟩ := slotsRunOut_head (slotsOver v) (s := cycleBegun v) (hline ▸ hp) hh (hout ▸ hres) hmem
  rw [← startCycle_eq] at hcarries hpass
  obtain ⟨live, pass, hstart⟩ := slotsRunOut_line (slotsOver v) (cycleBegun v)
  rw [← startCycle_eq] at hstart
  have hlate : v.startCycle.line.late = false := by rw [hstart]; rfl
  exact ⟨_, hexec, hkept, hentries, settle_carries _ hcarries, (settle_passed hlate).pass.trans hpass⟩

/-- An idle line with nothing but the pass queue's work takes the head's turn. -/
theorem linePick_pass {s : State} {left : Nat} (hf : s.line.inFlight = none) (hleft : s.cycleLeft = some left) (hu : s.line.urgent = none)
    (hc : s.line.commands = []) (hr : s.channelRecords = []) : s.linePick = (s.tryPass left (s.line.pass.length + 1)).1 := by
  have hwork : s.pickWork left = (s.tryPass left (s.line.pass.length + 1)).1 := by
    simp only [State.pickWork, hr, hc, tryChannels, tryCommands]
    rfl
  rw [State.linePick, hf, hleft, hu]
  exact hwork

/-- The head that a gate refuses before it starts leaves with GUARDED (R16). -/
theorem cycleStart_guarded {s : State} {e : PassEntry} {rest : List PassEntry} {code tag : Byte} (hs : s.Ready)
    (hl : s.line.late = false) (hf : s.line.inFlight = none) (hp : s.line.pass = e :: rest)
    (hres : .reservation e.resv code tag ∈ s.out.waiting) (hi : e.inner = none) (hh : e.handed = none)
    (hgate : s.gatePasses e.address e.request = false) (hurgent : s.line.urgent = none) (hcommands : s.line.commands = [])
    (hrecords : s.channelRecords = [])
    (hcost : (LineRequest.device e.request).costUs (siteRate s.tables.siteSet).byteTimeUs e.wake ≤ 250000) :
    ∃ t, exec .lineCycleStart s = .next t ∧ Kept [.line, .out] (s.advanceUs s.cycleDueUs) t ∧ t.entries = s.entries ∧
      t.out.Carries (.response e.resv code tag [Status.guarded.byte]) ∧ t.line.pass.map PassEntry.resv <:+ rest.map PassEntry.resv := by
  obtain ⟨hexec, hkept, hentries⟩ := exec_cycleStart hs hl hf
  obtain ⟨v, hv⟩ : ∃ v, v = s.advanceUs s.cycleDueUs := ⟨_, rfl⟩
  rw [← hv] at hexec hkept hentries ⊢
  have hread : ∀ p, p ∉ [Part.timeUs, .fill] → p.read v = p.read s := fun p h => by rw [hv]; exact advanceUs_read h _ s
  have hline : v.line = s.line := hread .line (by decide)
  have htables : Part.tables.read v = Part.tables.read s := hread .tables (by decide)
  obtain ⟨w, hw⟩ : ∃ w, w = v.startCycle := ⟨_, rfl⟩
  have hwread : ∀ p, p ∉ [Part.line, .out] → p.read w = p.read v := fun p h => by rw [hw]; exact startCycle_read h v
  obtain ⟨live, pass, hstart⟩ := slotsRunOut_line (slotsOver v) (cycleBegun v)
  obtain ⟨hpass, hout⟩ := slotsRunOut_other (slotsOver v) (s := cycleBegun v) (hline ▸ hp) fun x _ h hsome => by
    rw [hh] at hsome; cases hsome
  rw [← startCycle_eq, ← hw] at hstart hpass hout
  have hwaiting : .reservation e.resv code tag ∈ w.out.waiting := by
    have hvout : v.out = s.out := hread .out (by decide)
    rw [hout]
    exact hvout ▸ hres
  have hwtables : Part.tables.read w = Part.tables.read s := (hwread .tables (by decide)).trans htables
  have hleft : w.cycleLeft = some 250000 := by
    have htime : w.timeUs = v.timeUs := hwread .timeUs (by decide)
    have hbegun : w.line.cycleStartUs = some v.timeUs := by rw [hstart]; rfl
    rw [State.cycleLeft, hbegun, htime, Option.map_some]
    simp only [Config.cycleUs, Nat.add_sub_cancel_left]
  have hpick : w.linePick = (w.tryPass 250000 (w.line.pass.length + 1)).1 := by
    refine linePick_pass ?_ hleft ?_ ?_ ?_
    · rw [hstart]; exact (congrArg LineBlock.inFlight hline).trans hf
    · rw [hstart]; exact (congrArg LineBlock.urgent hline).trans hurgent
    · rw [hstart]; exact (congrArg LineBlock.commands hline).trans hcommands
    · exact (congrArg (fun x : Tables => x.channels.getD []) hwtables).trans hrecords
  have hfits : w.fits 250000 e.wake (.device e.request) = true := by
    have hrate : w.byteTime = (siteRate s.tables.siteSet).byteTimeUs := by
      rw [State.byteTime, hstart]
      exact congrArg (fun x : Tables => (siteRate x.siteSet).byteTimeUs) htables
    rw [State.fits, hrate]
    exact decide_eq_true hcost
  have hgated : w.gatePasses e.device e.request = false := by
    rw [gatePasses_congr hwtables ((hwread .guard (by decide)).trans (hread .guard (by decide))), PassEntry.device, hi]
    exact hgate
  have hturn : (w.tryPass 250000 (w.line.pass.length + 1)).1 =
      ((w.leavePass [Status.guarded.byte]).tryPass 250000 w.line.pass.length).1 := by
    simp [State.tryPass, hpass, hi, hfits, hgated]
  have hsettle : w.lineSettle = ((w.leavePass [Status.guarded.byte]).tryPass 250000 w.line.pass.length).1 := by
    have hidle : w.line.inFlight = none := by rw [hstart]; exact (congrArg LineBlock.inFlight hline).trans hf
    have hlate : w.line.late = false := by rw [hstart]; rfl
    rw [← hturn, ← hpick, State.lineSettle, hidle, hlate]
    rfl
  have hcarries : w.lineSettle.out.Carries (.response e.resv code tag [Status.guarded.byte]) := by
    rw [hsettle]
    exact tryPass_carries _ _ _ (leavePass_answers hpass hwaiting _)
  have hsuffix : w.lineSettle.line.pass.map PassEntry.resv <:+ rest.map PassEntry.resv := by
    have h := (tryPass_passed 250000 w.line.pass.length (w.leavePass [Status.guarded.byte])).pass
    have hrest : (w.leavePass [Status.guarded.byte]).line.pass = rest := by rw [leavePass_line, hpass]; rfl
    rwa [hrest, ← hsettle] at h
  have hsline : w.settle.line = w.lineSettle.line :=
    (trunkSettle_read (part := .line) (by decide) _).trans (enginePick_read (part := .line) (by decide) _)
  rw [← hw] at hexec hkept hentries
  refine ⟨_, hexec, hkept, hentries, trunkSettle_carries _ ?_, ?_⟩
  · rw [enginePick_read (part := .out) (by decide)]
    exact hcarries
  · rw [hsline]
    exact hsuffix

/-- Settles O51: the device's outcome, the repeater's answers, and the two ways out at a cycle start. -/
theorem passThroughEnds : Obligations.PassThroughEnds := by
  refine ⟨?_, ?_, ?_, ?_⟩
  · intro s x cmd o a ends e rest code tag hc hw hp hres hd
    obtain ⟨t, now, hnow, hexec, hkept, hpass, hcarries, hpoints, hother, hslots, hlive⟩ := deviceOutcome_ends hc hw hp hres hd
    refine ⟨t, now, hnow, hexec, hkept, hpass, fun r hr => ?_, ?_, ?_, hpoints, hother, hslots, fun j l hj => ?_⟩
    · have hpayload : passPayload a = replyPayload r := by rcases hr with ⟨q, rfl⟩ | rfl <;> rfl
      rw [hpayload] at hcarries
      refine ⟨fun hshort => ?_, fun hlong => ?_⟩
      · rwa [replyPayload_whole hshort] at hcarries
      · obtain ⟨status, p, h1, h2, h3⟩ := replyPayload_overlong hlong
        exact ⟨status, p, h1, h2, h3 ▸ hcarries⟩
    · rintro rfl; exact hcarries
    · rintro rfl; exact hcarries
    · obtain ⟨l', hl', hcore⟩ := hlive j l hj
      simp only [ChannelLive.core, Prod.mk.injEq] at hcore
      obtain ⟨hgo, -, hcondition, hfailures, hcountdown, -⟩ := hcore
      exact ⟨l', hl', hfailures, hcondition, hcountdown, hgo⟩
  · intro s x cmd o ends inner e rest r raw hc hw hp hi hx hrep
    refine ⟨?_, fun ho hh hg => handOff_waits hc hw hp hi hx hrep ho hh hg⟩
    rintro rfl
    exact handOff_taken hc hw hp hi hx hrep
  · intro s x cmd o ends inner e rest r code tag hc hw hp hx ho
    exact collect_pending hc hw hp hx ho
  · intro s e rest code tag hs hl hf hp hres
    exact ⟨fun h hh hslot hover => cycleStart_noReply hs hl hf hp hres hh hslot hover,
      fun hi hh hg hu hcmd hrec hcost => cycleStart_guarded hs hl hf hp hres hi hh hg hu hcmd hrec hcost⟩

end Sys2Proof.Laws
end

section
/-! SUPPORT. What the blocks do to the field line while they take the notices of an event: they place commands, remove them and place the
urgent close, and nothing else (R37, R39, R41, R46). A property of the state that these three acts keep is kept by every event's notices. -/

namespace Sys2Proof.Laws

open Sys2Proof.Machine

-- One declaration after another: elaborated at once, the automatic arguments of `same` below wait on each other and take a thread each.
set_option Elab.async false

/-- A property of the state, resting on the line, the tables and the supply alone, that the three acts of the blocks on the line keep. -/
structure ActsKeep (P : State → Prop) : Prop where
  frame : ∀ s t, Part.line.read t = Part.line.read s → Part.tables.read t = Part.tables.read s →
    Part.supply.read t = Part.supply.read s → P s → P t
  place : ∀ address item feedback origin target s, P s → P (s.placeCommand address item feedback origin target).1
  remove : ∀ address item s, P s → P (s.removeCommand address item)
  urgent : ∀ address item s, s.line.urgent = none → P s → P (s.updLine fun l => { l with urgent := some ⟨address, item, false⟩ })

namespace ActsKeep

variable {P : State → Prop} (hP : ActsKeep P)

include hP

/-- An operation that reaches neither the line nor the tables nor the supply. -/
theorem same {s t : State} (h : P s) (hl : Part.line.read t = Part.line.read s := by simp)
    (ht : Part.tables.read t = Part.tables.read s := by simp) (hs : Part.supply.read t = Part.supply.read s := by simp) : P t :=
  hP.frame s t hl ht hs h

omit hP in
theorem branch {q : Prop} [Decidable q] {s t : State} (hs : P s) (ht : P t) : P (if q then s else t) := by
  split
  · exact hs
  · exact ht

/-! ### The guard -/

theorem placeUrgent (s : State) (h : P s) : P s.placeUrgent := by
  unfold State.placeUrgent
  split
  · exact h
  · next g _ =>
    split
    · exact h
    · next hu =>
      have hu' : s.line.urgent = none := by simpa using hu
      dsimp only
      split
      · exact hP.urgent _ _ _ hu' (hP.same (hP.remove g.inletAddress g.inletItem s h))
      · exact hP.urgent _ _ _ hu' h

theorem guardOnPoints (ps : List Nat) (s : State) (h : P s) : P (s.guardOnPoints ps) := by
  unfold State.guardOnPoints
  split
  · exact h
  · split
    · exact h
    · split
      · exact ActsKeep.branch (hP.same h) h
      · exact ActsKeep.branch h (hP.placeUrgent _ (hP.same h))
      · exact h

theorem trip (cause : TripCause) (lr : LevelRecord) (s : State) (h : P s) : P (s.trip cause lr) := by
  have hclose : P (((s.updGuard fun b => { b with
      state := .tripped, cause := some cause, tripLine := true, tripFlag := .pending, reset := none }).guardZero.send .fill
        (.inhibit [.guard] [])).placeUrgent) := hP.placeUrgent _ (hP.same h)
  unfold State.trip
  dsimp only
  split
  · exact hP.same hclose
  · exact hP.same hclose

theorem tripCondition (cause : TripCause) (lr : LevelRecord) (s : State) (h : P s) : P (s.tripCondition cause lr) := by
  unfold State.tripCondition
  split
  · exact hP.same h
  · exact h
  · exact hP.trip _ _ _ h
  · exact hP.trip _ _ _ h

theorem anticipate (s : State) (h : P s) : P s.anticipate := by
  unfold State.anticipate
  dsimp only
  split
  · exact hP.same h
  · next g _ =>
    have hplaced := hP.place g.inletAddress g.inletItem g.feedback .fill 0
      (((s.updGuard fun b => { b with state := .anticipating }).guardZero).send .fill (.inhibit [.guard] [])) (hP.same h)
    exact hP.same hplaced

theorem guardEvaluate (lr : LevelRecord) (s : State) (h : P s) : P (s.guardEvaluate lr) := by
  unfold State.guardEvaluate
  split
  · exact h
  · dsimp only
    split
    · exact ActsKeep.branch (hP.trip _ _ _ (hP.same h)) (ActsKeep.branch (hP.anticipate _ (hP.same h)) (hP.same h))
    · exact ActsKeep.branch (hP.trip _ _ _ (hP.same h)) (ActsKeep.branch (hP.same h) (hP.same h))
    · exact ActsKeep.branch (hP.tripCondition _ _ _ (hP.same h)) (hP.same h)

theorem levelHoldEnds (s : State) (h : P s) : P s.levelHoldEnds := hP.tripCondition _ _ _ (hP.same h)

theorem armHold (g : GuardSet) (since : Nat) (s : State) (h : P s) : P (s.armHold g since) :=
  ActsKeep.branch (hP.levelHoldEnds _ h) (hP.same h)

theorem guardOnLevel (lr : LevelRecord) (s : State) (h : P s) : P (s.guardOnLevel lr) := by
  refine hP.guardEvaluate _ _ ?_
  unfold State.holdOnNotice
  split
  · exact h
  · split
    · exact ActsKeep.branch h (hP.armHold _ _ _ h)
    · exact h
    · exact hP.same h

theorem completeReset (s : State) (h : P s) : P s.completeReset := by
  unfold State.completeReset
  split
  · exact h
  · split
    · exact hP.trip _ _ _ (hP.same h)
    · exact hP.guardEvaluate _ _ (hP.same h)

theorem guardTakes (n : Notice) (s : State) (h : P s) : P (s.guardTakes n) := by
  unfold State.guardTakes
  split
  · exact hP.guardOnPoints _ _ h
  · exact hP.guardOnLevel _ _ h
  · exact hP.guardEvaluate _ _ (hP.same h)
  · exact hP.guardEvaluate _ _ h
  · exact hP.same h
  · unfold State.guardOnTripWork
    split
    · exact hP.same h
    · split
      · exact hP.same h
      · exact hP.completeReset _ h
  · exact h

/-! ### The Fill Planner -/

theorem placeOpen (s : State) (h : P s) : P s.placeOpen := by
  unfold State.placeOpen
  split
  · exact hP.same h
  · next g _ => exact hP.same (hP.place g.inletAddress g.inletItem g.feedback .fill 2 s h)

theorem enterOpening (p : Purpose) (s : State) (h : P s) : P (s.enterOpening p) := hP.placeOpen _ (hP.same h)

theorem windowDecision (turned : Bool) (s : State) (h : P s) : P (s.windowDecision turned) :=
  ActsKeep.branch (hP.same h) (ActsKeep.branch (hP.same h) (ActsKeep.branch (hP.same h) (ActsKeep.branch h (hP.enterOpening _ _ h))))

theorem topUp (fs : FillSet) (s : State) (h : P s) : P (s.topUp fs) := ActsKeep.branch (hP.enterOpening _ _ (hP.same h)) h

theorem actOnPlan (fs : FillSet) (forced : Bool) (s : State) (h : P s) : P (s.actOnPlan fs forced) := by
  unfold State.actOnPlan
  split
  · exact ActsKeep.branch (hP.windowDecision _ _ h) (hP.topUp _ _ h)
  · exact ActsKeep.branch (hP.windowDecision _ _ h) h
  · exact ActsKeep.branch (hP.placeOpen _ h) h
  · exact hP.same h
  all_goals exact h

theorem evaluatePlan (forced : Bool) (s : State) (h : P s) : P (s.evaluatePlan forced) := by
  cases hf : s.tables.fillSet with
  | none =>
    simp only [State.evaluatePlan, hf]
    exact hP.same h
  | some fs =>
    have hplanned : P (planned fs s) := hP.same h rfl rfl rfl
    rw [evaluatePlan_some hf]
    exact hP.actOnPlan _ _ _ (ActsKeep.branch (hP.same hplanned) hplanned)

theorem endWindow (force : Bool) (s : State) (h : P s) : P (s.endWindow force) := by
  unfold State.endWindow
  dsimp only
  repeat' split
  all_goals exact hP.same h

theorem closeSequence (s : State) (h : P s) : P s.closeSequence := by
  have hclose : ∀ u : State, P u → P u.placeClose := by
    intro u hu
    unfold State.placeClose
    split
    · exact hu
    · next g _ =>
      have hplaced := hP.place g.inletAddress g.inletItem g.feedback .fill 0 u hu
      dsimp only
      split
      · exact hP.same hplaced
      · exact hP.same hplaced
      · exact hplaced
  exact ActsKeep.branch (hP.same h) (ActsKeep.branch h (ActsKeep.branch (hclose _ (hP.same h)) (hP.same h)))

/-- An event of the Fill Planner whose own effect keeps the property. -/
theorem fillEvent (f : State → State) (s : State) (h : P (f s)) : P (State.fillEvent f s) := by
  unfold State.fillEvent
  exact hP.same (hP.closeSequence _ h)

theorem changeInhibit (add remove : List Reason) (s : State) (h : P s) : P (s.changeInhibit add remove) :=
  ActsKeep.branch (ActsKeep.branch (hP.same h) (hP.evaluatePlan _ _ (hP.same h))) (ActsKeep.branch (hP.same h) (hP.same h))

theorem fillOnLevel (lr : LevelRecord) (s : State) (h : P s) : P (s.fillOnLevel lr) := by
  have hstate : ∀ (fs : FillSet) (u : State), P u → P (State.fillOnLevelState fs lr u) := by
    intro fs u hu
    unfold State.fillOnLevelState
    split
    · exact hu
    · split
      · exact ActsKeep.branch hu (hP.topUp _ _ hu)
      · exact ActsKeep.branch (hP.windowDecision _ _ hu) hu
      · exact ActsKeep.branch (hP.same hu) hu
      all_goals exact hu
  have hturns : P s.turnoverBecomesDone := by
    have he := hP.evaluatePlan false _ (hP.same (t := s.updFill fun f => { f with turnoverDone := true }) h)
    exact ActsKeep.branch (hP.windowDecision _ _ he) he
  unfold State.fillOnLevel
  split
  · exact h
  · exact hstate _ _ (ActsKeep.branch hturns h)

theorem fillOnCommand (target : Nat) (o : CommandOutcome) (s : State) (h : P s) : P (s.fillOnCommand target o) := by
  have hagain : P (if s.fill.state = .opening then s.updFill fun f => { f with openWanted := true } else s) := ActsKeep.branch (hP.same h) h
  unfold State.fillOnCommand
  dsimp only
  split
  · exact ActsKeep.branch (hP.same h) h
  · refine ActsKeep.branch ?_ (ActsKeep.branch (hP.same h) h)
    exact ActsKeep.branch (hP.evaluatePlan _ _ (hP.same h)) (hP.same h)
  · exact hP.changeInhibit _ _ _ (hP.same h)
  · exact hP.same h
  · exact ActsKeep.branch (hP.same h) hagain
  · exact ActsKeep.branch h hagain
  · exact h

theorem replaceOrder (order : FillOrder) (s : State) (h : P s) : P (s.replaceOrder order) :=
  ActsKeep.branch (hP.endWindow _ _ (hP.same h)) (hP.same h)

theorem fillTakes (n : Notice) (s : State) (h : P s) : P (s.fillTakes n) := by
  unfold State.fillTakes
  split
  · exact hP.fillEvent _ _ (hP.fillOnLevel _ _ h)
  · exact hP.fillEvent _ _ (hP.changeInhibit _ _ _ h)
  · exact hP.fillEvent _ _ (hP.fillOnCommand _ _ _ h)
  · exact hP.fillEvent _ _ (ActsKeep.branch (hP.windowDecision _ _ h) h)
  · exact hP.fillEvent _ _ (ActsKeep.branch h (hP.changeInhibit _ _ _ (hP.replaceOrder _ _ h)))
  · refine hP.fillEvent _ _ ?_
    split
    all_goals exact hP.changeInhibit _ _ _ h
  · exact h

/-! ### The Frost Unit and the line -/

omit hP in
theorem eachZone (f : Nat → ZoneRecord → State → State) (hf : ∀ i r s, P s → P (f i r s)) (rs : List ZoneRecord) (i : Nat) (s : State)
    (h : P s) : P (overZones f i rs s) := by
  induction rs generalizing i s with
  | nil => exact h
  | cons r rs ih => exact ih _ _ (hf _ _ _ h)

theorem placeHeater (i : Nat) (r : ZoneRecord) (s : State) (h : P s) : P (s.placeHeater i r) := by
  unfold State.placeHeater
  split
  · exact h
  · split
    · exact hP.same h
    · next target _ => exact hP.same (hP.place r.heaterAddress r.heaterItem r.feedback .frost (if target then 1 else 0) s h)

theorem allocate (s : State) (h : P s) : P s.allocate := by
  have hplaced := ActsKeep.eachZone State.placeHeater hP.placeHeater s.zoneRecords 0
    (s.updFrost fun b => { b with zones := setGranted s.grantedZones 0 b.zones }) (hP.same h)
  exact hP.same hplaced rfl rfl rfl

theorem frostSettle (before : State) (calls : Bool) (s : State) (h : P s) : P (State.frostSettle before calls s) := by
  have hflags : P s.frostFlags := hP.same h
  unfold State.frostSettle
  exact hP.same (ActsKeep.branch (q := (calls || s.frostFlags.frost.requests != before.frost.requests) = true) (hP.allocate _ hflags) hflags)

theorem setBudget (calls : Bool) (s : State) (h : P s) : P (s.setBudget calls) := hP.frostSettle _ _ _ (hP.same h)

theorem frostTakes (n : Notice) (s : State) (h : P s) : P (s.frostTakes n) := by
  unfold State.frostTakes
  split
  · exact ActsKeep.branch (hP.frostSettle _ _ _ (hP.same h)) h
  · unfold State.frostOnCommand
    split
    · exact h
    · exact hP.frostSettle _ _ _ (hP.same h)
  · exact hP.setBudget _ _ (hP.same h)
  · exact ActsKeep.branch (hP.setBudget _ _ h) (ActsKeep.branch (hP.frostSettle _ _ _ (hP.same h)) h)
  · next cleared holds =>
    have hbank : P (s.updFrost fun b => { b with bankHold := holds }) := hP.same h
    have hset : ∀ u : State, P u → P u.setRequests := fun u hu => hP.same hu
    unfold State.frostOnBank
    refine hP.frostSettle _ _ _ (hset _ ?_)
    exact ActsKeep.branch (ActsKeep.eachZone _ (fun i r u hu => hP.same hu) _ _ _ hbank) hbank
  · exact h

theorem lineTakes (n : Notice) (s : State) (h : P s) : P (s.lineTakes n) := by
  have hgone : ∀ (o : CommandOutcome) (es : List CommandEntry) (u : State), P u →
      P (es.foldl (fun s e => (s.removeCommand e.address e.item).tellOrigin e o) u) := by
    intro o es
    induction es with
    | nil => exact fun _ hu => hu
    | cons e es ih => exact fun u hu => ih _ (hP.same (hP.remove e.address e.item u hu))
  unfold State.lineTakes
  split
  · exact hgone _ _ _ h
  · exact ActsKeep.branch h (hgone _ _ _ h)
  · exact h

/-! ### Deliveries -/

theorem deliver (d : Delivery) (s : State) (h : P s) : P (s.deliver d) := by
  unfold State.deliver
  split
  · exact hP.same h
  · exact hP.guardTakes _ _ h
  · exact hP.fillTakes _ _ h
  · exact hP.frostTakes _ _ h
  · exact hP.lineTakes _ _ h
  · exact hP.same h
  · exact hP.same h

/-- The notices of an event keep the property. -/
theorem drain (pick : Nat → Nat) (fuel : Nat) (s : State) (h : P s) : P (State.drain pick fuel s) := by
  induction fuel generalizing s with
  | zero => exact h
  | succ fuel ih =>
    simp only [State.drain]
    refine ActsKeep.branch h (ih _ ?_)
    rcases deliverOne_cases pick s with e | ⟨d, others, draws, -, -, -, e⟩
    · rw [e]; exact h
    · rw [e]; exact hP.deliver d _ (hP.same h rfl rfl rfl)

end ActsKeep

end Sys2Proof.Laws
end

section
/-! SUPPORT. A law of the line alone through every effect of a command: the blocks' acts on the line, and the line's own events. -/

namespace Sys2Proof.Laws

open Sys2Proof.Machine

/-! ### The Fill Planner's and the guard's own events -/

namespace ActsKeep

variable {P : State → Prop} (hP : ActsKeep P)

include hP

theorem recomputeTariff (s : State) (h : P s) : P s.recomputeTariff := by
  obtain ⟨u, hu⟩ : ∃ u, u = s.updFill fun f => { f with
      tariff := windowClass (currentWindow s.tables.siteSet s.tables.tariff s.clockTime)
      window := currentWindow s.tables.siteSet s.tables.tariff s.clockTime } := ⟨_, rfl⟩
  have hset : P u := hu ▸ hP.same h
  have htold : ∀ n : Notice, P (u.broadcast [.frost, .telemetry] n) := fun _ => hP.same hset
  have hleaves : ∀ (q : Prop) [Decidable q] (v : State), P v → P (if q then v.endWindow false else v) :=
    fun q _ v hv => branch (hP.endWindow _ _ hv) hv
  have henters : ∀ (q : Prop) [Decidable q] (v : State), P v → P (if q then v.enterWindow else v) :=
    fun q _ v hv => branch (hP.evaluatePlan _ _ (hP.same hv)) hv
  unfold State.recomputeTariff
  dsimp only
  rw [← hu]
  refine branch (branch (htold _) hset) (henters _ _ (hleaves _ _ (branch (htold _) hset)))

theorem newMinute (s : State) (h : P s) : P (State.fillEvent State.newMinute s) :=
  hP.fillEvent _ _ (hP.recomputeTariff _ (hP.same h))

theorem fillOrderRequest (resv order : Nat) (s : State) (h : P s) : P (s.fillOrderRequest resv order) := by
  have hanswered : P (s.respond resv [Status.done.byte]) := hP.same h
  unfold State.fillOrderRequest
  split
  · exact hP.fillEvent _ _ (hP.changeInhibit _ _ _ (hP.replaceOrder _ _ hanswered))
  · exact hP.fillEvent _ _ (hP.replaceOrder _ _ (hP.changeInhibit _ _ _ hanswered))
  · exact hP.fillEvent _ _ (hP.evaluatePlan _ _ (branch (hP.same hanswered) (hP.same hanswered)))
  · exact hP.same h

theorem setClockRequest (resv day minute second : Nat) (s : State) (h : P s) : P (s.setClockRequest resv day minute second) :=
  branch (hP.same h) (hP.fillEvent _ _ (hP.evaluatePlan _ _ (hP.recomputeTariff _ (hP.same h))))

theorem takeStatus (c : StationCopy) (s : State) (h : P s) : P (State.fillEvent (State.takeStatus c) s) := by
  have hcopy : P (s.updFill fun f => { f with station := some c }) := hP.same h
  have hmode : ∀ u : State, P u → P (if c.mode = .remote then u.changeInhibit [] [.stationLocal, .stationSilent]
      else u.changeInhibit [.stationLocal] [.stationSilent]) :=
    fun u hu => branch (hP.changeInhibit _ _ _ hu) (hP.changeInhibit _ _ _ hu)
  have hcount : ∀ (q : Prop) [Decidable q] (u : State), P u → P (((if q then u else u.evaluatePlan false).riseOnStatus c.running).send
      .guard .evaluate) := by
    intro q _ u hu
    have hv : P (if q then u else u.evaluatePlan false) := branch hu (hP.evaluatePlan _ _ hu)
    exact hP.same hv
  have htold : ∀ (q : Prop) [Decidable q] (n : Notice) (u : State), P u → P (if q then u else u.send .telemetry n) :=
    fun q _ n u hu => branch hu (hP.same hu)
  exact hP.fillEvent _ _ (htold _ _ _ (hcount _ _ (hmode _ hcopy)))

theorem floatDebounced (s : State) (h : P s) : P s.floatDebounced := by
  have hactive := hP.tripCondition .float s.level.record (s.updGuard fun b => { b with floatActive := true, floatAt := none }) (hP.same h)
  unfold State.floatDebounced State.floatActivates
  refine branch ?_ (hP.same h)
  dsimp only
  split
  · exact hactive
  · exact branch (hP.same hactive) hactive

theorem valveDeadline (s : State) (h : P s) : P s.valveDeadline := by
  unfold State.valveDeadline
  split
  · exact h
  · exact hP.placeUrgent _ (hP.same h)

theorem guardOnGuardSet (old : Option GuardSet) (g : GuardSet) (s : State) (h : P s) : P (State.guardOnGuardSet old g s) := by
  unfold State.guardOnGuardSet
  split
  · exact h
  · exact branch (hP.armHold _ _ _ h) h

/-! ### A start (R85, R100, R121) -/

theorem guardStartUp (s : State) (h : P s) : P s.guardStartUp := by
  have hstart : ∀ (f : GuardBlock → GuardBlock) (v : State), v = s.updGuard f → P v := fun f v hv => hv ▸ hP.same h
  have htripped : ∀ (f : GuardBlock → GuardBlock) (q : Prop) [Decidable q] (v : State), v = (s.updGuard f).send .fill (.inhibit [.guard] []) →
      P (if q then v.placeUrgent.startWatch else v) := by
    rintro f q _ _ rfl
    have hsent : P ((s.updGuard f).send .fill (.inhibit [.guard] [])) := hP.same h
    exact branch (hP.same (hP.placeUrgent _ hsent)) hsent
  have hstate : ∀ newest, P (s.guardStart newest) := by
    intro newest
    unfold State.guardStart
    dsimp only
    refine branch (htripped _ _ _ rfl) ?_
    split
    · exact htripped _ _ _ rfl
    · exact hstart _ _ rfl
    · exact hstart _ _ rfl
  unfold State.guardStartUp
  exact hP.same (hstate ((newestIntact s.nv.slots).map fun x => x.2.2))

theorem fillStart (s : State) (h : P s) : P s.fillStart := by
  have hclosed : ∀ v : State, P v → P (if v.fill.inCheap then v.enterWindow.closeSequence else v) :=
    fun v hv => branch (hP.closeSequence _ (hP.evaluatePlan _ _ (hP.same hv))) hv
  exact hclosed _ (hP.closeSequence _ (hP.same h))

end ActsKeep

/-! ### Every effect -/

/-- A law of the line that the acts of the blocks keep, and that the line's own events keep besides them: what follows every event, a
cycle start, the end of a transaction, the deadline of a command, the requests for channels and FIELD-PASS, the CHANNELS swap and a reset. -/
structure LineEffects (Q : LineBlock → Prop) : Prop where
  acts : ActsKeep fun s => Q (Part.line.read s)
  fresh : ∀ rate lsb, Q { live := freshLives, rate := rate, lsbFirst := lsb }
  lineSettle : ∀ s, Q (Part.line.read s) → Q (Part.line.read s.lineSettle)
  cycleComesDue : ∀ s, Q (Part.line.read s) → Q (Part.line.read s.cycleComesDue)
  transactionEnds : ∀ x o s, Q (Part.line.read s) → Q (Part.line.read (s.transactionEnds x o))
  deadlinePasses : ∀ address item s, Q (Part.line.read s) → Q (Part.line.read (s.deadlinePasses address item))
  startChannel : ∀ resv index s, Q (Part.line.read s) → Q (Part.line.read (s.startChannel resv index))
  stopChannel : ∀ resv index s, Q (Part.line.read s) → Q (Part.line.read (s.stopChannel resv index))
  passRequestTaken : ∀ resv function address inner wake item value s, Q (Part.line.read s) →
    Q (Part.line.read (s.passRequestTaken resv function address inner wake item value))
  swapChannels : ∀ t s, Q (Part.line.read s) → Q (Part.line.read (s.swapChannels t))

namespace LineEffects

variable {Q : LineBlock → Prop} (hQ : LineEffects Q)

include hQ

/-- Every owner's swap (R170). -/
theorem swapTable (d : TableData) (s : State) (h : Q (Part.line.read s)) : Q (Part.line.read (s.swapTable d)) := by
  cases d with
  | points t => simpa [State.swapTable] using h
  | map t => simpa [State.swapTable] using h
  | channels t => exact hQ.swapChannels t s h
  | strapping t => simpa [State.swapTable] using h
  | guardSet g =>
    refine hQ.acts.fillEvent _ _ (hQ.acts.guardOnGuardSet _ _ _ ?_)
    simpa using h
  | fillSet t =>
    exact hQ.acts.frostSettle _ _ _ (hQ.acts.fillEvent _ _ (hQ.acts.evaluatePlan _ _ (by simpa using h)))
  | tariff t =>
    exact hQ.acts.fillEvent _ _ (hQ.acts.evaluatePlan _ _ (hQ.acts.recomputeTariff _ (by simpa using h)))
  | profile t => exact hQ.acts.fillEvent _ _ (hQ.acts.evaluatePlan _ _ (by simpa using h))
  | zones t =>
    refine hQ.acts.frostSettle _ _ _ ?_
    rw [overZones_read _ (fun i r s => judgeZone_read (part := .line) (by decide) i r s)]
    simpa using h
  | siteSet x =>
    simp only [State.swapTable, State.swapSiteSet]
    rw [telemetryOnSite_read (part := .line) (by decide)]
    exact hQ.acts.setBudget _ _ (hQ.acts.fillEvent _ _ (hQ.acts.recomputeTariff _ (by simpa using h)))

theorem headerEnds (w : TableWork) (count : Nat) (check : Check) (d : TableData) (clamps resv : Nat) (ok : Bool) (s : State)
    (h : Q (Part.line.read s)) : Q (Part.line.read (s.headerEnds w count check d clamps resv ok)) := by
  unfold State.headerEnds
  dsimp only
  split
  · split
    · simpa using h
    · simpa using hQ.swapTable d _ (by simpa using h)
  · simpa using h

/-- A start over a line at its reset values. -/
theorem startUp (s : State) (h : s.line = { live := freshLives }) : Q (Part.line.read s.startUp) := by
  unfold State.startUp
  dsimp only
  rw [setNotices_read (part := .line) (by decide), telemetryStart_read (part := .line) (by decide)]
  refine hQ.acts.allocate _ (hQ.acts.fillStart _ (hQ.acts.guardStartUp _ ?_))
  simp only [updLevel_read (part := .line) (by decide), frostStart_read (part := .line) (by decide),
    tariffStart_read (part := .line) (by decide), trunkStart_read (part := .line) (by decide)]
  have hload : (State.startLoad (s.updSupply fun _ => supplyStart s.inputs)).line = { live := freshLives } :=
    (startLoad_read (part := .line) (by decide) _).trans h
  show Q ({ (State.startLoad (s.updSupply fun _ => supplyStart s.inputs)).line with rate := _, lsbFirst := _ } : LineBlock)
  rw [hload]
  exact hQ.fresh _ _

/-- Every effect of a command keeps the law. -/
theorem effectsKeep : EffectsKeep fun s => Q (Part.line.read s) where
  advance us s h := by simpa using h
  control s h := by simpa using h
  queue f s h := by simpa using h
  drain := hQ.acts.drain
  settle s h := by
    unfold State.settle
    simpa using hQ.lineSettle s h
  pending cs s h := h
  powerOn s h := hQ.startUp (s.wiped true) rfl
  restarted s h := hQ.startUp _ rfl
  powerLost s h := hQ.fresh _ _
  inputs f s h := by simpa using h
  mainsInput active s h := by simpa using h
  mainsLost s h := by simpa using h
  mainsReturned s h := by simpa using h
  batteryInput active s h := by simpa using h
  batteryDebounced s h := by simpa using h
  floatChange active s h := by simpa [State.floatChange] using h
  floatDebounced := hQ.acts.floatDebounced
  protectChange active s h := by simpa using h
  transmissionEnds x s h := by simpa using h
  cycleComesDue := hQ.cycleComesDue
  transactionEnds := hQ.transactionEnds
  pointStale p s h := by simpa using h
  deadlinePasses := hQ.deadlinePasses
  levelHoldEnds := hQ.acts.levelHoldEnds
  valveDeadline := hQ.acts.valveDeadline
  valveRepeat s h := hQ.acts.placeUrgent _ (by simpa using h)
  valveRetry s h := hQ.acts.placeUrgent _ (by simpa using h)
  newMinute := hQ.acts.newMinute
  planInterval s h := hQ.acts.fillEvent _ _ (hQ.acts.evaluatePlan _ _ h)
  forceEnds s h := hQ.acts.fillEvent _ _ (hQ.acts.replaceOrder _ _ h)
  stopWait s h := hQ.acts.fillEvent _ _ h
  renewal s h := hQ.acts.fillEvent _ _ (by simpa using h)
  judgeRise check s h := hQ.acts.fillEvent _ _ (by simpa using h)
  stationFrame s h := by simpa using h
  takeStatus := hQ.acts.takeStatus
  deferralEnds zone s h := by simpa using h
  queueLevel s h := by simpa using h
  trunkFault code subject s h := by simpa using h
  controlSilence s h := by simpa using h
  stationSilence s h := by simpa using h
  restartRequest resv s h := by simpa using h
  restartComesDue s h := by simpa using h
  guardResetRequest resv tag s h := by simpa using h
  setClockRequest := hQ.acts.setClockRequest
  fillOrderRequest := hQ.acts.fillOrderRequest
  clearBank resv bank s h := by simpa using h
  openTable resv kind s h := by simpa using h
  writeTable resv kind index record s h := by simpa using h
  closeTable resv kind count check s h := by simpa using h
  abandonTable resv kind s h := by simpa using h
  startChannel := hQ.startChannel
  stopChannel := hQ.stopChannel
  passRequestTaken := hQ.passRequestTaken
  engineFree s h := by simpa using h
  eraseEnds w resv ended ok s h := by simpa using h
  recordEnds w bytes resvs ended ok s h := by simpa using h
  headerEnds := hQ.headerEnds
  tripProgramEnds slot entry ok s h := by simpa using h
  preEraseEnds sector ok s h := by simpa using h

end LineEffects

end Sys2Proof.Laws
end

section
/-! PROOFS. The bounds of the command list, the repeater slots and the pass queue through every effect of a command (R34, R37, R43): O57. -/

namespace Sys2Proof.Laws

open Sys2Proof.Machine

/-! ### The line's operations that leave the command list, the slots and the pass queue -/

theorem removeCommand_line (a i : Nat) (s : State) : (s.removeCommand a i).line = { s.line with
    inFlight := s.line.inFlight.map fun x => if x.work = .command a i then { x with superseded := true } else x
    commands := s.line.commands.filter fun e => !e.isFor a i } := rfl

/-- A line with the same entries in its command list, but for their turns, and with slots and a pass queue no longer than before. -/
structure Shrunk (l0 l : LineBlock) : Prop where
  entries : l.commands.map (fun e => { e with turnCycle := none }) = l0.commands.map fun e => { e with turnCycle := none }
  slots : l.slots.length ≤ l0.slots.length
  pass : l.pass.length ≤ l0.pass.length

theorem Shrunk.refl (l : LineBlock) : Shrunk l l := ⟨rfl, le_rfl, le_rfl⟩

theorem Shrunk.trans {l0 l l' : LineBlock} (h : Shrunk l0 l) (h' : Shrunk l l') : Shrunk l0 l' :=
  ⟨h'.entries.trans h.entries, h'.slots.trans h.slots, h'.pass.trans h.pass⟩

theorem Passed.pass_length {s t : State} (h : Passed s t) : t.line.pass.length ≤ s.line.pass.length := by
  simpa using h.pass.length_le

theorem startCycle_shrunk (s : State) : Shrunk s.line s.startCycle.line := by
  have hpassed : ∀ (xs : List RepeaterSlot) (u : State), Passed u (xs.foldl (fun s x => s.slotRunsOut x) u) := by
    intro xs
    induction xs with
    | nil => exact fun u => .refl u
    | cons x xs ih => exact fun u => (slotRunsOut_passed x u).trans (ih _)
  obtain ⟨live, pass, hline⟩ := slotsRunOut_line (slotsOver s) (cycleBegun s)
  have hrun := hpassed (slotsOver s) (cycleBegun s)
  rw [← startCycle_eq] at hline hrun
  refine ⟨hrun.entries, ?_, hrun.pass_length⟩
  rw [hline]
  exact List.length_filter_le _ _

theorem linePick_shrunk (s : State) : Shrunk s.line s.linePick.line := by
  obtain ⟨-, -, -, -, -, hslots, -⟩ := linePick_picks s (picks_refl _)
  have hpassed := linePick_passed s
  exact ⟨hpassed.entries, (congrArg List.length hslots).le, hpassed.pass_length⟩

theorem lineSettle_shrunk (s : State) : Shrunk s.line s.lineSettle.line := by
  unfold State.lineSettle
  split
  · exact .refl _
  · refine Shrunk.trans ?_ (linePick_shrunk _)
    split
    · exact startCycle_shrunk s
    · exact .refl _

/-- At an event's end the line goes on by its own work alone. -/
theorem settle_lineSettle (s : State) : s.settle.line = s.lineSettle.line :=
  (trunkSettle_read (part := .line) (by decide) _).trans (enginePick_read (part := .line) (by decide) _)

theorem cycleComesDue_shrunk (s : State) : Shrunk s.line s.cycleComesDue.line := by
  unfold State.cycleComesDue
  split
  · exact ⟨rfl, le_rfl, le_rfl⟩
  · exact startCycle_shrunk s

/-! ### The end of a transaction -/

theorem haltedChannel_line (i : Nat) (c : ChannelRecord) (k : ChannelCondition) (s : State) :
    ∃ live, (s.channelFails i c k).line = { s.line with live := live } := by
  unfold State.channelFails
  split
  · exact ⟨_, rfl⟩
  · exact ⟨_, channelHalt_line i i c k s⟩

theorem updChannel_line (i : Nat) (f : ChannelLive → ChannelLive) (s : State) :
    (s.updChannel i f).line = { s.line with live := s.line.live.modify i f } := rfl

theorem channelAnswer_line (i : Nat) (c : ChannelRecord) (o : FieldOutcome) (s : State) :
    ∃ live, (s.channelAnswer i c o).line = { s.line with live := live } := by
  have hextract : ∀ start items, (s.extract c.polled .polled start items).line = s.line :=
    fun start items => extract_read (part := .line) (by decide) _ _ _ _ _
  unfold State.channelAnswer
  dsimp only
  split
  · next start items _ =>
    split
    · exact ⟨_, by rw [updChannel_line, hextract]⟩
    · obtain ⟨live, h⟩ := haltedChannel_line i c .shortReply (s.extract c.polled .polled start items)
      exact ⟨live, by rw [h, hextract]⟩
  · exact ⟨_, rfl⟩
  · exact ⟨_, rfl⟩
  · exact ⟨_, fault_read (part := .line) (by decide) _ _ _⟩
  all_goals exact haltedChannel_line i c .retryError s

theorem takeSlot_line (x : SlotHolder) (s : State) : (s.takeSlot x).line = { s.line with
    slots := if s.line.slots.length < 2 then s.line.slots ++ [⟨x, s.line.cycle⟩] else s.line.slots } := by
  rw [State.takeSlot, updLine_line]
  split <;> rfl

/-- The cycle, the urgent slot and the transaction in flight are as they were. -/
structure Still (l0 l : LineBlock) : Prop where
  cycle : l.cycle = l0.cycle
  cycleStartUs : l.cycleStartUs = l0.cycleStartUs
  late : l.late = l0.late
  urgent : l.urgent = l0.urgent
  inFlight : l.inFlight = l0.inFlight

theorem Still.refl (l : LineBlock) : Still l l := ⟨rfl, rfl, rfl, rfl, rfl⟩

theorem Still.trans {l0 l l' : LineBlock} (h : Still l0 l) (h' : Still l l') : Still l0 l' :=
  ⟨h'.cycle.trans h.cycle, h'.cycleStartUs.trans h.cycleStartUs, h'.late.trans h.late, h'.urgent.trans h.urgent,
    h'.inFlight.trans h.inFlight⟩

/-- What the end of a transaction may do to the line: the entries of the command list stay, the slots may take a free one, and the pass
queue grows no longer. -/
structure Ended (l0 l : LineBlock) : Prop where
  still : Still l0 l
  commands : l.commands = l0.commands
  slots : l.slots.length ≤ max l0.slots.length 2
  pass : l.pass.length ≤ l0.pass.length

theorem Ended.of_live {l0 l : LineBlock} (h : ∃ live, l = { l0 with live := live }) : Ended l0 l := by
  obtain ⟨live, rfl⟩ := h
  exact ⟨⟨rfl, rfl, rfl, rfl, rfl⟩, rfl, le_max_left _ _, le_rfl⟩

theorem Ended.refl (l : LineBlock) : Ended l l := ⟨.refl l, rfl, le_max_left _ _, le_rfl⟩

theorem Ended.trans {l0 l l' : LineBlock} (h : Ended l0 l) (h' : Ended l l') : Ended l0 l' :=
  ⟨h.still.trans h'.still, h'.commands.trans h.commands, h'.slots.trans (max_le h.slots (le_max_right _ _)), h'.pass.trans h.pass⟩

theorem takeSlot_ended (x : SlotHolder) (s : State) : Ended s.line (s.takeSlot x).line := by
  rw [takeSlot_line]
  refine ⟨⟨rfl, rfl, rfl, rfl, rfl⟩, rfl, ?_, le_rfl⟩
  dsimp only
  split
  · simp only [List.length_append, List.length_singleton]; omega
  · exact le_max_left _ _

theorem releaseSlot_ended (x : SlotHolder) (n : Nat) (s : State) : Ended s.line (s.releaseSlot x n).line :=
  ⟨⟨rfl, rfl, rfl, rfl, rfl⟩, rfl, (List.length_eraseP_le).trans (le_max_left _ _), le_rfl⟩

theorem updChannel_ended (i : Nat) (f : ChannelLive → ChannelLive) (s : State) : Ended s.line (s.updChannel i f).line := .of_live ⟨_, rfl⟩

theorem leavePass_ended (payload : List Byte) (s : State) : Ended s.line (s.leavePass payload).line := by
  rw [leavePass_line]
  exact ⟨⟨rfl, rfl, rfl, rfl, rfl⟩, rfl, le_max_left _ _, by simp⟩

theorem updHead_ended (f : PassEntry → PassEntry) (s : State) : Ended s.line (s.updHead f).line := by
  refine ⟨⟨rfl, rfl, rfl, rfl, rfl⟩, rfl, le_max_left _ _, ?_⟩
  unfold State.updHead
  rw [updLine_line]
  cases s.line.pass <;> simp

theorem extract_ended (a : Nat) (src : Source) (start : Nat) (items : List Nat) (s : State) : Ended s.line (s.extract a src start items).line := by
  have h : (s.extract a src start items).line = s.line := extract_read (part := .line) (by decide) _ _ _ _ _
  rw [h]
  exact .refl _

theorem channelOutcome_ended (i : Nat) (x : Transaction) (o : FieldOutcome) (s : State) : Ended s.line (s.channelOutcome i x o).line := by
  have hanswer : ∀ c a u, Ended u.line (State.channelAnswer i c a u).line := fun c a u => .of_live (channelAnswer_line i c a u)
  unfold State.channelOutcome
  split
  · split
    · exact hanswer _ _ _
    · unfold State.channelHandOff
      split
      · exact (takeSlot_ended _ _).trans (updChannel_ended _ _ _)
      · exact .refl _
      · exact .refl _
      · exact hanswer _ _ _
    · unfold State.channelCollect
      split
      · refine Ended.trans ?_ ((updChannel_ended _ _ _).trans (hanswer _ _ _))
        split
        · exact releaseSlot_ended _ _ _
        · exact .refl _
      · split
        · exact updChannel_ended _ _ _
        · exact (updChannel_ended _ _ _).trans (.of_live (haltedChannel_line _ _ _ _))
  · unfold State.supersededOutcome
    split
    · exact extract_ended _ _ _ _ _
    · exact takeSlot_ended _ _
    · split
      · exact extract_ended _ _ _ _ _
      · exact .refl _
    · exact .refl _

theorem passOutcome_ended (x : Transaction) (o : FieldOutcome) (s : State) : Ended s.line (s.passOutcome x o).line := by
  have hends : ∀ device a u, Ended u.line (State.passEnds device a u).line := by
    intro device a u
    unfold State.passEnds
    dsimp only
    split
    · exact (leavePass_ended _ _).trans (extract_ended _ _ _ _ _)
    · exact leavePass_ended _ _
  unfold State.passOutcome
  split
  · exact .refl _
  · split
    · exact hends _ _ _
    · split
      · exact (takeSlot_ended _ _).trans (updHead_ended _ _)
      · exact .refl _
      · exact .refl _
      · exact leavePass_ended _ _
    · split
      · refine Ended.trans ?_ (hends _ _ _)
        split
        · exact releaseSlot_ended _ _ _
        · exact .refl _
      · split
        · exact updHead_ended _ _
        · exact leavePass_ended _ _

/-- A command's entry after a failed step short of the third (R40). -/
def failedStep (e : CommandEntry) : CommandEntry :=
  { e with attempts := e.attempts + 1, stage := .waiting, deadline := none }

/-- The line after an entry of the command list took a new stage, or left. -/
inductive Staged (s : State) (l : LineBlock) : Prop
  | same (h : l = s.line)
  | changed (a i : Nat) (f : CommandEntry → CommandEntry) (hf : ∀ e, (f e).address = e.address ∧ (f e).item = e.item)
      (h : l = (s.updCommand a i f).line)
  | removed (a i : Nat) (h : l = (s.removeCommand a i).line)

/-- A failed step changes the line in its command list and in the mark of the transaction in flight alone. -/
theorem commandFails_line (e : CommandEntry) (s : State) : (s.commandFails e).line =
    if e.attempts + 1 < 3 then (s.updCommand e.address e.item failedStep).line
    else (s.removeCommand e.address e.item).line := by
  unfold State.commandFails
  split
  · rfl
  · exact (tellOrigin_read (part := .line) (by decide) _ _ _).trans (fault_read (part := .line) (by decide) _ _ _)

/-- A command's outcome on an idle line. -/
theorem Staged.still {s : State} {l : LineBlock} (h : Staged s l) (hidle : s.line.inFlight = none) : Still s.line l := by
  cases h with
  | same h => rw [h]; exact .refl _
  | changed a i f hf h => rw [h]; exact ⟨rfl, rfl, rfl, rfl, rfl⟩
  | removed a i h =>
    rw [h, removeCommand_line]
    exact ⟨rfl, rfl, rfl, rfl, by rw [hidle]; rfl⟩

theorem commandFails_staged (e : CommandEntry) (s : State) : Staged s (s.commandFails e).line := by
  rw [commandFails_line]
  split
  · exact .changed e.address e.item failedStep (fun _ => ⟨rfl, rfl⟩) rfl
  · exact .removed e.address e.item rfl

theorem commandOutcome_staged (a i : Nat) (x : Transaction) (o : FieldOutcome) (s : State) : Staged s (s.commandOutcome a i x o).line := by
  unfold State.commandOutcome
  split
  · next e _ _ =>
    split
    · split
      · exact .changed a i (fun y => { y with stage := .selected }) (fun _ => ⟨rfl, rfl⟩) rfl
      · exact commandFails_staged _ _
    · exact .changed a i (fun y => { y with stage := .operated, deadline := some (s.now + s.confirmTime e) }) (fun _ => ⟨rfl, rfl⟩) rfl
    · exact commandFails_staged _ _
  · exact .same rfl

theorem deadlinePasses_staged (a i : Nat) (s : State) : Staged s (s.deadlinePasses a i).line := by
  unfold State.deadlinePasses
  split
  · exact commandFails_staged _ _
  · exact .same rfl

/-! ### The command list (R37) -/

/-- At most 8 entries, and at most one for an actuator. -/
def ListBounded (l : LineBlock) : Prop :=
  l.commands.length ≤ 8 ∧ l.commands.Pairwise fun x y => (x.address, x.item) ≠ (y.address, y.item)

theorem commandLaw_iff (s : State) : s.CommandLaw ↔ ListBounded (Part.line.read s) := Iff.rfl

/-- The law turns on the actuators of the entries alone. -/
theorem listBounded_iff (l : LineBlock) : ListBounded l ↔
    (l.commands.map fun e => (e.address, e.item)).length ≤ 8 ∧ (l.commands.map fun e => (e.address, e.item)).Nodup := by
  rw [List.length_map, List.Nodup, List.pairwise_map]
  rfl

theorem ListBounded.of_actuators {l0 l : LineBlock} (h : ListBounded l0)
    (ha : l.commands.map (fun e => (e.address, e.item)) = l0.commands.map fun e => (e.address, e.item)) : ListBounded l := by
  rw [listBounded_iff] at h ⊢
  rwa [ha]

theorem ListBounded.of_commands {l0 l : LineBlock} (h : ListBounded l0) (hc : l.commands = l0.commands) : ListBounded l :=
  h.of_actuators (by rw [hc])

theorem Shrunk.listBounded {l0 l : LineBlock} (hs : Shrunk l0 l) (h : ListBounded l0) : ListBounded l := by
  have hmap := congrArg (List.map fun e : CommandEntry => (e.address, e.item)) hs.entries
  simp only [List.map_map] at hmap
  exact h.of_actuators hmap

theorem map_actuators {f : CommandEntry → CommandEntry} (hf : ∀ e, (f e).address = e.address ∧ (f e).item = e.item) (a i : Nat)
    (cs : List CommandEntry) :
    (cs.map fun e => if e.isFor a i then f e else e).map (fun e => (e.address, e.item)) = cs.map fun e => (e.address, e.item) := by
  rw [List.map_map]
  refine List.map_congr_left fun e _ => ?_
  simp only [Function.comp_apply]
  split
  · rw [(hf e).1, (hf e).2]
  · rfl

theorem updCommand_listBounded {a i : Nat} {f : CommandEntry → CommandEntry} (hf : ∀ e, (f e).address = e.address ∧ (f e).item = e.item)
    {s : State} (h : ListBounded s.line) : ListBounded (s.updCommand a i f).line := h.of_actuators (map_actuators hf a i _)

theorem removeCommand_listBounded (a i : Nat) {s : State} (h : ListBounded s.line) : ListBounded (s.removeCommand a i).line :=
  ⟨(List.length_filter_le _ _).trans h.1, h.2.filter _⟩

theorem isFor_iff (a i : Nat) (e : CommandEntry) : e.isFor a i = true ↔ e.address = a ∧ e.item = i := by
  simp [CommandEntry.isFor]

theorem placeCommand_listBounded (a i f : Nat) (o : Origin) (t : Nat) {s : State} (h : ListBounded s.line) :
    ListBounded (s.placeCommand a i f o t).1.line := by
  unfold State.placeCommand
  dsimp only
  split
  · exact h
  · split
    · exact h
    · split
      · refine h.of_actuators ?_
        show (s.line.commands.map _).map _ = _
        rw [List.map_map]
        refine List.map_congr_left fun e _ => ?_
        simp only [Function.comp_apply]
        split
        · next hfor => rw [((isFor_iff a i e).1 hfor).1, ((isFor_iff a i e).1 hfor).2]
        · rfl
      · next hnone =>
        split
        · next hroom =>
          simp only [Bool.and_eq_true, decide_eq_true_eq] at hroom
          refine ⟨?_, List.pairwise_append.2 ⟨h.2, List.pairwise_singleton _ _, fun x hx y hy => ?_⟩⟩
          · show (s.line.commands ++ _).length ≤ 8
            rw [List.length_append, List.length_singleton]
            omega
          · rw [List.mem_singleton.1 hy]
            intro hsame
            refine hnone (List.any_eq_true.2 ⟨x, hx, (isFor_iff a i x).2 ?_⟩)
            simpa using hsame
        · exact h

/-- A law of the line that the end of a work keeps, whatever the line's work in flight is, holds through the end of a transaction. -/
theorem transactionEnds_keeps {Q : LineBlock → Prop} (hidle : ∀ (l : LineBlock) late, Q l → Q { l with inFlight := none, late := late })
    (hurgent : ∀ l : LineBlock, Q l → Q { l with urgent := none }) (hended : ∀ {l0 l}, Ended l0 l → Q l0 → Q l)
    (hstaged : ∀ {s l}, Staged s l → Q s.line → Q l) (x : Transaction) (o : FieldOutcome) (s : State) (h : Q s.line) :
    Q (s.transactionEnds x o).line := by
  have hrun : ∀ late, ∃ u : State, Q u.line ∧ (if late = true then State.fault .cycleOverrun (some (.address x.address))
      (s.updLine fun l => { l with inFlight := none, late := late }) else s.updLine fun l => { l with inFlight := none, late := late }) = u := by
    intro late
    refine ⟨_, ?_, rfl⟩
    split
    · exact (congrArg Q (fault_read (part := .line) (by decide) _ _ _)).mpr (hidle _ _ h)
    · exact hidle _ _ h
  unfold State.transactionEnds
  dsimp only
  obtain ⟨u, hu, he⟩ := hrun (s.line.late || (s.line.cycleStartUs.any fun c => decide (c + Config.cycleUs < s.timeUs)))
  rw [he]
  split
  · exact hurgent _ hu
  · exact hended (channelOutcome_ended _ _ _ _) hu
  · exact hstaged (commandOutcome_staged _ _ _ _ _) hu
  · exact hended (passOutcome_ended _ _ _) hu

theorem Staged.listBounded {s : State} {l : LineBlock} (hs : Staged s l) (h : ListBounded s.line) : ListBounded l := by
  cases hs with
  | same hl => rwa [hl]
  | changed a i f hf hl => rw [hl]; exact updCommand_listBounded hf h
  | removed a i hl => rw [hl]; exact removeCommand_listBounded a i h

/-- A FIELD-PASS that passes its checks finds a free place in the pass queue (R43). -/
theorem passCheck_room {s : State} {function : Byte} {a inner item value : Nat} {wake : Bool} {r : DeviceRequest}
    (hr : s.passCheck function a inner item value wake = .ok r) : ¬ 4 ≤ s.line.pass.length := by
  intro hfull
  unfold State.passCheck at hr
  simp only [hfull, if_true] at hr
  repeat' split at hr
  all_goals cases hr

/-- A FIELD-PASS changes the line in its pass queue alone, which it lengthens only while it holds fewer than four (R43). -/
theorem passRequestTaken_line (resv : Nat) (function : Byte) (a inner : Nat) (wake : Bool) (item value : Nat) (s : State) :
    (s.passRequestTaken resv function a inner wake item value).line = s.line ∨
      ∃ e, s.line.pass.length < 4 ∧
        (s.passRequestTaken resv function a inner wake item value).line = { s.line with pass := s.line.pass ++ [e] } := by
  unfold State.passRequestTaken
  split
  · exact .inl rfl
  · next r hr =>
    have hroom : s.line.pass.length < 4 := by
      by_contra hfull
      refine passCheck_room hr (by omega)
    have hline : ∀ (b : Bool) (n : Notice) (u : State), (if b then u.send .fill n else u).line = u.line := by
      intro b n u
      cases b <;> rfl
    exact .inr ⟨⟨resv, r, a, if inner = 0 then none else some inner, wake, none, 0, none⟩, hroom, hline _ _ _⟩

theorem passRequestTaken_commands (resv : Nat) (function : Byte) (a inner : Nat) (wake : Bool) (item value : Nat) (s : State) :
    (s.passRequestTaken resv function a inner wake item value).line.commands = s.line.commands := by
  rcases passRequestTaken_line resv function a inner wake item value s with h | ⟨e, -, h⟩ <;> rw [h]

theorem listBounded_effects : LineEffects ListBounded where
  acts :=
    { frame := fun s t hl _ _ h => by simpa only [hl] using h
      place := fun a i f o t s h => placeCommand_listBounded a i f o t h
      remove := fun a i s h => removeCommand_listBounded a i h
      urgent := fun _ _ _ _ h => h }
  fresh _ _ := ⟨Nat.zero_le _, .nil⟩
  lineSettle s h := (lineSettle_shrunk s).listBounded h
  cycleComesDue s h := (cycleComesDue_shrunk s).listBounded h
  transactionEnds x o s h := transactionEnds_keeps (fun _ _ h => h) (fun _ h => h) (fun he h => h.of_commands he.commands)
    (fun hs h => hs.listBounded h) x o s h
  deadlinePasses a i s h := (deadlinePasses_staged a i s).listBounded h
  startChannel resv n s h := by unfold State.startChannel; split <;> exact h
  stopChannel resv n s h := by unfold State.stopChannel; split <;> exact h
  passRequestTaken resv function a inner wake item value s h := h.of_commands (passRequestTaken_commands resv function a inner wake item value s)
  swapChannels t s h := h

/-! ### The repeater slots and the pass queue (R34, R43) -/

/-- At most two slots and at most four pass-through entries. -/
def QueuesBounded (l : LineBlock) : Prop := l.slots.length ≤ 2 ∧ l.pass.length ≤ 4

theorem Shrunk.queuesBounded {l0 l : LineBlock} (hs : Shrunk l0 l) (h : QueuesBounded l0) : QueuesBounded l :=
  ⟨hs.slots.trans h.1, hs.pass.trans h.2⟩

theorem Ended.queuesBounded {l0 l : LineBlock} (he : Ended l0 l) (h : QueuesBounded l0) : QueuesBounded l :=
  ⟨he.slots.trans (max_le h.1 le_rfl), he.pass.trans h.2⟩

theorem Staged.queuesBounded {s : State} {l : LineBlock} (hs : Staged s l) (h : QueuesBounded s.line) : QueuesBounded l := by
  cases hs with
  | same hl => rwa [hl]
  | changed a i f hf hl => rw [hl]; exact h
  | removed a i hl => rw [hl]; exact h

theorem placeCommand_queuesBounded (a i f : Nat) (o : Origin) (t : Nat) {s : State} (h : QueuesBounded s.line) :
    QueuesBounded (s.placeCommand a i f o t).1.line := by
  unfold State.placeCommand
  dsimp only
  repeat' split
  all_goals exact h

theorem queuesBounded_effects : LineEffects QueuesBounded where
  acts :=
    { frame := fun s t hl _ _ h => by simpa only [hl] using h
      place := fun a i f o t s h => placeCommand_queuesBounded a i f o t h
      remove := fun _ _ _ h => h
      urgent := fun _ _ _ _ h => h }
  fresh _ _ := ⟨Nat.zero_le _, Nat.zero_le _⟩
  lineSettle s h := (lineSettle_shrunk s).queuesBounded h
  cycleComesDue s h := (cycleComesDue_shrunk s).queuesBounded h
  transactionEnds x o s h := transactionEnds_keeps (fun _ _ h => h) (fun _ h => h) (fun he h => he.queuesBounded h)
    (fun hs h => hs.queuesBounded h) x o s h
  deadlinePasses a i s h := (deadlinePasses_staged a i s).queuesBounded h
  startChannel resv n s h := by unfold State.startChannel; split <;> exact h
  stopChannel resv n s h := by unfold State.stopChannel; split <;> exact h
  passRequestTaken resv function a inner wake item value s h := by
    show QueuesBounded (s.passRequestTaken resv function a inner wake item value).line
    rcases passRequestTaken_line resv function a inner wake item value s with hl | ⟨e, hroom, hl⟩
    · rw [hl]; exact h
    · rw [hl]
      refine ⟨h.1, ?_⟩
      show (s.line.pass ++ [e]).length ≤ 4
      rw [List.length_append, List.length_singleton]
      omega
  swapChannels t s h := h

/-- Settles O57: each law is about the line block alone and every effect of a command keeps it, by the two instances above. -/
theorem lineQueuesKeepTheirBounds : Obligations.LineQueuesKeepTheirBounds :=
  ⟨fun s t hs h => listBounded_effects.effectsKeep.step s t hs h, fun s t hs h => queuesBounded_effects.effectsKeep.step s t hs h⟩

end Sys2Proof.Laws
end

section
/-! PROOFS. CHANNEL-START and CHANNEL-STOP (R33): O49. -/

namespace Sys2Proof.Laws

open Sys2Proof.Machine

/-- The live part of a channel after CHANNEL-START or CHANNEL-STOP (R33). -/
def ordered (start : Bool) (l : ChannelLive) : ChannelLive :=
  if start then {} else { l with go := false, condition := .stopped, handed := none, pendingCount := 0 }

/-- A channel with a record is set or stopped, and its transaction in flight superseded (R33). -/
def orderChannel (start : Bool) (i : Nat) (s : State) : State := (s.supersedeChannel i).updChannel i (ordered start)

/-- The owner of CHANNEL-START and of CHANNEL-STOP. -/
def channelOrder (start : Bool) (i resv : Nat) (s : State) : State := if start then s.startChannel resv i else s.stopChannel resv i

theorem channelOrder_none {s : State} {i : Nat} (h : s.channelRecord i = none) (start : Bool) (resv : Nat) :
    channelOrder start i resv s = s.respond resv [Status.outOfRange.byte] := by
  unfold channelOrder State.startChannel State.stopChannel
  cases start <;> simp only [h, if_true, if_false, Bool.false_eq_true]

theorem channelOrder_some {s : State} {i : Nat} {c : ChannelRecord} (h : s.channelRecord i = some c) (start : Bool) (resv : Nat) :
    channelOrder start i resv s = (orderChannel start i s).respond resv [Status.done.byte] := by
  unfold channelOrder State.startChannel State.stopChannel
  cases start <;> simp only [h, if_true, if_false, Bool.false_eq_true] <;> rfl

theorem exec_channelOrder {tag n code : Byte} {start : Bool} {cmd : Instr} (s : State)
    (h : (start = true ∧ cmd = .channelStart tag [n] ∧ code = 0x1C#8) ∨ (start = false ∧ cmd = .channelStop tag [n] ∧ code = 0x1D#8)) :
    exec cmd s = .next (State.request Config.pick code tag true (channelOrder start n.toNat) s) := by
  rcases h with ⟨rfl, rfl, rfl⟩ | ⟨rfl, rfl, rfl⟩
  · show Host.Outcome.next (State.request _ _ _ _ (fun resv => State.startChannel resv (arg [n] 0)) s) = _
    rw [arg_first]; rfl
  · show Host.Outcome.next (State.request _ _ _ _ (fun resv => State.stopChannel resv (arg [n] 0)) s) = _
    rw [arg_first]; rfl

theorem orderChannel_line (start : Bool) {s : State} {i : Nat} {l : ChannelLive} (h : s.line.live[i]? = some l) :
    (orderChannel start i s).line = { s.line with
      live := s.line.live.set i (ordered start l)
      inFlight := s.line.inFlight.map fun x => if x.work = .channel i then { x with superseded := true } else x } := by
  have hset : s.line.live.modify i (ordered start) = s.line.live.set i (ordered start l) := by rw [List.modify_eq_set_getElem?, h]; rfl
  rw [← hset]; rfl

/-- What a request leaves on the line whose channel has a record: the order's own effect where the line has nothing to begin, and the
channel's live part but for its split phase where no cycle start is put off. -/
theorem channelOrder_served {s : State} {c : ChannelRecord} {l : ChannelLive} {i : Nat} (hs : s.Serves) (code tag : Byte) (start : Bool)
    (hc : s.channelRecord i = some c) (hl : s.line.live[i]? = some l) :
    let t := State.request Config.pick code tag true (channelOrder start i) s
    t.out.Carries (.response s.out.nextResv code tag [Status.done.byte]) ∧ Served [.line] s t ∧
      (s.lineWaits → t.line = (orderChannel start i s).line) ∧
      (s.line.late = false → ∃ l', t.line.live[i]? = some l' ∧ ChannelLive.core l' = ChannelLive.core (ordered start l)) := by
  have hline : (taken code tag s).line = s.line := taken_read code tag s (p := .line) (by decide)
  have htables : (taken code tag s).tables = s.tables := taken_read code tag s (p := .tables) (by decide)
  have hrecord : (taken code tag s).channelRecord i = some c := by rw [← hc]; simp only [State.channelRecord, State.channelRecords, htables]
  have htake : State.takeRequest code tag true (channelOrder start i) s =
      (orderChannel start i (taken code tag s)).respond s.out.nextResv [Status.done.byte] := by
    rw [takeRequest_place _ _ _ _ _ hs.2, if_pos rfl, channelOrder_some hrecord]
  have horder : (orderChannel start i (taken code tag s)).line = (orderChannel start i s).line := by
    rw [orderChannel_line start (hline.symm ▸ hl), orderChannel_line start hl, hline]
  obtain ⟨hserved, -, hcarries, u, hu, huread⟩ := request_served code tag true (channelOrder start i) s hs [.line] (by decide) (by decide)
    (by decide) (by decide) fun p hp => by
      rw [htake, respond_read (by simp_all), orderChannel, updChannel_read (by simp_all), supersedeChannel_read (by simp_all)]
  have huline : u.line = (orderChannel start i s).line := by
    rw [← horder]
    exact (huread .line (by decide)).trans (by rw [htake]; rfl)
  refine ⟨hcarries _ _ _ _ ?_, hserved, fun hw => ?_, fun hlate => ?_⟩
  · rw [htake]
    exact respond_new _ code tag _ _ (taken_reserves code tag s)
  · have hwaits : u.lineWaits := by
      rw [State.lineWaits, huline, orderChannel_line start hl, Option.isSome_map]
      exact hw
    rw [hu, settle_line u hwaits, huline]
  · have hpicks := (settle_picks (s := u) (by rw [huline]; exact hlate)).core_getElem? i
    rw [huline, orderChannel_line start hl, List.getElem?_set_self (List.getElem?_eq_some_iff.1 hl).1] at hpicks
    rw [hu]
    exact Option.map_eq_some_iff.1 hpicks

/-- Settles O49: an order to a channel without a record is answered at once; otherwise `channelOrder_served`. -/
theorem channelsStartAndStop : Obligations.ChannelsStartAndStop := by
  intro s tag n start cmd code hs hcmd
  refine ⟨_, exec_channelOrder s hcmd, fun hnone => ?_, fun c l hc hl => ?_⟩
  · have htables : (taken code tag s).tables = s.tables := taken_read code tag s (p := .tables) (by decide)
    obtain ⟨hserved, hcarries⟩ := answered_at_once code tag (channelOrder start n.toNat) s _ hs
      (channelOrder_none (by rw [← hnone]; simp only [State.channelRecord, State.channelRecords, htables]) start _)
    exact ⟨hcarries, hserved⟩
  · obtain ⟨hcarries, hserved, hline, hlive⟩ := channelOrder_served hs code tag start hc hl
    refine ⟨hcarries, hserved, fun hw => ?_, fun hlate => ?_⟩
    · rw [hline hw, orderChannel_line start hl]; rfl
    · obtain ⟨l', hl', hcore⟩ := hlive hlate
      simp only [ChannelLive.core, Prod.mk.injEq] at hcore
      obtain ⟨hgo, -, hcondition, hfailures, hcountdown, -⟩ := hcore
      refine ⟨l', hl', hgo.trans ?_, hcondition.trans ?_, fun hstart => ⟨hcountdown.trans ?_, hfailures.trans ?_⟩⟩
      · cases start <;> rfl
      · cases start <;> rfl
      · subst hstart; rfl
      · subst hstart; rfl

end Sys2Proof.Laws
end

section
/-! PROOFS. The channel after the end of its transaction, direct or by way of the repeater (R29, R30, R33 to R35, R48): O14. -/

namespace Sys2Proof.Laws

open Sys2Proof.Machine

/-! ### A channel that no turn changes (R28, R49) -/

/-- The split phase of a channel is NONE, or began in this cycle or later, or the channel has sent its COLLECT in this cycle: its turn
changes nothing of it. -/
def Settled (cycle : Nat) (l : ChannelLive) : Prop := l.handed = none ∨ (∃ h, l.handed = some h ∧ cycle ≤ h) ∨ l.collectCycle = some cycle

/-- The channel of an index is `x`, in the cycle given. -/
def ChannelIs (i cycle : Nat) (x : ChannelLive) (l : LineBlock) : Prop := l.live[i]? = some x ∧ l.cycle = cycle

/-- A turn changes the live part of its channel alone, and that only where it is HANDED since an earlier cycle and not yet collected. -/
theorem tryChannel_live (left j : Nat) (c : ChannelRecord) (s : State) :
    (s.tryChannel left j c).1.line.cycle = s.line.cycle ∧ ((s.tryChannel left j c).1.line.live = s.line.live ∨
      ¬ Settled s.line.cycle (s.channelLive j) ∧ ∃ f, (s.tryChannel left j c).1.line.live = s.line.live.modify j f) := by
  have hstarts : ∀ a (r : LineRequest), (if s.fits left c.wake r then (s.startTransaction (.channel j) a c.wake r, true) else (s, false)).1.line.cycle =
      s.line.cycle ∧ (if s.fits left c.wake r then (s.startTransaction (.channel j) a c.wake r, true) else (s, false)).1.line.live = s.line.live := by
    intro a r
    split <;> exact ⟨rfl, rfl⟩
  unfold State.tryChannel
  dsimp only
  split
  · exact ⟨rfl, .inl rfl⟩
  · next hturn =>
    split
    · next h hh =>
      split
      · exact ⟨rfl, .inl rfl⟩
      · next hlate =>
        have hns : ¬ Settled s.line.cycle (s.channelLive j) := by
          rintro (h' | ⟨h', hh', hle⟩ | h')
          · rw [hh] at h'; cases h'
          · rw [hh] at hh'; cases hh'; exact hlate hle
          · exact hturn (.inr (.inr h'))
        split
        · exact ⟨rfl, .inr ⟨hns, _, rfl⟩⟩
        · by_cases hfit : s.fits left c.wake (.collect c.inner (c.request (s.channelLive j).mode)) = true
          · simp only [hfit, if_true]
            exact ⟨rfl, .inr ⟨hns, _, rfl⟩⟩
          · simp only [hfit, Bool.false_eq_true, if_false]
            exact ⟨trivial, .inl trivial⟩
    · split
      · exact ⟨rfl, .inl rfl⟩
      · split
        · split
          · exact ⟨rfl, .inl rfl⟩
          · exact (hstarts _ _).imp id .inl
        · exact (hstarts _ _).imp id .inl

section
variable {i cycle : Nat} {x : ChannelLive}

theorem tryChannel_stays (hx : Settled cycle x) (left j : Nat) (c : ChannelRecord) {s : State} (h : ChannelIs i cycle x s.line) :
    ChannelIs i cycle x (s.tryChannel left j c).1.line := by
  obtain ⟨hlive, hcycle⟩ := h
  obtain ⟨hcycle', hsame | ⟨hns, f, hmod⟩⟩ := tryChannel_live left j c s
  · exact ⟨hsame ▸ hlive, hcycle'.trans hcycle⟩
  · refine ⟨?_, hcycle'.trans hcycle⟩
    have hij : j ≠ i := by
      rintro rfl
      rw [channelLive_eq hlive, hcycle] at hns
      exact hns hx
    rw [hmod, List.getElem?_modify, hlive]
    simp [hij]

theorem tryChannels_stays (hx : Settled cycle x) (left : Nat) (cls : ChannelClass) (cs : List ChannelRecord) : ∀ (j : Nat) (s : State),
    ChannelIs i cycle x s.line → ChannelIs i cycle x (tryChannels left cls j cs s).1.line := by
  induction cs with
  | nil => exact fun _ _ h => h
  | cons c rest ih =>
    intro j s h
    simp only [tryChannels]
    split
    · split
      · exact tryChannel_stays hx left j c h
      · exact ih _ _ (tryChannel_stays hx left j c h)
    · exact ih _ _ h

theorem tryCommands_stays (left : Nat) (es : List CommandEntry) (s : State) (h : ChannelIs i cycle x s.line) :
    ChannelIs i cycle x (tryCommands left es s).1.line := by
  induction es generalizing s with
  | nil => exact h
  | cons e rest ih =>
    simp only [tryCommands]
    split
    · exact ih _ h
    · split
      · exact ih _ h
      · exact h

theorem tryPass_keepsChannel (left fuel : Nat) (s : State) (h : ChannelIs i cycle x s.line) :
    ChannelIs i cycle x (s.tryPass left fuel).1.line := by
  have hleaves : ∀ (payload : List Byte) (u : State), ChannelIs i cycle x u.line → ChannelIs i cycle x (u.leavePass payload).line := by
    intro payload u hu
    rw [leavePass_line]
    exact hu
  induction fuel generalizing s with
  | zero => exact h
  | succ fuel ih =>
    have hnext : ∀ payload, ChannelIs i cycle x ((s.leavePass payload).tryPass left fuel).1.line := fun payload => ih _ (hleaves payload s h)
    simp only [State.tryPass]
    split
    · exact h
    · split
      · split
        · exact hnext _
        · split
          · exact h
          · split <;> exact h
      · split
        · exact hnext _
        · split
          · exact h
          · split
            · exact h
            · exact hnext _
      · split
        · exact h
        · split
          · exact h
          · exact hnext _

theorem linePick_settled (hx : Settled cycle x) {s : State} (h : ChannelIs i cycle x s.line) : ChannelIs i cycle x s.linePick.line := by
  have hpick : ∀ left, ChannelIs i cycle x (s.pickWork left).line := by
    intro left
    have ha := tryChannels_stays hx left .guard s.channelRecords 0 s h
    have hb := tryCommands_stays left (tryChannels left .guard 0 s.channelRecords s).1.line.commands _ ha
    have hc := tryChannels_stays hx left .normal (tryCommands left (tryChannels left .guard 0 s.channelRecords s).1.line.commands
      (tryChannels left .guard 0 s.channelRecords s).1).1.channelRecords 0 _ hb
    unfold State.pickWork
    dsimp only
    split
    · exact ha
    · split
      · exact hb
      · split
        · exact hc
        · exact tryPass_keepsChannel _ _ _ hc
  unfold State.linePick
  split
  · exact h
  · split
    · exact h
    · split
      · exact h
      · exact hpick _

/-- After an event that starts no cycle, a settled channel is as the event's own effect left it. -/
theorem concluded_settled {u : State} (hlate : u.line.late = false) (hi : u.line.live[i]? = some x) (hx : Settled u.line.cycle x) :
    (concluded u).line.live[i]? = some x := by
  have hd : Cycles u.line (State.drain Config.pick Config.deliveryFuel u).line := drain_cycles _ _ _ (cycles_refl _)
  obtain ⟨w, hw⟩ : ∃ w, w = State.drain Config.pick Config.deliveryFuel u := ⟨_, rfl⟩
  rw [← hw] at hd
  have hlive := hd.live
  have hlate' := hd.late
  obtain ⟨-, -, hcycle, -⟩ := hd
  have hline : (concluded u).line = w.lineSettle.line := by rw [concluded, ← hw, settle_lineSettle]
  have hw' : ChannelIs i u.line.cycle x w.line := ⟨hlive ▸ hi, hcycle⟩
  rw [hline, State.lineSettle]
  split
  · exact hw'.1
  · rw [if_neg (by rw [hlate', hlate]; decide)]
    exact (linePick_settled hx hw').1

end

/-- After an event that starts no cycle, the repeater's slots are as the event's own effect left them. -/
theorem concluded_slots {u : State} (hlate : u.line.late = false) : (concluded u).line.slots = u.line.slots := (concluded_line hlate).2

/-! ### The answer of a device (R29, R30) -/

/-- A channel's live part after a failure (R29, R31). -/
def struckLive (k : ChannelCondition) (interval : Nat) (l : ChannelLive) : ChannelLive :=
  if l.failures + 1 < 3 then l.failed k interval else l.halted k interval

/-- A channel's live part after its device's answer (R29, R30). -/
def answeredLive (c : ChannelRecord) (a : FieldOutcome) (l : ChannelLive) : ChannelLive :=
  match a with
  | .accepted (.data _ items) _ =>
    if items.length = c.count then { l with condition := .ok, failures := 0, countdown := c.interval } else struckLive .shortReply c.interval l
  | .accepted .busy _ => { l with mode := .probe, countdown := c.interval }
  | .accepted .ready _ => { l with mode := .normal }
  | .accepted .refused _ => { l with go := false, condition := .refused, countdown := c.interval }
  | _ => struckLive .retryError c.interval l

/-- The state in which a device's answer is judged: the channel is `l`, and all but the line is as at the transaction's end. -/
structure Judges (now v : State) (i : Nat) (l : ChannelLive) : Prop where
  others : ∀ p, p ≠ Part.line → p.read v = p.read now
  late : v.line.late = false
  live : v.line.live[i]? = some l

theorem channelFails_line {v : State} {i : Nat} {l : ChannelLive} (h : v.line.live[i]? = some l) (c : ChannelRecord) (k : ChannelCondition) :
    (v.channelFails i c k).line = { v.line with live := v.line.live.modify i (struckLive k c.interval) } := by
  have hstruck : ∀ g : ChannelLive → ChannelLive, g l = struckLive k c.interval l →
      v.line.live.modify i g = v.line.live.modify i (struckLive k c.interval) := by
    intro g hg
    simp only [List.modify_eq_set_getElem?, h, Option.map_eq_map, Option.map_some, hg]
  by_cases hf : l.failures + 1 < 3
  · rw [channelFails_counted h hf, updChannel_line, hstruck _ (if_pos hf).symm]
  · rw [channelFails_halted h hf, channelHalt_line, updChannel_line, hstruck _ (if_neg hf).symm]

theorem channelAnswer_lives {v : State} {i : Nat} {l : ChannelLive} (h : v.line.live[i]? = some l) (c : ChannelRecord) (a : FieldOutcome) :
    (v.channelAnswer i c a).line.late = v.line.late ∧ (v.channelAnswer i c a).line.cycle = v.line.cycle ∧
      (v.channelAnswer i c a).line.slots = v.line.slots ∧ (v.channelAnswer i c a).line.live[i]? = some (answeredLive c a l) := by
  have hfails : ∀ (w : State) k, w.line = v.line → (w.channelFails i c k).line.late = v.line.late ∧
      (w.channelFails i c k).line.cycle = v.line.cycle ∧ (w.channelFails i c k).line.slots = v.line.slots ∧
      (w.channelFails i c k).line.live[i]? = some (struckLive k c.interval l) := by
    intro w k hw
    rw [channelFails_line (hw ▸ h), hw]
    exact ⟨rfl, rfl, rfl, by simp [h]⟩
  have hextract : ∀ start items, (v.extract c.polled .polled start items).line = v.line :=
    fun start items => extract_read (part := .line) (by decide) _ _ _ _ _
  rcases a with _ | raw | ⟨reply, raw⟩
  · exact hfails v .retryError rfl
  · exact hfails v .retryError rfl
  · cases reply with
    | data start items =>
      simp only [State.channelAnswer, answeredLive]
      split
      · rw [updChannel_line, hextract]
        refine ⟨rfl, rfl, rfl, ?_⟩
        rw [List.getElem?_modify, h]
        simp
      · exact hfails _ .shortReply (hextract start items)
    | busy => exact ⟨rfl, rfl, rfl, updChannel_live i _ v h⟩
    | ready => exact ⟨rfl, rfl, rfl, updChannel_live i _ v h⟩
    | refused =>
      have hline : ∀ w : State, (w.fault .channelRefused (some (.channel i))).line = w.line :=
        fun w => fault_read (part := .line) (by decide) _ _ _
      simp only [State.channelAnswer, answeredLive]
      rw [hline]
      exact ⟨rfl, rfl, rfl, updChannel_live i _ v h⟩
    | _ => exact hfails v .retryError rfl

/-- An answer that is neither DATA nor BUSY, READY or REFUSED, no reply and a bad one among them, is a failure (R29). -/
theorem channelAnswer_fails {a : FieldOutcome} (h : a = .noReply ∨ ∃ raw, a = .bad raw) (i : Nat) (c : ChannelRecord) (v : State) :
    v.channelAnswer i c a = v.channelFails i c .retryError ∧ ∀ l, answeredLive c a l = struckLive .retryError c.interval l := by
  rcases h with rfl | ⟨raw, rfl⟩ <;> exact ⟨rfl, fun _ => rfl⟩

/-- DATA with fewer items than asked for is a failure once its items are taken (R29). -/
theorem channelAnswer_short {items : List Nat} {c : ChannelRecord} (h : items.length ≠ c.count) (i start : Nat) (raw : RawReply) (v : State) :
    v.channelAnswer i c (.accepted (.data start items) raw) = (v.extract c.polled .polled start items).channelFails i c .shortReply ∧
      ∀ l, answeredLive c (.accepted (.data start items) raw) l = struckLive .shortReply c.interval l :=
  ⟨by simp only [State.channelAnswer, if_neg h], fun _ => if_neg h⟩

section
variable {now v : State} {i : Nat} {l : ChannelLive}

/-- A halt's fault arrives at the time of the transaction's end. -/
theorem Judges.halt_bank {w : State} (hw : ∀ p, p ∉ [Part.points, .line, .notices] → p.read w = p.read now) (hl : w.line.live[i]? = some l)
    (hf : 3 ≤ l.failures + 1) (c : ChannelRecord) (k : ChannelCondition) :
    (concluded (w.channelFails i c k)).banks.get .line = (now.banksAfter .channelHalted (some (.channel i))).get .line := by
  have hread : ∀ p : Part, p ∉ [Part.points, .line, .notices] →
      p.read ((w.updChannel i (ChannelLive.halted k c.interval)).haltPoints c) = p.read now := by
    intro p hp
    rw [haltPoints_read (by simp_all), updChannel_read (by simp_all), hw p hp]
  rw [concluded_bank (by decide), channelFails_halted hl (by omega), fault_banks]
  exact congrArg (fun b : PerBank (Option FaultRecord) => b.get .line) (banksAfter_congr _ _ (hread .tables (by decide))
    (hread .banks (by decide)) (clockTime_congr (hread .fill (by decide))) (hread .timeUs (by decide)))

/-- An outcome that changes the channel alone leaves the points and the banks. -/
theorem Judges.quiet (hj : Judges now v i l) (hn : now.notices = []) (f : ChannelLive → ChannelLive) :
    (concluded (v.updChannel i f)).points = now.points ∧ (concluded (v.updChannel i f)).banks = now.banks := by
  have hquiet : (v.updChannel i f).notices = [] := (hj.others .notices (by decide)).trans hn
  exact ⟨(concluded_points _).trans (hj.others .points (by decide)), (concluded_banks_quiet hquiet).trans (hj.others .banks (by decide))⟩

theorem Judges.extract_points (hj : Judges now v i l) (a : Nat) (src : Source) (start : Nat) (items : List Nat) :
    (v.extract a src start items).points = (now.extract a src start items).points := by
  rw [Laws.extract_points, Laws.extract_points]
  exact takeItems_points_congr (hj.others .points (by decide)) (hj.others .tables (by decide)) (hj.others .timeUs (by decide)) _ _ _ _

theorem Judges.extract_live (hj : Judges now v i l) (a : Nat) (src : Source) (start : Nat) (items : List Nat) :
    (v.extract a src start items).line.live[i]? = some l :=
  (congrArg (fun b : LineBlock => b.live[i]?) (extract_read (part := .line) (by decide) a src start items v)).trans hj.live

/-- The points after DATA: those of its items, unless a third short reply halted the channel. -/
theorem Judges.data_points (hj : Judges now v i l) (c : ChannelRecord) (start : Nat) (items : List Nat) (raw : RawReply)
    (h : items.length = c.count ∨ l.failures + 1 < 3) :
    (concluded (v.channelAnswer i c (.accepted (.data start items) raw))).points = (now.extract c.polled .polled start items).points := by
  rw [concluded_points, ← hj.extract_points]
  by_cases hlen : items.length = c.count
  · simp only [State.channelAnswer, if_pos hlen]
    rfl
  · rw [(channelAnswer_short hlen i start raw v).1, channelFails_counted (hj.extract_live _ _ _ _) (h.resolve_left hlen)]
    rfl

/-- REFUSED logs its fault at the time of the transaction's end and leaves the points. -/
theorem Judges.refused (hj : Judges now v i l) (c : ChannelRecord) (raw : RawReply) :
    (concluded (v.channelAnswer i c (.accepted .refused raw))).points = now.points ∧
      (concluded (v.channelAnswer i c (.accepted .refused raw))).banks.get .line =
        (now.banksAfter .channelRefused (some (.channel i))).get .line := by
  refine ⟨?_, ?_⟩
  · rw [concluded_points]
    exact (fault_read (part := .points) (by decide) _ _ _).trans (hj.others .points (by decide))
  · rw [concluded_bank (by decide)]
    simp only [State.channelAnswer]
    rw [fault_banks]
    exact congrArg (fun b : PerBank (Option FaultRecord) => b.get .line) (banksAfter_congr _ _ (hj.others .tables (by decide))
      (hj.others .banks (by decide)) (clockTime_congr (hj.others .fill (by decide))) (hj.others .timeUs (by decide)))

/-- A failure short of the third leaves the points and the banks. -/
theorem Judges.failed (hj : Judges now v i l) (hn : now.notices = []) (hf : l.failures + 1 < 3) (c : ChannelRecord) (k : ChannelCondition) :
    (concluded (v.channelFails i c k)).points = now.points ∧ (concluded (v.channelFails i c k)).banks = now.banks := by
  rw [channelFails_counted hj.live hf]
  exact hj.quiet hn _

/-- The three answers that are failures, and the state in which the failure is counted: the items of a short reply are taken first. -/
theorem Judges.strikes (hj : Judges now v i l) (c : ChannelRecord) {a : FieldOutcome} (ha : a = .noReply ∨ (∃ raw, a = .bad raw) ∨
    (∃ start items raw, a = .accepted (.data start items) raw ∧ items.length ≠ c.count)) :
    ∃ k w, v.channelAnswer i c a = w.channelFails i c k ∧ answeredLive c a l = struckLive k c.interval l ∧
      (∀ p, p ∉ [Part.points, .line, .notices] → p.read w = p.read now) ∧ w.line.live[i]? = some l := by
  have hfails : a = .noReply ∨ (∃ raw, a = .bad raw) → ∃ k w, v.channelAnswer i c a = w.channelFails i c k ∧
      answeredLive c a l = struckLive k c.interval l ∧ (∀ p, p ∉ [Part.points, .line, .notices] → p.read w = p.read now) ∧
      w.line.live[i]? = some l := by
    intro h
    obtain ⟨hv, hs⟩ := channelAnswer_fails h i c v
    exact ⟨_, v, hv, hs l, fun p hp => hj.others p (by simp_all), hj.live⟩
  rcases ha with ha | ha | ⟨start, items, raw, rfl, hlen⟩
  · exact hfails (.inl ha)
  · exact hfails (.inr ha)
  · obtain ⟨hv, hs⟩ := channelAnswer_short hlen i start raw v
    exact ⟨_, _, hv, hs l, fun p hp => (extract_read (by simp_all) _ _ _ _ _).trans (hj.others p (by simp_all)), hj.extract_live _ _ _ _⟩

/-- After its device's answer a channel is as the answer left it, but for its split phase where that is not NONE. -/
theorem Judges.live_after (hj : Judges now v i l) (c : ChannelRecord) (a : FieldOutcome) :
    ∃ l', (concluded (v.channelAnswer i c a)).line.live[i]? = some l' ∧ ChannelLive.core l' = ChannelLive.core (answeredLive c a l) ∧
      ((answeredLive c a l).handed = none → l' = answeredLive c a l) := by
  obtain ⟨hlate, -, -, hlive⟩ := channelAnswer_lives hj.live c a
  by_cases hh : (answeredLive c a l).handed = none
  · exact ⟨_, concluded_settled (hlate.trans hj.late) hlive (.inl hh), rfl, fun _ => rfl⟩
  · obtain ⟨l', hl', hcore⟩ := concluded_live (hlate.trans hj.late) hlive
    exact ⟨l', hl', hcore, fun h => absurd h hh⟩

end

/-- A failure leaves the split phase NONE as it was. -/
theorem struckLive_split (k : ChannelCondition) (n : Nat) {l : ChannelLive} (hh : l.handed = none) (hp : l.pendingCount = 0) :
    (struckLive k n l).handed = none ∧ (struckLive k n l).pendingCount = 0 := by
  unfold struckLive
  split
  · exact ⟨hh, hp⟩
  · exact ⟨rfl, rfl⟩

/-- A failure sets the condition and reloads the countdown; the third clears GO. -/
theorem struckLive_fields (k : ChannelCondition) (n : Nat) (l : ChannelLive) :
    (struckLive k n l).condition = k ∧ (struckLive k n l).countdown = n ∧ (struckLive k n l).mode = l.mode ∧
      (if l.failures + 1 < 3 then (struckLive k n l).failures = l.failures + 1 ∧ (struckLive k n l).go = l.go
        else (struckLive k n l).failures = 0 ∧ (struckLive k n l).go = false) := by
  unfold struckLive
  split <;> exact ⟨rfl, rfl, rfl, rfl, rfl⟩

theorem answeredLive_split (c : ChannelRecord) (a : FieldOutcome) {l : ChannelLive} (hh : l.handed = none) (hp : l.pendingCount = 0) :
    (answeredLive c a l).handed = none ∧ (answeredLive c a l).pendingCount = 0 := by
  unfold answeredLive
  split
  · split
    · exact ⟨hh, hp⟩
    · exact struckLive_split _ _ hh hp
  · exact ⟨hh, hp⟩
  · exact ⟨hh, hp⟩
  · exact ⟨hh, hp⟩
  · exact struckLive_split _ _ hh hp

/-! ### Where the device's answer is judged (R34, R35) -/

theorem landed_judges {s : State} {i : Nat} {l : ChannelLive} (hl : s.line.live[i]? = some l) (ends : Nat) :
    Judges (s.advanceUs ends) (landed ends s) i l :=
  ⟨fun _ hp => landed_read hp ends s, landed_late ends s, by rw [landed_live]; exact hl⟩

/-- The channel of a COLLECT that brought its inner reply: the split phase ends. -/
def collected (l : ChannelLive) : ChannelLive := { l with handed := none, pendingCount := 0 }

/-- The state in which the inner reply of a COLLECT is judged (R35). -/
def collectedState (i : Nat) (s : State) : State :=
  State.updChannel i collected (match (s.channelLive i).handed with
    | some h => s.releaseSlot (.channel i) h
    | none => s)

theorem collectedState_judges {now v : State} {i : Nat} {l : ChannelLive} (hj : Judges now v i l) :
    Judges now (collectedState i v) i (collected l) ∧ (collectedState i v).line.cycle = v.line.cycle ∧
      ∀ h, l.handed = some h → (collectedState i v).line.slots = v.line.slots.eraseP fun y => y.holder == .channel i && y.cycle == h := by
  unfold collectedState
  rw [channelLive_eq hj.live]
  cases hh : l.handed with
  | none =>
    exact ⟨⟨fun p hp => (updChannel_read (by simpa using hp) _ _ _).trans (hj.others p hp), hj.late, updChannel_live i _ v hj.live⟩, rfl, fun h hs => absurd hs (by simp)⟩
  | some h =>
    refine ⟨⟨fun p hp => ((updChannel_read (by simpa using hp) _ _ _).trans (releaseSlot_read (by simpa using hp) _ _ _)).trans
      (hj.others p hp), hj.late, updChannel_live i _ (v.releaseSlot (.channel i) h) hj.live⟩, rfl, fun h' hs => ?_⟩
    cases hs
    rfl

/-- A device's outcome is judged as a channel's answer, direct or as the inner reply of a COLLECT, whose split phase has ended. -/
theorem workOutcome_answers {s : State} {x : Transaction} {o a : FieldOutcome} {ends i : Nat} {c : ChannelRecord} {l : ChannelLive}
    (hw : x.work = .channel i) (hx : x.superseded = false) (hc : s.channelRecord i = some c) (hl : s.line.live[i]? = some l)
    (ho : x.DeviceOutcome o a) :
    ∃ v l2, workOutcome x o (landed ends s) = v.channelAnswer i c a ∧ Judges (s.advanceUs ends) v i l2 ∧
      ChannelLive.core l2 = ChannelLive.core l ∧ (∀ inner r, x.request = .collect inner r → l2.handed = none ∧ l2.pendingCount = 0 ∧
        ∀ h, l.handed = some h → v.line.slots = s.line.slots.eraseP fun y => y.holder == .channel i && y.cycle == h) := by
  have hj := landed_judges hl ends
  have hrecord : (landed ends s).channelRecord i = some c := (landed_channelRecord ends s i).trans hc
  rcases ho with ⟨⟨r, hr⟩, rfl⟩ | ⟨⟨inner, r, hr⟩, rfl, hother⟩ | ⟨inner, r, bytes, raw, hr, rfl, rfl⟩
  · exact ⟨_, l, workOutcome_device hw hx hrecord hr a, hj, rfl, fun inner r' h => by rw [hr] at h; cases h⟩
  · refine ⟨_, l, ?_, hj, rfl, fun inner r' h => by rw [hr] at h; cases h⟩
    simp only [workOutcome, hw, State.channelOutcome, hx, hrecord, hr]
    unfold State.channelHandOff
    split
    · next raw => exact absurd rfl (hother raw).1
    · next raw => exact absurd rfl (hother raw).2.1
    · next raw => exact absurd rfl (hother raw).2.2
    · rfl
  · obtain ⟨hjudges, -, hslots⟩ := collectedState_judges hj
    refine ⟨_, collected l, ?_, hjudges, rfl, fun inner' r' _ => ⟨rfl, rfl, fun h hh => ?_⟩⟩
    · simp only [workOutcome, hw, State.channelOutcome, hx, hrecord, hr]
      rfl
    · rw [hslots h hh, landed_line]

/-! ### HAND-OFF, PENDING and superseded transactions -/

/-- An outcome of a transaction that changes the line alone and raises no notice. -/
theorem concluded_line_kept {s u : State} (ends : Nat) (hn : s.notices = []) (hu : ∀ p, p ≠ Part.line → p.read u = p.read (s.advanceUs ends)) :
    Kept [.line, .out] (s.advanceUs ends) (concluded u) := by
  have hquiet : u.notices = [] := ((hu .notices (by decide)).trans (advanceUs_read (part := .notices) (by decide) ends s)).trans hn
  rw [concluded_quiet hquiet]
  exact quiet_kept fun p hp => hu p (by simp_all)

theorem supersededOutcome_line (x : Transaction) (o : FieldOutcome) (s : State) :
    (s.supersededOutcome x o).line.live = s.line.live ∧ (s.supersededOutcome x o).line.late = s.line.late := by
  have hextract : ∀ a start items, (s.extract a .polled start items).line.live = s.line.live ∧
      (s.extract a .polled start items).line.late = s.line.late := by
    intro a start items
    have h : (s.extract a .polled start items).line = s.line := extract_read (part := .line) (by decide) _ _ _ _ _
    rw [h]
    exact ⟨rfl, rfl⟩
  unfold State.supersededOutcome
  split
  · exact hextract _ _ _
  · rw [takeSlot_line]
    exact ⟨rfl, rfl⟩
  · split
    · exact hextract _ _ _
    · exact ⟨rfl, rfl⟩
  · exact ⟨rfl, rfl⟩

theorem supersededOutcome_banks (x : Transaction) (o : FieldOutcome) (s : State) : (s.supersededOutcome x o).banks = s.banks := by
  have hextract : ∀ a start items, (s.extract a .polled start items).banks = s.banks :=
    fun a start items => extract_read (part := .banks) (by decide) _ _ _ _ _
  unfold State.supersededOutcome
  split
  · exact hextract _ _ _
  · exact takeSlot_read (part := .banks) (by decide) _ _
  · split
    · exact hextract _ _ _
    · rfl
  · rfl

/-- A superseded transaction leaves every channel but its split phase, and the LINE bank. -/
theorem superseded_channels {s : State} {x : Transaction} {cmd : Instr} {o : FieldOutcome} {ends i : Nat} (h : s.Concludes x cmd o ends)
    (hw : x.work = .channel i) (hx : x.superseded = true) :
    ∃ t, exec cmd s = .next t ∧ t.banks.get .line = s.banks.get .line ∧
      ∀ (j : Nat) (l : ChannelLive), s.line.live[j]? = some l → ∃ l', t.line.live[j]? = some l' ∧ ChannelLive.core l' = ChannelLive.core l := by
  have hu : workOutcome x o (landed ends s) = (landed ends s).supersededOutcome x o := by
    simp only [workOutcome, hw, State.channelOutcome, hx]
  obtain ⟨hlive, hlate⟩ := supersededOutcome_line x o (landed ends s)
  refine ⟨_, exec_concludes h, ?_, fun j l hl => ?_⟩
  · rw [hu, concluded_bank (by decide), supersededOutcome_banks, landed_banks]
  · rw [hu]
    exact concluded_live (hlate.trans (landed_late ends s)) (by rw [hlive, landed_live]; exact hl)

/-- A HAND-OFF answered TAKEN makes the channel HANDED and takes a slot; FULL and BUSY leave both as they were. -/
theorem handOff_outcome {s : State} {x : Transaction} {cmd : Instr} {o : FieldOutcome} {ends i inner : Nat} {r : DeviceRequest}
    {c : ChannelRecord} {l : ChannelLive} (h : s.Concludes x cmd o ends) (hw : x.work = .channel i) (hx : x.superseded = false)
    (hc : s.channelRecord i = some c) (hl : s.line.live[i]? = some l) (hr : x.request = .handOff inner r) (hh : l.handed = none)
    (raw : RawReply) :
    (o = .accepted .taken raw → ∃ t, exec cmd s = .next t ∧ Kept [.line, .out] (s.advanceUs ends) t ∧
      t.line.live[i]? = some { l with handed := some s.line.cycle, pendingCount := 0 } ∧
      t.line.slots = if s.line.slots.length < 2 then s.line.slots ++ [⟨.channel i, s.line.cycle⟩] else s.line.slots) ∧
    (o = .accepted .full raw ∨ o = .accepted .busy raw → ∃ t, exec cmd s = .next t ∧ Kept [.line, .out] (s.advanceUs ends) t ∧
      t.line.live[i]? = some l ∧ t.line.slots = s.line.slots) := by
  have hj := landed_judges hl ends
  have hu : workOutcome x o (landed ends s) = (landed ends s).channelHandOff i c o := by
    simp only [workOutcome, hw, State.channelOutcome, hx, (landed_channelRecord ends s i).trans hc, hr]
  refine ⟨fun ho => ?_, fun ho => ?_⟩
  · subst ho
    obtain ⟨u, hue⟩ : ∃ u, u = ((landed ends s).takeSlot (.channel i)).updChannel i
      fun y => { y with handed := some (landed ends s).line.cycle, pendingCount := 0 } := ⟨_, rfl⟩
    have hline : u.line = { s.line with
        inFlight := none
        late := false
        slots := if s.line.slots.length < 2 then s.line.slots ++ [⟨.channel i, s.line.cycle⟩] else s.line.slots
        live := s.line.live.modify i fun y => { y with handed := some s.line.cycle, pendingCount := 0 } } := by
      rw [hue, updChannel_line, takeSlot_line, landed_line]
    have hothers : ∀ p, p ≠ Part.line → p.read u = p.read (s.advanceUs ends) := fun p hp => by
      rw [hue, updChannel_read (by simpa using hp), takeSlot_read (by simpa using hp), hj.others p hp]
    have hlive : u.line.live[i]? = some { l with handed := some s.line.cycle, pendingCount := 0 } := by
      rw [hline, List.getElem?_modify, hl]
      simp
    have hexec : exec cmd s = .next (concluded u) := by
      rw [exec_concludes h, hu, hue]
      rfl
    refine ⟨_, hexec, concluded_line_kept ends h.ready.2 hothers, concluded_settled (by rw [hline]) hlive ?_, ?_⟩
    · rw [hline]
      exact .inr (.inl ⟨_, rfl, le_rfl⟩)
    · rw [concluded_slots (by rw [hline]), hline]
  · have hexec : exec cmd s = .next (concluded (landed ends s)) := by
      rw [exec_concludes h, hu]
      rcases ho with rfl | rfl <;> rfl
    refine ⟨_, hexec, concluded_line_kept ends h.ready.2 hj.others, concluded_settled hj.late hj.live (.inl hh), ?_⟩
    rw [concluded_slots hj.late, landed_line]

/-- A COLLECT that brought no inner reply counts as PENDING, and the fourth is a failure; neither releases the slot. -/
theorem channelCollect_pending {s : State} {x : Transaction} {cmd : Instr} {o : FieldOutcome} {ends i inner : Nat} {r : DeviceRequest}
    {c : ChannelRecord} {l : ChannelLive} (h : s.Concludes x cmd o ends) (hw : x.work = .channel i) (hx : x.superseded = false)
    (hc : s.channelRecord i = some c) (hl : s.line.live[i]? = some l) (hr : x.request = .collect inner r)
    (hcollect : l.collectCycle = some s.line.cycle) (ho : ∀ bytes raw, o ≠ .accepted (.carried bytes) raw) :
    ∃ t, exec cmd s = .next t ∧ t.line.slots = s.line.slots ∧
      (l.pendingCount + 1 < 4 → t.line.live[i]? = some { l with pendingCount := l.pendingCount + 1 } ∧
        Kept [.line, .out] (s.advanceUs ends) t) ∧
      (4 ≤ l.pendingCount + 1 → t.line.live[i]? = some (struckLive .retryError c.interval (collected l))) := by
  have hj := landed_judges hl ends
  have hu : workOutcome x o (landed ends s) = if l.pendingCount + 1 < 4 then
      (landed ends s).updChannel i fun y => { y with pendingCount := y.pendingCount + 1 }
      else ((landed ends s).updChannel i collected).channelFails i c .retryError := by
    simp only [workOutcome, hw, State.channelOutcome, hx, (landed_channelRecord ends s i).trans hc, hr]
    unfold State.channelCollect
    rw [channelLive_eq hj.live]
    split
    · exact absurd rfl (ho _ _)
    · rfl
  rw [exec_concludes h, hu]
  by_cases hp : l.pendingCount + 1 < 4
  · rw [if_pos hp]
    refine ⟨_, rfl, ?_, fun _ => ⟨concluded_settled hj.late (updChannel_live i _ _ hj.live) (.inr (.inr ?_)),
      concluded_line_kept ends h.ready.2 fun p hp => (updChannel_read (by simpa using hp) _ _ _).trans (hj.others p hp)⟩,
      fun h' => absurd h' (by omega)⟩
    · rw [concluded_slots (by exact hj.late)]
      show (landed ends s).line.slots = _
      rw [landed_line]
    · show l.collectCycle = some (landed ends s).line.cycle
      rw [landed_line]
      exact hcollect
  · rw [if_neg hp]
    have hlive : ((landed ends s).updChannel i collected).line.live[i]? = some (collected l) := updChannel_live i _ _ hj.live
    have hline := channelFails_line hlive c .retryError
    refine ⟨_, rfl, ?_, fun h' => absurd h' hp, fun _ => concluded_settled ?_ ?_ (.inl (struckLive_split _ _ rfl rfl).1)⟩
    · rw [concluded_slots (by rw [hline]; exact hj.late), hline]
      show (landed ends s).line.slots = _
      rw [landed_line]
    · rw [hline]
      exact hj.late
    · rw [hline, List.getElem?_modify, hlive]
      simp

/-! ### O14 -/

/-- A device's outcome, direct or by way of the repeater, as the first clause of the statement has it. -/
theorem channel_takes_answer {s : State} {x : Transaction} {cmd : Instr} {o a : FieldOutcome} {ends i : Nat} {c : ChannelRecord}
    {l : ChannelLive} (h : s.Concludes x cmd o ends) (hw : x.work = .channel i) (hx : x.superseded = false)
    (hc : s.channelRecord i = some c) (hl : s.line.live[i]? = some l) (ho : x.DeviceOutcome o a) :
    ∃ v l2 l', exec cmd s = .next (concluded (v.channelAnswer i c a)) ∧ Judges (s.advanceUs ends) v i l2 ∧
      ChannelLive.core l2 = ChannelLive.core l ∧ (concluded (v.channelAnswer i c a)).line.live[i]? = some l' ∧
      ChannelLive.core l' = ChannelLive.core (answeredLive c a l2) ∧
      Kept (.points :: reached) (s.advanceUs ends) (concluded (v.channelAnswer i c a)) ∧
      (∀ inner r, x.request = .collect inner r → l'.handed = none ∧ l'.pendingCount = 0 ∧ ∀ h, l.handed = some h →
        (concluded (v.channelAnswer i c a)).line.slots = s.line.slots.eraseP fun y => y.holder == .channel i && y.cycle == h) := by
  obtain ⟨v, l2, hu, hj, hcore, hcollect⟩ := workOutcome_answers (ends := ends) hw hx hc hl ho
  obtain ⟨l', hl', hcore', hsame⟩ := hj.live_after c a
  refine ⟨v, l2, l', by rw [exec_concludes h, hu], hj, hcore, hl', hcore', hu ▸ concluded_kept x o ends s, fun inner r hr => ?_⟩
  obtain ⟨hh, hp, hslots⟩ := hcollect inner r hr
  obtain ⟨hh', hp'⟩ := answeredLive_split c a hh hp
  obtain ⟨hlate, -, hslots', -⟩ := channelAnswer_lives hj.live c a
  refine ⟨by rw [hsame hh', hh'], by rw [hsame hh', hp'], fun hd hhd => ?_⟩
  rw [concluded_slots (hlate.trans hj.late), hslots', hslots hd hhd]

/-- Settles O14: the answer of the device by `channel_takes_answer`, and the repeater's forms by a lemma for each. -/
theorem channelTakesItsOutcome : Obligations.ChannelTakesItsOutcome := by
  refine ⟨?_, ?_, ?_, ?_⟩
  · intro s x cmd o a ends i c l h hw hx hc hl ho
    obtain ⟨v, l2, l', hexec, hj, hcore2, hl', hcore, hkept, hcollect⟩ := channel_takes_answer h hw hx hc hl ho
    have hnotices : (s.advanceUs ends).notices = [] := (advanceUs_read (part := .notices) (by decide) ends s).trans h.ready.2
    have hpoints : (s.advanceUs ends).points = s.points := advanceUs_read (part := .points) (by decide) ends s
    have hbanks : (s.advanceUs ends).banks = s.banks := advanceUs_read (part := .banks) (by decide) ends s
    simp only [ChannelLive.core, Prod.mk.injEq] at hcore hcore2
    obtain ⟨hgo, hmode, hcond, hfail, hcount, -⟩ := hcore
    obtain ⟨hgo2, hmode2, hcond2, hfail2, hcount2, -⟩ := hcore2
    refine ⟨_, _, l', rfl, hexec, hl', hkept, fun start items raw ha => ?_, fun raw ha => ?_, fun raw ha => ?_, fun raw ha => ?_, fun ha => ?_,
      fun hf ha => ?_, hcollect⟩
    · subst ha
      refine ⟨fun hlen => ?_, fun hlen => ?_, fun hlen => hj.data_points c start items raw (hfail2 ▸ hlen)⟩
      · simp only [answeredLive, if_pos hlen] at hgo hmode hcond hfail hcount
        exact ⟨hcond, hfail, hcount, hgo.trans hgo2, hmode.trans hmode2⟩
      · simp only [(channelAnswer_short hlen i start raw v).2] at hgo hmode hcond hfail hcount
        obtain ⟨hcond', hcount', hmode', hfail'⟩ := struckLive_fields .shortReply c.interval l2
        refine ⟨hcond.trans hcond', hcount.trans hcount', hmode.trans (hmode'.trans hmode2), fun hf => ?_⟩
        rw [if_pos (by omega)] at hfail'
        exact ⟨hfail.trans (by omega), hgo.trans (hfail'.2.trans hgo2)⟩
    · subst ha
      obtain ⟨hp, hb⟩ := hj.quiet hnotices fun y => { y with mode := .probe, countdown := c.interval }
      exact ⟨hmode, hcount, hfail.trans hfail2, hcond.trans hcond2, hgo.trans hgo2, hp.trans hpoints, hb.trans hbanks⟩
    · subst ha
      obtain ⟨hp, hb⟩ := hj.quiet hnotices fun y => { y with mode := .normal }
      exact ⟨hmode, hcount.trans hcount2, hfail.trans hfail2, hcond.trans hcond2, hgo.trans hgo2, hp.trans hpoints, hb.trans hbanks⟩
    · subst ha
      obtain ⟨hp, hb⟩ := hj.refused c raw
      exact ⟨hgo, hcond, hcount, hfail.trans hfail2, hp.trans hpoints, hb⟩
    · obtain ⟨hfails, hstruck⟩ := channelAnswer_fails ha i c v
      rw [hstruck] at hgo hmode hcond hfail hcount
      obtain ⟨hcond', hcount', hmode', hfail'⟩ := struckLive_fields .retryError c.interval l2
      refine ⟨hcond.trans hcond', hcount.trans hcount', hmode.trans (hmode'.trans hmode2), fun hf => ?_⟩
      obtain ⟨hp, hb⟩ := hj.failed hnotices (by omega) c .retryError
      rw [if_pos (by omega)] at hfail'
      exact ⟨hfail.trans (by omega), hgo.trans (hfail'.2.trans hgo2), by rw [hfails, hp, hpoints], by rw [hfails, hb, hbanks]⟩
    · obtain ⟨k, w, hfails, hstruck, hw, hwl⟩ := hj.strikes c ha
      rw [hstruck] at hgo hfail
      obtain ⟨-, -, -, hfail'⟩ := struckLive_fields k c.interval l2
      rw [if_neg (by omega)] at hfail'
      exact ⟨hfail.trans hfail'.1, hgo.trans hfail'.2, by rw [hfails, Judges.halt_bank hw hwl (by omega)]⟩
  · exact fun s x cmd o ends i inner r raw c l h hw hx hc hl hr hh => handOff_outcome h hw hx hc hl hr hh raw
  · intro s x cmd o ends i inner r c l h hw hx hc hl hr hcollect ho
    obtain ⟨t, hexec, hslots, hpending, hfourth⟩ := channelCollect_pending h hw hx hc hl hr hcollect ho
    obtain ⟨hcond, hcount, -, hfail⟩ := struckLive_fields .retryError c.interval (collected l)
    exact ⟨t, hexec, hslots, hpending, fun h4 => ⟨_, hfourth h4, (struckLive_split _ _ rfl rfl).1, hcond, hcount, hfail⟩⟩
  · intro s x cmd o ends i h hw hx
    obtain ⟨t, hexec, hbank, hlives⟩ := superseded_channels h hw hx
    refine ⟨t, hexec, hbank, fun j l hl => ?_⟩
    obtain ⟨l', hl', hcore⟩ := hlives j l hl
    simp only [ChannelLive.core, Prod.mk.injEq] at hcore
    obtain ⟨hgo, hmode, hcond, hfail, hcount, -⟩ := hcore
    exact ⟨l', hl', hgo, hcond, hfail, hcount, hmode⟩

end Sys2Proof.Laws
end

section
/-! PROOFS. The stages of a command, the end of its transaction and its confirmation (R26, R37 to R40): O17. -/

namespace Sys2Proof.Laws

open Sys2Proof.Machine

/-! ### Entries that a later part of the event has placed afresh (R37) -/

/-- Every entry for the actuator is one just placed: no attempt has failed and its SELECT is still to come. -/
def FreshFor (a i : Nat) (l : LineBlock) : Prop :=
  ∀ y ∈ l.commands, y.isFor a i = true → y.attempts = 0 ∧ y.stage = .waiting ∧ y.deadline = none

theorem removeCommand_freshFor (a i : Nat) (s : State) : FreshFor a i (s.removeCommand a i).line := by
  intro y hy hfor
  rw [removeCommand_line] at hy
  simp [hfor] at hy

theorem placeCommand_freshFor {a i : Nat} (b j f : Nat) (o : Origin) (target : Nat) {s : State} (h : FreshFor a i s.line) :
    FreshFor a i (s.placeCommand b j f o target).1.line := by
  unfold State.placeCommand
  dsimp only
  split
  · exact h
  · split
    · exact h
    · split
      · intro y hy hfor
        obtain ⟨x, hx, rfl⟩ := List.mem_map.1 hy
        by_cases hx' : x.isFor b j = true
        · rw [if_pos hx']
          exact ⟨rfl, rfl, rfl⟩
        · rw [if_neg hx'] at hfor ⊢
          exact h x hx hfor
      · split
        · intro y hy hfor
          rcases List.mem_append.1 hy with hy | hy
          · exact h y hy hfor
          · rw [List.mem_singleton.1 hy]
            exact ⟨rfl, rfl, rfl⟩
        · exact h

theorem freshFor_acts (a i : Nat) : ActsKeep fun s => FreshFor a i s.line where
  frame s t hl _ _ h := by
    have hline : t.line = s.line := hl
    rw [hline]
    exact h
  place b j f o target _ h := placeCommand_freshFor b j f o target h
  remove _ _ _ h := fun y hy => h y (List.mem_of_mem_filter hy)
  urgent _ _ _ _ h := h

theorem Shrunk.freshFor {l0 l : LineBlock} (hs : Shrunk l0 l) {a i : Nat} (h : FreshFor a i l0) : FreshFor a i l := by
  intro y hy hfor
  have hmem : { y with turnCycle := none } ∈ l0.commands.map fun e => { e with turnCycle := none } := by
    rw [← hs.entries]
    exact List.mem_map_of_mem hy
  obtain ⟨x, hx, hxy⟩ := List.mem_map.1 hmem
  simp only [CommandEntry.mk.injEq] at hxy
  obtain ⟨haddress, hitem, -, -, -, hstage, hattempts, hdeadline, -⟩ := hxy
  have hforx : x.isFor a i = true := by
    rw [isFor_iff] at hfor ⊢
    exact ⟨haddress.trans hfor.1, hitem.trans hfor.2⟩
  obtain ⟨h1, h2, h3⟩ := h x hx hforx
  exact ⟨hattempts ▸ h1, hstage ▸ h2, hdeadline ▸ h3⟩

/-- After the removal of an actuator's entry, any entry for it at the event's end was placed by a block that took a notice of the event. -/
theorem concluded_freshFor {a i : Nat} {u : State} (h : FreshFor a i u.line) : FreshFor a i (concluded u).line := by
  have hdrain := (freshFor_acts a i).drain Config.pick Config.deliveryFuel u h
  rw [concluded, settle_lineSettle]
  exact (lineSettle_shrunk _).freshFor hdrain

/-! ### An entry that has had its turn (R38) -/

/-- In the cycle given, `e` is the one entry for the actuator, and no transaction of it is in flight. -/
structure EntryIs (a i cycle : Nat) (e : CommandEntry) (l : LineBlock) : Prop where
  cycle : l.cycle = cycle
  entries : l.commands.filter (CommandEntry.isFor a i) = [e]
  idle : ∀ y, l.inFlight = some y → y.work ≠ .command a i

theorem EntryIs.find {a i c : Nat} {e : CommandEntry} {l : LineBlock} (h : EntryIs a i c e l) :
    l.commands.find? (CommandEntry.isFor a i) = some e := by
  rw [← List.head?_filter, h.entries]
  rfl

theorem EntryIs.unique {a i c : Nat} {e y : CommandEntry} {l : LineBlock} (h : EntryIs a i c e l) (hy : y ∈ l.commands)
    (hfor : y.isFor a i = true) : y = e := by
  have hmem := List.mem_filter.2 ⟨hy, hfor⟩
  rw [h.entries] at hmem
  exact List.mem_singleton.1 hmem

/-- Under the law of R37 the entry that is found for an actuator is the one entry for it. -/
theorem filter_of_find {a i : Nat} {e : CommandEntry} : ∀ {cs : List CommandEntry},
    cs.Pairwise (fun x y => (x.address, x.item) ≠ (y.address, y.item)) → cs.find? (CommandEntry.isFor a i) = some e →
    cs.filter (CommandEntry.isFor a i) = [e] := by
  intro cs
  induction cs with
  | nil => exact fun _ h => by cases h
  | cons x cs ih =>
    intro hp hf
    obtain ⟨hother, hp⟩ := List.pairwise_cons.1 hp
    cases hfor : x.isFor a i with
    | true =>
      rw [List.find?_cons_of_pos hfor] at hf
      cases hf
      rw [List.filter_cons_of_pos hfor, List.filter_eq_nil_iff.2]
      intro y hy hfory
      obtain ⟨h1, h2⟩ := (isFor_iff a i e).1 hfor
      obtain ⟨h3, h4⟩ := (isFor_iff a i y).1 hfory
      exact hother y hy (by rw [h1, h2, h3, h4])
    | false =>
      rw [List.find?_cons_of_neg (by simp [hfor])] at hf
      rw [List.filter_cons_of_neg (by simp [hfor])]
      exact ih hp hf

/-- A change of an actuator's entry that keeps the actuator commutes with the choice of the entries for one. -/
theorem filter_updCommand {f : CommandEntry → CommandEntry} (hf : ∀ e, (f e).address = e.address ∧ (f e).item = e.item) (a i b j : Nat)
    (cs : List CommandEntry) :
    (cs.map fun e => if e.isFor b j then f e else e).filter (CommandEntry.isFor a i) =
      (cs.filter (CommandEntry.isFor a i)).map fun e => if e.isFor b j then f e else e := by
  rw [List.filter_map]
  refine congrArg _ (List.filter_congr fun e _ => ?_)
  simp only [Function.comp_apply]
  split
  · simp only [CommandEntry.isFor, (hf e).1, (hf e).2]
  · rfl

section
variable {a i cycle : Nat} {e : CommandEntry}

theorem startTransaction_entryIs {w : LineWork} (hw : w ≠ .command a i) (address : Nat) (wake : Bool) (r : LineRequest) {s : State}
    (h : EntryIs a i cycle e s.line) : EntryIs a i cycle e (s.startTransaction w address wake r).line :=
  ⟨h.cycle, h.entries, fun y hy => by cases hy; exact hw⟩

theorem EntryIs.congr {l l' : LineBlock} (h : EntryIs a i cycle e l) (hc : l'.cycle = l.cycle) (hcs : l'.commands = l.commands)
    (hf : l'.inFlight = l.inFlight) : EntryIs a i cycle e l' :=
  ⟨hc.trans h.cycle, hcs ▸ h.entries, hf ▸ h.idle⟩

/-- A change of another actuator's entry leaves the entry. -/
theorem updCommand_other_entryIs {b j : Nat} (hne : (b, j) ≠ (a, i)) {f : CommandEntry → CommandEntry}
    (hf : ∀ e, (f e).address = e.address ∧ (f e).item = e.item) {s : State} (h : EntryIs a i cycle e s.line) :
    EntryIs a i cycle e (s.updCommand b j f).line := by
  have hfor : ¬ e.isFor b j = true := by
    have hfor := List.find?_some h.find
    rw [isFor_iff] at hfor ⊢
    rintro ⟨rfl, rfl⟩
    exact hne (by rw [hfor.1, hfor.2])
  refine ⟨h.cycle, (filter_updCommand hf a i b j _).trans ?_, h.idle⟩
  rw [h.entries, List.map_singleton, if_neg hfor]

/-- A change of the one entry for its actuator. -/
theorem updCommand_entryIs {f : CommandEntry → CommandEntry} (hf : ∀ e, (f e).address = e.address ∧ (f e).item = e.item) {s : State}
    (h : EntryIs a i cycle e s.line) : EntryIs a i cycle (f e) (s.updCommand a i f).line := by
  have hfor : e.isFor a i = true := List.find?_some h.find
  refine ⟨h.cycle, (filter_updCommand hf a i a i _).trans ?_, h.idle⟩
  rw [h.entries, List.map_singleton, if_pos hfor]

theorem tryChannel_entryIs (left j : Nat) (c : ChannelRecord) {s : State} (h : EntryIs a i cycle e s.line) :
    EntryIs a i cycle e (s.tryChannel left j c).1.line := by
  have hstart : ∀ address r, EntryIs a i cycle e (s.startTransaction (.channel j) address c.wake r).line :=
    fun address r => startTransaction_entryIs (by simp) address c.wake r h
  unfold State.tryChannel
  dsimp only
  repeat' split
  all_goals first
    | exact h
    | exact hstart _ _
    | exact h.congr rfl rfl rfl
    | exact (hstart s.repeater (.collect c.inner (c.request (s.channelLive j).mode))).congr rfl rfl rfl

theorem tryChannels_entryIs (left : Nat) (cls : ChannelClass) (cs : List ChannelRecord) : ∀ (j : Nat) (s : State),
    EntryIs a i cycle e s.line → EntryIs a i cycle e (tryChannels left cls j cs s).1.line := by
  induction cs with
  | nil => exact fun _ _ h => h
  | cons c rest ih =>
    intro j s h
    simp only [tryChannels]
    split
    · split
      · exact tryChannel_entryIs left j c h
      · exact ih _ _ (tryChannel_entryIs left j c h)
    · exact ih _ _ h

theorem tryCommands_entryIs (he : e.turnCycle = some cycle) (left : Nat) (es : List CommandEntry) (s : State)
    (hes : ∀ y ∈ es, y ∈ s.line.commands) (h : EntryIs a i cycle e s.line) : EntryIs a i cycle e (tryCommands left es s).1.line := by
  induction es with
  | nil => exact h
  | cons x rest ih =>
    have hrest := ih fun y hy => hes y (List.mem_cons_of_mem _ hy)
    simp only [tryCommands]
    split
    · exact hrest
    · split
      · exact hrest
      · next hturn =>
        have hne : (x.address, x.item) ≠ (a, i) := by
          intro hsame
          have hx : x = e := h.unique (hes x List.mem_cons_self) ((isFor_iff a i x).2 (by simpa using hsame))
          rw [hx, he, h.cycle] at hturn
          exact hturn (.inl rfl)
        have hw : LineWork.command x.address x.item ≠ .command a i := by
          intro hsame
          cases hsame
          exact hne rfl
        exact updCommand_other_entryIs (f := fun y => { y with turnCycle := some s.line.cycle }) hne (fun _ => ⟨rfl, rfl⟩)
          (startTransaction_entryIs hw _ _ _ h)

theorem tryPass_entryIs (left fuel : Nat) (s : State) (h : EntryIs a i cycle e s.line) : EntryIs a i cycle e (s.tryPass left fuel).1.line := by
  have hleaves : ∀ (payload : List Byte) (u : State), EntryIs a i cycle e u.line → EntryIs a i cycle e (u.leavePass payload).line := by
    intro payload u hu
    rw [leavePass_line]
    exact hu.congr rfl rfl rfl
  have hstart : ∀ (s : State) address wake r, EntryIs a i cycle e s.line → EntryIs a i cycle e (s.startTransaction .pass address wake r).line :=
    fun s address wake r h => startTransaction_entryIs (by simp) address wake r h
  induction fuel generalizing s with
  | zero => exact h
  | succ fuel ih =>
    have hnext : ∀ payload, EntryIs a i cycle e ((s.leavePass payload).tryPass left fuel).1.line := fun payload => ih _ (hleaves payload s h)
    simp only [State.tryPass]
    split
    · exact h
    · split
      · split
        · exact hnext _
        · split
          · exact h
          · split
            · exact (hstart s _ _ _ h).congr rfl rfl rfl
            · exact h
      · split
        · exact hnext _
        · split
          · exact h
          · split
            · exact hstart s _ _ _ h
            · exact hnext _
      · split
        · exact h
        · split
          · exact hstart s _ _ _ h
          · exact hnext _

theorem linePick_entryIs (he : e.turnCycle = some cycle) {s : State} (h : EntryIs a i cycle e s.line) :
    EntryIs a i cycle e s.linePick.line := by
  have hpick : ∀ left, EntryIs a i cycle e (s.pickWork left).line := by
    intro left
    have ha := tryChannels_entryIs left .guard s.channelRecords 0 s h
    have hb := tryCommands_entryIs he left (tryChannels left .guard 0 s.channelRecords s).1.line.commands _ (fun _ hy => hy) ha
    have hc := tryChannels_entryIs left .normal (tryCommands left (tryChannels left .guard 0 s.channelRecords s).1.line.commands
      (tryChannels left .guard 0 s.channelRecords s).1).1.channelRecords 0 _ hb
    unfold State.pickWork
    dsimp only
    split
    · exact ha
    · split
      · exact hb
      · split
        · exact hc
        · exact tryPass_entryIs _ _ _ hc
  unfold State.linePick
  split
  · exact h
  · split
    · exact h
    · split
      · exact (startTransaction_entryIs (by simp) _ _ _ h).congr rfl rfl rfl
      · exact hpick _

/-- At the end of an event that starts no cycle, an entry that has had its turn is as the event's own effect left it. -/
theorem settle_entryIs (he : e.turnCycle = some cycle) {u : State} (hlate : u.line.late = false) (h : EntryIs a i cycle e u.line) :
    EntryIs a i cycle e u.settle.line := by
  rw [settle_lineSettle, State.lineSettle]
  split
  · exact h
  · rw [if_neg (by rw [hlate]; decide)]
    exact linePick_entryIs he h

end

/-! ### The end of a command's transaction (R38, R40) -/

theorem workOutcome_command {x : Transaction} {a i : Nat} (hw : x.work = .command a i) (o : FieldOutcome) (s : State) :
    workOutcome x o s = s.commandOutcome a i x o := by
  simp only [workOutcome, hw]

/-- The echo of item and value in WAITING, DONE in SELECTED: the outcome that takes the entry to its next stage (R38). -/
def StepDone (e : CommandEntry) (o : FieldOutcome) : Prop :=
  (e.stage = .waiting ∧ ∃ raw, o = .accepted (.selected e.item e.target) raw) ∨ (e.stage = .selected ∧ ∃ raw, o = .accepted .done raw)

/-- The outcome of a stage: SELECTED, OPERATED, or a failed step. -/
theorem commandOutcome_found {s : State} {a i : Nat} {x : Transaction} {e : CommandEntry} (hx : x.superseded = false)
    (he : s.line.commands.find? (CommandEntry.isFor a i) = some e) (o : FieldOutcome) :
    (StepDone e o → e.stage = .waiting → s.commandOutcome a i x o = s.updCommand a i fun y => { y with stage := .selected }) ∧
    (StepDone e o → e.stage = .selected → s.commandOutcome a i x o =
      s.updCommand a i fun y => { y with stage := .operated, deadline := some (s.now + s.confirmTime e) }) ∧
    (¬ StepDone e o → s.commandOutcome a i x o = s.commandFails e) := by
  refine ⟨fun hdone hstage => ?_, fun hdone hstage => ?_, fun hnot => ?_⟩
  · rcases hdone with ⟨-, raw, rfl⟩ | ⟨hstage', -⟩
    · simp only [State.commandOutcome, hx, he, hstage, and_self, if_true]
    · rw [hstage] at hstage'; cases hstage'
  · rcases hdone with ⟨hstage', -⟩ | ⟨-, raw, rfl⟩
    · rw [hstage] at hstage'; cases hstage'
    · simp only [State.commandOutcome, hx, he, hstage]
  · unfold State.commandOutcome
    simp only [hx, he]
    split
    · next item value raw hstage =>
      split
      · next h =>
        obtain ⟨rfl, rfl⟩ := h
        exact absurd (.inl ⟨hstage, raw, rfl⟩) hnot
      · rfl
    · next raw hstage => exact absurd (.inr ⟨hstage, raw, rfl⟩) hnot
    · rfl

theorem commandFails_counted {e : CommandEntry} (h : e.attempts + 1 < 3) (s : State) :
    s.commandFails e = s.updCommand e.address e.item failedStep := by
  unfold State.commandFails
  rw [if_pos h]
  rfl

theorem commandFails_third {e : CommandEntry} (h : ¬ e.attempts + 1 < 3) (s : State) :
    s.commandFails e = (((s.removeCommand e.address e.item).fault .commandFailed (some (.address e.address)))).tellOrigin e .failed := by
  unfold State.commandFails
  rw [if_neg h]

/-- The third failure removes the entry: what is left for its actuator at the event's end was placed afresh. -/
theorem commandFails_freshFor {e : CommandEntry} (h : ¬ e.attempts + 1 < 3) (s : State) :
    FreshFor e.address e.item (concluded (s.commandFails e)).line := by
  refine concluded_freshFor ?_
  rw [commandFails_line, if_neg h]
  exact removeCommand_freshFor _ _ _

/-- COMMAND_FAILED reaches the LINE bank at the time of the failure. -/
theorem commandFails_bank {e : CommandEntry} (h : ¬ e.attempts + 1 < 3) {s now : State}
    (hs : ∀ p, p ≠ Part.line → p.read s = p.read now) :
    (concluded (s.commandFails e)).banks.get .line = (now.banksAfter .commandFailed (some (.address e.address))).get .line := by
  have hread : ∀ p, p ∉ [Part.line] → p.read (s.removeCommand e.address e.item) = p.read now := fun p hp =>
    (removeCommand_read (by simp_all) _ _ _).trans (hs p (by simp_all))
  have htold : (s.commandFails e).banks = ((s.removeCommand e.address e.item).fault .commandFailed (some (.address e.address))).banks := by
    rw [commandFails_third h]
    exact tellOrigin_read (part := .banks) (by decide) _ _ _
  rw [concluded_bank (by decide), htold, fault_banks]
  exact congrArg (fun b : PerBank (Option FaultRecord) => b.get .line) (banksAfter_congr _ _ (hread .tables (by decide))
    (hread .banks (by decide)) (clockTime_congr (hread .fill (by decide))) (hread .timeUs (by decide)))

/-- A stage that changes its entry alone: the entry is so at the event's end, and takes no second turn. -/
theorem concluded_step {s : State} {a i ends : Nat} {e : CommandEntry} (hn : s.notices = [])
    (hlaw : s.line.commands.Pairwise fun x y => (x.address, x.item) ≠ (y.address, y.item))
    (he : s.line.commands.find? (CommandEntry.isFor a i) = some e) (hturn : e.turnCycle = some s.line.cycle)
    {f : CommandEntry → CommandEntry} (hf : ∀ e, (f e).address = e.address ∧ (f e).item = e.item) (hft : (f e).turnCycle = e.turnCycle) :
    let t := concluded ((landed ends s).updCommand a i f)
    t.line.commands.find? (CommandEntry.isFor a i) = some (f e) ∧ t.banks = s.banks ∧
      ∀ y, t.line.inFlight = some y → y.work ≠ .command a i := by
  have hentry : EntryIs a i s.line.cycle e (landed ends s).line := by
    rw [landed_line]
    exact ⟨rfl, filter_of_find hlaw he, fun y hy => by cases hy⟩
  have hquiet : ((landed ends s).updCommand a i f).notices = [] := (landed_notices ends s).trans hn
  have hsettled := settle_entryIs (hft.trans hturn) (u := (landed ends s).updCommand a i f) (landed_late ends s) (updCommand_entryIs hf hentry)
  rw [concluded_quiet hquiet]
  refine ⟨hsettled.find, ?_, hsettled.idle⟩
  exact (settle_read (part := .banks) (by decide) _).trans (landed_banks ends s)

/-- A command's outcome changes no channel. -/
theorem commandOutcome_live (a i : Nat) (x : Transaction) (o : FieldOutcome) (s : State) :
    (s.commandOutcome a i x o).line.live = s.line.live ∧ (s.commandOutcome a i x o).line.late = s.line.late := by
  cases commandOutcome_staged a i x o s with
  | same h => rw [h]; exact ⟨rfl, rfl⟩
  | changed _ _ _ _ h => rw [h]; exact ⟨rfl, rfl⟩
  | removed _ _ h => rw [h]; exact ⟨rfl, rfl⟩

theorem confirmTime_landed (ends : Nat) (s : State) (e : CommandEntry) : (landed ends s).confirmTime e = s.confirmTime e := by
  have htables : (landed ends s).tables = s.tables := landed_tables ends s
  unfold State.confirmTime
  rw [htables]

/-- The second clause of O17: the outcome of a stage at the event's end. -/
theorem stage_outcome {s : State} {x : Transaction} {cmd : Instr} {o : FieldOutcome} {ends a i : Nat} {e : CommandEntry}
    (h : s.Concludes x cmd o ends) (hw : x.work = .command a i) (hx : x.superseded = false) (hlaw : s.CommandLaw)
    (he : s.line.commands.find? (CommandEntry.isFor a i) = some e) (hturn : e.turnCycle = some s.line.cycle) :
    ∃ t, exec cmd s = .next t ∧ t.timeUs = max s.timeUs ends ∧ Kept reached (s.advanceUs ends) t ∧
      (StepDone e o → e.stage = .waiting → t.line.commands.find? (CommandEntry.isFor a i) = some { e with stage := .selected }) ∧
      (StepDone e o → e.stage = .selected → t.line.commands.find? (CommandEntry.isFor a i) = some { e with
        stage := .operated
        deadline := some (t.now + s.confirmTime e) }) ∧
      (¬ StepDone e o → e.attempts + 1 < 3 → t.line.commands.find? (CommandEntry.isFor a i) =
        some { e with attempts := e.attempts + 1, stage := .waiting, deadline := none }) ∧
      (StepDone e o ∨ e.attempts + 1 < 3 → t.banks = s.banks ∧ ∀ y, t.line.inFlight = some y → y.work ≠ .command a i) ∧
      (¬ StepDone e o → 3 ≤ e.attempts + 1 → FreshFor a i t.line ∧
        t.banks.get .line = ((s.advanceUs ends).banksAfter .commandFailed (some (.address a))).get .line) ∧
      ∀ (j : Nat) (l : ChannelLive), s.line.live[j]? = some l → ∃ l' : ChannelLive, t.line.live[j]? = some l' ∧
        l'.failures = l.failures ∧ l'.condition = l.condition := by
  obtain ⟨haddress, hitem⟩ := (isFor_iff a i e).1 (List.find?_some he)
  have hfind : (landed ends s).line.commands.find? (CommandEntry.isFor a i) = some e := by rw [landed_line]; exact he
  obtain ⟨hselects, hoperates, hfails⟩ := commandOutcome_found hx hfind o
  obtain ⟨v, hv⟩ : ∃ v, v = workOutcome x o (landed ends s) := ⟨_, rfl⟩
  have hv' : v = (landed ends s).commandOutcome a i x o := hv.trans (workOutcome_command hw o _)
  have htime : (concluded v).timeUs = max s.timeUs ends := hv ▸ concluded_timeUs x o ends s
  have hstep := fun f hf hft => concluded_step (ends := ends) h.ready.2 hlaw.2 he hturn (f := f) hf hft
  rw [← hv'] at hselects hoperates hfails
  have hcount : ¬ StepDone e o → e.attempts + 1 < 3 → v = (landed ends s).updCommand a i failedStep := fun hnot hc => by
    rw [hfails hnot, commandFails_counted hc, haddress, hitem]
  refine ⟨concluded v, hv ▸ exec_concludes h, htime, ?_, fun hd hst => ?_, fun hd hst => ?_, fun hnot hc => ?_, fun hgood => ?_,
    fun hnot hc => ?_, fun j l hl => ?_⟩
  · refine drain_settle_kept [] _ _ _ _ fun p hp => ?_
    rw [hv', commandOutcome_read (by revert hp; cases p <;> decide), landed_read (by revert hp; cases p <;> decide)]
  · rw [hselects hd hst]
    exact (hstep (fun y => { y with stage := .selected }) (fun _ => ⟨rfl, rfl⟩) rfl).1
  · have hnow : (landed ends s).now = (concluded v).now := now_congr
      (((landed_read (p := .timeUs) (by decide) ends s).trans (advanceUs_timeUs ends s)).trans htime.symm)
    rw [← hnow, ← confirmTime_landed, hoperates hd hst]
    exact (hstep (fun y => { y with stage := .operated, deadline := some ((landed ends s).now + (landed ends s).confirmTime e) })
      (fun _ => ⟨rfl, rfl⟩) rfl).1
  · rw [hcount hnot hc]
    exact (hstep failedStep (fun _ => ⟨rfl, rfl⟩) rfl).1
  · by_cases hd : StepDone e o
    · rcases id hd with hd' | hd'
      · rw [hselects hd hd'.1]
        exact (hstep (fun y => { y with stage := .selected }) (fun _ => ⟨rfl, rfl⟩) rfl).2
      · rw [hoperates hd hd'.1]
        exact (hstep (fun y => { y with stage := .operated, deadline := some ((landed ends s).now + (landed ends s).confirmTime e) })
          (fun _ => ⟨rfl, rfl⟩) rfl).2
    · rw [hcount hd (hgood.resolve_left hd)]
      exact (hstep failedStep (fun _ => ⟨rfl, rfl⟩) rfl).2
  · have hthird : ¬ e.attempts + 1 < 3 := by omega
    rw [hfails hnot]
    refine ⟨?_, ?_⟩
    · have hfresh := commandFails_freshFor hthird (landed ends s)
      rwa [haddress, hitem] at hfresh
    · rw [commandFails_bank hthird (fun p hp => landed_read hp ends s), haddress]
  · obtain ⟨hlive, hlate⟩ := commandOutcome_live a i x o (landed ends s)
    obtain ⟨l', hl', hcore⟩ := concluded_live (u := v) (by rw [hv', hlate, landed_late]) (by rw [hv', hlive, landed_live]; exact hl)
    simp only [ChannelLive.core, Prod.mk.injEq] at hcore
    obtain ⟨-, -, hcond, hfail, -⟩ := hcore
    exact ⟨l', hl', hfail, hcond⟩

/-! ### The confirmation (R39) -/

/-- The notice that tells the origin of an entry its outcome. -/
def told (o : CommandOutcome) (e : CommandEntry) : Delivery :=
  ⟨match e.origin with | .fill => .fill | .frost => .frost, .command e.address e.item e.target o⟩

/-- The entries given leave the list and their origins are told. -/
theorem removeTold_fold (o : CommandOutcome) (es : List CommandEntry) (s : State) :
    let t := es.foldl (fun s e => (s.removeCommand e.address e.item).tellOrigin e o) s
    (∀ p, p ∉ [Part.line, .notices] → p.read t = p.read s) ∧ t.line.live = s.line.live ∧ t.line.slots = s.line.slots ∧
      t.line.pass = s.line.pass ∧ t.line.urgent = s.line.urgent ∧ t.notices = s.notices ++ es.map (told o) ∧
      ∀ y, y ∈ t.line.commands ↔ y ∈ s.line.commands ∧ ∀ e ∈ es, y.isFor e.address e.item = false := by
  induction es generalizing s with
  | nil => simp
  | cons x es ih =>
    obtain ⟨hothers, hlive, hslots, hpass, hurgent, hnotices, hcommands⟩ := ih ((s.removeCommand x.address x.item).tellOrigin x o)
    refine ⟨fun p hp => (hothers p hp).trans ?_, hlive, hslots, hpass, hurgent, hnotices.trans ?_, fun y => (hcommands y).trans ?_⟩
    · rw [tellOrigin_read (by simp_all), removeCommand_read (by simp_all)]
    · show (s.notices ++ [told o x]) ++ es.map (told o) = _
      rw [List.append_assoc]
      rfl
    · show y ∈ s.line.commands.filter (fun e => !e.isFor x.address x.item) ∧ _ ↔ _
      simp only [List.mem_filter, Bool.not_eq_true', List.forall_mem_cons, and_assoc]

/-- An OPERATED entry is confirmed by a notice that lists its feedback point GOOD at the target, a heater's by a STATE point alone. -/
theorem confirms_iff (s : State) (ps : List Nat) (e : CommandEntry) : s.confirms ps e = true ↔
    e.stage = .operated ∧ e.feedback ∈ ps ∧ (s.point e.feedback).quality = .good ∧ (s.point e.feedback).value = e.target ∧
      (e.origin = .frost → ∃ r, s.pointRecord e.feedback = some r ∧ r.kind = .state) := by
  have hgood : s.goodValue e.feedback = some (e.target : Int) ↔
      (s.point e.feedback).quality = .good ∧ (s.point e.feedback).value = e.target := by
    unfold State.goodValue
    split
    · next h => simp [h]
    · next h => simp [h]
  have hkind : s.goodOfKind .state e.feedback = some (e.target : Int) ↔
      s.goodValue e.feedback = some (e.target : Int) ∧ ∃ r, s.pointRecord e.feedback = some r ∧ r.kind = .state := by
    unfold State.goodOfKind
    cases s.pointRecord e.feedback with
    | none => simp
    | some r =>
      by_cases hk : r.kind = .state
      · simp [hk]
      · simp [hk]
  unfold State.confirms
  cases ho : e.origin with
  | fill => simp [hgood, and_assoc]
  | frost => simp [hkind, hgood, and_assoc]

/-- The third clause of O17: at a point notice the confirmed entries leave the list and no others. -/
theorem lineOnPoints_confirms {s : State} (hlaw : s.CommandLaw) (ps : List Nat) {e : CommandEntry} (he : e ∈ s.line.commands) :
    (s.confirms ps e = true → (∀ y ∈ (s.lineOnPoints ps).line.commands, y.isFor e.address e.item = false) ∧
      told .confirmed e ∈ (s.lineOnPoints ps).notices) ∧
    (¬ s.confirms ps e = true → e ∈ (s.lineOnPoints ps).line.commands) := by
  obtain ⟨-, -, -, -, -, hnotices, hcommands⟩ := removeTold_fold .confirmed (s.line.commands.filter (s.confirms ps)) s
  refine ⟨fun hc => ?_, fun hc => ?_⟩
  · have hhit : e ∈ s.line.commands.filter (s.confirms ps) := List.mem_filter.2 ⟨he, hc⟩
    refine ⟨fun y hy => ((hcommands y).1 hy).2 e hhit, ?_⟩
    show _ ∈ (List.foldl _ s _).notices
    rw [hnotices]
    exact List.mem_append_right _ (List.mem_map_of_mem hhit)
  · refine (hcommands e).2 ⟨he, fun x hx => ?_⟩
    obtain ⟨hx, hxc⟩ := List.mem_filter.1 hx
    have hne : e ≠ x := by
      rintro rfl
      exact hc hxc
    have hsymm : Std.Symm fun x y : CommandEntry => (x.address, x.item) ≠ (y.address, y.item) := ⟨fun _ _ h => Ne.symm h⟩
    have hactuator := hlaw.2.forall he hx hne
    rw [← Bool.not_eq_true, isFor_iff]
    rintro ⟨h1, h2⟩
    exact hactuator (by rw [h1, h2])

/-! ### The turn (R26, R38) -/

theorem tryChannels_otherClass {left : Nat} {cls : ChannelClass} {cs : List ChannelRecord} (h : ∀ c ∈ cs, c.cls ≠ cls) (j : Nat) (s : State) :
    tryChannels left cls j cs s = (s, false) := by
  induction cs generalizing j with
  | nil => rfl
  | cons c rest ih =>
    obtain ⟨hc, hrest⟩ := List.forall_mem_cons.1 h
    rw [tryChannels, if_neg hc, ih hrest]

/-- The stage that an entry's next turn sends (R38). -/
def nextStage (e : CommandEntry) : DeviceRequest := if e.stage = .waiting then .select e.item e.target else .operate e.item e.target

theorem request_nextStage {e : CommandEntry} (h : e.stage ≠ .operated) : e.request = some (nextStage e) := by
  unfold CommandEntry.request nextStage
  cases hs : e.stage with
  | waiting => rfl
  | selected => rfl
  | operated => exact absurd hs h

/-- A turn's SELECT or OPERATE fits a whole cycle at every line rate (R22, R23). -/
theorem nextStage_fits {s : State} {left : Nat} (hleft : left = 250000) (wake : Bool) (e : CommandEntry) :
    s.fits left wake (.device (nextStage e)) = true := by
  have hrate : s.byteTime ≤ 4167 := by
    unfold State.byteTime
    cases s.line.rate <;> decide
  have hwake : (if wake then Config.wakeBytes else 0) ≤ 12 := by cases wake <;> decide
  have hframes : (LineRequest.device (nextStage e)).requestSize + (LineRequest.device (nextStage e)).replySize ≤ 20 := by
    unfold nextStage
    split <;> simp [LineRequest.requestSize, LineRequest.replySize, DeviceRequest.requestSize, DeviceRequest.replySize]
  have hsize : (if wake then Config.wakeBytes else 0) + (LineRequest.device (nextStage e)).requestSize +
      (LineRequest.device (nextStage e)).replySize ≤ 32 := by omega
  have hmul := Nat.mul_le_mul hsize hrate
  unfold State.fits LineRequest.costUs
  rw [decide_eq_true_eq, hleft]
  have hwindow : Config.replyWindowUs ≤ 100000 := by decide
  omega

/-- The transaction that an entry's turn starts (R24, R38). -/
def turnOf (e : CommandEntry) (s : State) : Transaction :=
  { work := .command e.address e.item, address := e.address, request := .device (nextStage e), wake := s.wakesAt e.address
    startUs := s.timeUs, byteTimeUs := s.byteTime, lsbFirst := s.line.lsbFirst
    bytes := requestBytes s.line.lsbFirst (s.wakesAt e.address) e.address (.device (nextStage e)), superseded := false }

theorem tryCommands_first {s : State} {before rest : List CommandEntry} {e : CommandEntry} {left : Nat} (hb : ∀ b ∈ before, b.stage = .operated)
    (he : e.stage ≠ .operated) (hturn : e.turnCycle ≠ some s.line.cycle) (hfits : s.fits left (s.wakesAt e.address) (.device (nextStage e)) = true) :
    (tryCommands left (before ++ e :: rest) s).2 = true ∧
      (tryCommands left (before ++ e :: rest) s).1.line.inFlight = some (turnOf e s) := by
  induction before with
  | nil =>
    have hnot : ¬ (e.turnCycle = some s.line.cycle ∨ s.fits left (s.wakesAt e.address) (.device (nextStage e)) = false) := by
      simp [hturn, hfits]
    simp only [List.nil_append, tryCommands, request_nextStage he, if_neg hnot, true_and]
    rfl
  | cons b before ih =>
    obtain ⟨hb, hbefore⟩ := List.forall_mem_cons.1 hb
    have hnone : b.request = none := by
      unfold CommandEntry.request
      rw [hb]
    simp only [List.cons_append, tryCommands, hnone]
    exact ih hbefore

theorem wakesAt_iff (s : State) (a : Nat) : s.wakesAt a = true ↔ ∃ c ∈ s.channelRecords, c.address = a ∧ c.wake = true := by
  simp [State.wakesAt]

/-- The first clause of O17: at a cycle start the first entry that is not OPERATED has its turn. -/
theorem cycleStart_turn {s : State} {before rest : List CommandEntry} {e : CommandEntry} (hs : s.Ready) (hl : s.line.late = false)
    (hf : s.line.inFlight = none) (hu : s.line.urgent = none) (hguard : ∀ c ∈ s.channelRecords, c.cls ≠ .guard)
    (hc : s.line.commands = before ++ e :: rest) (hb : ∀ b ∈ before, b.stage = .operated) (he : e.stage ≠ .operated)
    (hturn : e.turnCycle ≠ some (s.line.cycle + 1)) :
    ∃ t u, exec .lineCycleStart s = .next t ∧ Kept [.line, .out] (s.advanceUs s.cycleDueUs) t ∧ t.line.inFlight = some (turnOf e u) ∧
      u.timeUs = t.timeUs ∧ u.channelRecords = s.channelRecords := by
  obtain ⟨hexec, hkept, -⟩ := exec_cycleStart hs hl hf
  obtain ⟨v, hv⟩ : ∃ v, v = s.advanceUs s.cycleDueUs := ⟨_, rfl⟩
  have hline : v.line = s.line := by rw [hv]; exact advanceUs_read (part := .line) (by decide) _ s
  rw [← hv] at hexec hkept
  obtain ⟨live, pass, hstart⟩ := slotsRunOut_line (slotsOver v) (cycleBegun v)
  rw [← startCycle_eq] at hstart
  obtain ⟨u, hu'⟩ : ∃ u, u = v.startCycle := ⟨_, rfl⟩
  rw [← hu'] at hexec hkept hstart
  have hread : ∀ p, p ∉ [Part.line, .out] → p.read u = p.read v := fun p hp => by rw [hu']; exact startCycle_read (by simp_all) v
  have hrecords : u.channelRecords = s.channelRecords := by
    have htables : u.tables = s.tables := (hread .tables (by decide)).trans (by rw [hv]; exact advanceUs_read (part := .tables) (by decide) _ s)
    simp only [State.channelRecords, htables]
  have hucommands : u.line.commands = before ++ e :: rest := by rw [hstart]; exact (congrArg LineBlock.commands hline).trans hc
  have hucycle : u.line.cycle = s.line.cycle + 1 := by rw [hstart, ← hline]; rfl
  have huflight : u.line.inFlight = none := by rw [hstart]; exact (congrArg LineBlock.inFlight hline).trans hf
  have huurgent : u.line.urgent = none := by rw [hstart]; exact (congrArg LineBlock.urgent hline).trans hu
  have hulate : u.line.late = false := by rw [hstart]; rfl
  have hleft : u.cycleLeft = some 250000 := by
    have htime : u.timeUs = v.timeUs := hread .timeUs (by decide)
    unfold State.cycleLeft
    rw [hstart, htime]
    show some (v.timeUs + Config.cycleUs - v.timeUs) = _
    rw [Nat.add_sub_cancel_left]
    rfl
  obtain ⟨hstarts, hturnOf⟩ := tryCommands_first (rest := rest) (s := u) hb he (by rw [hucycle]; exact hturn)
    (nextStage_fits rfl (u.wakesAt e.address) e)
  have hpick : u.linePick = (tryCommands 250000 (before ++ e :: rest) u).1 := by
    unfold State.linePick State.pickWork
    simp only [huflight, Option.isSome_none, Bool.false_eq_true, if_false, hleft, huurgent,
      tryChannels_otherClass (fun c hc => hguard c (hrecords ▸ hc)), hucommands, hstarts, if_true]
  refine ⟨_, u, hexec, hv ▸ hkept, ?_, ?_, hrecords⟩
  · rw [settle_lineSettle, State.lineSettle, huflight, hulate]
    simp only [Option.isSome_none, Bool.false_eq_true, if_false, hpick, hturnOf]
  · exact (settle_read (part := .timeUs) (by decide) u).symm

/-- Settles O17: the turn, the outcome of a stage and the confirmation, each by its lemma above. -/
theorem commandStagesAndConfirmation : Obligations.CommandStagesAndConfirmation := by
  refine ⟨?_, ?_, ?_⟩
  · intro s before rest e hs hl hf hu hguard hc hb he hturn
    obtain ⟨t, u, hexec, hkept, hflight, htime, hrecords⟩ := cycleStart_turn hs hl hf hu hguard hc hb he hturn
    refine ⟨t, _, hexec, hkept, hflight, rfl, rfl, rfl, htime, rfl, ?_⟩
    rw [← hrecords]
    exact wakesAt_iff u e.address
  · intro s x cmd o ends a i e good h hw hx hlaw he hturn hgood
    have hsame : good = StepDone e o := propext hgood
    subst hsame
    exact stage_outcome h hw hx hlaw he hturn
  · rintro s t ps rfl hlaw
    obtain ⟨hothers, hlive, hslots, hpass, hurgent, -⟩ := removeTold_fold .confirmed (s.line.commands.filter (s.confirms ps)) s
    refine ⟨hothers, hlive, hslots, hpass, hurgent, fun e he confirmed hconfirmed => ?_⟩
    rw [hconfirmed, ← confirms_iff]
    exact lineOnPoints_confirms hlaw ps he

end Sys2Proof.Laws
end

section
/-! PROOFS. The line cycle, its overrun and the urgent close (R22, R25, R36, R41, R42, R82): O11. -/

namespace Sys2Proof.Laws

open Sys2Proof.Machine

/-! ### What a cycle start does to the line (R22, R25, R36) -/

theorem leavePass_core (payload : List Byte) {l0 : LineBlock} {s : State} (h : Picks l0 s.line) : Picks l0 (s.leavePass payload).line := by
  rw [leavePass_line]
  exact h

/-- The slots that run out end split phases and pass-throughs: the core of every channel stays. -/
theorem slotsRunOut_picks {l0 : LineBlock} (xs : List RepeaterSlot) {s : State} (h : Picks l0 s.line) :
    Picks l0 (xs.foldl (fun s x => s.slotRunsOut x) s).line := by
  induction xs generalizing s with
  | nil => exact h
  | cons x xs ih =>
    refine ih (s := s.slotRunsOut x) ?_
    unfold State.slotRunsOut
    split
    · split
      · exact updChannel_picks _ (fun l => { l with handed := none, pendingCount := 0 }) (fun _ => rfl) s h
      · exact h
    · split
      · split
        · exact leavePass_core _ h
        · exact h
      · exact h
    · exact h

theorem startCycle_picks (s : State) : Picks (cycleBegun s).line s.startCycle.line := by
  rw [startCycle_eq]
  exact slotsRunOut_picks _ (picks_refl _)

theorem Picks.trans {l0 l l' : LineBlock} (h : Picks l0 l) (h' : Picks l l') : Picks l0 l' := by
  obtain ⟨h1, h2, h3, h4, h5, h6, h7⟩ := h
  obtain ⟨g1, g2, g3, g4, g5, g6, g7⟩ := h'
  exact ⟨g1.trans h1, g2.trans h2, g3.trans h3, g4.trans h4, g5.trans h5, g6.trans h6, g7.trans h7⟩

/-- A cycle start on an idle line, and the line's own work after it. -/
theorem startCycle_settle_picks (s : State) : Picks (cycleBegun s).line s.startCycle.settle.line := by
  have hlate : s.startCycle.line.late = false := by
    obtain ⟨-, -, -, -, hlate, -⟩ := startCycle_picks s
    exact hlate
  exact (startCycle_picks s).trans (settle_picks hlate)

theorem livesAtCycle_getElem? (cs : List ChannelRecord) (low : Bool) (ls : List ChannelLive) : ∀ (j i : Nat),
    (livesAtCycle cs low j ls)[i]? = (ls[i]?).map fun l =>
      (l.atCycle ((cs[j + i]?).map ChannelRecord.cls)).restartAt ((cs[j + i]?).map ChannelRecord.cls) low := by
  induction ls with
  | nil => exact fun _ _ => rfl
  | cons l ls ih =>
    intro j i
    cases i with
    | zero => rfl
    | succ i =>
      rw [livesAtCycle, List.getElem?_cons_succ, ih, List.getElem?_cons_succ, Nat.add_right_comm, Nat.add_assoc]

/-- A channel that runs counts down by one at a cycle start, and no more. -/
theorem running_atCycle {l : ChannelLive} (h : l.go = true) (cls : Option ChannelClass) (low : Bool) :
    (l.atCycle cls).restartAt cls low = { l with countdown := l.countdown - 1 } := by
  have hrun : l.isHalted = false := by simp [ChannelLive.isHalted, h]
  have hrun' : (l.atCycle cls).isHalted = false := by simp [ChannelLive.isHalted, ChannelLive.atCycle, h]
  rw [ChannelLive.restartAt, if_neg (by simp [hrun'])]
  simp [ChannelLive.atCycle, hrun]

/-! ### The urgent slot through a pick (R42) -/

section
variable {u : Option UrgentClose}

theorem tryChannel_urgent (left j : Nat) (c : ChannelRecord) {s : State} (h : s.line.urgent = u) : (s.tryChannel left j c).1.line.urgent = u := by
  unfold State.tryChannel
  dsimp only
  repeat' split
  all_goals exact h

theorem tryChannels_urgent (left : Nat) (cls : ChannelClass) (cs : List ChannelRecord) : ∀ (j : Nat) (s : State),
    s.line.urgent = u → (tryChannels left cls j cs s).1.line.urgent = u := by
  induction cs with
  | nil => exact fun _ _ h => h
  | cons c rest ih =>
    intro j s h
    simp only [tryChannels]
    split
    · split
      · exact tryChannel_urgent left j c h
      · exact ih _ _ (tryChannel_urgent left j c h)
    · exact ih _ _ h

theorem tryCommands_urgent (left : Nat) (es : List CommandEntry) {s : State} (h : s.line.urgent = u) :
    (tryCommands left es s).1.line.urgent = u := by
  induction es with
  | nil => exact h
  | cons e rest ih =>
    simp only [tryCommands]
    split
    · exact ih
    · split
      · exact ih
      · exact h

theorem tryPass_urgent (left fuel : Nat) {s : State} (h : s.line.urgent = u) : (s.tryPass left fuel).1.line.urgent = u := by
  induction fuel generalizing s with
  | zero => exact h
  | succ fuel ih =>
    have hnext : ∀ payload, ((s.leavePass payload).tryPass left fuel).1.line.urgent = u := fun payload => ih (by
      rw [leavePass_line]
      exact h)
    simp only [State.tryPass]
    repeat' split
    all_goals first | exact h | exact hnext _

/-- A pick leaves the urgent slot, but for the mark that its close is in flight. -/
theorem linePick_urgent (s : State) : s.linePick.line.urgent = s.line.urgent ∨
    ∃ x, s.line.urgent = some x ∧ s.linePick.line.urgent = some { x with inFlight := true } := by
  have hpick : ∀ left, (s.pickWork left).line.urgent = s.line.urgent := by
    intro left
    have ha := tryChannels_urgent left .guard s.channelRecords 0 s rfl
    have hb := tryCommands_urgent left (tryChannels left .guard 0 s.channelRecords s).1.line.commands ha
    have hc := tryChannels_urgent left .normal (tryCommands left (tryChannels left .guard 0 s.channelRecords s).1.line.commands
      (tryChannels left .guard 0 s.channelRecords s).1).1.channelRecords 0 _ hb
    unfold State.pickWork
    dsimp only
    split
    · exact ha
    · split
      · exact hb
      · split
        · exact hc
        · exact tryPass_urgent _ _ hc
  unfold State.linePick
  split
  · exact .inl rfl
  · split
    · exact .inl rfl
    · split
      · next x hx => exact .inr ⟨x, hx, rfl⟩
      · exact .inl (hpick _)

theorem startCycle_urgent (s : State) : s.startCycle.line.urgent = s.line.urgent := by
  obtain ⟨live, pass, h⟩ := slotsRunOut_line (slotsOver s) (cycleBegun s)
  rw [startCycle_eq, h]
  rfl

/-- At an event's end the urgent slot is as it was, but for the mark that its close is in flight. -/
theorem settle_urgent (s : State) : s.settle.line.urgent = s.line.urgent ∨
    ∃ x, s.line.urgent = some x ∧ s.settle.line.urgent = some { x with inFlight := true } := by
  rw [settle_lineSettle]
  unfold State.lineSettle
  split
  · exact .inl rfl
  · split
    · have h := linePick_urgent s.startCycle
      rwa [startCycle_urgent] at h
    · exact linePick_urgent s

end

/-! ### The urgent close takes the first turn (R41, R42) -/

theorem linePick_closes {s : State} {u : UrgentClose} (hf : s.line.inFlight = none) (hu : s.line.urgent = some u)
    (hc : s.line.cycleStartUs ≠ none) : ∃ y, s.linePick.line.inFlight = some y ∧ y.work = .urgent ∧ y.address = u.address ∧
      y.request = .device (.direct u.item 0) ∧ y.startUs = s.timeUs ∧ y.superseded = false ∧ y.wake = s.wakesAt u.address := by
  obtain ⟨b, hb⟩ := Option.ne_none_iff_exists'.1 hc
  unfold State.linePick
  rw [hf, State.cycleLeft, hb]
  simp only [Option.isSome_none, Bool.false_eq_true, if_false, Option.map_some, hu]
  exact ⟨_, rfl, rfl, rfl, rfl, rfl, rfl, rfl⟩

/-- On an idle line with a close in the slot, the event's end starts the close. -/
theorem settle_closes {s : State} {u : UrgentClose} (hf : s.line.inFlight = none) (hu : s.line.urgent = some u)
    (hc : s.line.late = true ∨ s.line.cycleStartUs ≠ none) : s.settle.Closes u := by
  have hread : ∀ w : State, w.timeUs = s.timeUs → w.tables = s.tables → w.line.inFlight = none → w.line.urgent = some u →
      w.line.cycleStartUs ≠ none → s.settle.line = w.linePick.line → s.settle.Closes u := by
    intro w htime htables hwf hwu hwc hline
    obtain ⟨y, hy, hwork, haddress, hrequest, hstart, hsup, hwake⟩ := linePick_closes hwf hwu hwc
    have hstime : s.settle.timeUs = s.timeUs := settle_read (part := .timeUs) (by decide) s
    have hstables : s.settle.tables = s.tables := settle_read (part := .tables) (by decide) s
    refine ⟨y, hline ▸ hy, hwork, haddress, hrequest, by rw [hstart, htime, hstime], hsup, ?_⟩
    rw [hwake, wakesAt_iff, State.channelRecords, State.channelRecords, htables, hstables]
  have hline : s.settle.line = (if s.line.late then s.startCycle else s).linePick.line := by
    rw [settle_lineSettle, State.lineSettle, hf]
    rfl
  by_cases hl : s.line.late = true
  · rw [if_pos hl] at hline
    obtain ⟨live, pass, h⟩ := slotsRunOut_line (slotsOver s) (cycleBegun s)
    rw [← startCycle_eq] at h
    refine hread s.startCycle (startCycle_read (part := .timeUs) (by decide) s) (startCycle_read (part := .tables) (by decide) s) ?_ ?_ ?_ hline
    · rw [h]; exact hf
    · rw [startCycle_urgent, hu]
    · rw [h]; exact Option.some_ne_none _
  · rw [if_neg hl] at hline
    exact hread s rfl rfl hf hu (hc.resolve_left hl) hline

/-! ### The end of a transaction past its cycle (R25) -/

/-- A change of the LINE bank begins and ends no hold that a notice tells of (R147). -/
theorem holdNotices_line {before after : State} (h : ∀ b, b ≠ Bank.line → after.holds b = before.holds b) :
    (State.holdNotices before after).notices = after.notices := by
  have hfour : after.fourHold = before.fourHold := by
    simp only [State.fourHold, h .fill (by decide), h .trunk (by decide), h .level (by decide), h .guard (by decide)]
  unfold State.holdNotices
  simp only [hfour, Bool.not_and_self, Bool.and_not_self, Bool.false_eq_true, if_false, h .frost (by decide), bne_self_eq_false]

/-- A fault of the LINE bank raises no notice. -/
theorem fault_line_notices {code : FaultCode} (h : code.bank = .line) (subject : Option Subject) (s : State) :
    (s.fault code subject).notices = s.notices := by
  have hlogged : ∀ r, ∀ b, b ≠ Bank.line → ((s.updBanks fun x => x.set code.bank (some r))).holds b = s.holds b := by
    intro r b hb
    refine holds_congr (s := s) (t := s.updBanks fun x => x.set code.bank (some r)) rfl ?_
    show (s.banks.set code.bank (some r)).get b = _
    rw [PerBank.get_set, if_neg (by rw [h]; exact hb)]
  unfold State.fault
  dsimp only
  split
  · rfl
  · split
    · rw [holdNotices_line]
      · rfl
      · exact hlogged _
    · rw [holdNotices_line]
      · rfl
      · exact hlogged _

/-- The state in which the outcome of a transaction is judged that has ended after its line cycle (R25). -/
def overran (x : Transaction) (ends : Nat) (s : State) : State :=
  State.fault .cycleOverrun (some (.address x.address)) ((s.advanceUs ends).updLine fun l => { l with inFlight := none, late := true })

theorem overran_read {p : Part} (h : p ∉ [Part.banks, .line, .out]) (x : Transaction) (ends : Nat) (s : State) :
    p.read (overran x ends s) = p.read (s.advanceUs ends) := by
  by_cases hp : p = .notices
  · subst hp
    exact fault_line_notices (code := .cycleOverrun) rfl _ _
  · exact (fault_read (by simp_all) _ _ _).trans (updLine_read (by simp_all) _ _)

theorem overran_line (x : Transaction) (ends : Nat) (s : State) : (overran x ends s).line = { s.line with inFlight := none, late := true } := by
  have hline : (s.advanceUs ends).line = s.line := advanceUs_read (part := .line) (by decide) ends s
  refine (fault_read (part := .line) (by decide) _ _ _).trans ?_
  show { (s.advanceUs ends).line with inFlight := none, late := true } = _
  rw [hline]

theorem overran_banks (x : Transaction) (ends : Nat) (s : State) :
    (overran x ends s).banks = (s.advanceUs ends).banksAfter .cycleOverrun (some (.address x.address)) :=
  (fault_banks _ _ _).trans (banksAfter_congr _ _ rfl rfl rfl rfl)

theorem transactionEnds_past {s : State} {ends : Nat}
    (h : s.line.late = true ∨ ∃ b, s.line.cycleStartUs = some b ∧ b + 250000 < max s.timeUs ends) (x : Transaction) (o : FieldOutcome) :
    (s.advanceUs ends).transactionEnds x o = workOutcome x o (overran x ends s) := by
  have hline : (s.advanceUs ends).line = s.line := advanceUs_read (part := .line) (by decide) ends s
  have hover : (s.line.late || (s.line.cycleStartUs.any fun c => decide (c + Config.cycleUs < max s.timeUs ends))) = true := by
    rcases h with h | ⟨b, hb, hlt⟩
    · rw [h, Bool.true_or]
    · rw [hb, Option.any_some, Bool.or_eq_true]
      exact .inr (decide_eq_true hlt)
  unfold State.transactionEnds
  simp only [hline, advanceUs_timeUs, hover, if_true]
  rfl

/-- The end of a transaction goes to its work in its cycle, or past it with CYCLE_OVERRUN. -/
theorem transactionEnds_cases (s : State) (x : Transaction) (o : FieldOutcome) (ends : Nat) :
    ((s.line.late = true ∨ ∃ b, s.line.cycleStartUs = some b ∧ b + 250000 < max s.timeUs ends) ∧
      (s.advanceUs ends).transactionEnds x o = workOutcome x o (overran x ends s)) ∨
    (s.line.late = false ∧ (s.advanceUs ends).transactionEnds x o = workOutcome x o (landed ends s)) := by
  by_cases h : s.line.late = true ∨ ∃ b, s.line.cycleStartUs = some b ∧ b + 250000 < max s.timeUs ends
  · exact .inl ⟨h, transactionEnds_past h x o⟩
  · obtain ⟨hl, hc⟩ := not_or.1 h
    have hlate : s.line.late = false := by simpa using hl
    refine .inr ⟨hlate, transactionEnds_inCycle hlate (fun b hb => ?_) x o⟩
    by_contra hlt
    exact hc ⟨b, hb, by omega⟩

/-! ### The outcome's work on an idle line -/

theorem workOutcome_still {x : Transaction} (hw : x.work ≠ .urgent) (o : FieldOutcome) {s : State} (h : s.line.inFlight = none) :
    Still s.line (workOutcome x o s).line := by
  unfold workOutcome
  split
  · next hu => exact absurd hu hw
  · exact (channelOutcome_ended _ _ _ _).still
  · exact (commandOutcome_staged _ _ _ _ _).still h
  · exact (passOutcome_ended _ _ _).still

/-- The blocks that take the notices of an event start no transaction. -/
theorem idle_acts : ActsKeep fun s => s.line.inFlight = none where
  frame s t hl _ _ h := (congrArg LineBlock.inFlight hl).trans h
  place a i f o target s h := by
    unfold State.placeCommand
    dsimp only
    repeat' split
    all_goals first | exact h | exact congrArg (Option.map _) h
  remove a i s h := congrArg (Option.map _) h
  urgent _ _ _ _ h := h

/-- A close in the urgent slot stays there while the blocks take an event's notices (R41). -/
theorem urgent_acts (u : UrgentClose) : ActsKeep fun s => s.line.urgent = some u where
  frame s t hl _ _ h := (congrArg LineBlock.urgent hl).trans h
  place a i f o target s h := by
    unfold State.placeCommand
    dsimp only
    repeat' split
    all_goals exact h
  remove a i s h := h
  urgent a i s hn h := by rw [hn] at h; cases h

/-! ### The LINE bank after an overrun (R143, R144) -/

/-- CYCLE_OVERRUN with the transaction's address stands in the LINE bank, or a record that has overflowed. -/
def Overrun (x : Transaction) (b : PerBank (Option FaultRecord)) : Prop :=
  ∃ r, b.get .line = some r ∧ ((r.code = .cycleOverrun ∧ r.severity = .note ∧ r.subject = some (.address x.address)) ∨ r.overflow = true)

/-- A fault that follows overflows the record, or leaves it. -/
theorem fault_overrun {x : Transaction} (code : FaultCode) (subject : Option Subject) {s : State} (h : Overrun x s.banks) :
    Overrun x (s.fault code subject).banks := by
  obtain ⟨r, hr, hr'⟩ := h
  rw [fault_banks, State.banksAfter]
  split
  · exact ⟨r, hr, hr'⟩
  · unfold Overrun
    rw [PerBank.get_set]
    split
    · next hb =>
      rw [← hb, hr]
      refine ⟨_, rfl, .inr ?_⟩
      simp only [arrive]
      split
      · rfl
      · rfl
    · exact ⟨r, hr, hr'⟩

theorem channelFails_overrun {x : Transaction} (i : Nat) (c : ChannelRecord) (k : ChannelCondition) {s : State} (h : Overrun x s.banks) :
    Overrun x (s.channelFails i c k).banks := by
  unfold State.channelFails
  split
  · exact h
  · refine fault_overrun _ _ ?_
    have hbanks : ((s.updChannel i (ChannelLive.halted k c.interval)).haltPoints c).banks = s.banks := haltPoints_read (part := .banks) (by decide) _ _
    rw [hbanks]
    exact h

theorem channelAnswer_overrun {x : Transaction} (i : Nat) (c : ChannelRecord) (a : FieldOutcome) {s : State} (h : Overrun x s.banks) :
    Overrun x (s.channelAnswer i c a).banks := by
  have hextract : ∀ start items, (s.extract c.polled .polled start items).banks = s.banks :=
    fun start items => extract_read (part := .banks) (by decide) _ _ _ _ _
  unfold State.channelAnswer
  dsimp only
  split
  · next start items _ =>
    split
    · show Overrun x (s.extract c.polled .polled start items).banks
      rw [hextract]
      exact h
    · exact channelFails_overrun _ _ _ (hextract start items ▸ h)
  · exact h
  · exact h
  · exact fault_overrun _ _ h
  all_goals exact channelFails_overrun _ _ _ h

theorem channelOutcome_overrun {x : Transaction} (i : Nat) (o : FieldOutcome) {s : State} (h : Overrun x s.banks) :
    Overrun x (s.channelOutcome i x o).banks := by
  unfold State.channelOutcome
  split
  · split
    · exact channelAnswer_overrun _ _ _ h
    · unfold State.channelHandOff
      split
      · have hbanks : ∀ f : ChannelLive → ChannelLive, ((s.takeSlot (.channel i)).updChannel i f).banks = s.banks :=
          fun _ => takeSlot_read (part := .banks) (by decide) (.channel i) s
        dsimp only
        rw [hbanks]
        exact h
      · exact h
      · exact h
      · exact channelAnswer_overrun _ _ _ h
    · unfold State.channelCollect
      split
      · refine channelAnswer_overrun _ _ _ ?_
        cases (s.channelLive i).handed <;> exact h
      · split
        · exact h
        · exact channelFails_overrun _ _ _ h
  · rw [supersededOutcome_banks]
    exact h

theorem commandOutcome_overrun {x : Transaction} (a i : Nat) (o : FieldOutcome) {s : State} (h : Overrun x s.banks) :
    Overrun x (s.commandOutcome a i x o).banks := by
  have hfails : ∀ e : CommandEntry, Overrun x (s.commandFails e).banks := by
    intro e
    by_cases hc : e.attempts + 1 < 3
    · rw [commandFails_counted hc]
      exact h
    · have hbanks := tellOrigin_read (part := .banks) (by decide) e .failed
        ((s.removeCommand e.address e.item).fault .commandFailed (some (.address e.address)))
      rw [commandFails_third hc]
      exact (congrArg (Overrun x) hbanks).mpr (fault_overrun _ _ h)
  unfold State.commandOutcome
  split
  · split
    · split
      · exact h
      · exact hfails _
    · exact h
    · exact hfails _
  · exact h

theorem workOutcome_overrun {x : Transaction} (o : FieldOutcome) {s : State} (h : Overrun x s.banks) : Overrun x (workOutcome x o s).banks := by
  unfold workOutcome
  split
  · exact h
  · exact channelOutcome_overrun _ _ h
  · exact commandOutcome_overrun _ _ _ h
  · have hbanks : (s.passOutcome x o).banks = s.banks := passOutcome_read (part := .banks) (by decide) _ _ _
    rw [hbanks]
    exact h

/-- The urgent close, a pass-through and a superseded transaction log nothing beside the overrun. -/
theorem workOutcome_banks {x : Transaction} (h : x.work = .urgent ∨ x.work = .pass ∨ x.superseded = true) (o : FieldOutcome) (s : State) :
    (workOutcome x o s).banks = s.banks := by
  unfold workOutcome
  split
  · exact urgentEnds_read (part := .banks) (by decide) _ _
  · next i hw =>
    have hx : x.superseded = true := by simpa [hw] using h
    simp only [State.channelOutcome, hx]
    exact supersededOutcome_banks _ _ _
  · next a i hw =>
    have hx : x.superseded = true := by simpa [hw] using h
    simp only [State.commandOutcome, hx]
  · exact passOutcome_read (part := .banks) (by decide) _ _ _

/-! ### The five clauses of O11 -/

theorem advanceUs_line (us : Nat) (s : State) : (s.advanceUs us).line = s.line := advanceUs_read (part := .line) (by decide) us s

theorem advanceUs_tables (us : Nat) (s : State) : (s.advanceUs us).tables = s.tables := advanceUs_read (part := .tables) (by decide) us s

/-- On an idle line the next cycle starts. -/
theorem cycleStart_line {s : State} (hs : s.Ready) (hl : s.line.late = false) (hf : s.line.inFlight = none) :
    ∃ t, exec .lineCycleStart s = .next t ∧ t.timeUs = max s.timeUs s.cycleDueUs ∧ Picks (cycleBegun (s.advanceUs s.cycleDueUs)).line t.line ∧
      Kept [.line, .out] (s.advanceUs s.cycleDueUs) t := by
  obtain ⟨hexec, hkept, -⟩ := exec_cycleStart hs hl hf
  refine ⟨_, hexec, ?_, startCycle_settle_picks _, hkept⟩
  refine (settle_read (part := .timeUs) (by decide) _).trans ((startCycle_read (part := .timeUs) (by decide) _).trans ?_)
  exact advanceUs_timeUs _ _

/-- The transaction in flight puts the cycle start off. -/
theorem cycleStart_waits {s : State} (hs : s.Ready) (hl : s.line.late = false) (hf : s.line.inFlight.isSome) :
    ∃ t, exec .lineCycleStart s = .next t ∧ t.line = { s.line with late := true } ∧ Kept [.line] (s.advanceUs s.cycleDueUs) t := by
  obtain ⟨v, hv⟩ : ∃ v, v = (s.advanceUs s.cycleDueUs).updLine fun l => { l with late := true } := ⟨_, rfl⟩
  have hline : v.line = { s.line with late := true } := by
    rw [hv, updLine_line, advanceUs_line]
  have hdue : (s.advanceUs s.cycleDueUs).cycleComesDue = v := by
    unfold State.cycleComesDue
    rw [advanceUs_line, if_pos hf, hv]
  have hnotices : v.notices = [] := by
    rw [hv]
    exact (advanceUs_read (part := .notices) (by decide) _ s).trans hs.2
  have hexec : exec .lineCycleStart s = .next v.settle := by
    show execLineCycleStart s = _
    rw [execLineCycleStart, hl, State.eventIf]
    simp only [Bool.not_false, if_true]
    rw [event_powered _ _ _ hs.1, hdue, drain_nil _ _ _ hnotices]
  refine ⟨_, hexec, ?_, ?_⟩
  · rw [settle_line v (.inl (by rw [hline]; exact hf)), hline]
  · refine settle_kept [.line] _ _ (fun p hp => ?_) ?_ ?_
    · rw [hv, updLine_read hp]
    · rw [hv]
      rfl
    · rw [hv]
      rfl

/-- A cycle start that was put off takes place at the event's end, on an idle line. -/
theorem settle_late {w : State} (hl : w.line.late = true) (hf : w.line.inFlight = none) : Picks (cycleBegun w).line w.settle.line := by
  rw [settle_lineSettle, State.lineSettle, hf, hl]
  exact linePick_picks _ (startCycle_picks w)

/-- The line when the blocks have taken the notices of a transaction's end. -/
theorem drained_still {x : Transaction} (o : FieldOutcome) {v : State} (hf : v.line.inFlight = none) :
    let w := State.drain Config.pick Config.deliveryFuel (workOutcome x o v)
    w.line.inFlight = none ∧ w.line.late = v.line.late ∧ w.line.cycle = v.line.cycle ∧ w.line.cycleStartUs = v.line.cycleStartUs := by
  have hcycles : Cycles (workOutcome x o v).line (State.drain Config.pick Config.deliveryFuel (workOutcome x o v)).line :=
    drain_cycles _ _ _ (cycles_refl _)
  have hidle := idle_acts.drain Config.pick Config.deliveryFuel (workOutcome x o v)
  obtain ⟨-, -, hcycle, hstart, hlate, -⟩ := hcycles
  by_cases hw : x.work = .urgent
  · have hu : (workOutcome x o v).line = { v.line with urgent := none } := by
      simp only [workOutcome, hw]
      rfl
    rw [hu] at hcycle hstart hlate hidle
    exact ⟨hidle hf, hlate, hcycle, hstart⟩
  · obtain ⟨h1, h2, h3, -, h5⟩ := workOutcome_still hw o hf
    exact ⟨hidle (h5.trans hf), hlate.trans h3, hcycle.trans h1, hstart.trans h2⟩

/-- A transaction that ends past its cycle: the next cycle starts at that end, and CYCLE_OVERRUN reaches the LINE bank. -/
theorem overrun_ends {s : State} {x : Transaction} {cmd : Instr} {o : FieldOutcome} {ends : Nat} (h : s.Ends x cmd o ends)
    (hpast : s.line.late = true ∨ ∃ b, s.line.cycleStartUs = some b ∧ b + 250000 < max s.timeUs ends) :
    ∃ t w, exec cmd s = .next t ∧ t.timeUs = max s.timeUs ends ∧ w.timeUs = t.timeUs ∧ w.tables = s.tables ∧ w.line.cycle = s.line.cycle ∧
      Picks (cycleBegun w).line t.line ∧ t.banks.get .line = (workOutcome x o (overran x ends s)).banks.get .line ∧
      Kept (.points :: reached) (s.advanceUs ends) t := by
  obtain ⟨v, hv⟩ : ∃ v, v = overran x ends s := ⟨_, rfl⟩
  have hline : v.line = { s.line with inFlight := none, late := true } := hv ▸ overran_line x ends s
  obtain ⟨w, hw⟩ : ∃ w, w = State.drain Config.pick Config.deliveryFuel (workOutcome x o v) := ⟨_, rfl⟩
  have hread : ∀ p, p ∉ .points :: reached → p.read w = p.read (s.advanceUs ends) := by
    intro p hp
    rw [hw, drain_read (by revert hp; cases p <;> decide), workOutcome_read (by revert hp; cases p <;> decide), hv,
      overran_read (by revert hp; cases p <;> decide)]
  obtain ⟨hidle, hlate, hcycle, -⟩ := drained_still (x := x) o (v := v) (by rw [hline])
  rw [← hw] at hidle hlate hcycle
  have htime : w.settle.timeUs = w.timeUs := settle_read (part := .timeUs) (by decide) w
  refine ⟨w.settle, w, ?_, ?_, htime.symm, ?_, ?_, settle_late (by rw [hlate, hline]) hidle, ?_, ?_⟩
  · rw [exec_ends h, transactionEnds_past hpast, hw, hv]
  · rw [htime]
    exact (hread .timeUs (by decide)).trans (advanceUs_timeUs ends s)
  · exact (hread .tables (by decide)).trans (advanceUs_tables ends s)
  · rw [hcycle, hline]
  · rw [hw, ← hv]
    exact concluded_bank (by decide) _
  · rw [hw]
    refine drain_settle_kept [.points] _ _ _ _ fun p hp => ?_
    rw [workOutcome_read (by revert hp; cases p <;> decide), hv, overran_read (by revert hp; cases p <;> decide)]

/-- Where the bank was empty and takes it, the overrun stands in it. -/
theorem overran_overrun {s : State} (x : Transaction) (ends : Nat) (hi : ignores (bankSettings s.tables.siteSet .line) .cycleOverrun = false)
    (hb : s.banks.get .line = none) : Overrun x (overran x ends s).banks := by
  have hbanks : (s.advanceUs ends).banks = s.banks := advanceUs_read (part := .banks) (by decide) ends s
  have hbank : FaultCode.cycleOverrun.bank = .line := rfl
  rw [overran_banks, State.banksAfter, hbank, advanceUs_tables, hi, hbanks]
  simp only [Bool.false_eq_true, if_false]
  refine ⟨(arrive .cycleOverrun (some (.address x.address)) (s.advanceUs ends).clockTime (s.advanceUs ends).uptime none).1, ?_,
    .inl ⟨rfl, rfl, rfl⟩⟩
  rw [PerBank.get_set, if_pos rfl, hb]

/-! ### The end of the urgent close (R42, R82) -/

/-- One waiting notice that raises no other. -/
theorem drain_single {s : State} {d : Delivery} (h : s.notices = [d]) (hq : ((({ s with notices := [] } : State)).deliver d).notices = [])
    (pick : Nat → Nat) (fuel : Nat) : State.drain pick (fuel + 1) s = ({ s with notices := [] } : State).deliver d := by
  have hone : s.deliverOne pick = ({ s with notices := [] } : State).deliver d := by
    have hrank : min 2 d.rank = d.rank := by
      unfold Delivery.rank
      repeat' split
      all_goals rfl
    simp [State.deliverOne, h, inLine, takeFirst, hrank]
  simp only [State.drain, h]
  rw [if_neg (by simp), hone]
  exact drain_nil _ _ _ hq

theorem guardOnUrgent_notices (done : Bool) (s : State) : (s.guardOnUrgent done).notices = s.notices :=
  guardOnUrgent_read (part := .notices) (by decide) _ _

/-- The guard takes the outcome of the close, and raises no notice. -/
theorem urgentTold_drain {v : State} (hn : v.notices = []) (done : Bool) :
    State.drain Config.pick Config.deliveryFuel ((v.updLine fun l => { l with urgent := none }).send .guard (.urgentOutcome done)) =
      (v.updLine fun l => { l with urgent := none }).guardOnUrgent done := by
  obtain ⟨u, hu⟩ : ∃ u, u = v.updLine fun l => { l with urgent := none } := ⟨_, rfl⟩
  have hun : u.notices = [] := hu ▸ hn
  have hcleared : ({ u.send .guard (.urgentOutcome done) with notices := [] } : State) = u := by
    rw [← hun]
    rfl
  have hdeliver : ({ u.send .guard (.urgentOutcome done) with notices := [] } : State).deliver ⟨.guard, .urgentOutcome done⟩ =
      u.guardOnUrgent done := by
    rw [hcleared]
    rfl
  rw [← hu, ← hdeliver]
  refine drain_single ?_ ?_ _ 399
  · show u.notices ++ _ = _
    rw [hun]
    rfl
  · rw [hdeliver, guardOnUrgent_notices, hun]

theorem urgentEnds_done (raw : RawReply) (s : State) : s.urgentEnds (.accepted .done raw) =
    (s.updLine fun l => { l with urgent := none }).send .guard (.urgentOutcome true) := rfl

theorem urgentEnds_failed {o : FieldOutcome} (h : ¬ ∃ raw, o = .accepted .done raw) (s : State) : s.urgentEnds o =
    (s.updLine fun l => { l with urgent := none }).send .guard (.urgentOutcome false) := by
  unfold State.urgentEnds
  split
  · exact absurd ⟨_, rfl⟩ h
  · rfl

/-- The end of the urgent close, in its cycle or past it. -/
theorem urgent_ends {s : State} {x : Transaction} {cmd : Instr} {o : FieldOutcome} {ends : Nat} (h : s.Ends x cmd o ends)
    (hw : x.work = .urgent) : ∃ (v : State) (done : Bool), (done = true ↔ ∃ raw, o = .accepted .done raw) ∧
      exec cmd s = .next ((v.updLine fun l => { l with urgent := none }).guardOnUrgent done).settle ∧
      (∀ p, p ∉ [Part.banks, .line, .out] → p.read v = p.read (s.advanceUs ends)) ∧
      (s.line.late = false → (∀ b, s.line.cycleStartUs = some b → max s.timeUs ends ≤ b + 250000) → v.banks = s.banks) := by
  obtain ⟨v, hv, hread, hbanks⟩ : ∃ v, (s.advanceUs ends).transactionEnds x o = workOutcome x o v ∧
      (∀ p, p ∉ [Part.banks, .line, .out] → p.read v = p.read (s.advanceUs ends)) ∧
      (s.line.late = false → (∀ b, s.line.cycleStartUs = some b → max s.timeUs ends ≤ b + 250000) → v.banks = s.banks) := by
    rcases transactionEnds_cases s x o ends with ⟨hpast, h'⟩ | ⟨-, h'⟩
    · refine ⟨_, h', fun p hp => overran_read hp x ends s, fun hl hc => ?_⟩
      rcases hpast with hpast | ⟨b, hb, hlt⟩
      · rw [hl] at hpast; cases hpast
      · exact absurd (hc b hb) (by omega)
    · exact ⟨_, h', fun p hp => landed_read (by rintro rfl; simp at hp) ends s, fun _ _ => landed_banks ends s⟩
  have hnotices : v.notices = [] := (hread .notices (by decide)).trans ((advanceUs_read (part := .notices) (by decide) ends s).trans h.ready.2)
  have hexec : exec cmd s = .next (State.drain Config.pick Config.deliveryFuel (v.urgentEnds o)).settle := by
    rw [exec_ends h, hv]
    simp only [workOutcome, hw]
  by_cases hd : ∃ raw, o = .accepted .done raw
  · obtain ⟨raw, rfl⟩ := hd
    exact ⟨v, true, by simp, by rw [hexec, urgentEnds_done, urgentTold_drain hnotices], hread, hbanks⟩
  · exact ⟨v, false, by simp [hd], by rw [hexec, urgentEnds_failed hd, urgentTold_drain hnotices], hread, hbanks⟩

/-- The guard's answer to a failed close: a retry 2 s later while its watch's deadline runs (R82). -/
theorem guardOnUrgent_guard (done : Bool) (s : State) :
    (done = true → (s.guardOnUrgent done).guard = s.guard) ∧
    (done = false → ∀ d r q, s.guard.watch = .running (some d) r q →
      (s.guardOnUrgent done).guard = { s.guard with watch := .running (some d) r (some (s.now + 2000)) }) ∧
    (done = false → (∀ d r q, s.guard.watch ≠ .running (some d) r q) → (s.guardOnUrgent done).guard = s.guard) := by
  refine ⟨fun hd => ?_, fun hd d r q hwatch => ?_, fun hd hwatch => ?_⟩
  · subst hd
    unfold State.guardOnUrgent
    rfl
  · subst hd
    simp only [State.guardOnUrgent, hwatch]
    rfl
  · unfold State.guardOnUrgent
    dsimp only
    split
    · next d r q hrun => exact absurd hrun (hwatch d r q)
    · rfl

/-- The end of any other transaction, once a cycle has begun, starts the close that waits. -/
theorem ends_closes {s : State} {u : UrgentClose} {x : Transaction} {cmd : Instr} {o : FieldOutcome} {ends : Nat} (hu : s.line.urgent = some u)
    (h : s.Ends x cmd o ends) (hw : x.work ≠ .urgent) (hc : s.line.cycleStartUs ≠ none) : ∃ t, exec cmd s = .next t ∧ t.Closes u := by
  obtain ⟨v, late, hv, hline⟩ : ∃ v late, (s.advanceUs ends).transactionEnds x o = workOutcome x o v ∧
      v.line = { s.line with inFlight := none, late := late } := by
    rcases transactionEnds_cases s x o ends with ⟨-, h'⟩ | ⟨-, h'⟩
    · exact ⟨_, _, h', overran_line x ends s⟩
    · exact ⟨_, _, h', landed_line ends s⟩
  have hidle : v.line.inFlight = none := by rw [hline]
  obtain ⟨hflight, -, -, hstart⟩ := drained_still (x := x) o hidle
  have hurgent := (urgent_acts u).drain Config.pick Config.deliveryFuel (workOutcome x o v)
    ((workOutcome_still hw o hidle).urgent.trans (by rw [hline]; exact hu))
  refine ⟨_, by rw [exec_ends h, hv], settle_closes hflight hurgent (.inr ?_)⟩
  rw [hstart, hline]
  exact hc

/-- On an idle line a cycle start starts the close that waits. -/
theorem cycleStart_closes {s : State} {u : UrgentClose} (hu : s.line.urgent = some u) (hs : s.Ready) (hl : s.line.late = false)
    (hf : s.line.inFlight = none) : ∃ t, exec .lineCycleStart s = .next t ∧ t.Closes u := by
  obtain ⟨hexec, -⟩ := exec_cycleStart hs hl hf
  obtain ⟨live, pass, h⟩ := slotsRunOut_line (slotsOver (s.advanceUs s.cycleDueUs)) (cycleBegun (s.advanceUs s.cycleDueUs))
  rw [← startCycle_eq] at h
  refine ⟨_, hexec, settle_closes ?_ ?_ (.inr ?_)⟩
  · rw [h]
    exact (congrArg LineBlock.inFlight (advanceUs_line _ s)).trans hf
  · rw [startCycle_urgent, advanceUs_line, hu]
  · rw [h]
    exact Option.some_ne_none _

/-- Settles O11: the cycle start on an idle line and behind a transaction, the overrun, the end of the urgent close, and its first turn. -/
theorem lineCycleStarts : Obligations.LineCycleStarts := by
  refine ⟨?_, fun s hs hl hf => cycleStart_waits hs hl hf, ?_, ?_, fun s u hu =>
    ⟨fun hs hl hf => cycleStart_closes hu hs hl hf, fun x cmd o ends h hw hc => ends_closes hu h hw hc⟩⟩
  · intro s hs hl hf
    obtain ⟨t, hexec, htime, hpicks, hkept⟩ := cycleStart_line hs hl hf
    have hcore := hpicks.core_getElem?
    obtain ⟨hrate, hlsb, hcycle, hstart, hlate, hslots, -⟩ := hpicks
    have hbegun : (cycleBegun (s.advanceUs s.cycleDueUs)).line = { s.line with
        cycle := s.line.cycle + 1
        cycleStartUs := some (max s.timeUs s.cycleDueUs)
        late := false
        rate := siteRate s.tables.siteSet
        lsbFirst := siteLsbFirst s.tables.siteSet
        slots := s.line.slots.filter fun x => decide (s.line.cycle + 1 < x.cycle + 9)
        live := livesAtCycle (s.advanceUs s.cycleDueUs).channelRecords (decide ((s.advanceUs s.cycleDueUs).supply.mode = .batteryLow)) 0
          s.line.live } := by
      rw [cycleBegun, updLine_line, advanceUs_line, advanceUs_tables, advanceUs_timeUs]
    rw [hbegun] at hrate hlsb hcycle hstart hlate hslots hcore
    refine ⟨t, hexec, hcycle, by rw [hstart, htime], htime, hrate, hlsb, hlate, hslots, fun i l hi hgo => ?_, hkept⟩
    have hi' := hcore i
    simp only [livesAtCycle_getElem?, hi, Option.map_some, running_atCycle hgo] at hi'
    obtain ⟨l', hl', hcore'⟩ := Option.map_eq_some_iff.1 hi'
    simp only [ChannelLive.core, Prod.mk.injEq] at hcore'
    obtain ⟨hgo', hmode, hcond, hfail, hcount, -⟩ := hcore'
    exact ⟨l', hl', hgo'.trans hgo, hcount, hfail, hcond, hmode⟩
  · intro s x cmd o ends h hpast
    obtain ⟨t, w, hexec, htime, hwtime, htables, hwcycle, hpicks, hbank, hkept⟩ := overrun_ends h hpast
    obtain ⟨hrate, hlsb, hcycle, hstart, hlate, -⟩ := hpicks
    refine ⟨t, hexec, htime, hcycle.trans (congrArg (· + 1) hwcycle), hstart.trans (congrArg some hwtime), hlate, hrate.trans ?_,
      hlsb.trans ?_, fun hw => ?_, fun hi hb => ?_, hkept⟩
    · rw [← htables]
      rfl
    · rw [← htables]
      rfl
    · rw [hbank, workOutcome_banks hw, overran_banks]
    · rw [hbank]
      exact workOutcome_overrun o (overran_overrun x ends hi hb)
  · intro s x cmd o ends done h hw hdone
    obtain ⟨v, d, hd, hexec, hread, hbanks⟩ := urgent_ends h hw
    obtain ⟨u, hu⟩ : ∃ u, u = v.updLine fun l => { l with urgent := none } := ⟨_, rfl⟩
    rw [← hu] at hexec
    have hguard : u.guard = s.guard := hu ▸ (hread .guard (by decide)).trans (advanceUs_read (part := .guard) (by decide) ends s)
    have hnow : u.now = (s.advanceUs ends).now := hu ▸ now_congr (hread .timeUs (by decide))
    have hguard' : (u.guardOnUrgent d).settle.guard = (u.guardOnUrgent d).guard := settle_read (part := .guard) (by decide) _
    have hline : (u.guardOnUrgent d).line.urgent = none := by
      have h' : (u.guardOnUrgent d).line = u.line := guardOnUrgent_read (part := .line) (by decide) _ _
      rw [h', hu]
      rfl
    obtain ⟨hg1, hg2, hg3⟩ := guardOnUrgent_guard d u
    rw [hguard, hnow] at hg2
    rw [hguard] at hg1 hg3
    have hfalse : ¬ done → d = false := fun hn => by
      rw [hdone, ← hd] at hn
      simpa using hn
    refine ⟨_, hexec, ?_, fun hy => hguard'.trans (hg1 (hd.2 (hdone.1 hy))), fun hn d' r q hwatch => hguard'.trans (hg2 (hfalse hn) d' r q hwatch),
      fun hn hwatch => hguard'.trans (hg3 (hfalse hn) hwatch), fun hl hc => ?_, ?_⟩
    · rcases settle_urgent (u.guardOnUrgent d) with h' | ⟨y, hy, -⟩
      · rw [h', hline]
      · rw [hline] at hy; cases hy
    · refine (settle_read (part := .banks) (by decide) _).trans ((guardOnUrgent_read (part := .banks) (by decide) _ _).trans ?_)
      rw [hu]
      exact hbanks hl hc
    · have hread' : ∀ p, p ∉ [Part.line, .out, .guard, .banks] → p.read (u.guardOnUrgent d) = p.read (s.advanceUs ends) := by
        intro p hp
        rw [guardOnUrgent_read (by simp_all), hu, updLine_read (by simp_all), hread p (by simp_all)]
      exact settle_kept _ _ _ hread' (congrArg Inputs.clearToSend (hread' .inputs (by decide)))
        (congrArg TrunkBlock.restartDue (hread' .trunk (by decide)))

end Sys2Proof.Laws
end

section
/-! SUPPORT. The notices that the blocks raise while they take those of an event (R65, R87, R103, R117, R121, R147, R179). Each operation
is stated as an equivalence, since it only appends such notices. -/

namespace Sys2Proof.Laws

open Sys2Proof.Machine

/-- An announcement of the supply mode, and the blocks that it may wait for (R179). -/
structure Announcement where
  mode : SupplyMode
  before : SupplyMode
  blocks : List BlockName

/-- The notices that wait while the blocks exchange those of an event: none reports a point, an urgent close, trip work, a lapse or the
tariff, and the FROST bank takes no fault; an inhibition is of the guard, of a bank or of a frozen kind alone; and the one
announcement of the supply mode, with the removals that it causes, is the one given, if any. -/
def Exchanged (sup : Option Announcement) (d : Delivery) : Prop :=
  match d.notice with
  | .points _ _ => False
  | .urgentOutcome _ => False
  | .tripWork _ _ => False
  | .lapse => False
  | .tariff _ => False
  | .supply mode before => ∃ x, sup = some x ∧ x.mode = mode ∧ x.before = before ∧ d.dest ∈ x.blocks
  | .inhibit add remove => ∀ r ∈ add ++ remove, r ∈ [Reason.guard, .bankHold, .frozenRiser, .frozenValve]
  | .frostBank _ _ => False
  | .command _ _ _ o => d.dest = .frost → sup.isSome = true ∧ o = .supply
  | _ => True

/-- Only such notices wait. -/
def Among (sup : Option Announcement) (s : State) : Prop := ∀ d ∈ s.notices, Exchanged sup d

section
variable {sup : Option Announcement} {s t : State}

theorem among_congr (hn : Part.notices.read t = Part.notices.read s) : Among sup t ↔ Among sup s := by
  have hn' : t.notices = s.notices := hn
  simp only [Among, hn']

end

section
variable (sup : Option Announcement) (s : State)

@[simp] theorem send_among (b : BlockName) (n : Notice) : Among sup (s.send b n) ↔ Among sup s ∧ Exchanged sup ⟨b, n⟩ := by
  simp only [Among, send_notices, List.mem_append, List.mem_singleton, or_imp, forall_and, forall_eq]

theorem broadcast_among (bs : List BlockName) (n : Notice) (hn : ∀ b, Exchanged sup ⟨b, n⟩) : Among sup (s.broadcast bs n) ↔ Among sup s := by
  refine ⟨fun h d hd => h d (List.mem_append_left _ hd), fun h d hd => ?_⟩
  rcases List.mem_append.1 hd with hd | hd
  · exact h d hd
  · obtain ⟨b, -, rfl⟩ := List.mem_map.1 hd
    exact hn b

/-! ### Operations that send nothing -/

@[simp] theorem updFill_among (g : FillBlock → FillBlock) : Among sup (s.updFill g) ↔ Among sup s := Iff.rfl
@[simp] theorem updGuard_among (g : GuardBlock → GuardBlock) : Among sup (s.updGuard g) ↔ Among sup s := Iff.rfl
@[simp] theorem updLevel_among (g : LevelBlock → LevelBlock) : Among sup (s.updLevel g) ↔ Among sup s := Iff.rfl
@[simp] theorem updFrost_among (g : FrostBlock → FrostBlock) : Among sup (s.updFrost g) ↔ Among sup s := Iff.rfl
@[simp] theorem updBanks_among (g : PerBank (Option FaultRecord) → PerBank (Option FaultRecord)) : Among sup (s.updBanks g) ↔ Among sup s := Iff.rfl
@[simp] theorem updLine_among (g : LineBlock → LineBlock) : Among sup (s.updLine g) ↔ Among sup s := Iff.rfl
@[simp] theorem updTelemetry_among (g : TelemetryBlock → TelemetryBlock) : Among sup (s.updTelemetry g) ↔ Among sup s := Iff.rfl
@[simp] theorem updZone_among (i : Nat) (g : ZoneState → ZoneState) : Among sup (s.updZone i g) ↔ Among sup s := Iff.rfl
@[simp] theorem setFill_among (st : FillState) (p : Option Purpose) : Among sup (s.setFill st p) ↔ Among sup s := Iff.rfl
@[simp] theorem askTripWork_among (e : TripEntry) : Among sup (s.askTripWork e) ↔ Among sup s := Iff.rfl
@[simp] theorem takeTopUp_among (fs : FillSet) : Among sup (s.takeTopUp fs) ↔ Among sup s := Iff.rfl
@[simp] theorem setRequests_among : Among sup s.setRequests ↔ Among sup s := Iff.rfl
@[simp] theorem zeroDemandHead_among : Among sup s.zeroDemandHead ↔ Among sup s := among_congr (zeroDemandHead_read (by decide) s)
@[simp] theorem queueDemand_among : Among sup s.queueDemand ↔ Among sup s := among_congr (queueDemand_read (by decide) s)
@[simp] theorem offer_among (c : Content) : Among sup (s.offer c) ↔ Among sup s := among_congr (offer_read (by decide) c s)
@[simp] theorem startWatch_among : Among sup s.startWatch ↔ Among sup s := among_congr (startWatch_read (by decide) s)

/-! ### Faults and the command list -/

theorem holdNotices_among {before : State} (h : before.holds .frost = s.holds .frost) :
    Among sup (State.holdNotices before s) ↔ Among sup s := by
  have hsend : ∀ n, (s.send .fill n).holds .frost = s.holds .frost := fun _ => rfl
  unfold State.holdNotices
  dsimp only
  repeat' split
  all_goals simp_all [Exchanged]

/-- A fault of another bank than FROST. -/
theorem fault_among {c : FaultCode} (hc : c.bank ≠ .frost) (x : Option Subject) : Among sup (s.fault c x) ↔ Among sup s := by
  have hlogged : ∀ r, (s.updBanks fun b => b.set c.bank (some r)).holds .frost = s.holds .frost := by
    intro r
    refine holds_congr (s := s) (t := s.updBanks fun b => b.set c.bank (some r)) rfl ?_
    show (s.banks.set c.bank (some r)).get .frost = _
    rw [PerBank.get_set, if_neg (Ne.symm hc)]
  unfold State.fault
  dsimp only
  split
  · exact Iff.rfl
  · split
    · refine (holdNotices_among _ _ ?_).trans (offer_among _ _ _)
      exact (hlogged _).symm
    · exact holdNotices_among _ _ (hlogged _).symm

@[simp] theorem removeCommand_among (a i : Nat) : Among sup (s.removeCommand a i) ↔ Among sup s :=
  Iff.rfl

@[simp] theorem placeCommand_among (a i f : Nat) (o : Origin) (t : Nat) : Among sup (s.placeCommand a i f o t).1 ↔ Among sup s := by
  unfold State.placeCommand
  dsimp only
  repeat' split
  all_goals exact Iff.rfl

@[simp] theorem placeUrgent_among : Among sup s.placeUrgent ↔ Among sup s := by
  unfold State.placeUrgent
  dsimp only
  repeat' split
  all_goals simp [Exchanged]

/-! ### The Level Unit and the guard -/

@[simp] theorem levelNotice_among (c d : Bool) : Among sup (s.levelNotice c d) ↔ Among sup s := broadcast_among sup s _ _ fun _ => trivial

@[simp] theorem judgeBeyond_among : Among sup s.judgeBeyond ↔ Among sup s := by
  unfold State.judgeBeyond
  dsimp only
  split
  · exact fault_among _ _ (by decide) _
  · exact Iff.rfl

@[simp] theorem recompute_among (g : GuardSet) (sample : Option Nat) : Among sup (s.recompute g sample) ↔ Among sup s := by
  unfold State.recompute
  dsimp only
  split
  · simp
  · split
    · next e =>
      have hbank : ∀ c x, conditionFault g (s.usableA g) (s.usableB g)
          (s.level.recompute s.tables.strapping g.agreeBand s.now (s.usableA g) (s.usableB g) sample).1.condition = some (c, x) →
          c.bank ≠ .frost := fun c x h => by rw [conditionFault_bank h]; decide
      simp [fault_among _ _ (hbank _ _ e)]
    · simp

@[simp] theorem levelOnHousing_among : Among sup s.levelOnHousing ↔ Among sup s := by
  unfold State.levelOnHousing
  split <;> simp

@[simp] theorem tellGuard_among : Among sup s.tellGuard ↔ Among sup s := by simp [State.tellGuard, Exchanged]

@[simp] theorem passFill_among (before : State) : Among sup (State.passFill before s) ↔ Among sup s := by
  unfold State.passFill
  split <;> simp [FillBlock.items, Exchanged]

@[simp] theorem guardZero_among : Among sup s.guardZero ↔ Among sup s := by simp [State.guardZero]

@[simp] theorem trip_among (c : TripCause) (lr : LevelRecord) : Among sup (s.trip c lr) ↔ Among sup s := by
  unfold State.trip
  dsimp only
  split
  · next e =>
    have hbank : _ ≠ Bank.frost := fun h => absurd ((tripFault_bank e).symm.trans h) (by decide)
    simp [fault_among _ _ hbank, Exchanged]
  · simp [Exchanged]

@[simp] theorem tripCondition_among (c : TripCause) (lr : LevelRecord) : Among sup (s.tripCondition c lr) ↔ Among sup s := by
  unfold State.tripCondition
  split <;> simp

@[simp] theorem anticipate_among : Among sup s.anticipate ↔ Among sup s := by
  unfold State.anticipate
  dsimp only
  split <;> simp [Exchanged]

@[simp] theorem rearmGuard_among : Among sup s.rearmGuard ↔ Among sup s := by simp [State.rearmGuard, Exchanged]

@[simp] theorem guardEvaluate_among (lr : LevelRecord) : Among sup (s.guardEvaluate lr) ↔ Among sup s := by
  unfold State.guardEvaluate
  dsimp only
  repeat' split
  all_goals simp [Exchanged]

@[simp] theorem levelHoldEnds_among : Among sup s.levelHoldEnds ↔ Among sup s := by simp [State.levelHoldEnds]

@[simp] theorem armHold_among (g : GuardSet) (since : Nat) : Among sup (s.armHold g since) ↔ Among sup s := by
  unfold State.armHold
  dsimp only
  split <;> simp

@[simp] theorem holdOnNotice_among (lr : LevelRecord) : Among sup (s.holdOnNotice lr) ↔ Among sup s := by
  unfold State.holdOnNotice
  repeat' split
  all_goals simp

@[simp] theorem guardOnLevel_among (lr : LevelRecord) : Among sup (s.guardOnLevel lr) ↔ Among sup s := by simp [State.guardOnLevel]

@[simp] theorem guardOnPipe_among (flag : Bool) : Among sup (s.guardOnPipe flag) ↔ Among sup s := by simp [State.guardOnPipe]

/-! ### The Fill Planner -/

@[simp] theorem setDemand_among (d : Nat) : Among sup (s.setDemand d) ↔ Among sup s := by
  unfold State.setDemand
  split <;> simp [Exchanged]

@[simp] theorem placeOpen_among : Among sup s.placeOpen ↔ Among sup s := by
  unfold State.placeOpen
  split <;> simp

@[simp] theorem placeClose_among : Among sup s.placeClose ↔ Among sup s := by
  unfold State.placeClose
  dsimp only
  repeat' split
  all_goals simp

@[simp] theorem closeSequence_among : Among sup s.closeSequence ↔ Among sup s := by
  unfold State.closeSequence
  dsimp only
  repeat' split
  all_goals simp

theorem fillEvent_among (f : State → State) (h : Among sup (f s) ↔ Among sup s) : Among sup (State.fillEvent f s) ↔ Among sup s := by
  simp [State.fillEvent, h]

@[simp] theorem enterClosing_among : Among sup s.enterClosing ↔ Among sup s := by simp [State.enterClosing]

@[simp] theorem enterHeld_among : Among sup s.enterHeld ↔ Among sup s := by simp [State.enterHeld]

@[simp] theorem enterOpening_among (p : Purpose) : Among sup (s.enterOpening p) ↔ Among sup s := by simp [State.enterOpening]

@[simp] theorem fillingDemand_among : Among sup s.fillingDemand ↔ Among sup s := by simp [State.fillingDemand]

@[simp] theorem windowDecision_among (turned : Bool) : Among sup (s.windowDecision turned) ↔ Among sup s := by
  unfold State.windowDecision
  dsimp only
  repeat' split
  all_goals simp

@[simp] theorem topUp_among (fs : FillSet) : Among sup (s.topUp fs) ↔ Among sup s := by
  unfold State.topUp
  split <;> simp

@[simp] theorem actOnPlan_among (fs : FillSet) (forced : Bool) : Among sup (s.actOnPlan fs forced) ↔ Among sup s := by
  unfold State.actOnPlan
  repeat' split
  all_goals simp

@[simp] theorem evaluatePlan_among (forced : Bool) : Among sup (s.evaluatePlan forced) ↔ Among sup s := by
  have hplanned : ∀ fs, Among sup (planned fs s) ↔ Among sup s := fun _ => Iff.rfl
  cases hf : s.tables.fillSet with
  | none => simp [State.evaluatePlan, hf]
  | some fs =>
    rw [evaluatePlan_some hf]
    split <;> simp [hplanned, fault_among (c := .shortfall) (hc := by decide)]

@[simp] theorem changeInhibit_among (add remove : List Reason) : Among sup (s.changeInhibit add remove) ↔ Among sup s := by
  unfold State.changeInhibit
  dsimp only
  repeat' split
  all_goals simp

@[simp] theorem turnoverBecomesDone_among : Among sup s.turnoverBecomesDone ↔ Among sup s := by
  unfold State.turnoverBecomesDone
  dsimp only
  split <;> simp

@[simp] theorem fillOnLevelState_among (fs : FillSet) (lr : LevelRecord) : Among sup (State.fillOnLevelState fs lr s) ↔ Among sup s := by
  unfold State.fillOnLevelState
  dsimp only
  repeat' split
  all_goals simp

@[simp] theorem fillOnLevel_among (lr : LevelRecord) : Among sup (s.fillOnLevel lr) ↔ Among sup s := by
  unfold State.fillOnLevel
  dsimp only
  repeat' split
  all_goals simp

@[simp] theorem closeConfirmed_among : Among sup s.closeConfirmed ↔ Among sup s := by
  unfold State.closeConfirmed
  dsimp only
  repeat' split
  all_goals simp

@[simp] theorem fillOnCommand_among (target : Nat) (o : CommandOutcome) : Among sup (s.fillOnCommand target o) ↔ Among sup s := by
  unfold State.fillOnCommand
  dsimp only
  repeat' split
  all_goals simp

/-! ### The Frost Unit -/

@[simp] theorem placeHeater_among (i : Nat) (r : ZoneRecord) : Among sup (s.placeHeater i r) ↔ Among sup s := by
  unfold State.placeHeater
  dsimp only
  repeat' split
  all_goals simp

theorem overZones_among {f : Nat → ZoneRecord → State → State} (hf : ∀ i r u, Among sup (f i r u) ↔ Among sup u) (rs : List ZoneRecord)
    (i : Nat) : Among sup (overZones f i rs s) ↔ Among sup s := by
  induction rs generalizing i s with
  | nil => exact Iff.rfl
  | cons r rs ih => exact (ih (f i r s) (i + 1)).trans (hf i r s)

@[simp] theorem allocate_among : Among sup s.allocate ↔ Among sup s :=
  overZones_among sup (s.updFrost fun b => { b with zones := setGranted s.grantedZones 0 b.zones }) (fun i r u => placeHeater_among sup u i r) _ 0

@[simp] theorem frostFlags_among : Among sup s.frostFlags ↔ Among sup s := by
  have hriser : ∀ b, Exchanged sup ⟨.fill, reasonNotice b .frozenRiser⟩ := fun b => by cases b <;> simp [reasonNotice, Exchanged]
  have hvalve : ∀ b, Exchanged sup ⟨.fill, reasonNotice b .frozenValve⟩ := fun b => by cases b <;> simp [reasonNotice, Exchanged]
  have hpipe : ∀ b, Exchanged sup ⟨.guard, .overflowPipe b⟩ := fun _ => trivial
  have hhousing : Exchanged sup ⟨.level, .housing⟩ := trivial
  have hwatch : ∀ b, Exchanged sup ⟨.fill, .frostWatch b⟩ := fun _ => trivial
  unfold State.frostFlags
  dsimp only
  repeat' split
  all_goals simp [hriser, hvalve, hpipe, hhousing, hwatch]

@[simp] theorem frostSettle_among (before : State) (calls : Bool) : Among sup (State.frostSettle before calls s) ↔ Among sup s := by
  unfold State.frostSettle State.passFrost
  dsimp only
  repeat' split
  all_goals simp [FrostBlock.items, Exchanged]

@[simp] theorem frostOnCommand_among (a i target : Nat) (o : CommandOutcome) : Among sup (s.frostOnCommand a i target o) ↔ Among sup s := by
  unfold State.frostOnCommand
  dsimp only
  split <;> simp

@[simp] theorem setBudget_among (calls : Bool) : Among sup (s.setBudget calls) ↔ Among sup s := by simp [State.setBudget]

@[simp] theorem frostOnSupply_among (mode before : SupplyMode) : Among sup (s.frostOnSupply mode before) ↔ Among sup s := by
  unfold State.frostOnSupply
  repeat' split
  all_goals simp

/-! ### The line -/

theorem lineOnSupply_among (h : sup.isSome = true) (mode : SupplyMode) : Among sup (s.lineOnSupply mode) ↔ Among sup s := by
  have hgone : ∀ (es : List CommandEntry) (u : State),
      Among sup (es.foldl (fun s e => (s.removeCommand e.address e.item).tellOrigin e .supply) u) ↔ Among sup u := by
    intro es
    induction es with
    | nil => exact fun _ => Iff.rfl
    | cons e es ih => exact fun u => (ih _).trans (by simp [State.tellOrigin, Exchanged, h])
  unfold State.lineOnSupply
  split
  · exact Iff.rfl
  · exact hgone _ s

end

/-! ### Deliveries -/

/-- A block that takes such a notice raises none but such notices. -/
theorem deliver_among {sup : Option Announcement} {d : Delivery} (hd : Exchanged sup d) (s : State) :
    Among sup (s.deliver d) ↔ Among sup s := by
  obtain ⟨dest, n⟩ := d
  have hevent : ∀ (f : State → State), (∀ u, Among sup (f u) ↔ Among sup u) → (Among sup (State.fillEvent f s) ↔ Among sup s) :=
    fun f hf => fillEvent_among sup s f (hf s)
  cases dest with
  | level => cases n <;> first | exact Iff.rfl | exact levelOnHousing_among sup s | cases hd
  | guard =>
    cases n with
    | level lr _ _ => exact guardOnLevel_among sup s lr
    | overflowPipe flag => exact guardOnPipe_among sup s flag
    | evaluate => exact guardEvaluate_among sup s _
    | points | urgentOutcome | tripWork => cases hd
    | _ => exact Iff.rfl
  | fill =>
    cases n with
    | level lr _ _ => exact hevent _ fun u => fillOnLevel_among sup u lr
    | inhibit add remove => exact hevent _ fun u => changeInhibit_among sup u add remove
    | command _ _ target o => exact hevent _ fun u => fillOnCommand_among sup u target o
    | supply mode _ =>
      refine fillEvent_among sup s _ ?_
      split <;> simp
    | frostWatch watch =>
      refine fillEvent_among sup s _ ?_
      split <;> simp
    | lapse => cases hd
    | _ => exact Iff.rfl
  | frost =>
    cases n with
    | command a i target o => exact frostOnCommand_among sup s a i target o
    | supply mode before => exact frostOnSupply_among sup s mode before
    | points | tariff | frostBank => cases hd
    | _ => exact Iff.rfl
  | line =>
    cases n with
    | supply mode _ =>
      obtain ⟨x, hx, -⟩ := hd
      exact lineOnSupply_among sup s (by rw [hx]; rfl) mode
    | points => cases hd
    | _ => exact Iff.rfl
  | telemetry => exact among_congr (telemetryTakes_read (by decide) _ _)
  | store => exact among_congr (storeTakes_read (by decide) _ _)

/-- A property of the state that no delivery of such notices takes away holds after them. -/
theorem drain_among {sup : Option Announcement} {P : State → Prop}
    (hcongr : ∀ (s : State) ns n, P s → P { s with notices := ns, draws := n })
    (hP : ∀ (d : Delivery) (s : State), Exchanged sup d → P s → P (s.deliver d)) (pick : Nat → Nat) (fuel : Nat) (s : State)
    (hg : Among sup s) (h : P s) : P (State.drain pick fuel s) := by
  induction fuel generalizing s with
  | zero => exact h
  | succ fuel ih =>
    simp only [State.drain]
    split
    · exact h
    · rcases deliverOne_cases pick s with e | ⟨d, others, draws, hd, hothers, -, e⟩
      · rw [e]; exact ih s hg h
      · have hrest : Among sup { s with notices := others, draws := draws } := fun x hx => hg x (hothers x hx)
        rw [e]
        exact ih _ ((deliver_among (hg d hd) _).2 hrest) (hP d _ (hg d hd) (hcongr s others draws h))

end Sys2Proof.Laws
end

section
/-! SUPPORT. What the notices that the blocks exchange do to the Fill Planner's inhibit set (R103, R104, R105), and what an allocation does to
a zone whose heater is FAILED (R120, R121). -/

namespace Sys2Proof.Laws

open Sys2Proof.Machine

/-! ### The inhibit set through the exchanged notices -/

theorem fillEvent_heldKept (f : State → State) (s : State) : HeldKept (f s).fill (State.fillEvent f s).fill := by
  obtain ⟨owed, placed, wait, aim, h⟩ := fillEvent_fill f s
  rw [h]
  exact ⟨rfl, fun hh => ⟨hh, rfl, rfl⟩⟩

theorem fillOnCommand_heldKept (target : Nat) {o : CommandOutcome} (ho : o ≠ .failed) (s : State) :
    HeldKept s.fill (s.fillOnCommand target o).fill := by
  have hsame : ∀ f : FillBlock → FillBlock, HeldKept s.fill (f s.fill) → HeldKept s.fill (s.updFill f).fill := fun _ h => h
  have hclear : HeldKept s.fill (s.updFill fun f => { f with closeOwed := false, closePlaced := false, stopWait := none, stopAt := none }).fill :=
    hsame _ ⟨rfl, fun h => ⟨h, rfl, rfl⟩⟩
  have hagain : HeldKept s.fill (if s.fill.state = .opening then s.updFill fun f => { f with openWanted := true } else s).fill := by
    split
    · exact hsame _ ⟨rfl, fun h => ⟨h, rfl, rfl⟩⟩
    · exact .refl _
  unfold State.fillOnCommand
  dsimp only
  split
  · split
    · exact hsame _ ⟨rfl, fun h => ⟨h, rfl, rfl⟩⟩
    · exact .refl _
  · split
    · exact closeConfirmed_heldKept s
    · split
      · next hs =>
        obtain ⟨tag, timer, had, hfill⟩ := setDemand_fill (if s.guard.state = .armed then s.fill.numbers.k else 0)
          (s.setFill .filling s.fill.purpose)
        exact .of_inhibit (congrArg FillBlock.inhibit hfill :) (by simp [hs])
      · exact .refl _
  · exact absurd rfl ho
  · exact hclear
  · split
    · exact hclear
    · exact hagain
  · split
    · exact .refl _
    · exact hagain
  · exact .refl _

/-- The reasons that the exchanged notices take out of the set, the battery's only with an announcement of the mains. -/
def Leaves (sup : Option Announcement) (r : Reason) : Prop :=
  r ∈ [Reason.guard, .bankHold, .frozenRiser, .frozenValve] ∨ (r = .battery ∧ ∃ x, sup = some x ∧ x.mode = .mains)

/-- The reasons that they add, the battery's only with an announcement of another mode. -/
def Joins (sup : Option Announcement) (r : Reason) : Prop :=
  r ∈ [Reason.guard, .bankHold, .frozenRiser, .frozenValve] ∨ r = .valveFault ∨
    (r = .battery ∧ ∃ x, sup = some x ∧ x.mode ≠ .mains)

/-- What an exchanged notice does to the fill: nothing to its inhibit set, the zero demand of the guard, or one change of the set. -/
inductive FillMoves (sup : Option Announcement) (b0 b : FillBlock) : Prop
  | kept (h : HeldKept b0 b)
  | zeroed (h : Zeroed b0 b)
  | changed (u : State) (add remove : List Reason) (hu : HeldKept b0 u.fill) (h : HeldKept (u.changeInhibit add remove).fill b)
      (hadd : ∀ r ∈ add, Joins sup r) (hremove : ∀ r ∈ remove, Leaves sup r)

theorem deliver_fill {sup : Option Announcement} {d : Delivery} (hd : Exchanged sup d) (s : State) :
    FillMoves sup s.fill (s.deliver d).fill := by
  have hother : ∀ t : State, Part.fill.read t = Part.fill.read s → FillMoves sup s.fill t.fill := by
    intro t ht
    have ht' : t.fill = s.fill := ht
    rw [ht']
    exact .kept (.refl _)
  obtain ⟨dest, n⟩ := d
  cases dest with
  | level => exact hother _ (levelTakes_read (by decide) n s)
  | guard =>
    cases n with
    | level lr _ _ => exact .zeroed (guardOnLevel_zeroed s lr)
    | overflowPipe flag => exact .zeroed (guardEvaluate_zeroed (s.updGuard fun b => { b with frostExtra := flag }) _)
    | evaluate => exact .zeroed (guardEvaluate_zeroed s _)
    | points | urgentOutcome | tripWork => cases hd
    | _ => exact .kept (.refl _)
  | fill =>
    cases n with
    | level lr _ _ => exact .kept ((fillOnLevel_heldKept s lr).trans (fillEvent_heldKept _ s))
    | inhibit add remove =>
      have hd' : ∀ r ∈ add ++ remove, r ∈ [Reason.guard, .bankHold, .frozenRiser, .frozenValve] := hd
      exact .changed s add remove (.refl _) (fillEvent_heldKept _ s) (fun r hr => .inl (hd' r (List.mem_append_left _ hr)))
        fun r hr => .inl (hd' r (List.mem_append_right _ hr))
    | command a i target o =>
      by_cases ho : o = .failed
      · subst ho
        refine .changed (s.updFill fun f => { f with closePlaced := false, closeOwed := true }) [.valveFault] []
          ⟨rfl, fun h => ⟨h, rfl, rfl⟩⟩ (fillEvent_heldKept (State.fillOnCommand target .failed) s)
          (fun r hr => .inr (.inl (List.mem_singleton.1 hr))) (by simp)
      · exact .kept ((fillOnCommand_heldKept target ho s).trans (fillEvent_heldKept _ s))
    | supply mode before =>
      obtain ⟨x, hx, hmode, -⟩ := hd
      show FillMoves sup s.fill (State.fillEvent _ s).fill
      by_cases hm : mode = .mains
      · subst hm
        exact .changed s [] [.battery] (.refl _) (fillEvent_heldKept _ s) (by simp)
          fun r hr => .inr ⟨List.mem_singleton.1 hr, x, hx, hmode⟩
      · rw [if_neg hm]
        exact .changed s [.battery] [] (.refl _) (fillEvent_heldKept _ s)
          (fun r hr => .inr (.inr ⟨List.mem_singleton.1 hr, x, hx, hmode ▸ hm⟩)) (by simp)
    | frostWatch watch =>
      refine .kept (HeldKept.trans ?_ (fillEvent_heldKept _ s))
      split
      · next hw => exact .of_inhibit (windowDecision_ordered _ s).inhibit (by simp [hw.2])
      · exact .refl _
    | lapse => cases hd
    | _ => exact .kept (.refl _)
  | frost => exact hother _ (frostTakes_read (by decide) n s)
  | line => exact hother _ (lineTakes_read (by decide) n s)
  | telemetry => exact hother _ (telemetryTakes_read (by decide) n s)
  | store => exact hother _ (storeTakes_read (by decide) n s)

theorem mem_inhibitAfter {add remove rs : List Reason} {r : Reason} :
    r ∈ inhibitAfter add remove rs ↔ (r ∈ rs ∨ r ∈ add) ∧ r ∉ remove := by
  have hall : r ∈ Reason.all := by cases r <;> decide
  simp [inhibitAfter, hall]

theorem changeInhibit_inhibit (add remove : List Reason) (s : State) :
    (s.changeInhibit add remove).fill.inhibit = inhibitAfter add remove s.fill.inhibit := by
  have hevaluated : ∀ u : State, (u.evaluatePlan false).fill.inhibit = u.fill.inhibit := fun u => (evaluatePlan_evaluated false u).inhibit
  have hheld : ∀ u : State, u.enterHeld.fill.inhibit = u.fill.inhibit := by
    intro u
    obtain ⟨tag, timer, had, hfill⟩ := setDemand_fill 0 (u.setFill .held none)
    exact (congrArg FillBlock.inhibit hfill :)
  unfold State.changeInhibit
  dsimp only
  repeat' split
  · rfl
  · exact hevaluated _
  · exact hheld _
  · rfl

/-- The reason stands in the inhibit set, and where `c` says so the fill is HELD with a demand of 0. -/
def Inhibited (r : Reason) (c : Prop) (b : FillBlock) : Prop := r ∈ b.inhibit ∧ (c → b.state = .held ∧ b.demand = 0)

section
variable {sup : Option Announcement} {r : Reason} {c : Prop}

theorem Inhibited.keep {b0 b : FillBlock} (h : Inhibited r c b0) (hk : HeldKept b0 b) : Inhibited r c b := by
  refine ⟨by rw [hk.inhibit]; exact h.1, fun hc => ?_⟩
  obtain ⟨hstate, hdemand⟩ := h.2 hc
  obtain ⟨h1, h2, -⟩ := hk.held hstate
  exact ⟨h1, h2.trans hdemand⟩

theorem Inhibited.change {s : State} (h : Inhibited r c s.fill) (add : List Reason) {remove : List Reason} (hr : r ∉ remove) :
    Inhibited r c (s.changeInhibit add remove).fill := by
  have hin : r ∈ inhibitAfter add remove s.fill.inhibit := mem_inhibitAfter.2 ⟨.inl h.1, hr⟩
  unfold State.changeInhibit
  dsimp only
  rw [if_neg (List.ne_nil_of_mem hin), if_neg (List.ne_nil_of_mem h.1)]
  exact ⟨hin, h.2⟩

/-- The reason joins the set: the fill enters HELD where the set was empty, and stays as it is otherwise (R103, R104). -/
theorem changeInhibit_inhibits {s : State} (hc : c → s.fill.inhibit ≠ [] → s.fill.state = .held ∧ s.fill.demand = 0) :
    Inhibited r c (s.changeInhibit [r] []).fill := by
  have hin : r ∈ inhibitAfter [r] [] s.fill.inhibit := mem_inhibitAfter.2 ⟨.inr (List.mem_singleton.2 rfl), List.not_mem_nil⟩
  unfold State.changeInhibit
  dsimp only
  rw [if_neg (List.ne_nil_of_mem hin)]
  split
  · obtain ⟨tag, timer, had, hfill⟩ := setDemand_fill 0
      ((s.updFill fun f => { f with inhibit := inhibitAfter [r] [] s.fill.inhibit }).setFill .held none)
    rw [State.enterHeld, hfill]
    exact ⟨hin, fun _ => ⟨rfl, rfl⟩⟩
  · next hne => exact ⟨hin, fun h => hc h hne⟩

theorem FillMoves.inhibited {b0 b : FillBlock} (hm : FillMoves sup b0 b) (hr : ¬ Leaves sup r) (h : Inhibited r c b0) : Inhibited r c b := by
  cases hm with
  | kept hk => exact h.keep hk
  | zeroed hz =>
    obtain rfl | ⟨tag, timer, rfl⟩ := hz
    · exact h
    · exact ⟨h.1, fun hc => ⟨(h.2 hc).1, rfl⟩⟩
  | changed u add remove hu hk hadd hremove => exact ((h.keep hu).change add fun hin => hr (hremove r hin)).keep hk

/-- A reason that the exchanged notices do not take out stays in the set. -/
theorem drain_inhibited (hr : ¬ Leaves sup r) (pick : Nat → Nat) (fuel : Nat) {s : State} (hg : Among sup s) (h : Inhibited r c s.fill) :
    Inhibited r c (State.drain pick fuel s).fill :=
  drain_among (P := fun s => Inhibited r c s.fill) (fun _ _ _ h => h) (fun _ s hd h => (deliver_fill hd s).inhibited hr h) pick fuel s hg h

end

/-! ### An allocation grants no FAILED heater (R120, R122) -/

theorem mem_grants {j : Nat} : ∀ {left : Nat} {xs : List Candidate}, j ∈ grants left xs → ∃ x ∈ xs, x.index = j := by
  intro left xs
  induction xs generalizing left with
  | nil => exact fun h => by simp [grants] at h
  | cons x xs ih =>
    intro h
    simp only [grants] at h
    split at h
    · rcases List.mem_cons.1 h with rfl | h
      · exact ⟨x, List.mem_cons_self, rfl⟩
      · obtain ⟨y, hy, hj⟩ := ih h
        exact ⟨y, List.mem_cons_of_mem _ hy, hj⟩
    · obtain ⟨y, hy, hj⟩ := ih h
      exact ⟨y, List.mem_cons_of_mem _ hy, hj⟩

theorem mem_insertCandidate {x y : Candidate} : ∀ {xs : List Candidate}, y ∈ insertCandidate x xs → y = x ∨ y ∈ xs := by
  intro xs
  induction xs with
  | nil => exact fun h => .inl (by simpa [insertCandidate] using h)
  | cons z zs ih =>
    intro h
    simp only [insertCandidate] at h
    split at h
    · exact List.mem_cons.1 h
    · rcases List.mem_cons.1 h with rfl | h
      · exact .inr List.mem_cons_self
      · exact (ih h).imp id (List.mem_cons_of_mem _)

theorem mem_sortCandidates {y : Candidate} {xs : List Candidate} (h : y ∈ sortCandidates xs) : y ∈ xs := by
  induction xs with
  | nil => exact h
  | cons x xs ih =>
    rcases mem_insertCandidate h with rfl | h
    · exact List.mem_cons_self
    · exact List.mem_cons_of_mem _ (ih h)

theorem mem_candidatesFrom {temp : ZoneRecord → Option Int} {x : Candidate} : ∀ {i : Nat} {rs : List ZoneRecord} {zs : List ZoneState},
    x ∈ candidatesFrom temp i rs zs → ∃ k z, x.index = i + k ∧ zs[k]? = some z ∧ z.request = true ∧ z.heater.isFailed = false := by
  intro i rs
  induction rs generalizing i with
  | nil => exact fun h => by simp [candidatesFrom] at h
  | cons r rs ih =>
    intro zs h
    cases zs with
    | nil => simp [candidatesFrom] at h
    | cons z zs =>
      have hrest : x ∈ candidatesFrom temp (i + 1) rs zs → ∃ k y, x.index = i + k ∧ (z :: zs)[k]? = some y ∧ y.request = true ∧
          y.heater.isFailed = false := fun h => by
        obtain ⟨k, y, hk, hy, hrequest, hfailed⟩ := ih h
        exact ⟨k + 1, y, by rw [hk]; omega, hy, hrequest, hfailed⟩
      simp only [candidatesFrom] at h
      split at h
      · next hz =>
        rcases List.mem_cons.1 h with rfl | h
        · rw [Bool.and_eq_true] at hz
          exact ⟨0, z, rfl, rfl, hz.1, by simpa using hz.2⟩
        · exact hrest h
      · exact hrest h

theorem grantedZones_notFailed {s : State} {j : Nat} {z : ZoneState} (hz : s.frost.zones[j]? = some z) (hf : z.heater.isFailed = true) :
    j ∉ s.grantedZones := by
  intro hj
  obtain ⟨x, hx, rfl⟩ := mem_grants hj
  obtain ⟨k, y, hk, hy, -, hfailed⟩ := mem_candidatesFrom (mem_sortCandidates hx)
  rw [hk, Nat.zero_add] at hz
  rw [hz] at hy
  cases hy
  rw [hf] at hfailed
  cases hfailed

theorem setGranted_getElem? (gs : List Nat) : ∀ (i : Nat) (zs : List ZoneState) (j : Nat),
    (setGranted gs i zs)[j]? = (zs[j]?).map fun z => { z with granted := gs.contains (i + j) } := by
  intro i zs
  induction zs generalizing i with
  | nil => exact fun _ => rfl
  | cons z zs ih =>
    intro j
    cases j with
    | zero => rfl
    | succ j => rw [setGranted, List.getElem?_cons_succ, List.getElem?_cons_succ, ih, Nat.add_right_comm, Nat.add_assoc]

/-- The zone's heater is as given and its grant is gone. -/
def Ungranted (j : Nat) (h : Heater) (b : FrostBlock) : Prop := ∃ z, b.zones[j]? = some z ∧ z.heater = h ∧ z.granted = false

theorem updZone_frost (i : Nat) (f : ZoneState → ZoneState) (s : State) :
    (s.updZone i f).frost = { s.frost with zones := s.frost.zones.modify i f } := rfl

/-- A heater's turn leaves a FAILED heater without a grant as it is. -/
theorem placeHeater_ungranted {j : Nat} {h : Heater} (hf : h.isFailed = true) (i : Nat) (r : ZoneRecord) {s : State}
    (hu : Ungranted j h s.frost) : Ungranted j h (s.placeHeater i r).frost := by
  have hmodify : ∀ (u : State) (f : ZoneState → ZoneState), u.frost = s.frost →
      (i = j → ∀ z, z.heater = h → z.granted = false → (f z).heater = h ∧ (f z).granted = false) → Ungranted j h (u.updZone i f).frost := by
    intro u f hfrost hkeep
    obtain ⟨z, hz, hheater, hgranted⟩ := hu
    rw [updZone_frost, hfrost]
    by_cases hij : i = j
    · obtain ⟨h1, h2⟩ := hkeep hij z hheater hgranted
      refine ⟨f z, ?_, h1, h2⟩
      rw [List.getElem?_modify, hz]
      simp [hij]
    · refine ⟨z, ?_, hheater, hgranted⟩
      rw [List.getElem?_modify, hz]
      simp [hij]
  unfold State.placeHeater
  split
  · exact hu
  · next y hy =>
    split
    · exact hmodify s _ rfl fun _ z h1 h2 => ⟨h1, h2⟩
    · next target hcalled =>
      refine hmodify _ _ (placeCommand_read (part := .frost) (by decide) _ _ _ _ _ _) fun hij => ?_
      obtain ⟨z, hz, hheater, hgranted⟩ := hu
      rw [← hij, hy] at hz
      cases hz
      rw [ZoneState.called, hgranted, hheater] at hcalled
      cases h <;> cases hf
      cases hcalled

theorem allocate_ungranted {j : Nat} {h : Heater} (hf : h.isFailed = true) {s : State} {z : ZoneState} (hz : s.frost.zones[j]? = some z)
    (hh : z.heater = h) : Ungranted j h s.allocate.frost := by
  have hstart : Ungranted j h (s.updFrost fun b => { b with zones := setGranted s.grantedZones 0 b.zones }).frost := by
    refine ⟨{ z with granted := s.grantedZones.contains (0 + j) }, ?_, hh, ?_⟩
    · show (setGranted s.grantedZones 0 s.frost.zones)[j]? = _
      rw [setGranted_getElem?, hz]
      rfl
    · have hnot := grantedZones_notFailed hz (hh ▸ hf)
      simpa using hnot
  have hplaced := overZones_induct (fun u => Ungranted j h u.frost) State.placeHeater s.zoneRecords 0 _
    (fun k r u _ hu => placeHeater_ungranted hf (0 + k) r hu) hstart
  obtain ⟨z', hz', hheater, hgranted⟩ := hplaced
  have hdefer : ∀ (mains : Bool) (now : Nat) (y : ZoneState), (y.defer mains now).heater = y.heater := by
    intro mains now y
    unfold ZoneState.defer
    repeat' split
    all_goals rfl
  obtain ⟨v, hv⟩ : ∃ v, v = overZones State.placeHeater 0 s.zoneRecords
      (s.updFrost fun b => { b with zones := setGranted s.grantedZones 0 b.zones }) := ⟨_, rfl⟩
  rw [← hv] at hz'
  have hallocate : s.allocate.frost.zones = v.frost.zones.map (ZoneState.defer (decide (v.supply.mode = .mains)) v.now) := by rw [hv]; rfl
  refine ⟨z'.defer (decide (v.supply.mode = .mains)) v.now, ?_, (hdefer _ _ z').trans hheater, (defer_granted _ _ z').trans hgranted⟩
  rw [hallocate, List.getElem?_map, hz']
  rfl

end Sys2Proof.Laws
end

section
/-! PROOFS. A confirm deadline that runs out (R40, R105, R122): the attempt counted, or the command failed and its origin told, and O16. -/

namespace Sys2Proof.Laws

open Sys2Proof.Machine

/-! ### The first notice of an event -/

/-- The one notice that waits is taken first. -/
theorem drain_first {s : State} {d : Delivery} (h : s.notices = [d]) (pick : Nat → Nat) (fuel : Nat) :
    State.drain pick (fuel + 1) s = State.drain pick fuel (({ s with notices := [] } : State).deliver d) := by
  have hone : s.deliverOne pick = ({ s with notices := [] } : State).deliver d := by
    have hrank : min 2 d.rank = d.rank := by
      unfold Delivery.rank
      repeat' split
      all_goals rfl
    simp [State.deliverOne, h, inLine, takeFirst, hrank]
  rw [State.drain, h, if_neg (by simp), hone]

theorem concluded_single {s : State} {d : Delivery} (h : s.notices = [d]) :
    concluded s = (State.drain Config.pick 399 (({ s with notices := [] } : State).deliver d)).settle :=
  congrArg State.settle (drain_first h Config.pick 399)

/-- Without an announcement of the supply mode no exchanged notice reaches the Frost Unit. -/
theorem deliver_frost {d : Delivery} (hd : Exchanged none d) (s : State) : (s.deliver d).frost = s.frost := by
  obtain ⟨dest, n⟩ := d
  cases dest with
  | frost =>
    cases n with
    | command => exact absurd (hd rfl).1 (by decide)
    | supply =>
      obtain ⟨_, hnone, -⟩ := hd
      cases hnone
    | points | tariff | frostBank => cases hd
    | _ => rfl
  | level => exact levelTakes_read (part := .frost) (by decide) n s
  | guard => exact guardTakes_read (part := .frost) (by decide) n s
  | fill => exact fillTakes_read (part := .frost) (by decide) n s
  | line => exact lineTakes_read (part := .frost) (by decide) n s
  | telemetry => exact telemetryTakes_read (part := .frost) (by decide) n s
  | store => exact storeTakes_read (part := .frost) (by decide) n s

theorem drain_frost (pick : Nat → Nat) (fuel : Nat) {s : State} (hg : Among none s) : (State.drain pick fuel s).frost = s.frost :=
  drain_among (P := fun u => u.frost = s.frost) (fun _ _ _ h => h) (fun _ u hd h => (deliver_frost hd u).trans h) pick fuel s hg rfl

/-! ### The origin of a failed command (R105, R122) -/

/-- The flags of R117 leave the zones. -/
theorem frostFlags_zones (s : State) : s.frostFlags.frost.zones = s.frost.zones := by
  unfold State.frostFlags
  dsimp only
  repeat' split
  all_goals rfl

/-- A GOOD value of a kind turns on the tables and the points alone. -/
theorem goodOfKind_congr {s t : State} (htables : Part.tables.read t = Part.tables.read s) (hpoints : Part.points.read t = Part.points.read s)
    (k : PointKind) (i : Nat) : t.goodOfKind k i = s.goodOfKind k i := by
  have htables' : t.tables = s.tables := htables
  have hpoints' : t.points = s.points := hpoints
  have hrecord : t.pointRecord i = s.pointRecord i := by rw [State.pointRecord, State.pointRecord, htables']
  have hvalue : t.goodValue i = s.goodValue i := by rw [State.goodValue, State.goodValue, State.point, State.point, hpoints']
  rw [State.goodOfKind, State.goodOfKind, hrecord, hvalue]

theorem zoneFeedback_congr {s t : State} (htables : Part.tables.read t = Part.tables.read s) (hpoints : Part.points.read t = Part.points.read s)
    (r : ZoneRecord) : t.zoneFeedback r = s.zoneFeedback r := goodOfKind_congr htables hpoints _ _

/-- The Frost Unit marks the heater of a failed command with the feedback seen, and the allocation that follows grants it nothing (R122). -/
theorem frostOnCommand_failed {s : State} {a i j : Nat} {r : ZoneRecord} {z : ZoneState} (target : Nat)
    (hj : s.zoneRecords.findIdx? (fun r => r.heaterAddress == a && r.heaterItem == i) = some j) (hr : s.zoneRecords[j]? = some r)
    (hz : s.frost.zones[j]? = some z) : Ungranted j (.failed (s.zoneFeedback r)) (s.frostOnCommand a i target .failed).frost := by
  obtain ⟨u, hu⟩ : ∃ u, u = (s.updZone j (ZoneState.outcome (target == 1) .failed (s.zoneFeedback r))).frostFlags := ⟨_, rfl⟩
  have hfrost : (s.frostOnCommand a i target .failed).frost = u.allocate.frost := by
    rw [State.frostOnCommand, hj, hu]
    dsimp only
    rw [hr]
    exact passFrost_read (part := .frost) (by decide) _ _
  rw [hfrost]
  refine allocate_ungranted rfl (z := z.outcome (target == 1) .failed (s.zoneFeedback r)) ?_ rfl
  rw [hu, frostFlags_zones, updZone_frost]
  show (s.frost.zones.modify j _)[j]? = _
  rw [List.getElem?_modify, hz]
  simp

/-! ### The third failed step (R40) -/

/-- The third failure tells the origin alone. -/
theorem commandFails_notices {e : CommandEntry} (h : ¬ e.attempts + 1 < 3) (s : State) : (s.commandFails e).notices = s.notices ++ [told .failed e] := by
  rw [commandFails_third h]
  show (State.fault .commandFailed (some (.address e.address)) (s.removeCommand e.address e.item)).notices ++ [told .failed e] = _
  rw [fault_line_notices rfl]
  rfl

/-- The fill is inhibited by VALVE_FAULT after its command failed. -/
theorem commandFails_fill {e : CommandEntry} (h : ¬ e.attempts + 1 < 3) {s : State} (hs : s.notices = []) (ho : e.origin = .fill) :
    .valveFault ∈ (concluded (s.commandFails e)).fill.inhibit := by
  have hn := commandFails_notices h s
  rw [hs, List.nil_append, told, ho] at hn
  obtain ⟨u, hu⟩ : ∃ u, u = ({ s.commandFails e with notices := [] } : State) := ⟨_, rfl⟩
  have hd : Exchanged none ⟨.fill, .command e.address e.item e.target .failed⟩ := fun h => nomatch h
  have hfirst : Inhibited .valveFault False (u.deliver ⟨.fill, .command e.address e.item e.target .failed⟩).fill :=
    Inhibited.keep (changeInhibit_inhibits (s := u.updFill fun f => { f with closePlaced := false, closeOwed := true }) False.elim)
      (fillEvent_heldKept (State.fillOnCommand e.target .failed) u)
  have hamong : Among none (u.deliver ⟨.fill, .command e.address e.item e.target .failed⟩) :=
    (deliver_among hd u).2 (by rw [hu]; exact fun x hx => nomatch hx)
  have hfill : (concluded (s.commandFails e)).fill =
      (State.drain Config.pick 399 (u.deliver ⟨.fill, .command e.address e.item e.target .failed⟩)).fill := by
    rw [concluded_single hn, hu]
    exact settle_read (part := .fill) (by decide) _
  rw [hfill]
  exact (drain_inhibited (by simp [Leaves]) Config.pick 399 hamong hfirst).1

/-- The heater of a failed command is FAILED and without a grant. -/
theorem commandFails_frost {e : CommandEntry} (h : ¬ e.attempts + 1 < 3) {s : State} (hs : s.notices = []) (ho : e.origin = .frost) {j : Nat}
    {r : ZoneRecord} {z : ZoneState} (hj : s.zoneRecords.findIdx? (fun r => r.heaterAddress == e.address && r.heaterItem == e.item) = some j)
    (hr : s.zoneRecords[j]? = some r) (hz : s.frost.zones[j]? = some z) :
    Ungranted j (.failed (s.zoneFeedback r)) (concluded (s.commandFails e)).frost := by
  have hn := commandFails_notices h s
  rw [hs, List.nil_append, told, ho] at hn
  obtain ⟨u, hu⟩ : ∃ u, u = ({ s.commandFails e with notices := [] } : State) := ⟨_, rfl⟩
  have hread : ∀ p, p ∉ [Part.banks, .line, .out, .notices] → p.read u = p.read s := by
    intro p hp
    rw [hu]
    exact (setNotices_read (by simp_all) _ _).trans (commandFails_read hp e s)
  have hrecords : u.zoneRecords = s.zoneRecords := zoneRecords_congr (hread .tables (by decide))
  have hfrost : u.frost = s.frost := hread .frost (by decide)
  have hfeedback : u.zoneFeedback r = s.zoneFeedback r := zoneFeedback_congr (hread .tables (by decide)) (hread .points (by decide)) r
  have hfirst : Ungranted j (.failed (s.zoneFeedback r)) (u.frostOnCommand e.address e.item e.target .failed).frost := by
    rw [← hfeedback]
    exact frostOnCommand_failed e.target (hrecords ▸ hj) (hrecords ▸ hr) (hfrost ▸ hz)
  have hamong : Among none (u.frostOnCommand e.address e.item e.target .failed) :=
    (frostOnCommand_among none u _ _ _ _).2 (by rw [hu]; exact fun x hx => nomatch hx)
  have hall : (concluded (s.commandFails e)).frost = (u.frostOnCommand e.address e.item e.target .failed).frost := by
    rw [concluded_single hn, ← hu]
    exact (settle_read (part := .frost) (by decide) _).trans (drain_frost Config.pick 399 hamong)
  rw [hall]
  exact hfirst

/-! ### O16 -/

/-- An expiry at its time, in a state with power. -/
theorem exec_deadline {s : State} {a i due : Nat} {e : CommandEntry} (hp : s.powered = true)
    (he : s.line.commands.find? (CommandEntry.isFor a i) = some e) (hd : e.deadline = some due) :
    exec (.commandConfirmDeadlineExpiry a i due) s = .next (concluded ((s.advanceTo due).commandFails e)) := by
  have haim : s.commandDeadline a i = some due := by rw [State.commandDeadline, he]; exact hd
  have hline : (s.advanceTo due).line = s.line := advanceTo_read (part := .line) (by decide) _ _
  have hpasses : (s.advanceTo due).deadlinePasses a i = (s.advanceTo due).commandFails e := by rw [State.deadlinePasses, hline, he]
  show Host.Outcome.next (State.expiry Config.pick (s.commandDeadline a i) due (State.deadlinePasses a i) s) = _
  rw [expiry_due _ _ _ _ _ haim, event_powered _ _ _ hp, hpasses]
  rfl

/-- Settles O16: by the failed step, counted or the third, and the first notice that the third raises. -/
theorem confirmDeadlineFailsACommand : Obligations.ConfirmDeadlineFailsACommand := by
  intro s a i due e hready he hd
  have hfor : e.isFor a i = true := List.find?_some he
  obtain ⟨rfl, rfl⟩ := (isFor_iff a i e).1 hfor
  obtain ⟨w, hw⟩ : ∃ w, w = s.advanceTo due := ⟨_, rfl⟩
  have hread : ∀ p, p ∉ [Part.timeUs, .fill] → p.read w = p.read s := fun p hp => by rw [hw]; exact advanceTo_read hp due s
  have hline : w.line = s.line := hread .line (by decide)
  have hnotices : w.notices = [] := (hread .notices (by decide)).trans hready.2
  rw [← hw]
  refine ⟨concluded (w.commandFails e), hw ▸ exec_deadline hready.1 he hd, fun hc hwaits => ?_, fun hc => ?_, fun hc => ?_, ?_⟩
  · have hcounted := commandFails_counted hc w
    rw [hcounted, concluded_quiet (show (w.updCommand e.address e.item failedStep).notices = [] from hnotices), settle_line]
    · show ({ w.line with commands := _ } : LineBlock) = _
      rw [hline]
      rfl
    · show (w.updCommand e.address e.item failedStep).lineWaits
      have : w.lineWaits := by rw [State.lineWaits, hline]; exact hwaits
      exact this
  · rw [commandFails_counted hc w, concluded_quiet (show (w.updCommand e.address e.item failedStep).notices = [] from hnotices)]
    exact quiet_kept fun p hp => updLine_read (by simp_all) _ _
  · have hthird : ¬ e.attempts + 1 < 3 := by omega
    refine ⟨commandFails_freshFor hthird w, commandFails_bank hthird fun _ _ => rfl, commandFails_fill hthird hnotices, fun ho j r z hj hr hz => ?_⟩
    have hrecords : w.zoneRecords = s.zoneRecords := zoneRecords_congr (hread .tables (by decide))
    have hfrost : w.frost = s.frost := hread .frost (by decide)
    rw [← zoneFeedback_congr (hread .tables (by decide)) (hread .points (by decide)) r]
    exact commandFails_frost hthird hnotices ho (hrecords ▸ hj) (hrecords ▸ hr) (hfrost ▸ hz)
  · exact drain_settle_kept [] _ _ _ _ fun p hp => commandFails_read (by revert hp; cases p <;> decide) e w

end Sys2Proof.Laws
end

section
/-! SUPPORT. Frames of different kinds in the outbound queue (R136, R137): the TRIP and the FAULT report of a trip leave the DEMAND frame at
its head, and the FAULT report leaves the TRIP report. -/

namespace Sys2Proof.Laws

open Sys2Proof.Machine

/-- No frame is of both kinds. -/
def Apart (c x : Content) : Prop := ∀ y, c.sameKind y = true → x.sameKind y = false

theorem sameKind_self (c : Content) : c.sameKind c = true := by cases c <;> simp [Content.sameKind]

theorem demand_apart_trip (d tag : Nat) (r : TripReport) : Apart (.demand d tag) (.trip r) := fun y h => by
  cases y <;> first | rfl | cases h

theorem demand_apart_fault (d tag : Nat) (b : Bank) (r : FaultRecord) : Apart (.demand d tag) (.fault b r) := fun y h => by
  cases y <;> first | rfl | cases h

theorem trip_apart_fault (x : TripReport) (b : Bank) (r : FaultRecord) : Apart (.trip x) (.fault b r) := fun y h => by
  cases y <;> first | rfl | cases h

section
variable {c x : Content}

theorem Apart.symm (h : Apart c x) : Apart x c := fun y hy => by
  by_contra hc
  exact absurd (h y (by simpa using hc)) (by simp [hy])

theorem Apart.holds (h : Apart c x) {p : Place} (hp : p.holds c = true) : p.holds x = false := by
  cases p with
  | frame y => exact h y hp
  | response | reservation => rfl

theorem Apart.sends (h : Apart c x) {o : Outbound} (ho : o.sends c = true) : o.sends x = false := by
  unfold Outbound.sends at ho ⊢
  split
  · next y hy =>
    rw [hy] at ho
    exact h.holds ho
  · rfl

end

theorem offer_sending (c : Content) (o : Outbound) : (o.offer c).sending = o.sending := by
  unfold Outbound.offer
  repeat' split
  all_goals rfl

theorem sends_congr {o o' : Outbound} (h : o'.sending = o.sending) (c : Content) : o'.sends c = o.sends c := by
  rw [Outbound.sends, Outbound.sends, h]

/-! ### The frame at the head -/

/-- The contents stand first in the queue, alone of their kind, or are held aside for the head while a frame of their kind is sent. -/
structure Heads (c : Content) (o0 o : Outbound) : Prop where
  sending : o.sending = o0.sending
  head : o0.sends c = false → ∃ rest, o.waiting = .frame c :: rest ∧ ∀ p ∈ rest, p.holds c = false
  aside : o0.sends c = true → o.held = some ⟨c, true⟩

theorem offerHead_heads (c : Content) (o : Outbound) : Heads c o (o.offerHead c) := by
  unfold Outbound.offerHead
  split
  · next h => exact ⟨rfl, fun h' => (nomatch h.symm.trans h'), fun _ => rfl⟩
  · next h => exact ⟨rfl, fun _ => ⟨_, rfl, fun p hp => by simpa using (List.mem_filter.1 hp).2⟩, fun h' => absurd h' h⟩

theorem Heads.offer {c x : Content} {o0 o : Outbound} (h : Heads c o0 o) (hx : Apart c x) : Heads c o0 (o.offer x) := by
  obtain ⟨hsending, hhead, haside⟩ := h
  have hself : (Place.frame c).holds x = false := hx c (sameKind_self c)
  have hnew : (Place.frame x).holds c = false := hx.symm x (sameKind_self x)
  have hends : o.sends c = o0.sends c := sends_congr hsending c
  refine ⟨(offer_sending x o).trans hsending, fun hs => ?_, fun hs => ?_⟩
  · obtain ⟨rest, hw, hrest⟩ := hhead hs
    unfold Outbound.offer
    split
    · refine ⟨replaceFirst x rest, ?_, fun p hp => ?_⟩
      · show replaceFirst x o.waiting = _
        rw [hw]
        simp [replaceFirst, hself]
      · rcases of_mem_replaceFirst hp with rfl | hp
        · exact hnew
        · exact hrest p hp
    · split
      · exact ⟨rest, hw, hrest⟩
      · refine ⟨rest ++ [.frame x], by simp [hw], fun p hp => ?_⟩
        rcases List.mem_append.1 hp with hp | hp
        · exact hrest p hp
        · rw [List.mem_singleton.1 hp]; exact hnew
  · have hnot : o.sends x = false := hx.sends (hends.trans hs)
    unfold Outbound.offer
    split
    · exact haside hs
    · rw [if_neg (by simp [hnot])]
      exact haside hs

/-! ### Contents that the queue has taken -/

/-- The contents stand in a frame, or are held aside behind a frame of their kind. -/
def Stored (c : Content) (o : Outbound) : Prop := .frame c ∈ o.waiting ∨ (o.sends c = true ∧ ∃ h, o.held = some h ∧ h.content = c)

theorem frame_mem_replaceFirst {c : Content} {ps : List Place} (h : ps.any (Place.holds c) = true) : .frame c ∈ replaceFirst c ps := by
  induction ps with
  | nil => cases h
  | cons p ps ih =>
    unfold replaceFirst
    split
    · exact List.mem_cons_self
    · next hp => exact List.mem_cons_of_mem _ (ih (by simpa [hp] using h))

theorem mem_replaceFirst_of_ne {c : Content} {p : Place} (hp : p.holds c = false) {ps : List Place} (h : p ∈ ps) : p ∈ replaceFirst c ps := by
  induction ps with
  | nil => cases h
  | cons q ps ih =>
    unfold replaceFirst
    split
    · next hq =>
      rcases List.mem_cons.1 h with rfl | h
      · rw [hp] at hq; cases hq
      · exact List.mem_cons_of_mem _ h
    · rcases List.mem_cons.1 h with rfl | h
      · exact List.mem_cons_self
      · exact List.mem_cons_of_mem _ (ih h)

theorem offer_stored (c : Content) (o : Outbound) : Stored c (o.offer c) := by
  unfold Outbound.offer
  split
  · next h => exact .inl (frame_mem_replaceFirst h)
  · split
    · next h => exact .inr ⟨h, _, rfl, rfl⟩
    · exact .inl (List.mem_append_right _ (List.mem_singleton.2 rfl))

theorem Stored.offer {c x : Content} {o : Outbound} (h : Stored c o) (hx : Apart c x) : Stored c (o.offer x) := by
  rcases h with h | ⟨hs, held⟩
  · unfold Outbound.offer
    split
    · exact .inl (mem_replaceFirst_of_ne (p := .frame c) (hx c (sameKind_self c)) h)
    · split
      · exact .inl h
      · exact .inl (List.mem_append_left _ h)
  · have hnot : o.sends x = false := hx.sends hs
    refine .inr ⟨(sends_congr (offer_sending x o) c).trans hs, ?_⟩
    unfold Outbound.offer
    split
    · exact held
    · rw [if_neg (by simp [hnot])]
      exact held

theorem Stored.offers {c : Content} {o : Outbound} (h : Stored c o) : o.Offers c := by
  rcases h with h | ⟨-, held⟩
  · exact .inl (List.mem_append_right _ h)
  · exact .inr held

end Sys2Proof.Laws
end

section
/-! PROOFS. A trip and the watch over the close that it places (R75, R79, R80, R82): the acts of a trip one after another, what the blocks'
exchanges leave of a TRIPPED guard, and O22. -/

namespace Sys2Proof.Laws

open Sys2Proof.Machine

/-! ### The urgent slot and the start of the watch (R41, R82) -/

section
variable {s : State} {g : GuardSet} (hg : s.tables.guardSet = some g)

/-- A close already in the slot is left as it is. -/
theorem placeUrgent_taken (hu : s.line.urgent ≠ none) : s.placeUrgent = s := by
  unfold State.placeUrgent
  split
  · rfl
  · rw [if_pos (Option.isSome_iff_ne_none.2 hu)]

include hg

/-- An empty slot takes the close; the inlet valve's entry leaves the list, and the fill is told (R41). -/
theorem placeUrgent_places (hu : s.line.urgent = none) :
    s.placeUrgent.line.urgent = some ⟨g.inletAddress, g.inletItem, false⟩ ∧
      (∀ e ∈ s.placeUrgent.line.commands, e.isFor g.inletAddress g.inletItem = false) ∧
      (∀ e ∈ s.line.commands, e.isFor g.inletAddress g.inletItem = false → e ∈ s.placeUrgent.line.commands) ∧
      (∀ e, s.line.commands.find? (CommandEntry.isFor g.inletAddress g.inletItem) = some e →
        ⟨.fill, .command g.inletAddress g.inletItem e.target .withdrawn⟩ ∈ s.placeUrgent.notices) := by
  unfold State.placeUrgent
  rw [hg]
  dsimp only
  rw [if_neg (by simp [hu])]
  split
  · next e he =>
    refine ⟨rfl, fun x hx => ?_, fun x hx hfor => ?_, fun x hx => ?_⟩
    · have hx' : x ∈ s.line.commands.filter fun e => !e.isFor g.inletAddress g.inletItem := hx
      simpa using (List.mem_filter.1 hx').2
    · show x ∈ s.line.commands.filter fun e => !e.isFor g.inletAddress g.inletItem
      exact List.mem_filter.2 ⟨hx, by simp [hfor]⟩
    · rw [he] at hx
      cases hx
      exact List.mem_append_right _ (List.mem_singleton.2 rfl)
  · next he =>
    refine ⟨rfl, fun x hx => ?_, fun x hx _ => hx, fun x hx => by rw [he] at hx; cases hx⟩
    simpa using List.find?_eq_none.1 he x hx

theorem placeUrgent_fills : ∃ u, s.placeUrgent.line.urgent = some u ∧
    (s.line.urgent = none → u.address = g.inletAddress ∧ u.item = g.inletItem) := by
  cases hu : s.line.urgent with
  | none => exact ⟨_, (placeUrgent_places hg hu).1, fun _ => ⟨rfl, rfl⟩⟩
  | some u => exact ⟨u, by rw [placeUrgent_taken (by simp [hu]), hu], fun h => nomatch h⟩

/-- The watch starts with the deadline of the valve travel, or confirmed (R82). -/
theorem startWatch_begins : s.startWatch.guard = { s.guard with
    watch := if s.valvePosition g = some 0 then .confirmed else .running (some (s.now + g.valveTravel * 1000)) none none } := by
  unfold State.startWatch
  rw [hg]
  rfl

end

theorem startWatch_watch (s : State) : ∃ w, s.startWatch.guard = { s.guard with watch := w } := by
  unfold State.startWatch
  split
  · exact ⟨_, rfl⟩
  · exact ⟨_, rfl⟩

/-! ### Notices that wait keep waiting -/

section
variable {d : Delivery} {s : State}

theorem placeUrgent_waits (h : d ∈ s.notices) : d ∈ s.placeUrgent.notices := by
  unfold State.placeUrgent
  dsimp only
  repeat' split
  · exact h
  · exact h
  · exact List.mem_append_left _ h
  · exact h

theorem holdNotices_waits {before : State} (h : d ∈ s.notices) : d ∈ (State.holdNotices before s).notices := by
  unfold State.holdNotices
  dsimp only
  repeat' split
  all_goals simp [send_notices, h]

theorem fault_waits (code : FaultCode) (x : Option Subject) (h : d ∈ s.notices) : d ∈ (s.fault code x).notices := by
  unfold State.fault
  dsimp only
  split
  · exact h
  · refine holdNotices_waits ?_
    split
    · exact h
    · exact h

end

/-! ### The acts of a trip (R79) -/

/-- The report of a trip (R134). -/
def tripReport (cause : TripCause) (lr : LevelRecord) (s : State) : TripReport := ⟨cause, lr.w, s.guard.projection, s.clockTime, none⟩

/-- The guard's state with its cause, and the demand of 0. -/
def tripZeroed (cause : TripCause) (s : State) : State :=
  ((s.updGuard fun b => { b with
    state := .tripped
    cause := some cause
    tripLine := true
    tripFlag := .pending
    reset := none }).guardZero).send .fill (.inhibit [.guard] [])

/-- The close and its watch. -/
def tripClosed (cause : TripCause) (s : State) : State := (tripZeroed cause s).placeUrgent.startWatch

/-- The trip record asked of the store, and the TRIP report. -/
def tripReported (cause : TripCause) (lr : LevelRecord) (s : State) : State :=
  (((tripClosed cause s).askTripWork (.trip cause lr.w lr.quality s.guard.projection s.clockTime s.uptime)).offer
    (.trip (tripReport cause lr s))).updTelemetry fun t => { t with lastTrip := some (tripReport cause lr s) }

section
variable (cause : TripCause) (lr : LevelRecord) (s : State)

theorem tripZeroed_read {p : Part} (h : p ∉ [Part.guard, .fill, .out, .notices]) : p.read (tripZeroed cause s) = p.read s :=
  (send_read (by simp_all) _ _ _).trans ((guardZero_read (by simp_all) _).trans (updGuard_read (by simp_all) _ _))

theorem tripClosed_read {p : Part} (h : p ∉ [Part.guard, .line, .notices]) : p.read (tripClosed cause s) = p.read (tripZeroed cause s) :=
  (startWatch_read (by simp_all) _).trans (placeUrgent_read (by simp_all) _)

theorem tripReported_read {p : Part} (h : p ∉ [Part.engine, .out, .telemetry]) :
    p.read (tripReported cause lr s) = p.read (tripClosed cause s) :=
  (updTelemetry_read (by simp_all) _ _).trans ((offer_read (by simp_all) _ _).trans (askTripWork_read (by simp_all) _ _))

theorem tripReported_tables : (tripReported cause lr s).tables = s.tables :=
  (tripReported_read (p := .tables) cause lr s (by decide)).trans
    ((tripClosed_read (p := .tables) cause s (by decide)).trans (tripZeroed_read (p := .tables) cause s (by decide)))

theorem trip_logs {code : FaultCode} {x : Option Subject} (h : tripFault (s.tables.guardSet.map GuardSet.pointA) cause = some (code, x)) :
    s.trip cause lr = ((tripReported cause lr s).fault code x).tellGuard := by
  rw [← tripReported_tables cause lr s] at h
  show (match tripFault ((tripReported cause lr s).tables.guardSet.map GuardSet.pointA) cause with
    | some (code, subject) => (tripReported cause lr s).fault code subject
    | none => tripReported cause lr s).tellGuard = _
  rw [h]

/-- The guard as the trip leaves it, but for the watch. -/
theorem tripReported_guard : ∃ w, (tripReported cause lr s).guard = { s.guard with
    state := .tripped, cause := some cause, tripLine := true, tripFlag := .pending, reset := none, watch := w } := by
  obtain ⟨w, hw⟩ := startWatch_watch (tripZeroed cause s).placeUrgent
  refine ⟨w, (tripReported_read (p := .guard) cause lr s (by decide)).trans (hw.trans ?_)⟩
  have hplaced : (tripZeroed cause s).placeUrgent.guard = (tripZeroed cause s).guard := placeUrgent_read (part := .guard) (by decide) _
  have hzeroed : (tripZeroed cause s).guard = { s.guard with
      state := .tripped, cause := some cause, tripLine := true, tripFlag := .pending, reset := none } :=
    guardZero_read (part := .guard) (by decide) _
  rw [hplaced, hzeroed]

theorem tripReported_watch {g : GuardSet} (hg : s.tables.guardSet = some g) : (tripReported cause lr s).guard.watch =
    if s.valvePosition g = some 0 then .confirmed else .running (some (s.now + g.valveTravel * 1000)) none none := by
  have hread : ∀ p, p ∉ [Part.guard, .fill, .out, .line, .notices] → p.read (tripZeroed cause s).placeUrgent = p.read s := fun p hp =>
    (placeUrgent_read (by simp_all) _).trans (tripZeroed_read cause s (by simp_all))
  have hguard : (tripReported cause lr s).guard = (tripZeroed cause s).placeUrgent.startWatch.guard :=
    tripReported_read (p := .guard) cause lr s (by decide)
  have htables : (tripZeroed cause s).placeUrgent.tables = s.tables := hread .tables (by decide)
  rw [hguard, startWatch_begins (by rw [htables]; exact hg), now_congr (hread .timeUs (by decide)), State.valvePosition,
    goodOfKind_congr (hread .tables (by decide)) (hread .points (by decide))]
  rfl

/-- The DEMAND frame of 0 is at the head, and the fill's demand is 0. -/
theorem tripReported_fill : (tripReported cause lr s).fill = { s.fill with
    demand := 0
    demandTag := (s.fill.demandTag + 1) % 256
    renewal := s.renewalTimer } :=
  (tripReported_read (p := .fill) cause lr s (by decide)).trans
    ((tripClosed_read (p := .fill) cause s (by decide)).trans (passFill_read (part := .fill) (by decide) _ _))

theorem tripReported_out : (tripReported cause lr s).out =
    (s.out.offerHead (.demand 0 ((s.fill.demandTag + 1) % 256))).offer (.trip (tripReport cause lr s)) := by
  have hclosed : (tripClosed cause s).out = s.out.offerHead (.demand 0 ((s.fill.demandTag + 1) % 256)) :=
    (tripClosed_read (p := .out) cause s (by decide)).trans (passFill_read (part := .out) (by decide) _ _)
  show (tripClosed cause s).out.offer _ = _
  rw [hclosed]

theorem tripReported_line : (tripReported cause lr s).line = (tripZeroed cause s).placeUrgent.line :=
  (tripReported_read (p := .line) cause lr s (by decide)).trans (startWatch_read (part := .line) (by decide) _)

theorem tripReported_notices : (tripReported cause lr s).notices = (tripZeroed cause s).placeUrgent.notices :=
  (tripReported_read (p := .notices) cause lr s (by decide)).trans (startWatch_read (part := .notices) (by decide) _)

end

/-- Every cause of a trip but NO_TABLES has its fault. -/
theorem tripFault_some {cause : TripCause} (h : cause ≠ .noTables) (a : Option Nat) : ∃ code x, tripFault a cause = some (code, x) := by
  cases cause with
  | level => exact ⟨_, _, rfl⟩
  | float => exact ⟨_, _, rfl⟩
  | levelLost => exact ⟨_, _, rfl⟩
  | noTables => exact absurd rfl h

/-- All that R79 lists. -/
theorem trip_acts {s t : State} {cause : TripCause} {lr : LevelRecord} (hcause : cause ≠ .noTables) (ht : t = s.trip cause lr) :
    (∃ w, t.guard = { s.guard with
      state := .tripped, cause := some cause, tripLine := true, tripFlag := .pending, reset := none, watch := w }) ∧
    s.DemandZeroed t ∧ t.engine.tripWork = s.engine.tripWork ++ [.trip cause lr.w lr.quality s.guard.projection s.clockTime s.uptime] ∧
    t.telemetry.lastTrip = some (tripReport cause lr s) ∧ t.out.Offers (.trip (tripReport cause lr s)) ∧
    (∀ d ∈ (tripZeroed cause s).placeUrgent.notices, d ∈ t.notices) ∧ ⟨.telemetry, .guardState .tripped (some cause)⟩ ∈ t.notices ∧
    (∀ code x, tripFault (s.tables.guardSet.map GuardSet.pointA) cause = some (code, x) → t.banks = s.banksAfter code x) ∧
    t.line = (tripZeroed cause s).placeUrgent.line ∧
    (∀ g, s.tables.guardSet = some g → t.guard.watch =
      if s.valvePosition g = some 0 then .confirmed else .running (some (s.now + g.valveTravel * 1000)) none none) ∧
    (∀ p, p ∉ [Part.guard, .fill, .engine, .telemetry, .out, .banks, .line, .notices] → p.read t = p.read s) := by
  obtain ⟨code, x, hfault⟩ := tripFault_some hcause (s.tables.guardSet.map GuardSet.pointA)
  rw [trip_logs cause lr s hfault] at ht
  have hread : ∀ p, p ∉ [Part.banks, .out, .notices] → p.read t = p.read (tripReported cause lr s) := fun p hp =>
    ht ▸ (tellGuard_read (by simp_all) _).trans (fault_read hp _ _ _)
  have hstart : ∀ p, p ∉ [Part.guard, .fill, .engine, .telemetry, .out, .line, .notices] → p.read (tripReported cause lr s) = p.read s :=
    fun p hp => (tripReported_read cause lr s (by simp_all)).trans
      ((tripClosed_read cause s (by simp_all)).trans (tripZeroed_read cause s (by simp_all)))
  have hguard : t.guard = (tripReported cause lr s).guard := hread .guard (by decide)
  have hfill : t.fill = (tripReported cause lr s).fill := hread .fill (by decide)
  obtain ⟨w, hw⟩ := tripReported_guard cause lr s
  have hclosed : (tripClosed cause s).engine = s.engine :=
    (tripClosed_read (p := .engine) cause s (by decide)).trans (tripZeroed_read (p := .engine) cause s (by decide))
  have hout : t.out = (tripReported cause lr s).out ∨ ∃ r, t.out = (tripReported cause lr s).out.offer (.fault code.bank r) := by
    rw [ht]
    exact fault_out code x (tripReported cause lr s)
  have hheads : Heads (.demand 0 ((s.fill.demandTag + 1) % 256)) s.out t.out := by
    have hreported := (offerHead_heads (.demand 0 ((s.fill.demandTag + 1) % 256)) s.out).offer
      (demand_apart_trip 0 ((s.fill.demandTag + 1) % 256) (tripReport cause lr s))
    rw [← tripReported_out] at hreported
    rcases hout with h | ⟨r, h⟩
    · rw [h]; exact hreported
    · rw [h]; exact hreported.offer (demand_apart_fault _ _ _ _)
  have hstored : Stored (.trip (tripReport cause lr s)) t.out := by
    have hreported : Stored (.trip (tripReport cause lr s)) (tripReported cause lr s).out := by
      rw [tripReported_out]; exact offer_stored _ _
    rcases hout with h | ⟨r, h⟩
    · rw [h]; exact hreported
    · rw [h]; exact hreported.offer (trip_apart_fault _ _ _)
  have hfaulted : ((tripReported cause lr s).fault code x).guard = (tripReported cause lr s).guard :=
    fault_read (part := .guard) (by decide) _ _ _
  refine ⟨⟨w, hguard.trans hw⟩, ⟨hfill.trans (tripReported_fill cause lr s), hheads.sending, hheads.head, hheads.aside⟩, ?_, ?_,
    hstored.offers, fun d hd => ?_, ?_, fun code' x' hfault' => ?_, ?_, fun g hg => ?_, fun p hp => ?_⟩
  · have hengine : t.engine = (tripReported cause lr s).engine := hread .engine (by decide)
    rw [hengine]
    show (tripClosed cause s).engine.tripWork ++ _ = _
    rw [hclosed]
  · have htelemetry : t.telemetry = (tripReported cause lr s).telemetry := hread .telemetry (by decide)
    rw [htelemetry]
    rfl
  · rw [ht]
    refine List.mem_append_left _ (fault_waits _ _ ?_)
    rw [tripReported_notices]
    exact hd
  · rw [ht, State.tellGuard, hfaulted, hw]
    exact List.mem_append_right _ (List.mem_singleton.2 rfl)
  · rw [hfault] at hfault'
    cases hfault'
    have hbanks : t.banks = ((tripReported cause lr s).fault code x).banks := by
      rw [ht]
      exact tellGuard_read (part := .banks) (by decide) _
    have hclock : (tripReported cause lr s).clockTime = s.clockTime := by
      rw [State.clockTime, tripReported_fill]
      rfl
    rw [hbanks, fault_banks]
    exact banksAfter_congr _ _ (hstart .tables (by decide)) (hstart .banks (by decide)) hclock (hstart .timeUs (by decide))
  · have hline : t.line = (tripReported cause lr s).line := hread .line (by decide)
    rw [hline, tripReported_line]
  · rw [hguard]
    exact tripReported_watch cause lr s hg
  · exact (hread p (by simp_all)).trans (hstart p (by simp_all))

/-! ### What the blocks exchange leaves a TRIPPED guard and its bank (R79, R84) -/

/-- The guard is TRIPPED, its trip line and its watch are as given, and its bank holds the record given. -/
structure Watching (line : Bool) (w : ValveWatch) (r : Option FaultRecord) (s : State) : Prop where
  state : s.guard.state = .tripped
  tripLine : s.guard.tripLine = line
  watch : s.guard.watch = w
  bank : s.banks.get .guard = r

section
variable {line : Bool} {w : ValveWatch} {r : Option FaultRecord} {s t : State}

theorem Watching.congr (h : Watching line w r s) (hguard : Part.guard.read t = Part.guard.read s)
    (hbank : (Part.banks.read t).get .guard = (Part.banks.read s).get .guard) : Watching line w r t := by
  have hguard' : t.guard = s.guard := hguard
  exact ⟨by rw [hguard']; exact h.state, by rw [hguard']; exact h.tripLine, by rw [hguard']; exact h.watch, hbank.trans h.bank⟩

theorem Watching.tripCondition (h : Watching line w r s) (c : TripCause) (lr : LevelRecord) : Watching line w r (s.tripCondition c lr) := by
  unfold State.tripCondition
  split
  · exact ⟨h.state, h.tripLine, h.watch, h.bank⟩
  · exact h
  · next hs => exact absurd (hs.symm.trans h.state) (by decide)
  · next hs => exact absurd (hs.symm.trans h.state) (by decide)

theorem Watching.guardEvaluate (h : Watching line w r s) (lr : LevelRecord) : Watching line w r (s.guardEvaluate lr) := by
  unfold State.guardEvaluate
  split
  · exact h
  · next g _ =>
    have h' : Watching line w r ((s.updGuard (GuardBlock.withNumbers g s.tables.strapping lr s.fill.demand)).send .telemetry
        (.projection (s.updGuard (GuardBlock.withNumbers g s.tables.strapping lr s.fill.demand)).guard.projection)) :=
      ⟨h.state, h.tripLine, h.watch, h.bank⟩
    dsimp only
    split
    · next hs => exact absurd (hs.symm.trans h'.state) (by decide)
    · next hs => exact absurd (hs.symm.trans h'.state) (by decide)
    · split
      · exact h'.tripCondition _ _
      · exact h'

theorem Watching.holdOnNotice (h : Watching line w r s) (lr : LevelRecord) : Watching line w r (s.holdOnNotice lr) := by
  have hheld : ∀ aim, Watching line w r (s.updGuard fun b => { b with holdAt := aim }) := fun _ =>
    ⟨h.state, h.tripLine, h.watch, h.bank⟩
  unfold State.holdOnNotice
  split
  · exact h
  · split
    · split
      · exact h
      · unfold State.armHold
        dsimp only
        split
        · exact (hheld none).tripCondition _ _
        · exact hheld _
    · exact h
    · exact hheld none

end

/-! No fault of the other blocks' exchanges is of the GUARD bank. -/

section
variable (s : State)

theorem fault_guardBank {code : FaultCode} (h : code.bank ≠ .guard) (x : Option Subject) :
    (Part.banks.read (s.fault code x)).get .guard = (Part.banks.read s).get .guard := by
  show (s.fault code x).banks.get .guard = s.banks.get .guard
  rw [fault_banks]
  exact banksAfter_get_ne (Ne.symm h)

@[simp] theorem recompute_guardBank (g : GuardSet) (sample : Option Nat) :
    (Part.banks.read (s.recompute g sample)).get .guard = (Part.banks.read s).get .guard := by
  have hbeyond : ∀ u : State, (Part.banks.read u.judgeBeyond).get .guard = (Part.banks.read u).get .guard := by
    intro u
    unfold State.judgeBeyond
    dsimp only
    split
    · exact (fault_guardBank _ (by decide) _).trans (by simp)
    · simp
  unfold State.recompute
  dsimp only
  rw [levelNotice_read (part := .banks) (by decide), hbeyond]
  split
  · simp
  · split
    · next e => rw [fault_guardBank _ (by rw [conditionFault_bank e]; decide)]; simp
    · simp

@[simp] theorem levelOnHousing_guardBank : (Part.banks.read s.levelOnHousing).get .guard = (Part.banks.read s).get .guard := by
  unfold State.levelOnHousing
  split <;> simp

@[simp] theorem evaluatePlan_guardBank (forced : Bool) :
    (Part.banks.read (s.evaluatePlan forced)).get .guard = (Part.banks.read s).get .guard := by
  unfold State.evaluatePlan
  split
  · simp
  · dsimp only
    rw [actOnPlan_read (part := .banks) (by decide)]
    split
    · exact fault_guardBank _ (by decide) _
    · rfl

theorem fillEvent_guardBank (f : State → State) : (Part.banks.read (State.fillEvent f s)).get .guard = (Part.banks.read (f s)).get .guard := by
  simp [State.fillEvent]

@[simp] theorem changeInhibit_guardBank (add remove : List Reason) :
    (Part.banks.read (s.changeInhibit add remove)).get .guard = (Part.banks.read s).get .guard := by
  unfold State.changeInhibit
  dsimp only
  repeat' split
  all_goals simp

@[simp] theorem turnoverBecomesDone_guardBank : (Part.banks.read s.turnoverBecomesDone).get .guard = (Part.banks.read s).get .guard := by
  unfold State.turnoverBecomesDone
  dsimp only
  split <;> simp

@[simp] theorem fillOnLevel_guardBank (lr : LevelRecord) : (Part.banks.read (s.fillOnLevel lr)).get .guard = (Part.banks.read s).get .guard := by
  unfold State.fillOnLevel
  dsimp only
  repeat' split
  all_goals simp

@[simp] theorem closeConfirmed_guardBank : (Part.banks.read s.closeConfirmed).get .guard = (Part.banks.read s).get .guard := by
  unfold State.closeConfirmed
  dsimp only
  split <;> simp

@[simp] theorem fillOnCommand_guardBank (target : Nat) (o : CommandOutcome) :
    (Part.banks.read (s.fillOnCommand target o)).get .guard = (Part.banks.read s).get .guard := by
  unfold State.fillOnCommand
  dsimp only
  repeat' split
  all_goals simp

end

theorem deliver_watching {line : Bool} {w : ValveWatch} {r : Option FaultRecord} {d : Delivery} (hd : Exchanged none d) {s : State}
    (h : Watching line w r s) : Watching line w r (s.deliver d) := by
  have hevent : ∀ f : State → State, (Part.banks.read (f s)).get .guard = (Part.banks.read s).get .guard →
      Part.guard.read (f s) = Part.guard.read s → Watching line w r (State.fillEvent f s) := fun f hbank hguard =>
    h.congr (fillEvent_read (by decide) f s hguard) ((fillEvent_guardBank s f).trans hbank)
  have hbanks : ∀ {t : State}, Part.banks.read t = Part.banks.read s → (Part.banks.read t).get .guard = (Part.banks.read s).get .guard :=
    fun e => congrArg (fun b : PerBank (Option FaultRecord) => b.get .guard) e
  obtain ⟨dest, n⟩ := d
  cases dest with
  | level =>
    cases n with
    | housing => exact h.congr (levelOnHousing_read (by decide) s) (levelOnHousing_guardBank s)
    | points => cases hd
    | _ => exact h
  | guard =>
    cases n with
    | level lr _ _ => exact (h.holdOnNotice lr).guardEvaluate lr
    | overflowPipe flag =>
      have h' : Watching line w r (s.updGuard fun b => { b with frostExtra := flag }) := ⟨h.state, h.tripLine, h.watch, h.bank⟩
      exact h'.guardEvaluate _
    | evaluate => exact h.guardEvaluate _
    | points | urgentOutcome | tripWork => cases hd
    | _ => exact h
  | fill =>
    cases n with
    | level lr _ _ => exact hevent _ (fillOnLevel_guardBank s lr) (fillOnLevel_read (by decide) lr s)
    | inhibit add remove =>
      exact hevent _ (changeInhibit_guardBank s add remove) (changeInhibit_read (by decide) add remove s)
    | command _ _ target o =>
      exact hevent _ (fillOnCommand_guardBank s target o) (fillOnCommand_read (by decide) target o s)
    | frostWatch watch => exact hevent _ (by split <;> simp) (by split <;> simp)
    | supply =>
      obtain ⟨_, hnone, -⟩ := hd
      cases hnone
    | lapse => cases hd
    | _ => exact h
  | frost =>
    cases n with
    | command => exact absurd (hd rfl).1 (by decide)
    | supply =>
      obtain ⟨_, hnone, -⟩ := hd
      cases hnone
    | points | tariff | frostBank => cases hd
    | _ => exact h
  | line => exact h.congr (lineTakes_read (by decide) n s) (hbanks (lineTakes_read (part := .banks) (by decide) n s))
  | telemetry => exact h.congr (telemetryTakes_read (by decide) n s) (hbanks (telemetryTakes_read (part := .banks) (by decide) n s))
  | store => exact h.congr (storeTakes_read (by decide) n s) (hbanks (storeTakes_read (part := .banks) (by decide) n s))

/-- At the event's end, too. -/
theorem concluded_watching {line : Bool} {w : ValveWatch} {r : Option FaultRecord} {s : State} (hg : Among none s)
    (h : Watching line w r s) : Watching line w r (concluded s) := by
  have hdrained := drain_among (P := Watching line w r) (fun _ _ _ h => ⟨h.state, h.tripLine, h.watch, h.bank⟩)
    (fun _ _ hd h => deliver_watching hd h) Config.pick Config.deliveryFuel s hg h
  exact hdrained.congr (settle_read (by decide) _) (congrArg (fun b : PerBank (Option FaultRecord) => b.get .guard)
    (settle_read (part := .banks) (by decide) _))

/-- The close stays in the slot, whatever the line begins (R41). -/
theorem concluded_urgent {s : State} {u : UrgentClose} (h : s.line.urgent = some u) :
    ∃ v, (concluded s).line.urgent = some v ∧ v.address = u.address ∧ v.item = u.item := by
  have hdrained := (urgent_acts u).drain Config.pick Config.deliveryFuel s h
  rcases settle_urgent (State.drain Config.pick Config.deliveryFuel s) with e | ⟨x, hx, e⟩
  · exact ⟨u, e.trans hdrained, rfl, rfl⟩
  · rw [hdrained] at hx
    cases hx
    exact ⟨_, e, rfl, rfl⟩

end Sys2Proof.Laws
end

section
/-! PROOFS. A trip and the three timers of its watch (R79, R82): O22. -/

namespace Sys2Proof.Laws

open Sys2Proof.Machine

/-- A timer of a part with power, at its time. -/
theorem expiry_concludes {s : State} {aim : Option Nat} {due : Nat} (hp : s.powered = true) (haim : aim = some due) (f : State → State) :
    State.expiry Config.pick aim due f s = concluded (f (s.advanceTo due)) := by
  rw [expiry_due _ _ _ _ _ haim, event_powered _ _ _ hp]
  rfl

/-- A close that the watch places stands in the slot at the event's end, and the guard goes on as it was (R41, R82). -/
theorem watchClose_concludes {u : State} {line : Bool} {w : ValveWatch} {r : Option FaultRecord} (hq : Among none u) (h : Watching line w r u) :
    Watching line w r (concluded u.placeUrgent) ∧ ∀ g, u.tables.guardSet = some g → ∃ x, (concluded u.placeUrgent).line.urgent = some x ∧
      (u.line.urgent = none → x.address = g.inletAddress ∧ x.item = g.inletItem) := by
  refine ⟨concluded_watching ((placeUrgent_among none u).2 hq) (h.congr (placeUrgent_read (by decide) u) ?_), fun g hg => ?_⟩
  · rw [placeUrgent_read (part := .banks) (by decide)]
  · obtain ⟨x, hx, hfor⟩ := placeUrgent_fills hg
    obtain ⟨y, hy, haddress, hitem⟩ := concluded_urgent hx
    exact ⟨y, hy, fun hu => ⟨haddress.trans (hfor hu).1, hitem.trans (hfor hu).2⟩⟩

section
variable {s : State} {due : Nat} (hready : s.Ready)

include hready

/-- No notice waits at a timer's expiry. -/
theorem advanceTo_among (due : Nat) : Among none (s.advanceTo due) := by
  have hn : (s.advanceTo due).notices = [] := (advanceTo_read (part := .notices) (by decide) due s).trans hready.2
  intro d hd
  rw [hn] at hd
  cases hd

variable (htripped : s.guard.state = .tripped)

include htripped

/-- The deadline of the watch (R82): VALVE_NOT_CLOSED, the close, the 30 s repeat. -/
theorem valveDeadline_concludes {r t' : Option Nat} {g : GuardSet} (hw : s.guard.watch = .running (some due) r t')
    (hg : s.tables.guardSet = some g) : ∃ t, exec (.valveConfirmDeadlineExpiry due) s = .next t ∧
      Watching s.guard.tripLine (.running none (some ((s.advanceTo due).now + 30000)) none)
        (((s.advanceTo due).banksAfter .valveNotClosed (some (.point g.feedback))).get .guard) t ∧
      (∃ u, t.line.urgent = some u ∧ (s.line.urgent = none → u.address = g.inletAddress ∧ u.item = g.inletItem)) ∧
      Kept reached (s.advanceTo due) t := by
  obtain ⟨v, hv⟩ : ∃ v, v = s.advanceTo due := ⟨_, rfl⟩
  have hread : ∀ p, p ∉ [Part.timeUs, .fill] → p.read v = p.read s := fun p hp => hv ▸ advanceTo_read hp due s
  have hguard : v.guard = s.guard := hread .guard (by decide)
  have htables : v.tables = s.tables := hread .tables (by decide)
  have hline : v.line = s.line := hread .line (by decide)
  obtain ⟨u, hu⟩ : ∃ u, u = (v.updGuard fun b => { b with watch := .running none (some (v.now + 30000)) none }).fault .valveNotClosed
    (some (.point g.feedback)) := ⟨_, rfl⟩
  have hdeadline : v.valveDeadline = u.placeUrgent := by
    rw [State.valveDeadline, htables, hg, hu]
    rfl
  have huguard : u.guard = { v.guard with watch := .running none (some (v.now + 30000)) none } :=
    hu ▸ fault_read (part := .guard) (by decide) _ _ _
  have hwatching : Watching s.guard.tripLine (.running none (some (v.now + 30000)) none)
      ((v.banksAfter .valveNotClosed (some (.point g.feedback))).get .guard) u := by
    refine ⟨?_, ?_, ?_, ?_⟩
    · rw [huguard, hguard]; exact htripped
    · rw [huguard, hguard]
    · rw [huguard]
    · rw [hu, fault_banks]; rfl
  have hamong : Among none u := by
    rw [hu, fault_among _ _ (by decide), hv]
    exact advanceTo_among hready due
  have hutables : u.tables = s.tables := (hu ▸ fault_read (part := .tables) (by decide) _ _ _ : u.tables = v.tables).trans htables
  have huline : u.line = s.line := (hu ▸ fault_read (part := .line) (by decide) _ _ _ : u.line = v.line).trans hline
  obtain ⟨hend, hclose⟩ := watchClose_concludes hamong hwatching
  obtain ⟨x, hx, hfor⟩ := hclose g (hutables ▸ hg)
  rw [← hv]
  refine ⟨concluded v.valveDeadline, ?_, hdeadline ▸ hend, ⟨x, hdeadline ▸ hx, fun h => hfor (huline ▸ h)⟩, ?_⟩
  · show Host.Outcome.next (State.expiry Config.pick s.guard.watch.deadlineAt due State.valveDeadline s) = _
    rw [expiry_concludes hready.1 (by rw [hw]; rfl), hv]
  · exact drain_settle_kept [] _ _ _ _ fun p hp => valveDeadline_read (by revert hp; cases p <;> decide) v

/-- The repeat and the retry, which change the watch and place the close (R82). -/
theorem watchPlaces_concludes {w : ValveWatch} {f : State → State} (hf : ∀ v : State, v.guard.watch = s.guard.watch → v.now = (s.advanceTo due).now →
      f v = (v.updGuard fun b => { b with watch := w }).placeUrgent)
    (hread : ∀ p, p ∉ reached → ∀ v, p.read (f v) = p.read v) :
    (concluded (f (s.advanceTo due))).guard.watch = w ∧
      (∀ g, s.tables.guardSet = some g → ∃ u, (concluded (f (s.advanceTo due))).line.urgent = some u ∧
        (s.line.urgent = none → u.address = g.inletAddress ∧ u.item = g.inletItem)) ∧
      Kept reached (s.advanceTo due) (concluded (f (s.advanceTo due))) := by
  obtain ⟨v, hv⟩ : ∃ v, v = s.advanceTo due := ⟨_, rfl⟩
  have hkept : ∀ p, p ∉ [Part.timeUs, .fill] → p.read v = p.read s := fun p hp => hv ▸ advanceTo_read hp due s
  have hguard : v.guard = s.guard := hkept .guard (by decide)
  have htables : v.tables = s.tables := hkept .tables (by decide)
  have hline : v.line = s.line := hkept .line (by decide)
  rw [← hv] at hf ⊢
  have hplaces := hf v (by rw [hguard]) rfl
  have hwatching : Watching s.guard.tripLine w (v.banks.get .guard) (v.updGuard fun b => { b with watch := w }) :=
    ⟨(congrArg GuardBlock.state hguard).trans htripped, (congrArg GuardBlock.tripLine hguard :), rfl, rfl⟩
  obtain ⟨hend, hclose⟩ := watchClose_concludes (u := v.updGuard fun b => { b with watch := w }) (hv ▸ advanceTo_among hready due) hwatching
  rw [← hplaces] at hend hclose
  refine ⟨hend.watch, fun g hg => ?_, drain_settle_kept [] _ _ _ _ fun p hp => hread p hp v⟩
  obtain ⟨x, hx, hfor⟩ := hclose g (htables ▸ hg)
  exact ⟨x, hx, fun h => hfor (hline ▸ h)⟩

end

/-- With no valve named the deadline does nothing (R69). -/
theorem valveDeadline_unnamed {s : State} {due : Nat} (hready : s.Ready) (hdue : s.guard.watch.deadlineAt = some due)
    (hg : s.tables.guardSet = none) : ∃ t, exec (.valveConfirmDeadlineExpiry due) s = .next t ∧ Kept [] (s.advanceTo due) t := by
  have htables : (s.advanceTo due).tables = s.tables := advanceTo_read (part := .tables) (by decide) due s
  have hnotices : (s.advanceTo due).notices = [] := (advanceTo_read (part := .notices) (by decide) due s).trans hready.2
  have hidle : (s.advanceTo due).valveDeadline = s.advanceTo due := by rw [State.valveDeadline, htables, hg]
  refine ⟨concluded (s.advanceTo due), ?_, ?_⟩
  · show Host.Outcome.next (State.expiry Config.pick s.guard.watch.deadlineAt due State.valveDeadline s) = _
    rw [expiry_concludes hready.1 hdue, hidle]
  · rw [concluded_quiet hnotices]
    exact settle_kept [] _ _ (fun _ _ => rfl) rfl rfl

/-- Settles O22: by the acts of a trip in their order, and the close that each timer of the watch places. -/
theorem tripAndItsWatch : Obligations.TripAndItsWatch := by
  refine ⟨fun s t cause lr hcause ht => ?_, fun s due r t' g hready htripped hw hg => ?_,
    fun s due hready hdue hg => valveDeadline_unnamed hready hdue hg, fun s due d t' hready htripped hw => ?_,
    fun s due d r hready htripped hw => ?_⟩
  · obtain ⟨⟨w, hguard⟩, hzeroed, hwork, hlast, hreport, hwaits, htold, hbanks, hline, hwatch, hothers⟩ := trip_acts hcause ht
    have hplacedLine : (tripZeroed cause s).line = s.line := tripZeroed_read (p := .line) cause s (by decide)
    have hplacedTables : (tripZeroed cause s).tables = s.tables := tripZeroed_read (p := .tables) cause s (by decide)
    have hinhibit : ⟨.fill, .inhibit [.guard] []⟩ ∈ (tripZeroed cause s).notices := List.mem_append_right _ (List.mem_singleton.2 rfl)
    refine ⟨by rw [hguard], by rw [hguard], by rw [hguard], by rw [hguard], by rw [hguard], hzeroed, hwork, hlast, hreport,
      hwaits _ (placeUrgent_waits hinhibit), htold, ?_, ?_, ?_, fun g hg => ?_, hothers⟩
    · rintro rfl
      exact hbanks _ _ (by simp [tripFault, Function.comp_def])
    · rintro rfl
      exact hbanks _ _ rfl
    · rintro rfl
      exact hbanks _ _ (by simp [tripFault, Function.comp_def])
    · rw [hline]
      refine ⟨fun hu => ?_, fun hu => ?_, hwatch g hg⟩
      · obtain ⟨hslot, hgone, hstay, hwithdrawn⟩ := placeUrgent_places (hplacedTables ▸ hg) (hplacedLine ▸ hu)
        rw [hplacedLine] at hstay hwithdrawn
        exact ⟨hslot, hgone, hstay, fun e he => hwaits _ (hwithdrawn e he)⟩
      · rw [placeUrgent_taken (by rw [hplacedLine]; exact hu), hplacedLine]
  · obtain ⟨t, hexec, hend, hclose, hkept⟩ := valveDeadline_concludes hready htripped hw hg
    exact ⟨t, hexec, hend.watch, hend.bank, hclose, hend.state, hend.tripLine, hkept⟩
  · refine ⟨_, ?_, watchPlaces_concludes (f := State.valveRepeat) hready htripped (fun v _ hnow => ?_) fun p hp v =>
      valveRepeat_read (by revert hp; cases p <;> decide) v⟩
    · show Host.Outcome.next (State.expiry Config.pick s.guard.watch.repeatTime due State.valveRepeat s) = _
      rw [expiry_concludes hready.1 (by rw [hw]; rfl)]
    · rw [← hnow]; rfl
  · refine ⟨_, ?_, watchPlaces_concludes (f := State.valveRetry) hready htripped (fun v hwatch _ => ?_) fun p hp v =>
      valveRetry_read (by revert hp; cases p <;> decide) v⟩
    · show Host.Outcome.next (State.expiry Config.pick s.guard.watch.retryTime due State.valveRetry s) = _
      rw [expiry_concludes hready.1 (by rw [hw]; rfl)]
    · rw [State.valveRetry, State.updGuard, hwatch, hw]
      rfl

end Sys2Proof.Laws
end

section
/-! SUPPORT. An announcement of the supply mode (R179): it waits for its block until the block takes it, and what the block then does is
kept by the notices that follow. -/

namespace Sys2Proof.Laws

open Sys2Proof.Machine

/-! ### The announcement that waits for a block -/

/-- The announcement as it waits for a block. -/
def Announcement.to (x : Announcement) (b : BlockName) : Delivery := ⟨b, .supply x.mode x.before⟩

/-- The announcement once it waits for the block no more. -/
def Announcement.without (x : Announcement) (b : BlockName) : Announcement := { x with blocks := x.blocks.filter fun c => decide (c ≠ b) }

theorem exchanged_without {x : Announcement} (b : BlockName) (d : Delivery) :
    Exchanged (some (x.without b)) d ↔ Exchanged (some x) d ∧ d ≠ x.to b := by
  obtain ⟨dest, n⟩ := d
  cases n with
  | supply mode before =>
    simp only [Exchanged, Announcement.without, Announcement.to, Option.some.injEq, exists_eq_left', List.mem_filter, decide_eq_true_eq,
      ne_eq, Delivery.mk.injEq, Notice.supply.injEq, not_and]
    constructor
    · rintro ⟨rfl, rfl, hin, hne⟩
      exact ⟨⟨rfl, rfl, hin⟩, fun h => absurd h hne⟩
    · rintro ⟨⟨rfl, rfl, hin⟩, hne⟩
      exact ⟨rfl, rfl, hin, fun h => hne h rfl rfl⟩
  | _ => simp [Exchanged, Announcement.to]

theorem takeFirst_rest {f : Delivery → Bool} {d : Delivery} : ∀ {ds rest : List Delivery}, takeFirst f ds = some (d, rest) →
    ∀ x ∈ ds, x = d ∨ x ∈ rest := by
  intro ds
  induction ds with
  | nil => exact fun h => by simp [takeFirst] at h
  | cons e ds ih =>
    intro rest h x hx
    unfold takeFirst at h
    split at h
    · cases h
      exact List.mem_cons.1 hx
    · split at h
      · next e' rest' he =>
        cases h
        rcases List.mem_cons.1 hx with rfl | hx
        · exact .inr List.mem_cons_self
        · exact (ih he x hx).imp id (List.mem_cons_of_mem _)
      · cases h

/-- One delivery takes one notice, and the others go on waiting. -/
theorem deliverOne_takes (pick : Nat → Nat) (s : State) : s.deliverOne pick = s ∨ ∃ d others draws, d ∈ s.notices ∧
    (∀ x ∈ others, x ∈ s.notices) ∧ (∀ x ∈ s.notices, x = d ∨ x ∈ others) ∧
    s.deliverOne pick = State.deliver d { s with notices := others, draws := draws } := by
  unfold State.deliverOne
  split
  · exact .inl rfl
  · dsimp only
    split
    · next d others hf =>
      obtain ⟨⟨hin, hothers⟩, -⟩ := takeFirst_mem _ _ _ _ hf
      exact .inr ⟨d, others, _, hin, hothers, takeFirst_rest hf, rfl⟩
    · exact .inl rfl

/-- The announcement waits on while a block takes another notice. -/
theorem deliver_waits {x : Announcement} {b : BlockName} {d : Delivery} {s : State} (hd : Exchanged (some x) d) (hne : d ≠ x.to b)
    (hs : Among (some x) s) (hwaits : x.to b ∈ s.notices) : x.to b ∈ (s.deliver d).notices := by
  by_contra hgone
  have hall : Among (some (x.without b)) (s.deliver d) := fun y hy =>
    (exchanged_without b y).2 ⟨(deliver_among hd s).2 hs y hy, fun h => hgone (h ▸ hy)⟩
  have hbefore := (deliver_among ((exchanged_without b d).2 ⟨hd, hne⟩) s).1 hall
  exact ((exchanged_without b _).1 (hbefore _ hwaits)).2 rfl

/-- What a block makes of the announcement, from a state that the exchange leads to, stands at the event's end. -/
theorem drain_announced {x : Announcement} {b : BlockName} {I P : State → Prop}
    (hcongrI : ∀ (s : State) ns n, I s → I { s with notices := ns, draws := n })
    (hcongrP : ∀ (s : State) ns n, P s → P { s with notices := ns, draws := n })
    (hI : ∀ (d : Delivery) (s : State), Exchanged (some x) d → I s → I (s.deliver d)) (htake : ∀ s : State, I s → P (s.deliver (x.to b)))
    (hP : ∀ (d : Delivery) (s : State), Exchanged (some x) d → d ≠ x.to b → P s → P (s.deliver d))
    (pick : Nat → Nat) (fuel : Nat) {s : State} (hs : Among (some x) s) (h : I s) (hstart : x.to b ∈ s.notices ∨ P s)
    (hend : (State.drain pick fuel s).notices = []) : P (State.drain pick fuel s) := by
  induction fuel generalizing s with
  | zero => exact hstart.resolve_left fun hw => by rw [show s.notices = [] from hend] at hw; cases hw
  | succ fuel ih =>
    simp only [State.drain] at hend ⊢
    split
    · next hn => exact hstart.resolve_left fun hw => by rw [hn] at hw; cases hw
    · next hn =>
      rw [if_neg hn] at hend
      rcases deliverOne_takes pick s with e | ⟨d, others, draws, hd, hothers, hrest, e⟩
      · rw [e] at hend ⊢
        exact ih hs h hstart hend
      · have hex := hs d hd
        have hamong : Among (some x) { s with notices := others, draws := draws } := fun y hy => hs y (hothers y hy)
        have hIu := hcongrI s others draws h
        rw [e] at hend ⊢
        refine ih ((deliver_among hex _).2 hamong) (hI d _ hex hIu) ?_ hend
        by_cases hne : d = x.to b
        · rw [hne]
          exact .inr (htake _ hIu)
        · rcases hstart with hw | hp
          · exact .inl (deliver_waits hex hne hamong ((hrest _ hw).resolve_left fun h => hne h.symm))
          · exact .inr (hP d _ hex hne (hcongrP s others draws hp))

/-! ### The Table Store (R167, R171) -/

/-- What the guard's evaluations do to the store engine and to Level Telemetry: trip work asked for, and the contents of a TRIP report. -/
structure TripAsked (s t : State) : Prop where
  engine : ∃ ws, t.engine = { s.engine with tripWork := ws }
  telemetry : ∃ r, t.telemetry = { s.telemetry with lastTrip := r }

theorem TripAsked.of_read {s t : State} (he : Part.engine.read t = Part.engine.read s) (ht : Part.telemetry.read t = Part.telemetry.read s) :
    TripAsked s t := ⟨⟨s.engine.tripWork, he⟩, ⟨s.telemetry.lastTrip, ht⟩⟩

theorem TripAsked.refl (s : State) : TripAsked s s := .of_read rfl rfl

theorem TripAsked.trans {s t u : State} (h : TripAsked s t) (h' : TripAsked t u) : TripAsked s u := by
  obtain ⟨⟨ws, he⟩, ⟨r, ht⟩⟩ := h
  obtain ⟨⟨ws', he'⟩, ⟨r', ht'⟩⟩ := h'
  exact ⟨⟨ws', by rw [he', he]⟩, ⟨r', by rw [ht', ht]⟩⟩

section
variable (s : State)

theorem trip_asked (cause : TripCause) (lr : LevelRecord) : TripAsked s (s.trip cause lr) := by
  have hclosed : ∀ p, p ∉ [Part.guard, .fill, .line, .out, .notices] → p.read (tripClosed cause s) = p.read s := fun p hp =>
    (tripClosed_read cause s (by simp_all)).trans (tripZeroed_read cause s (by simp_all))
  have hengine : (tripClosed cause s).engine = s.engine := hclosed .engine (by decide)
  have htelemetry : (tripClosed cause s).telemetry = s.telemetry := hclosed .telemetry (by decide)
  have hreported : TripAsked s (tripReported cause lr s) :=
    ⟨⟨_, by rw [← hengine]; rfl⟩, ⟨_, by rw [← htelemetry]; rfl⟩⟩
  refine hreported.trans ?_
  unfold State.trip
  dsimp only
  refine TripAsked.trans ?_ (.of_read (tellGuard_read (by decide) _) (tellGuard_read (by decide) _))
  split
  · exact .of_read (fault_read (by decide) _ _ _) (fault_read (by decide) _ _ _)
  · exact .refl _

theorem tripCondition_asked (cause : TripCause) (lr : LevelRecord) : TripAsked s (s.tripCondition cause lr) := by
  unfold State.tripCondition
  split
  · exact .of_read rfl rfl
  · exact .refl _
  · exact trip_asked s cause lr
  · exact trip_asked s cause lr

theorem guardEvaluate_asked (lr : LevelRecord) : TripAsked s (s.guardEvaluate lr) := by
  unfold State.guardEvaluate
  split
  · exact .refl _
  · next g _ =>
    obtain ⟨u, hu⟩ : ∃ u, u = (s.updGuard (GuardBlock.withNumbers g s.tables.strapping lr s.fill.demand)).send .telemetry
      (.projection (s.updGuard (GuardBlock.withNumbers g s.tables.strapping lr s.fill.demand)).guard.projection) := ⟨_, rfl⟩
    dsimp only
    rw [← hu]
    refine TripAsked.trans (t := u) (hu ▸ .of_read rfl rfl) ?_
    split
    · split
      · exact trip_asked u _ _
      · split
        · exact .of_read (anticipate_read (by decide) u) (anticipate_read (by decide) u)
        · exact .refl _
    · split
      · exact trip_asked u _ _
      · split
        · exact .of_read (rearmGuard_read (by decide) u) (rearmGuard_read (by decide) u)
        · exact .refl _
    · split
      · exact tripCondition_asked u _ _
      · exact .refl _

theorem holdOnNotice_asked (lr : LevelRecord) : TripAsked s (s.holdOnNotice lr) := by
  unfold State.holdOnNotice
  split
  · exact .refl _
  · split
    · split
      · exact .refl _
      · unfold State.armHold
        dsimp only
        split
        · exact TripAsked.trans (t := s.updGuard fun b => { b with holdAt := none }) (.of_read rfl rfl) (tripCondition_asked _ _ _)
        · exact .of_read rfl rfl
    · exact .refl _
    · exact .of_read rfl rfl

end

theorem guardTakes_asked {sup : Option Announcement} {n : Notice} (hd : Exchanged sup ⟨.guard, n⟩) (s : State) : TripAsked s (s.guardTakes n) := by
  cases n with
  | level lr _ _ => exact (holdOnNotice_asked s lr).trans (guardEvaluate_asked _ lr)
  | overflowPipe flag =>
    exact TripAsked.trans (t := s.updGuard fun b => { b with frostExtra := flag }) (.of_read rfl rfl) (guardEvaluate_asked _ _)
  | evaluate => exact guardEvaluate_asked s _
  | points | urgentOutcome | tripWork => cases hd
  | _ => exact .refl _

/-- But for the announcement to the store, the exchange opens and ends no load, and leaves the table work. -/
theorem deliver_table {x : Announcement} {d : Delivery} (hd : Exchanged (some x) d) (hne : d ≠ x.to .store) (s : State) :
    (s.deliver d).engine.load = s.engine.load ∧ (s.deliver d).engine.work = s.engine.work := by
  have hother : ∀ t : State, Part.engine.read t = Part.engine.read s → t.engine.load = s.engine.load ∧ t.engine.work = s.engine.work :=
    fun t ht => ⟨congrArg EngineBlock.load ht, congrArg EngineBlock.work ht⟩
  obtain ⟨dest, n⟩ := d
  cases dest with
  | guard =>
    obtain ⟨ws, hws⟩ := (guardTakes_asked hd s).engine
    exact ⟨(congrArg EngineBlock.load hws :), (congrArg EngineBlock.work hws :)⟩
  | store =>
    cases n with
    | supply mode before =>
      obtain ⟨y, hy, rfl, rfl, -⟩ := hd
      cases hy
      exact absurd rfl hne
    | _ => exact ⟨rfl, rfl⟩
  | level => exact hother _ (levelTakes_read (by decide) n s)
  | fill => exact hother _ (fillTakes_read (by decide) n s)
  | frost => exact hother _ (frostTakes_read (by decide) n s)
  | line => exact hother _ (lineTakes_read (by decide) n s)
  | telemetry => exact hother _ (telemetryTakes_read (by decide) n s)

/-- A load with its work not begun is gone. -/
def Unloaded (l : Option OpenLoad) (e : EngineBlock) : Prop := e.load = none ∧ ∀ x, l = some x → ∀ w ∈ e.work, w.load ≠ x.load

theorem dropLoad_engine (load : Nat) (header : Status) (s : State) :
    (s.dropLoad load header).engine.load = (if s.engine.load.any (fun l => l.load == load) then none else s.engine.load) ∧
      (s.dropLoad load header).engine.work = s.engine.work.filter fun w => w.load != load := by
  unfold State.dropLoad
  dsimp only
  exact ⟨congrArg EngineBlock.load (foldl_read (part := .engine) _ (fun s w => respondAll_read (by decide) _ _ _) _ _),
    congrArg EngineBlock.work (foldl_read (part := .engine) _ (fun s w => respondAll_read (by decide) _ _ _) _ _)⟩

theorem endOpenLoad_unloaded (s : State) : Unloaded s.engine.load s.endOpenLoad.engine := by
  unfold State.endOpenLoad
  split
  · next l hl =>
    obtain ⟨hload, hwork⟩ := dropLoad_engine l.load .ended s
    refine ⟨by rw [hload, hl]; simp, fun y hy w hw => ?_⟩
    cases hl.symm.trans hy
    rw [hwork] at hw
    simpa using (List.mem_filter.1 hw).2
  · next hl => exact ⟨hl, fun y hy => by rw [hl] at hy; cases hy⟩

/-- The engine's pick opens and ends no load, and takes work away alone. -/
theorem enginePick_table (s : State) : s.enginePick.engine.load = s.engine.load ∧ ∀ w ∈ s.enginePick.engine.work, w ∈ s.engine.work := by
  have hsuspend : s.suspendForTrip.engine.load = s.engine.load ∧ s.suspendForTrip.engine.work = s.engine.work := by
    unfold State.suspendForTrip
    repeat' split
    all_goals exact ⟨rfl, rfl⟩
  have hdue : ∀ u : State, u.dueForTrip.engine.load = u.engine.load ∧ u.dueForTrip.engine.work = u.engine.work := by
    intro u
    unfold State.dueForTrip
    split
    all_goals exact ⟨rfl, rfl⟩
  have hother : ∀ u : State, u.pickOther.engine.load = u.engine.load ∧ ∀ w ∈ u.pickOther.engine.work, w ∈ u.engine.work := by
    intro u
    unfold State.pickOther
    split
    · exact ⟨rfl, fun _ h => h⟩
    · exact ⟨rfl, fun _ h => h⟩
    · split
      · next w rest hw =>
        have hbegun : (u.beginTable w rest).engine.load = u.engine.load ∧ (u.beginTable w rest).engine.work = rest := by
          unfold State.beginTable
          dsimp only
          split
          all_goals exact ⟨rfl, rfl⟩
        exact ⟨hbegun.1, fun y hy => by rw [hw]; rw [hbegun.2] at hy; exact List.mem_cons_of_mem _ hy⟩
      · exact ⟨rfl, fun _ h => h⟩
  unfold State.enginePick
  dsimp only
  split
  · exact ⟨hsuspend.1, fun _ h => hsuspend.2 ▸ h⟩
  · obtain ⟨hload, hwork⟩ := hdue s.suspendForTrip
    split
    · exact ⟨hload.trans hsuspend.1, fun _ h => by rw [← hsuspend.2, ← hwork]; exact h⟩
    · obtain ⟨hl, hw⟩ := hother s.suspendForTrip.dueForTrip
      exact ⟨hl.trans (hload.trans hsuspend.1), fun y hy => by rw [← hsuspend.2, ← hwork]; exact hw y hy⟩

theorem settle_table (s : State) : s.settle.engine.load = s.engine.load ∧ ∀ w ∈ s.settle.engine.work, w ∈ s.engine.work := by
  have hsettle : s.settle.engine = s.lineSettle.enginePick.engine := trunkSettle_read (part := .engine) (by decide) _
  have hline : s.lineSettle.engine = s.engine := lineSettle_read (part := .engine) (by decide) s
  obtain ⟨hload, hwork⟩ := enginePick_table s.lineSettle
  rw [hsettle]
  exact ⟨hload.trans (congrArg EngineBlock.load hline), fun w hw => hline ▸ hwork w hw⟩

/-! ### Level Telemetry (R131) -/

/-- The mode that the reports show, the LEVEL period standing still on battery. -/
def Told (m : SupplyMode) (b : TelemetryBlock) : Prop := b.contents.supply = m ∧ (m ≠ .mains → b.periodAt = none)

section
variable {m : SupplyMode} {s : State}

theorem offer_told (c : Content) (h : Told m s.telemetry) : Told m (s.offer c).telemetry := by
  rw [show (s.offer c).telemetry = s.telemetry from offer_read (part := .telemetry) (by decide) c s]; exact h

theorem queueLevel_told (h : Told m s.telemetry) : Told m s.queueLevel.telemetry := by
  obtain ⟨hmode, -⟩ := h
  refine ⟨hmode, fun hm => ?_⟩
  show (if s.telemetry.contents.supply = .mains then _ else none) = none
  rw [if_neg (by rw [hmode]; exact hm)]

theorem aimPeriod_told (h : Told m s.telemetry) (hm : m = .mains) : Told m s.aimPeriod.telemetry := by
  unfold State.aimPeriod
  dsimp only
  split
  · exact queueLevel_told h
  · exact ⟨h.1, fun hne => absurd hm hne⟩

theorem passContents_told {f : StateContents → StateContents} (hf : ∀ c, (f c).supply = c.supply) (h : Told m s.telemetry) :
    Told m (s.passContents f).telemetry := by
  have hpassed : Told m (s.updTelemetry fun t => { t with contents := f t.contents }).telemetry := ⟨(hf _).trans h.1, h.2⟩
  have hperiod : ∀ u : State, Told m u.telemetry → Told m (State.periodChanged s u).telemetry := by
    intro u hu
    unfold State.periodChanged
    split
    · next hc => exact aimPeriod_told hu (hu.1.symm.trans hc.1)
    · exact hu
  unfold State.passContents
  dsimp only
  refine hperiod _ ?_
  split
  · exact offer_told _ hpassed
  · exact hpassed

theorem telemetryOnSupply_told (m : SupplyMode) (s : State) : Told m (s.telemetryOnSupply m).telemetry := by
  have hqueued : ∀ u : State, u.telemetry.contents.supply = m → (if s.telemetry.contents.supply = m then u else u.queueState).telemetry.contents.supply = m := by
    intro u hu
    split
    · exact hu
    · exact (congrArg (fun t : TelemetryBlock => t.contents.supply) (offer_read (part := .telemetry) (by decide) _ u)).trans hu
  unfold State.telemetryOnSupply
  dsimp only
  split
  · next hm =>
    have hstart : Told m (if s.telemetry.contents.supply = m then s.updTelemetry fun t => { t with contents := { t.contents with supply := m } }
        else (s.updTelemetry fun t => { t with contents := { t.contents with supply := m } }).queueState).telemetry :=
      ⟨hqueued _ rfl, fun hne => absurd hm hne⟩
    split
    · exact hstart
    · exact aimPeriod_told hstart hm
  · exact ⟨hqueued _ rfl, fun _ => rfl⟩

/-- No other notice changes the mode that the reports show. -/
theorem telemetryTakes_told {n : Notice} (hn : ∀ mode before, n ≠ .supply mode before) (h : Told m s.telemetry) :
    Told m (s.telemetryTakes n).telemetry := by
  cases n with
  | level lr changed _ =>
    have hrecord : Told m (s.updTelemetry fun t => { t with record := lr }).telemetry := h
    show Told m (s.telemetryOnLevel lr changed).telemetry
    unfold State.telemetryOnLevel
    dsimp only
    split
    · exact queueLevel_told hrecord
    · exact hrecord
  | supply mode before => exact absurd rfl (hn mode before)
  | tariff | guardState | station | frostItems | islanded | clockSet => exact passContents_told (fun _ => rfl) h
  | projection => exact h
  | fillItems state purpose order inhibit demand =>
    exact passContents_told (s := s.updTelemetry fun t => { t with demand := demand }) (fun _ => rfl) h
  | tripNumber slot =>
    show Told m (s.tripNumbered slot).telemetry
    unfold State.tripNumbered
    split
    · exact h
    · exact offer_told _ (s := s.updTelemetry fun t => { t with lastTrip := some _ }) h
  | _ => exact h

end

/-- But for the announcement itself, the exchange leaves the mode that the reports show. -/
theorem deliver_told {x : Announcement} {d : Delivery} (hd : Exchanged (some x) d) (hne : d ≠ x.to .telemetry) {m : SupplyMode} {s : State}
    (h : Told m s.telemetry) : Told m (s.deliver d).telemetry := by
  have hother : ∀ t : State, Part.telemetry.read t = Part.telemetry.read s → Told m t.telemetry := fun t ht => by
    rw [show t.telemetry = s.telemetry from ht]; exact h
  obtain ⟨dest, n⟩ := d
  cases dest with
  | telemetry =>
    refine telemetryTakes_told (fun mode before hn => ?_) h
    subst hn
    obtain ⟨y, hy, rfl, rfl, -⟩ := hd
    cases hy
    exact hne rfl
  | guard =>
    obtain ⟨r, hr⟩ := (guardTakes_asked hd s).telemetry
    show Told m (s.guardTakes n).telemetry
    rw [hr]
    exact h
  | level => exact hother _ (levelTakes_read (by decide) n s)
  | fill => exact hother _ (fillTakes_read (by decide) n s)
  | frost => exact hother _ (frostTakes_read (by decide) n s)
  | line => exact hother _ (lineTakes_read (by decide) n s)
  | store => exact hother _ (storeTakes_read (by decide) n s)

end Sys2Proof.Laws
end

section
/-! PROOFS. The protect input, and the acts of each block on the loss and the return of the mains (R46, R104, R119, R127, R131, R171): O9. -/

namespace Sys2Proof.Laws

open Sys2Proof.Machine

/-! ### The Frost Unit (R119, R127) -/

/-- The notices that reach the Frost Unit are the announcement and the removals that it causes. -/
theorem deliver_frost_cases {x : Announcement} {d : Delivery} (hd : Exchanged (some x) d) (hne : d ≠ x.to .frost) (s : State) :
    (s.deliver d).frost = s.frost ∨ ∃ a i target, (s.deliver d).frost = (s.frostOnCommand a i target .supply).frost := by
  obtain ⟨dest, n⟩ := d
  cases dest with
  | frost =>
    cases n with
    | command a i target o =>
      obtain rfl : o = .supply := (hd rfl).2
      exact .inr ⟨a, i, target, rfl⟩
    | supply mode before =>
      obtain ⟨y, hy, rfl, rfl, -⟩ := hd
      cases hy
      exact absurd rfl hne
    | points | tariff | frostBank => cases hd
    | _ => exact .inl rfl
  | level => exact .inl (levelTakes_read (part := .frost) (by decide) n s)
  | guard => exact .inl (guardTakes_read (part := .frost) (by decide) n s)
  | fill => exact .inl (fillTakes_read (part := .frost) (by decide) n s)
  | line => exact .inl (lineTakes_read (part := .frost) (by decide) n s)
  | telemetry => exact .inl (telemetryTakes_read (part := .frost) (by decide) n s)
  | store => exact .inl (storeTakes_read (part := .frost) (by decide) n s)

/-- Without a call for an allocation and with the requests as they were, the rest of an event changes flags and watch alone. -/
theorem frostSettle_uncalled {before s : State} (h : s.frost.requests = before.frost.requests) :
    (State.frostSettle before false s).frost.budget = s.frost.budget ∧ (State.frostSettle before false s).frost.zones = s.frost.zones := by
  have hbudget : s.frostFlags.frost.budget = s.frost.budget := by
    unfold State.frostFlags
    dsimp only
    repeat' split
    all_goals rfl
  have hrequests : s.frostFlags.frost.requests = before.frost.requests :=
    (congrArg (List.map ZoneState.request) (frostFlags_zones s)).trans h
  have hfrost : (State.frostSettle before false s).frost = s.frostFlags.frost := by
    unfold State.frostSettle
    dsimp only
    rw [if_neg (by simp [hrequests])]
    exact passFrost_read (part := .frost) (by decide) _ _
  rw [hfrost]
  exact ⟨hbudget, frostFlags_zones s⟩

/-- Every heater shed, with a budget of 0 (R127). -/
def ShedAll (b : FrostBlock) : Prop :=
  b.budget = 0 ∧ ∀ z ∈ b.zones, z.granted = false ∧ z.heater = .off ∧ z.held = none ∧ z.deferralAt = none

theorem frostOnSupply_sheds {mode : SupplyMode} (hm : mode ≠ .mains) (s : State) : ShedAll (s.frostOnSupply mode .mains).frost := by
  have hrequests : (s.updFrost fun b => { b with budget := 0, zones := b.zones.map ZoneState.shed }).frost.requests = s.frost.requests := by
    show (s.frost.zones.map ZoneState.shed).map ZoneState.request = s.frost.zones.map ZoneState.request
    rw [List.map_map]
    rfl
  obtain ⟨hbudget, hzones⟩ := frostSettle_uncalled hrequests
  have hshed : s.frostOnSupply mode .mains =
      State.frostSettle s false (s.updFrost fun b => { b with budget := 0, zones := b.zones.map ZoneState.shed }) := by
    rw [State.frostOnSupply, if_neg hm, if_pos rfl]
  rw [hshed]
  refine ⟨hbudget, fun z hz => ?_⟩
  rw [hzones] at hz
  obtain ⟨y, -, rfl⟩ := List.mem_map.1 hz
  exact ⟨rfl, rfl, rfl, rfl⟩

/-- The requests do not turn on an outcome. -/
theorem outcome_requests (i : Nat) (on : Bool) (o : CommandOutcome) (seen : Option Int) (s : State) :
    (s.updZone i (ZoneState.outcome on o seen)).frost.requests = s.frost.requests := by
  have hrequest : ∀ z : ZoneState, (z.outcome on o seen).request = z.request := fun z => by cases o <;> rfl
  show (s.frost.zones.modify i _).map ZoneState.request = s.frost.zones.map ZoneState.request
  refine List.ext_getElem? fun j => ?_
  rw [List.getElem?_map, List.getElem?_map, List.getElem?_modify]
  cases s.frost.zones[j]? with
  | none => rfl
  | some z =>
    by_cases hij : i = j
    · simp [hij, hrequest]
    · simp [hij]

/-- A removal on battery finds the heater shed. -/
theorem frostOnCommand_shed {s : State} (h : ShedAll s.frost) (a i target : Nat) : ShedAll (s.frostOnCommand a i target .supply).frost := by
  unfold State.frostOnCommand
  split
  · exact h
  · next j _ =>
    dsimp only
    obtain ⟨hbudget, hzones⟩ := frostSettle_uncalled (outcome_requests j (target == 1) .supply ((s.zoneRecords[j]?).bind s.zoneFeedback) s)
    refine ⟨hbudget.trans h.1, fun z hz => ?_⟩
    have hz' := hzones ▸ hz
    rw [updZone_frost] at hz'
    obtain ⟨k, hk⟩ := List.mem_iff_getElem?.1 hz'
    rw [List.getElem?_modify] at hk
    obtain ⟨y, hy, rfl⟩ := Option.map_eq_some_iff.1 hk
    obtain ⟨hgranted, hheater, hheld, hdeferral⟩ := h.2 y (List.mem_of_getElem? hy)
    by_cases hjk : j = k
    · simp only [hjk, if_true]
      exact ⟨hgranted, rfl, hheld, hdeferral⟩
    · simp only [hjk, if_false]
      exact ⟨hgranted, hheater, hheld, hdeferral⟩

/-- The budget of the tariff class (R119). -/
def Budgeted (s : State) : Prop := s.frost.budget = siteBudget s.tables.siteSet s.frost.tariff

theorem frostSettle_budgeted {s : State} (before : State) (calls : Bool) (h : Budgeted s) : Budgeted (State.frostSettle before calls s) := by
  obtain ⟨zs, hzs⟩ := frostSettle_frost before calls s
  have htables : (State.frostSettle before calls s).tables = s.tables := frostSettle_read (part := .tables) (by decide) _ _ _
  rw [Budgeted, hzs, htables]
  exact h

theorem frostOnSupply_budgets {s : State} (hm : s.supply.mode = .mains) (before : SupplyMode) : Budgeted (s.frostOnSupply .mains before) := by
  rw [State.frostOnSupply, if_pos rfl]
  refine frostSettle_budgeted _ _ ?_
  show s.budgetNow = siteBudget s.tables.siteSet s.frost.tariff
  rw [State.budgetNow, if_pos hm]

theorem frostOnCommand_budgeted {s : State} (h : Budgeted s) (a i target : Nat) (o : CommandOutcome) : Budgeted (s.frostOnCommand a i target o) := by
  unfold State.frostOnCommand
  split
  · exact h
  · exact frostSettle_budgeted _ _ h

/-! ### The command list (R46) -/

/-- On battery the command list holds inlet closes alone. -/
def ClosesAlone (s : State) : Prop :=
  s.supply.mode ≠ .mains ∧ ∀ e ∈ s.line.commands, s.isInlet e.address e.item = true ∧ e.target = 0

theorem isInlet_congr {s t : State} (h : Part.tables.read t = Part.tables.read s) (a i : Nat) : t.isInlet a i = s.isInlet a i := by
  rw [State.isInlet, State.isInlet, show t.tables = s.tables from h]

theorem closesAlone_congr {s t : State} (hl : t.line.commands = s.line.commands) (ht : Part.tables.read t = Part.tables.read s)
    (hs : Part.supply.read t = Part.supply.read s) (h : ClosesAlone s) : ClosesAlone t := by
  have hs' : t.supply = s.supply := hs
  refine ⟨by rw [hs']; exact h.1, fun e he => ?_⟩
  rw [isInlet_congr ht]
  exact h.2 e (hl ▸ he)

theorem placeCommand_closesAlone (a i f : Nat) (o : Origin) (target : Nat) {s : State} (h : ClosesAlone s) :
    ClosesAlone (s.placeCommand a i f o target).1 := by
  unfold State.placeCommand
  dsimp only
  split
  · exact h
  · split
    · exact h
    · next hclose =>
      have hmode : (s.supply.mode != .mains) = true := by simpa using h.1
      have hentry : s.isInlet a i = true ∧ target = 0 := by simpa [hmode] using hclose
      split
      · refine ⟨h.1, fun e he => ?_⟩
        obtain ⟨y, hy, rfl⟩ := List.mem_map.1 he
        split
        · exact hentry
        · exact h.2 y hy
      · split
        · refine ⟨h.1, fun e he => ?_⟩
          rcases List.mem_append.1 he with he | he
          · exact h.2 e he
          · rw [List.mem_singleton.1 he]
            exact hentry
        · exact h

theorem closesAlone_acts : ActsKeep ClosesAlone where
  frame s t hl ht hs h := closesAlone_congr (congrArg LineBlock.commands hl) ht hs h
  place a i f o target s h := placeCommand_closesAlone a i f o target h
  remove a i s h := ⟨h.1, fun e he => by rw [removeCommand_line] at he; exact h.2 e (List.mem_filter.1 he).1⟩
  urgent _ _ _ _ h := h

/-- The scheduler removes every entry but an inlet close. -/
theorem lineOnSupply_closesAlone {s : State} {mode : SupplyMode} (hm : mode ≠ .mains) (hs : s.supply.mode ≠ .mains) :
    ClosesAlone (s.lineOnSupply mode) := by
  unfold State.lineOnSupply
  rw [if_neg hm]
  obtain ⟨hothers, -, -, -, -, -, hcommands⟩ :=
    removeTold_fold .supply (s.line.commands.filter fun e => !(s.isInlet e.address e.item && e.target == 0)) s
  refine ⟨by rw [show State.supply _ = s.supply from hothers .supply (by decide)]; exact hs, fun e he => ?_⟩
  obtain ⟨hin, hgone⟩ := (hcommands e).1 he
  rw [isInlet_congr (hothers .tables (by decide))]
  by_contra hnot
  have hself := hgone e (List.mem_filter.2 ⟨hin, by simpa [imp_iff_not_or] using hnot⟩)
  rw [(isFor_iff _ _ _).2 ⟨rfl, rfl⟩] at hself
  cases hself

theorem settle_closesAlone {s : State} (h : ClosesAlone s) : ClosesAlone s.settle := by
  have hsupply : s.settle.supply = s.supply := settle_read (part := .supply) (by decide) s
  refine ⟨by rw [hsupply]; exact h.1, fun e he => ?_⟩
  rw [settle_lineSettle] at he
  have hmem : { e with turnCycle := none } ∈ s.line.commands.map fun e => { e with turnCycle := none } := by
    rw [← (lineSettle_shrunk s).entries]
    exact List.mem_map_of_mem he
  obtain ⟨y, hy, hye⟩ := List.mem_map.1 hmem
  simp only [CommandEntry.mk.injEq] at hye
  obtain ⟨haddress, hitem, -, -, htarget, -⟩ := hye
  rw [isInlet_congr (settle_read (part := .tables) (by decide) s), ← haddress, ← hitem, ← htarget]
  exact h.2 y hy

/-! ### The fill (R103, R104) -/

/-- A fill with a reason in its inhibit set is HELD with no demand (R104). -/
def HeldIfInhibited (b : FillBlock) : Prop := b.inhibit ≠ [] → b.state = .held ∧ b.demand = 0

theorem HeldIfInhibited.keep {b0 b : FillBlock} (h : HeldIfInhibited b0) (hk : HeldKept b0 b) : HeldIfInhibited b := by
  intro hne
  rw [hk.inhibit] at hne
  obtain ⟨hstate, hdemand⟩ := h hne
  obtain ⟨h1, h2, -⟩ := hk.held hstate
  exact ⟨h1, h2.trans hdemand⟩

theorem HeldIfInhibited.change {s : State} (h : HeldIfInhibited s.fill) (add remove : List Reason) :
    HeldIfInhibited (s.changeInhibit add remove).fill := by
  intro hne
  rw [changeInhibit_inhibit] at hne
  unfold State.changeInhibit
  dsimp only
  rw [if_neg hne]
  split
  · obtain ⟨tag, timer, had, hfill⟩ := setDemand_fill 0
      ((s.updFill fun f => { f with inhibit := inhibitAfter add remove s.fill.inhibit }).setFill .held none)
    rw [State.enterHeld, hfill]
    exact ⟨rfl, rfl⟩
  · next hbefore => exact h hbefore

theorem FillMoves.heldIfInhibited {sup : Option Announcement} {b0 b : FillBlock} (hm : FillMoves sup b0 b) (h : HeldIfInhibited b0) :
    HeldIfInhibited b := by
  cases hm with
  | kept hk => exact h.keep hk
  | zeroed hz =>
    obtain rfl | ⟨tag, timer, rfl⟩ := hz
    · exact h
    · exact fun hne => ⟨(h hne).1, rfl⟩
  | changed u add remove hu hk _ _ => exact ((h.keep hu).change add remove).keep hk

/-- A reason that the exchanged notices do not add stays out of the set. -/
theorem FillMoves.notMem {sup : Option Announcement} {r : Reason} {b0 b : FillBlock} (hm : FillMoves sup b0 b) (hr : ¬ Joins sup r)
    (h : r ∉ b0.inhibit) : r ∉ b.inhibit := by
  cases hm with
  | kept hk => rw [hk.inhibit]; exact h
  | zeroed hz => obtain rfl | ⟨tag, timer, rfl⟩ := hz <;> exact h
  | changed u add remove hu hk hadd _ =>
    rw [hk.inhibit, changeInhibit_inhibit, mem_inhibitAfter, hu.inhibit]
    exact fun hin => hin.1.elim h fun hin => hr (hadd r hin)

/-! ### The announcement at an event's end -/

section
variable {s : State} (mode before : SupplyMode)

/-- The announcement to all five blocks. -/
def announced : Announcement := ⟨mode, before, [.fill, .frost, .line, .store, .telemetry]⟩

/-- The announcement waits for each of the five blocks, and nothing else does. -/
theorem changeMode_announces (hn : s.notices = []) : Among (some (announced mode s.supply.mode)) (s.changeMode mode) ∧
    ∀ b ∈ [BlockName.fill, .frost, .line, .store, .telemetry], (announced mode s.supply.mode).to b ∈ (s.changeMode mode).notices := by
  have hnotices : (s.changeMode mode).notices =
      [BlockName.fill, .frost, .line, .store, .telemetry].map fun b => (announced mode s.supply.mode).to b := by
    show s.notices ++ _ = _
    rw [hn]
    rfl
  refine ⟨fun d hd => ?_, fun b hb => ?_⟩
  · rw [hnotices] at hd
    obtain ⟨b, hb, rfl⟩ := List.mem_map.1 hd
    exact ⟨_, rfl, rfl, rfl, hb⟩
  · rw [hnotices]
    exact List.mem_map_of_mem hb

end

/-- A property that the deliveries but one keep, and that one brings about, at the event's end. -/
theorem concluded_announced {x : Announcement} {b : BlockName} {I P : State → Prop}
    (hcongrI : ∀ (s : State) ns n, I s → I { s with notices := ns, draws := n })
    (hcongrP : ∀ (s : State) ns n, P s → P { s with notices := ns, draws := n })
    (hI : ∀ (d : Delivery) (s : State), Exchanged (some x) d → I s → I (s.deliver d)) (htake : ∀ s : State, I s → P (s.deliver (x.to b)))
    (hP : ∀ (d : Delivery) (s : State), Exchanged (some x) d → d ≠ x.to b → P s → P (s.deliver d))
    (hsettle : ∀ s : State, P s → P s.settle) {s : State} (hs : Among (some x) s) (h : I s) (hwaits : x.to b ∈ s.notices)
    (hend : (concluded s).notices = []) : P (concluded s) := by
  have hdrained : (State.drain Config.pick Config.deliveryFuel s).notices = [] :=
    (settle_read (part := .notices) (by decide) _).symm.trans hend
  exact hsettle _ (drain_announced hcongrI hcongrP hI htake hP Config.pick Config.deliveryFuel hs h (.inl hwaits) hdrained)

/-- The announcement waits for its five blocks, and at the end of the event no notice waits. -/
structure Announces (x : Announcement) (s : State) : Prop where
  among : Among (some x) s
  waits : ∀ b ∈ [BlockName.fill, .frost, .line, .store, .telemetry], x.to b ∈ s.notices
  ends : (concluded s).notices = []

section
variable {x : Announcement} {s : State} (ha : Announces x s)

include ha

theorem concluded_told : Told x.mode (concluded s).telemetry :=
  concluded_announced (b := .telemetry) (I := fun _ => True) (P := fun t => Told x.mode t.telemetry) (fun _ _ _ h => h) (fun _ _ _ h => h)
    (fun _ _ _ h => h) (fun t _ => telemetryOnSupply_told x.mode t) (fun _ _ hd hne h => deliver_told hd hne h)
    (fun t h => by rw [show t.settle.telemetry = t.telemetry from settle_read (part := .telemetry) (by decide) t]; exact h)
    ha.among trivial (ha.waits _ (by decide)) ha.ends

/-- The fill on the loss of the mains (R103, R104). -/
theorem concluded_battery (hm : x.mode ≠ .mains) (hlaw : HeldIfInhibited s.fill) : Inhibited .battery True (concluded s).fill := by
  have hleaves : ¬ Leaves (some x) .battery := by simp [Leaves, hm]
  refine concluded_announced (b := .fill) (I := fun t => HeldIfInhibited t.fill) (P := fun t => Inhibited .battery True t.fill)
    (fun _ _ _ h => h) (fun _ _ _ h => h) (fun _ t hd h => (deliver_fill hd t).heldIfInhibited h) (fun t h => ?_)
    (fun _ t hd _ h => (deliver_fill hd t).inhibited hleaves h)
    (fun t h => by rw [show t.settle.fill = t.fill from settle_read (part := .fill) (by decide) t]; exact h)
    ha.among hlaw (ha.waits _ (by decide)) ha.ends
  show Inhibited .battery True (State.fillEvent (if x.mode = .mains then _ else _) t).fill
  rw [if_neg hm]
  exact (changeInhibit_inhibits fun _ => h).keep (fillEvent_heldKept (State.changeInhibit [.battery] []) t)

/-- The fill on the return of the mains. -/
theorem concluded_freed (hm : x.mode = .mains) : Reason.battery ∉ (concluded s).fill.inhibit := by
  have hjoins : ¬ Joins (some x) .battery := by simp [Joins, hm]
  refine concluded_announced (b := .fill) (I := fun _ => True) (P := fun t => Reason.battery ∉ t.fill.inhibit)
    (fun _ _ _ h => h) (fun _ _ _ h => h) (fun _ _ _ h => h) (fun t _ => ?_) (fun _ t hd _ h => (deliver_fill hd t).notMem hjoins h)
    (fun t h => by rw [show t.settle.fill = t.fill from settle_read (part := .fill) (by decide) t]; exact h)
    ha.among trivial (ha.waits _ (by decide)) ha.ends
  show Reason.battery ∉ (State.fillEvent (if x.mode = .mains then _ else _) t).fill.inhibit
  rw [if_pos hm, (fillEvent_heldKept (State.changeInhibit [] [.battery]) t).inhibit, changeInhibit_inhibit, mem_inhibitAfter]
  simp

/-- The heaters on the loss of the mains (R127). -/
theorem concluded_shed (hm : x.mode ≠ .mains) (hbefore : x.before = .mains) : ShedAll (concluded s).frost := by
  refine concluded_announced (b := .frost) (I := fun _ => True) (P := fun t => ShedAll t.frost) (fun _ _ _ h => h) (fun _ _ _ h => h)
    (fun _ _ _ h => h) (fun t _ => ?_) (fun d t hd hne h => ?_)
    (fun t h => by rw [show t.settle.frost = t.frost from settle_read (part := .frost) (by decide) t]; exact h)
    ha.among trivial (ha.waits _ (by decide)) ha.ends
  · show ShedAll (t.frostOnSupply x.mode x.before).frost
    rw [hbefore]
    exact frostOnSupply_sheds hm t
  · rcases deliver_frost_cases hd hne t with e | ⟨a, i, target, e⟩
    · rw [e]; exact h
    · rw [e]; exact frostOnCommand_shed h a i target

/-- The budget on the return of the mains (R119). -/
theorem concluded_budgeted (hm : x.mode = .mains) (hs : s.supply.mode = .mains) : Budgeted (concluded s) := by
  have hcongr : ∀ t u : State, u.frost = t.frost → u.tables = t.tables → Budgeted t → Budgeted u := fun t u hf ht h => by
    rw [Budgeted, hf, ht]; exact h
  refine concluded_announced (b := .frost) (I := fun t => t.supply.mode = .mains) (P := Budgeted) (fun _ _ _ h => h) (fun _ _ _ h => h)
    (fun d t _ h => ?_) (fun t h => ?_) (fun d t hd hne h => ?_)
    (fun t h => hcongr t _ (settle_read (part := .frost) (by decide) t) (settle_read (part := .tables) (by decide) t) h)
    ha.among hs (ha.waits _ (by decide)) ha.ends
  · rw [show (t.deliver d).supply = t.supply from deliver_read (part := .supply) (by decide) d t]; exact h
  · show Budgeted (t.frostOnSupply x.mode x.before)
    rw [hm]
    exact frostOnSupply_budgets h x.before
  · have htables : (t.deliver d).tables = t.tables := deliver_read (part := .tables) (by decide) d t
    rcases deliver_frost_cases hd hne t with e | ⟨a, i, target, e⟩
    · exact hcongr t _ e htables h
    · exact hcongr _ _ e (htables.trans (frostOnCommand_read (part := .tables) (by decide) a i target .supply t).symm)
        (frostOnCommand_budgeted h a i target .supply)

/-- The command list on the loss of the mains (R46). -/
theorem concluded_closesAlone (hm : x.mode ≠ .mains) (hs : s.supply.mode ≠ .mains) : ClosesAlone (concluded s) :=
  concluded_announced (b := .line) (I := fun t => t.supply.mode ≠ .mains) (P := ClosesAlone) (fun _ _ _ h => h)
    (fun _ _ _ h => closesAlone_congr rfl rfl rfl h)
    (fun d t _ h => by rw [show (t.deliver d).supply = t.supply from deliver_read (part := .supply) (by decide) d t]; exact h)
    (fun _ h => lineOnSupply_closesAlone hm h) (fun d t _ _ h => closesAlone_acts.deliver d t h) (fun _ h => settle_closesAlone h)
    ha.among hs (ha.waits _ (by decide)) ha.ends

/-- The open load on the loss of the mains (R171). -/
theorem concluded_unloaded (hm : x.mode ≠ .mains) : Unloaded s.engine.load (concluded s).engine := by
  have htaken : ∀ t : State, t.engine.load = s.engine.load ∨ Unloaded s.engine.load t.engine →
      Unloaded s.engine.load (t.deliver (x.to .store)).engine := by
    intro t h
    show Unloaded s.engine.load (t.storeOnSupply x.mode).engine
    rw [State.storeOnSupply, if_neg hm]
    rcases h with h | h
    · exact h ▸ endOpenLoad_unloaded t
    · rw [State.endOpenLoad, h.1]
      exact h
  have hkept : ∀ (d : Delivery) (t : State), Exchanged (some x) d → d ≠ x.to .store → Unloaded s.engine.load t.engine →
      Unloaded s.engine.load (t.deliver d).engine := by
    intro d t hd hne h
    obtain ⟨hload, hwork⟩ := deliver_table hd hne t
    exact ⟨hload.trans h.1, by rw [hwork]; exact h.2⟩
  refine concluded_announced (b := .store) (I := fun t => t.engine.load = s.engine.load ∨ Unloaded s.engine.load t.engine)
    (P := fun t => Unloaded s.engine.load t.engine) (fun _ _ _ h => h) (fun _ _ _ h => h) (fun d t hd h => ?_) htaken hkept (fun t h => ?_)
    ha.among (.inl rfl) (ha.waits _ (by decide)) ha.ends
  · by_cases hne : d = x.to .store
    · exact .inr (hne ▸ htaken t h)
    · exact h.imp (fun h => (deliver_table hd hne t).1.trans h) (hkept d t hd hne)
  · obtain ⟨hload, hwork⟩ := settle_table t
    exact ⟨hload.trans h.1, fun y hy w hw => h.2 y hy w (hwork w hw)⟩

end

/-! ### The protect input (R171) -/

/-- An open load as an asserted protect input marks it. -/
def protectMarked (active : Bool) (l : OpenLoad) : OpenLoad := if active && l.kind.isProtected then { l with protectEnded := true } else l

theorem protectChange_parts (active : Bool) (s : State) : (s.protectChange active).inputs = { s.inputs with protect := active } ∧
    (s.protectChange active).engine = { s.engine with load := s.engine.load.map (protectMarked active) } ∧
    ∀ p, p ∉ [Part.inputs, .engine] → p.read (s.protectChange active) = p.read s := by
  cases active with
  | true =>
    refine ⟨rfl, ?_, fun p hp => protectChange_read hp true s⟩
    have hmark : protectMarked true = fun l => if l.kind.isProtected then { l with protectEnded := true } else l := by
      funext l
      simp [protectMarked]
    rw [hmark]
    rfl
  | false =>
    refine ⟨rfl, ?_, fun p hp => protectChange_read hp false s⟩
    have hsame : s.engine.load.map (protectMarked false) = s.engine.load := by
      cases s.engine.load with
      | none => rfl
      | some l => simp [protectMarked]
    rw [hsame]
    rfl

theorem protectInput_marks {s : State} {active : Bool} (hready : s.Ready) (hne : s.inputs.protect ≠ active) :
    exec (.protectInputChange active) s = .next (s.protectChange active).settle := by
  obtain ⟨-, -, hothers⟩ := protectChange_parts active s
  have hnotices : (s.protectChange active).notices = [] := (hothers .notices (by decide)).trans hready.2
  show Host.Outcome.next (if s.inputs.protect = active then s else if s.powered then State.event Config.pick (State.protectChange active) s
    else s.updInputs fun i => { i with protect := active }) = _
  rw [if_neg hne, if_pos hready.1, event_powered _ _ _ hready.1, drain_nil _ _ _ hnotices]

/-! ### The counts of the mains (R177) -/

/-- The state at the end of a count of the mains, before the mode changes. -/
def counted (due : Nat) (s : State) : State := (s.advanceTo due).updSupply fun x => { x with count := .none }

theorem counted_read {s : State} {due : Nat} (hready : s.Ready) :
    (∀ p, p ∉ [Part.timeUs, .fill, .supply] → p.read (counted due s) = p.read s) ∧ (counted due s).notices = [] := by
  have hread : ∀ p, p ∉ [Part.timeUs, .fill, .supply] → p.read (counted due s) = p.read s := fun p hp =>
    (updSupply_read (by simp_all) _ _).trans (advanceTo_read (by simp_all) due s)
  exact ⟨hread, (hread .notices (by decide)).trans hready.2⟩

/-- Time moves the clock of the fill alone. -/
theorem advanceTo_heldIfInhibited {s : State} (due : Nat) (h : HeldIfInhibited s.fill) : HeldIfInhibited (s.advanceTo due).fill := by
  unfold State.advanceTo State.advanceUs
  split
  · exact h
  · exact h

/-- A change of mode is announced to the five blocks, and the mode stays as it became. -/
theorem changeMode_concludes {v : State} {m : SupplyMode} (hn : v.notices = []) (hend : (concluded (v.changeMode m)).notices = []) :
    Announces (announced m v.supply.mode) (v.changeMode m) ∧ (concluded (v.changeMode m)).supply.mode = m := by
  obtain ⟨hamong, hwaits⟩ := changeMode_announces (s := v) m hn
  have hsupply : (concluded (v.changeMode m)).supply = (v.changeMode m).supply :=
    (settle_read (part := .supply) (by decide) _).trans (drain_read (part := .supply) (by decide) _ _ _)
  exact ⟨⟨hamong, hwaits, hend⟩, congrArg SupplyBlock.mode hsupply⟩

/-- Settles O9: by the mark of the protect input, and what each block makes of an announcement that waits for it. -/
theorem protectInputAndSupplyMode : Obligations.ProtectInputAndSupplyMode := by
  refine ⟨fun s active hready hne => ?_, fun s due hready hcount hmode hlaw => ?_, fun s due hready hcount => ?_⟩
  · obtain ⟨hinputs, hengine, hothers⟩ := protectChange_parts active s
    have hwaits : s.engineWaits → (s.protectChange active).engineWaits := fun h => by rw [State.engineWaits, hengine]; exact h
    have hclear : (s.protectChange active).inputs.clearToSend = s.inputs.clearToSend := by rw [hinputs]
    have hrestart : (s.protectChange active).trunk.restartDue = s.trunk.restartDue := congrArg TrunkBlock.restartDue (hothers .trunk (by decide))
    refine ⟨_, protectInput_marks hready hne, (settle_read (part := .inputs) (by decide) _).trans hinputs,
      (settle_table _).1.trans (congrArg EngineBlock.load hengine), fun h => (settle_engine _ (hwaits h)).trans hengine,
      fun h => (settle_nv _ (hwaits h)).trans (hothers .nv (by decide)), settle_kept _ _ _ hothers hclear hrestart⟩
  · obtain ⟨hv, hnotices⟩ := counted_read (due := due) hready
    have hsame : (s.advanceTo due).supply = s.supply := advanceTo_read (part := .supply) (by decide) due s
    have hbefore : (counted due s).supply.mode = .mains := (congrArg SupplyBlock.mode hsame).trans hmode
    obtain ⟨m, hmdef⟩ : ∃ m, m = batteryMode (s.advanceTo due).supply.low := ⟨_, rfl⟩
    have hm : m ≠ .mains := by
      rw [hmdef, batteryMode]
      split <;> decide
    refine ⟨concluded ((counted due s).changeMode m), ?_, fun hend => ?_⟩
    · show Host.Outcome.next (State.expiry Config.pick s.supply.lossAt due State.mainsLost s) = _
      rw [expiry_concludes hready.1 (by rw [SupplyBlock.lossAt, hcount]), hmdef]
      rfl
    · obtain ⟨ha, hsupply⟩ := changeMode_concludes hnotices hend
      have hfill : HeldIfInhibited ((counted due s).changeMode m).fill := advanceTo_heldIfInhibited due fun h => hlaw hready.1 h
      have hload : ((counted due s).changeMode m).engine.load = s.engine.load := congrArg EngineBlock.load (hv .engine (by decide))
      obtain ⟨hnone, hwork⟩ := concluded_unloaded ha hm
      obtain ⟨hbudget, hzones⟩ := concluded_shed ha hm hbefore
      obtain ⟨hbattery, hheld⟩ := concluded_battery ha hm hfill
      obtain ⟨htold, hperiod⟩ := concluded_told ha
      obtain ⟨hstate, hdemand⟩ := hheld trivial
      exact ⟨by rw [hsupply]; exact hm, hnone, fun l hl => hwork l (hload.trans hl), (concluded_closesAlone ha hm hm).2, hbudget, hzones, hbattery,
        hstate, hdemand, htold.trans hsupply.symm, hperiod hm⟩
  · obtain ⟨-, hnotices⟩ := counted_read (due := due) hready
    refine ⟨concluded ((counted due s).changeMode .mains), ?_, fun hend => ?_⟩
    · show Host.Outcome.next (State.expiry Config.pick s.supply.returnAt due State.mainsReturned s) = _
      rw [expiry_concludes hready.1 (by rw [SupplyBlock.returnAt, hcount])]
      rfl
    · obtain ⟨ha, -⟩ := changeMode_concludes hnotices hend
      exact ⟨concluded_freed ha rfl, concluded_budgeted ha rfl rfl, (concluded_told ha).1⟩

end Sys2Proof.Laws
end

section
/-! PROOFS. The working level of the usable points, the history ring and the rate across it (R53, R57 to R59): O19 and O20. -/

namespace Sys2Proof.Laws

open Sys2Proof.Machine

/-! ### Fusion (R53) -/

theorem fuse_within {band a b : Nat} (held : Nat) (hab : a ≤ b + band) (hba : b ≤ a + band) :
    fuse band held (some a) (some b) = ((a + b) / 2, .good, .good) := by
  have hband : max a b - min a b ≤ band := by omega
  simp only [fuse, if_pos hband]

theorem fuse_beyond {band a b : Nat} (held : Nat) (h : b + band < a ∨ a + band < b) :
    fuse band held (some a) (some b) = (max a b, .split, .split) := by
  have hband : ¬ max a b - min a b ≤ band := by omega
  simp only [fuse, if_neg hband]

/-- The fused level is no higher than the usable points and the level held. -/
theorem fuse_le {band held top : Nat} {a b : Option Nat} (ha : ∀ x, a = some x → x ≤ top) (hb : ∀ x, b = some x → x ≤ top)
    (hheld : held ≤ top) : (fuse band held a b).1 ≤ top := by
  cases a with
  | none =>
    cases b with
    | none => exact hheld
    | some y => exact hb y rfl
  | some x =>
    cases b with
    | none => exact ha x rfl
    | some y =>
      have hx := ha x rfl
      have hy := hb y rfl
      unfold fuse
      dsimp only
      split
      · show (x + y) / 2 ≤ top
        omega
      · exact max_le hx hy

/-- The level and the quality of a recomputation are those of the fused points. -/
theorem recompute_fuses (g : GuardSet) (sample : Option Nat) (s : State) :
    (s.recompute g sample).level.record.w = (fuse g.agreeBand s.level.record.w (s.usableA g) (s.usableB g)).1 ∧
      (s.recompute g sample).level.record.quality = (fuse g.agreeBand s.level.record.w (s.usableA g) (s.usableB g)).2.1 := by
  obtain ⟨beyond, hlevel⟩ := recompute_level g sample s
  rw [hlevel]
  exact ⟨rfl, rfl⟩

/-- Settles O19: each clause is the case of the fusion that its points name. -/
theorem levelFollowsTheUsablePoints : Obligations.LevelFollowsTheUsablePoints := by
  intro s g sample
  obtain ⟨hw, hquality⟩ := recompute_fuses g sample s
  rw [hw, hquality]
  refine ⟨fun a b ha hb hab hba => ?_, fun a b ha hb h => ?_, fun x h => ?_, fun ha hb => ?_, fuse_le⟩
  · rw [ha, hb, fuse_within _ hab hba]
    exact ⟨rfl, rfl⟩
  · rw [ha, hb, fuse_beyond _ h]
    exact ⟨rfl, rfl⟩
  · rcases h with ⟨ha, hb⟩ | ⟨ha, hb⟩ <;> rw [ha, hb] <;> exact ⟨rfl, rfl⟩
  · rw [ha, hb]
    exact ⟨rfl, rfl⟩

/-! ### The history ring of a recomputation (R57, R58, R60) -/

/-- All that a recomputation does to the ring: it keeps or empties it, and appends the new level to that if the ring takes the sample's
time, the rate then being the one across the ring so ended. -/
theorem recompute_ring (l : LevelBlock) (strapping : Option (List Breakpoint)) (band now : Nat) (a b sample : Option Nat) :
    ∃ ring, (ring = [] ∨ ring = l.ring) ∧
      (((l.recompute strapping band now a b sample).2 = false ∧ (l.recompute strapping band now a b sample).1.ring = ring) ∨
        ∃ time e, sample = some time ∧ e = ⟨(l.recompute strapping band now a b sample).1.record.w, time⟩ ∧
          ringTakes ring time = true ∧ (l.recompute strapping band now a b sample).1.ring = ringAppend ring e ∧
          (l.recompute strapping band now a b sample).1.record.rate = ringRate (ringAppend ring e) e) := by
  obtain ⟨ring, hring⟩ : ∃ ring, (if decide ((fuse band l.record.w a b).2.1 = .lost ∧ l.record.quality ≠ .lost) = true then []
    else l.ring) = ring := ⟨_, rfl⟩
  refine ⟨ring, hring ▸ ite_eq_or_eq _ _ _, ?_⟩
  unfold LevelBlock.recompute
  dsimp only
  rw [hring]
  cases sample with
  | none => exact .inl ⟨rfl, rfl⟩
  | some time =>
    dsimp only
    split
    · next htakes => exact .inr ⟨time, _, rfl, rfl, htakes.2, rfl, rfl⟩
    · exact .inl ⟨rfl, rfl⟩

theorem ringAppend_getLast? (ring : List RingEntry) (e : RingEntry) : (ringAppend ring e).getLast? = some e :=
  List.getLast?_concat

/-! ### The rate (R59) -/

/-- The rate is judged from the oldest entry no earlier than 120,000 ms before the newest. -/
theorem ringRate_oldest {before after : List RingEntry} {o n : RingEntry} (hbefore : ∀ e ∈ before, e.time + 120000 < n.time)
    (ho : n.time ≤ o.time + 120000) : ringRate (before ++ o :: after) n = if n.time - o.time < 24000 then none
      else some (clampInt (-2000) 2000 ((((n.w : Int) - o.w) * 60000).tdiv (n.time - o.time : Nat))) := by
  have hfind : (before ++ o :: after).find? (fun e => decide (n.time ≤ e.time + 120000)) = some o := by
    refine List.find?_eq_some_iff_append.2 ⟨decide_eq_true ho, before, after, rfl, fun e he => ?_⟩
    simpa using hbefore e he
  simp only [ringRate, hfind]

theorem clampInt_cases {lo hi : Int} (h : lo ≤ hi) (x : Int) : lo ≤ clampInt lo hi x ∧ clampInt lo hi x ≤ hi ∧
    (hi < x → clampInt lo hi x = hi) ∧ (x < lo → clampInt lo hi x = lo) ∧ (lo ≤ x → x ≤ hi → clampInt lo hi x = x) := by
  unfold clampInt
  omega

/-- Settles O20: the recomputation's rate is that of the ring it ends, and the rate of a ring is the clamped rise from its oldest entry in
reach. -/
theorem rateAcrossTheRing : Obligations.RateAcrossTheRing := by
  refine ⟨fun l strapping band now time a b happended => ?_, fun before after o n _ hbefore ho => ?_⟩
  · obtain ⟨ring, -, ⟨hnone, -⟩ | ⟨time', e, htime, rfl, -, hring, hrate⟩⟩ := recompute_ring l strapping band now a b (some time)
    · rw [hnone] at happended
      cases happended
    · cases htime
      rw [hrate, hring]
      exact ⟨ringAppend_getLast? _ _, rfl⟩
  · rw [ringRate_oldest hbefore ho]
    refine ⟨fun hshort => if_pos (by omega), fun hlong => ⟨_, if_neg (by omega), ?_⟩⟩
    obtain ⟨hlow, hhigh, hclamped⟩ := clampInt_cases (lo := -2000) (hi := 2000) (by decide)
      ((((n.w : Int) - o.w) * 60000).tdiv (n.time - o.time : Nat))
    exact ⟨hlow, hhigh, fun q hq => hq ▸ hclamped⟩

end Sys2Proof.Laws
end

section
/-! PROOFS. The length and spacing of the history ring (R57) and the ranges of the clock (R88) through every effect of a command: O56. -/

namespace Sys2Proof.Laws

open Sys2Proof.Machine

/-! ### The ring of the Level Unit (R57, R58) -/

/-- At most 16 entries, each at least 8,000 ms after those before it. -/
def Spaced (ring : List RingEntry) : Prop := ring.length ≤ 16 ∧ ring.Pairwise fun x y => x.time + 8000 ≤ y.time

theorem ringLaw_iff (s : State) : s.RingLaw ↔ Spaced (Part.level.read s).ring := Iff.rfl

theorem spaced_nil : Spaced [] := ⟨Nat.zero_le _, .nil⟩

/-- A ring that takes an entry's time has every entry 8,000 ms before it, not the newest alone. -/
theorem ringTakes_after {ring : List RingEntry} {time : Nat} (hspaced : ring.Pairwise fun x y => x.time + 8000 ≤ y.time)
    (htakes : ringTakes ring time = true) : ∀ x ∈ ring, x.time + 8000 ≤ time := by
  cases hlast : ring.getLast? with
  | none => simp [List.getLast?_eq_none_iff.1 hlast]
  | some newest =>
    have hnewest : newest.time + 8000 ≤ time := by simpa [ringTakes, hlast] using htakes
    obtain ⟨older, rfl⟩ := List.getLast?_eq_some_iff.1 hlast
    intro x hx
    rcases List.mem_append.1 hx with hx | hx
    · have := (List.pairwise_append.1 hspaced).2.2 x hx newest (List.mem_singleton_self _)
      omega
    · rwa [List.mem_singleton.1 hx]

theorem ringAppend_spaced {ring : List RingEntry} {e : RingEntry} (h : Spaced ring) (htakes : ringTakes ring e.time = true) :
    Spaced (ringAppend ring e) := by
  obtain ⟨hlength, hpairs⟩ := h
  have hafter := ringTakes_after hpairs htakes
  have hkept : ∃ n, (if ring.length < 16 then ring else ring.drop 1) = ring.drop n ∧ (ring.drop n).length < 16 := by
    split
    · next hroom => exact ⟨0, rfl, hroom⟩
    · exact ⟨1, rfl, by rw [List.length_drop]; omega⟩
  obtain ⟨n, hn, hroom⟩ := hkept
  unfold ringAppend
  rw [hn]
  refine ⟨?_, List.pairwise_append.2 ⟨hpairs.drop, List.pairwise_singleton _ _, fun x hx y hy => ?_⟩⟩
  · rw [List.length_append, List.length_singleton]
    omega
  · rw [List.mem_singleton.1 hy]
    exact hafter x (List.mem_of_mem_drop hx)

theorem recompute_spaced (g : GuardSet) (sample : Option Nat) (s : State) (h : Spaced (Part.level.read s).ring) :
    Spaced (Part.level.read (s.recompute g sample)).ring := by
  obtain ⟨beyond, hlevel⟩ := recompute_level g sample s
  show Spaced (s.recompute g sample).level.ring
  rw [hlevel]
  obtain ⟨ring, hkept, hring⟩ := recompute_ring s.level s.tables.strapping g.agreeBand s.now (s.usableA g) (s.usableB g) sample
  have hspaced : Spaced ring := by
    rcases hkept with rfl | rfl
    · exact spaced_nil
    · exact h
  rcases hring with ⟨-, hring⟩ | ⟨time, e, -, rfl, htakes, hring, -⟩
  · exact hring.symm ▸ hspaced
  · exact hring.symm ▸ ringAppend_spaced hspaced htakes

theorem levelTakes_spaced (n : Notice) (s : State) (h : Spaced (Part.level.read s).ring) :
    Spaced (Part.level.read (s.levelTakes n)).ring := by
  unfold State.levelTakes State.levelOnPoints State.levelOnHousing
  repeat' split
  all_goals first
    | exact h
    | exact recompute_spaced _ _ s h

/-- No block but the Level Unit changes the ring at a notice. -/
theorem deliver_spaced (d : Delivery) (s : State) (h : Spaced (Part.level.read s).ring) :
    Spaced (Part.level.read (s.deliver d)).ring := by
  unfold State.deliver
  split
  · exact levelTakes_spaced _ s h
  all_goals simpa using h

theorem drain_spaced (pick : Nat → Nat) (fuel : Nat) (s : State) (h : Spaced (Part.level.read s).ring) :
    Spaced (Part.level.read (State.drain pick fuel s)).ring := by
  induction fuel generalizing s with
  | zero => exact h
  | succ fuel ih =>
    simp only [State.drain]
    split
    · exact h
    · rcases deliverOne_cases pick s with hnone | ⟨d, others, draws, -, -, -, hone⟩
      · exact ih _ (hnone.symm ▸ h)
      · exact ih _ (hone.symm ▸ deliver_spaced d _ h)

theorem levelOnGuardSet_spaced (old : Option GuardSet) (g : GuardSet) (s : State) (h : Spaced (Part.level.read s).ring) :
    Spaced (Part.level.read (State.levelOnGuardSet old g s)).ring := by
  unfold State.levelOnGuardSet
  dsimp only
  split
  · exact h
  · refine recompute_spaced _ _ _ ?_
    split
    · exact h
    · exact spaced_nil

theorem swapTable_spaced (d : TableData) (s : State) (h : Spaced (Part.level.read s).ring) :
    Spaced (Part.level.read (s.swapTable d)).ring := by
  cases d with
  | strapping bs => exact (congrArg LevelBlock.ring (swapStrapping_level bs s)).symm ▸ h
  | guardSet g =>
    show Spaced (s.swapGuardSet g).level.ring
    rw [guardSet_level]
    exact levelOnGuardSet_spaced _ _ _ h
  | _ => simpa [State.swapTable, State.fillEvent] using h

theorem headerEnds_spaced (w : TableWork) (count : Nat) (check : Check) (d : TableData) (clamps resv : Nat) (ok : Bool) (s : State)
    (h : Spaced (Part.level.read s).ring) : Spaced (Part.level.read (s.headerEnds w count check d clamps resv ok)).ring := by
  unfold State.headerEnds
  dsimp only
  split
  · split
    · simpa using h
    · simpa using swapTable_spaced d _ (by simpa using h)
  · simpa using h

/-- A start empties the ring (R66). -/
theorem atEnd_spaced (clock : Option ClockState) (banks : PerBank (Option FaultRecord)) (s : State) :
    Spaced (Part.level.read (atEnd clock banks s)).ring := by
  rw [← atStart_read (p := .level) clock banks s (by decide)]
  exact (congrArg LevelBlock.ring (atStart_started clock banks s).level).symm ▸ spaced_nil

/-- The ring stays spaced through every effect: only recomputations, swaps and resets touch it. -/
theorem spaced_kept : EffectsKeep fun s => Spaced (Part.level.read s).ring where
  advance us s h := by simpa using h
  control s h := by simpa using h
  queue f s h := by simpa using h
  drain := drain_spaced
  settle s h := by simpa using h
  pending cs s h := h
  powerOn s _ := atEnd_spaced none (.all none) s
  restarted s _ := atEnd_spaced (s.fill.clock.map ClockState.rebased) s.banks s
  powerLost s h := spaced_nil
  inputs f s h := by simpa using h
  mainsInput active s h := by simpa using h
  mainsLost s h := by simpa using h
  mainsReturned s h := by simpa using h
  batteryInput active s h := by simpa using h
  batteryDebounced s h := by simpa using h
  floatChange active s h := by simpa [State.floatChange] using h
  floatDebounced s h := by simpa using h
  protectChange active s h := by simpa using h
  transmissionEnds x s h := by simpa using h
  cycleComesDue s h := by simpa using h
  transactionEnds x o s h := by simpa using h
  pointStale p s h := by simpa using h
  deadlinePasses address item s h := by simpa using h
  levelHoldEnds s h := by simpa using h
  valveDeadline s h := by simpa using h
  valveRepeat s h := by simpa using h
  valveRetry s h := by simpa using h
  newMinute s h := by simpa [State.fillEvent] using h
  planInterval s h := by simpa [State.fillEvent] using h
  forceEnds s h := by simpa [State.fillEvent] using h
  stopWait s h := by simpa [State.fillEvent] using h
  renewal s h := by simpa [State.fillEvent] using h
  judgeRise check s h := by simpa [State.fillEvent] using h
  stationFrame s h := by simpa using h
  takeStatus c s h := by simpa [State.fillEvent] using h
  deferralEnds zone s h := by simpa using h
  queueLevel s h := by simpa using h
  trunkFault code subject s h := by simpa using h
  controlSilence s h := by simpa using h
  stationSilence s h := by simpa using h
  restartRequest resv s h := by simpa using h
  restartComesDue s h := by simpa using h
  guardResetRequest resv tag s h := by simpa using h
  setClockRequest resv day minute second s h := by simpa using h
  fillOrderRequest resv order s h := by simpa using h
  clearBank resv bank s h := by simpa using h
  openTable resv kind s h := by simpa using h
  writeTable resv kind index record s h := by simpa using h
  closeTable resv kind count check s h := by simpa using h
  abandonTable resv kind s h := by simpa using h
  startChannel resv index s h := by simpa using h
  stopChannel resv index s h := by simpa using h
  passRequestTaken resv function address inner wake item value s h := by simpa using h
  engineFree s h := by simpa using h
  eraseEnds w resv ended ok s h := by simpa using h
  recordEnds w bytes resvs ended ok s h := by simpa using h
  headerEnds := headerEnds_spaced
  tripProgramEnds slot entry ok s h := by simpa using h
  preEraseEnds sector ok s h := by simpa using h

/-! ### The clock (R88) -/

/-- A day from 0 to 6, a minute from 0 to 1,439 and a second from 0 to 59, while the clock is set. -/
def OnDial (clock : Option ClockState) : Prop := ∀ c, clock = some c → c.time.day ≤ 6 ∧ c.time.minute ≤ 1439 ∧ c.time.second ≤ 59

theorem clockLaw_iff (s : State) : s.ClockLaw ↔ OnDial (Part.fill.read s).clock := Iff.rfl

theorem onDial_none : OnDial none := fun _ hc => nomatch hc

/-- A clock whose time `f` leaves on the dial stays on it. -/
theorem OnDial.map {clock : Option ClockState} (h : OnDial clock) {f : ClockState → ClockState}
    (hf : ∀ c : ClockState, c.time.day ≤ 6 ∧ c.time.minute ≤ 1439 ∧ c.time.second ≤ 59 →
      (f c).time.day ≤ 6 ∧ (f c).time.minute ≤ 1439 ∧ (f c).time.second ≤ 59) : OnDial (clock.map f) := by
  intro c' hc'
  obtain ⟨c, hc, rfl⟩ := Option.map_eq_some_iff.1 hc'
  exact hf c (h c hc)

/-- A sum of seconds, taken within the week, is on the dial wherever it began. -/
theorem plusSeconds_onDial (t : ClockTime) (n : Nat) :
    (t.plusSeconds n).day ≤ 6 ∧ (t.plusSeconds n).minute ≤ 1439 ∧ (t.plusSeconds n).second ≤ 59 := by
  simp only [ClockTime.plusSeconds, weekSeconds]
  omega

theorem advanceUs_onDial (us : Nat) (s : State) (h : OnDial (Part.fill.read s).clock) :
    OnDial (Part.fill.read (s.advanceUs us)).clock := by
  unfold State.advanceUs
  split
  · exact h
  · exact OnDial.map h fun c _ => plusSeconds_onDial _ _

/-- An operation that leaves the clock and its calendar leaves the clock on the dial. -/
theorem onDial_of_times {s t : State} (ht : ∀ {c x w y}, Times c x w y (Part.fill.read s) → Times c x w y (Part.fill.read t))
    (h : OnDial (Part.fill.read s).clock) : OnDial (Part.fill.read t).clock := by
  obtain ⟨hclock, -⟩ := ht ⟨rfl, rfl, rfl, rfl⟩
  rwa [hclock]

theorem fillEvent_onDial (f : State → State) (s : State) (h : OnDial (Part.fill.read (f s)).clock) :
    OnDial (Part.fill.read (State.fillEvent f s)).clock :=
  onDial_of_times (s := f s) (fillEvent_times f s) h

theorem evaluatePlan_onDial (forced : Bool) (s : State) (h : OnDial (Part.fill.read s).clock) :
    OnDial (Part.fill.read (s.evaluatePlan forced)).clock := onDial_of_times (evaluatePlan_times forced s) h

theorem changeInhibit_onDial (add remove : List Reason) (s : State) (h : OnDial (Part.fill.read s).clock) :
    OnDial (Part.fill.read (s.changeInhibit add remove)).clock := onDial_of_times (changeInhibit_times add remove s) h

theorem replaceOrder_onDial (order : FillOrder) (s : State) (h : OnDial (Part.fill.read s).clock) :
    OnDial (Part.fill.read (s.replaceOrder order)).clock := onDial_of_times (replaceOrder_times order s) h

theorem recomputeTariff_onDial (s : State) (h : OnDial (Part.fill.read s).clock) :
    OnDial (Part.fill.read s.recomputeTariff).clock := by
  have hleaves : ∀ u : State, OnDial (Part.fill.read u).clock → OnDial (Part.fill.read (u.endWindow false)).clock :=
    fun u => onDial_of_times (endWindow_times false u)
  have henters : ∀ u : State, OnDial (Part.fill.read u).clock → OnDial (Part.fill.read u.enterWindow).clock :=
    fun u hu => evaluatePlan_onDial _ _ hu
  unfold State.recomputeTariff
  dsimp only
  repeat' split
  all_goals first
    | exact h
    | exact henters _ h
    | exact hleaves _ h
    | exact henters _ (hleaves _ h)

theorem newMinute_onDial (s : State) (h : OnDial (Part.fill.read s).clock) :
    OnDial (Part.fill.read (State.fillEvent State.newMinute s)).clock :=
  fillEvent_onDial _ _ (recomputeTariff_onDial _ (OnDial.map h fun _ hc => hc))

theorem setClockRequest_onDial (resv day minute second : Nat) (s : State) (h : OnDial (Part.fill.read s).clock) :
    OnDial (Part.fill.read (s.setClockRequest resv day minute second)).clock := by
  unfold State.setClockRequest
  split
  · simpa using h
  · next hrange =>
    have hput : OnDial (Part.fill.read ((s.respond resv [Status.done.byte]).putClock ⟨day, minute, second⟩)).clock := by
      have htime : day ≤ 6 ∧ minute ≤ 1439 ∧ second ≤ 59 := by omega
      unfold State.putClock
      dsimp only
      split <;> exact fun c hc => Option.some.inj hc ▸ htime
    exact fillEvent_onDial _ _ (evaluatePlan_onDial _ _ (recomputeTariff_onDial _ hput))

theorem fillOrderRequest_onDial (resv order : Nat) (s : State) (h : OnDial (Part.fill.read s).clock) :
    OnDial (Part.fill.read (s.fillOrderRequest resv order)).clock := by
  unfold State.fillOrderRequest
  split
  · exact fillEvent_onDial _ _ (changeInhibit_onDial _ _ _ (replaceOrder_onDial _ _ h))
  · exact fillEvent_onDial _ _ (replaceOrder_onDial _ _ (changeInhibit_onDial _ _ _ h))
  · refine fillEvent_onDial _ _ (evaluatePlan_onDial _ _ ?_)
    split
    · exact h
    · exact h
  · simpa using h

theorem riseOnStatus_onDial (running : Nat) (s : State) (h : OnDial (Part.fill.read s).clock) :
    OnDial (Part.fill.read (s.riseOnStatus running)).clock := by
  unfold State.riseOnStatus
  repeat' split
  all_goals exact h

theorem takeStatus_onDial (c : StationCopy) (s : State) (h : OnDial (Part.fill.read s).clock) :
    OnDial (Part.fill.read (State.fillEvent (State.takeStatus c) s)).clock := by
  have hmode : ∀ u : State, OnDial (Part.fill.read u).clock → OnDial (Part.fill.read (if c.mode = .remote
      then u.changeInhibit [] [.stationLocal, .stationSilent] else u.changeInhibit [.stationLocal] [.stationSilent])).clock := by
    intro u hu
    split <;> exact changeInhibit_onDial _ _ u hu
  have hplan : ∀ (same : Prop) [Decidable same] (u : State), OnDial (Part.fill.read u).clock →
      OnDial (Part.fill.read (if same then u else u.evaluatePlan false)).clock := by
    intro same _ u hu
    split
    · exact hu
    · exact evaluatePlan_onDial _ u hu
  have htold : ∀ (same : Prop) [Decidable same] (n : Notice) (u : State), OnDial (Part.fill.read u).clock →
      OnDial (Part.fill.read (if same then u else u.send .telemetry n)).clock := by
    intro same _ n u hu
    split <;> exact hu
  exact fillEvent_onDial _ _ (htold _ _ _ (riseOnStatus_onDial _ _ (hplan _ _ (hmode _ h))))

theorem judgeRise_onDial (check : RiseCheck) (s : State) (h : OnDial (Part.fill.read s).clock) :
    OnDial (Part.fill.read (s.judgeRise check)).clock := by
  unfold State.judgeRise
  dsimp only
  repeat' split
  all_goals first
    | exact h
    | (rw [fault_read (part := .fill) (by decide)]; exact h)

theorem floatDebounced_onDial (s : State) (h : OnDial (Part.fill.read s).clock) :
    OnDial (Part.fill.read s.floatDebounced).clock := by
  have hactive := onDial_of_times (s := s.updGuard fun b => { b with floatActive := true, floatAt := none })
    (tripCondition_times .float s.level.record _) h
  unfold State.floatDebounced State.floatActivates
  dsimp only
  generalize State.tripCondition .float s.level.record _ = u at hactive ⊢
  split
  · split
    · exact hactive
    · split
      · rwa [fault_read (part := .fill) (by decide)]
      · exact hactive
  · exact h

theorem guardOnGuardSet_onDial (old : Option GuardSet) (g : GuardSet) (s : State) (h : OnDial (Part.fill.read s).clock) :
    OnDial (Part.fill.read (State.guardOnGuardSet old g s)).clock := by
  unfold State.guardOnGuardSet
  repeat' split
  all_goals first
    | exact h
    | exact onDial_of_times (armHold_times _ _ _) h

/-- No swap sets the clock (R170). -/
theorem swapTable_onDial (d : TableData) (s : State) (h : OnDial (Part.fill.read s).clock) :
    OnDial (Part.fill.read (s.swapTable d)).clock := by
  cases d with
  | points t => simpa [State.swapTable] using h
  | map t => simpa [State.swapTable] using h
  | channels t => simpa [State.swapTable] using h
  | strapping t => simpa [State.swapTable] using h
  | guardSet g => exact fillEvent_onDial _ _ (guardOnGuardSet_onDial _ _ _ (by simpa using h))
  | fillSet t =>
    simp only [State.swapTable]
    rw [frostSettle_read (part := .fill) (by decide)]
    exact fillEvent_onDial _ _ (evaluatePlan_onDial _ _ h)
  | tariff t =>
    simp only [State.swapTable]
    exact fillEvent_onDial _ _ (evaluatePlan_onDial _ _ (recomputeTariff_onDial _ h))
  | profile t => exact fillEvent_onDial _ _ (evaluatePlan_onDial _ _ h)
  | zones t => simpa [State.swapTable] using h
  | siteSet x =>
    simp only [State.swapTable, State.swapSiteSet]
    rw [telemetryOnSite_read (part := .fill) (by decide), setBudget_read (part := .fill) (by decide)]
    exact fillEvent_onDial _ _ (recomputeTariff_onDial _ (by simpa using h))

theorem headerEnds_onDial (w : TableWork) (count : Nat) (check : Check) (d : TableData) (clamps resv : Nat) (ok : Bool) (s : State)
    (h : OnDial (Part.fill.read s).clock) : OnDial (Part.fill.read (s.headerEnds w count check d clamps resv ok)).clock := by
  unfold State.headerEnds
  dsimp only
  split
  · split
    · simpa using h
    · simpa using swapTable_onDial d _ (by simpa using h)
  · simpa using h

/-- A start keeps the clock that the reset has left (R88, R164). -/
theorem atEnd_onDial {clock : Option ClockState} (banks : PerBank (Option FaultRecord)) (s : State) (h : OnDial clock) :
    OnDial (Part.fill.read (atEnd clock banks s)).clock := by
  rw [← atStart_read (p := .fill) clock banks s (by decide)]
  exact (atStart_clock clock banks s).1.symm ▸ h

/-- The clock stays on its dial through every effect: time moves it within the week, SET-CLOCK is checked, and a reset empties or keeps it. -/
theorem onDial_kept : EffectsKeep fun s => OnDial (Part.fill.read s).clock where
  advance := advanceUs_onDial
  control s h := by simpa using h
  queue f s h := by simpa using h
  drain pick fuel s h := onDial_of_times (drain_times pick fuel s) h
  settle s h := by simpa using h
  pending cs s h := h
  powerOn s _ := atEnd_onDial (.all none) s onDial_none
  restarted s h := atEnd_onDial s.banks s (OnDial.map h fun _ hc => hc)
  powerLost s _ := onDial_none
  inputs f s h := by simpa using h
  mainsInput active s h := by simpa using h
  mainsLost s h := by simpa using h
  mainsReturned s h := by simpa using h
  batteryInput active s h := by simpa using h
  batteryDebounced s h := by simpa using h
  floatChange active s h := by simpa [State.floatChange] using h
  floatDebounced := floatDebounced_onDial
  protectChange active s h := by simpa using h
  transmissionEnds x s h := by simpa using h
  cycleComesDue s h := by simpa using h
  transactionEnds x o s h := by simpa using h
  pointStale p s h := by simpa using h
  deadlinePasses address item s h := by simpa using h
  levelHoldEnds s h := onDial_of_times (levelHoldEnds_times s) h
  valveDeadline s h := by simpa using h
  valveRepeat s h := by simpa using h
  valveRetry s h := by simpa using h
  newMinute := newMinute_onDial
  planInterval s h := fillEvent_onDial _ _ (evaluatePlan_onDial _ _ h)
  forceEnds s h := fillEvent_onDial _ _ (replaceOrder_onDial _ _ h)
  stopWait s h := fillEvent_onDial _ _ h
  renewal s h := fillEvent_onDial _ _ (onDial_of_times (queueDemand_times s) h)
  judgeRise check s h := fillEvent_onDial _ _ (judgeRise_onDial check s h)
  stationFrame s h := by simpa using h
  takeStatus := takeStatus_onDial
  deferralEnds zone s h := by simpa using h
  queueLevel s h := by simpa using h
  trunkFault code subject s h := by simpa using h
  controlSilence s h := by simpa using h
  stationSilence s h := by simpa using h
  restartRequest resv s h := by simpa using h
  restartComesDue s h := by simpa using h
  guardResetRequest resv tag s h := by simpa using h
  setClockRequest := setClockRequest_onDial
  fillOrderRequest := fillOrderRequest_onDial
  clearBank resv bank s h := by simpa using h
  openTable resv kind s h := by simpa using h
  writeTable resv kind index record s h := by simpa using h
  closeTable resv kind count check s h := by simpa using h
  abandonTable resv kind s h := by simpa using h
  startChannel resv index s h := by simpa using h
  stopChannel resv index s h := by simpa using h
  passRequestTaken resv function address inner wake item value s h := by simpa using h
  engineFree s h := by simpa using h
  eraseEnds w resv ended ok s h := by simpa using h
  recordEnds w bytes resvs ended ok s h := by simpa using h
  headerEnds := headerEnds_onDial
  tripProgramEnds slot entry ok s h := by simpa using h
  preEraseEnds sector ok s h := by simpa using h

/-- Settles O56: each law is about one block alone, the ring or the clock, and every effect of a command keeps it. -/
theorem ringAndClockStayInRange : Obligations.RingAndClockStayInRange :=
  ⟨fun s t hs h => (ringLaw_iff t).2 (spaced_kept.step s t ((ringLaw_iff s).1 hs) h),
    fun s t hs h => (clockLaw_iff t).2 (onDial_kept.step s t ((clockLaw_iff s).1 hs) h)⟩

end Sys2Proof.Laws
end

section
/-! PROOFS. The DEMAND frames of the outbound queue (R75, R107, R136, R137): at most one waits, none beside one in transmission, and the
one that waits or is held aside carries the demand. -/

namespace Sys2Proof.Laws

open Sys2Proof.Machine

-- One declaration after another: elaborated at once, their proofs take a thread each.
set_option Elab.async false

/-- The pumps that contents ask for, when they are a DEMAND. -/
def pumpsOf : Content → Option Nat
  | .demand n _ => some n
  | _ => none

/-- The pumps that a place asks for, when it is a DEMAND frame. -/
def pumpsAt : Place → Option Nat
  | .frame c => pumpsOf c
  | _ => none

/-- The pumps of the DEMAND frames among the places, in their order. -/
def demandsIn (ps : List Place) : List Nat := ps.filterMap pumpsAt

/-- A DEMAND frame is in transmission. -/
def demandSends (o : Outbound) : Bool := o.sends (.demand 0 0)

/-- Every DEMAND frame that waits, and one held aside, asks for `d` pumps; at most one waits, none beside one in transmission, and one is
held aside only beside one in transmission. -/
structure Demands (d : Nat) (o : Outbound) : Prop where
  waiting : demandsIn o.waiting = [] ∨ demandsIn o.waiting = [d]
  sending : demandSends o = true → demandsIn o.waiting = []
  held : ∀ h n, o.held = some h → pumpsOf h.content = some n → demandSends o = true ∧ n = d

/-! ### Places -/

theorem pumpsOf_isSome (c : Content) : (pumpsOf c).isSome = Content.sameKind (.demand 0 0) c := by cases c <;> rfl

theorem pumpsAt_isSome (p : Place) : (pumpsAt p).isSome = p.holds (.demand 0 0) := by
  cases p with
  | frame c => exact pumpsOf_isSome c
  | response => rfl
  | reservation => rfl

theorem pumpsAt_of_holds {c : Content} {p : Place} (hc : pumpsOf c = none) (h : p.holds c = true) : pumpsAt p = none := by
  cases p with
  | frame x => cases c <;> cases x <;> simp_all [Place.holds, Content.sameKind, pumpsAt, pumpsOf]
  | response => rfl
  | reservation => rfl

theorem holds_demand (n tag : Nat) (p : Place) : p.holds (.demand n tag) = p.holds (.demand 0 0) := by
  cases p with
  | frame x => cases x <;> rfl
  | response => rfl
  | reservation => rfl

theorem demandsIn_eq_nil {ps : List Place} : demandsIn ps = [] ↔ ps.any (Place.holds (.demand 0 0)) = false := by
  simp only [demandsIn, List.filterMap_eq_nil_iff, List.any_eq_false, ← pumpsAt_isSome, Bool.not_eq_true, Option.isSome_eq_false_iff,
    Option.isNone_iff_eq_none]

theorem mem_demandsIn {n tag : Nat} {ps : List Place} (h : .frame (.demand n tag) ∈ ps) : n ∈ demandsIn ps :=
  List.mem_filterMap.mpr ⟨_, h, rfl⟩

theorem demandsIn_append (ps qs : List Place) : demandsIn (ps ++ qs) = demandsIn ps ++ demandsIn qs := List.filterMap_append

theorem demandsIn_fillPlace (resv : Nat) (payload : List Byte) (ps : List Place) :
    demandsIn (ps.map (fillPlace resv payload)) = demandsIn ps := by
  have hplace : ∀ p, pumpsAt (fillPlace resv payload p) = pumpsAt p := by
    intro p
    cases p with
    | reservation r code tag => simp only [fillPlace]; split <;> rfl
    | frame c => rfl
    | response => rfl
  simp only [demandsIn, List.filterMap_map]
  exact congrArg (fun f => ps.filterMap f) (funext hplace)

/-- Contents of another kind that take a waiting place of their kind leave the DEMAND frames. -/
theorem demandsIn_replaceFirst {c : Content} (hc : pumpsOf c = none) (ps : List Place) : demandsIn (replaceFirst c ps) = demandsIn ps := by
  induction ps with
  | nil => rfl
  | cons p rest ih =>
    unfold replaceFirst
    split
    · next hp =>
      have hnew : pumpsAt (.frame c) = none := hc
      simp [demandsIn, hnew, pumpsAt_of_holds hc hp]
    · simpa [demandsIn, List.filterMap_cons] using by simp only [demandsIn] at ih; rw [ih]

/-- A DEMAND that replaces the one that waits. -/
theorem demandsIn_replaceFirst_demand {n : Nat} (d tag : Nat) {ps : List Place} (h : demandsIn ps = [n]) :
    demandsIn (replaceFirst (.demand d tag) ps) = [d] := by
  induction ps with
  | nil => cases h
  | cons p rest ih =>
    unfold replaceFirst
    rw [holds_demand, ← pumpsAt_isSome]
    cases hp : pumpsAt p with
    | none =>
      have hrest : demandsIn rest = [n] := by simpa [demandsIn, List.filterMap_cons, hp] using h
      simpa [demandsIn, List.filterMap_cons, hp] using ih hrest
    | some m =>
      have hrest : rest.filterMap pumpsAt = [] := by
        have h' : m :: rest.filterMap pumpsAt = [n] := by simpa [demandsIn, List.filterMap_cons, hp] using h
        exact (List.cons.inj h').2
      simp [demandsIn, pumpsAt, pumpsOf, hrest]

theorem demandsIn_removeKind (d tag : Nat) (ps : List Place) : demandsIn (removeKind (.demand d tag) ps) = [] := by
  rw [demandsIn_eq_nil, List.any_eq_false]
  intro p hp
  obtain ⟨-, hp⟩ := List.mem_filter.mp hp
  simpa [holds_demand] using hp

/-- The first place that is ready leaves the places with its DEMAND: only reservations stand before it. -/
theorem demandsIn_takeReady {ps rest : List Place} {q : Place} (h : takeReady ps = some (q, rest)) :
    demandsIn ps = (pumpsAt q).toList ++ demandsIn rest := by
  induction ps generalizing q rest with
  | nil => cases h
  | cons p ps ih =>
    unfold takeReady at h
    split at h
    · obtain ⟨rfl, rfl⟩ := Prod.mk.inj (Option.some.inj h)
      cases hp : pumpsAt p <;> simp [demandsIn, hp]
    · next hready =>
      have hp : pumpsAt p = none := by cases p <;> simp_all [Place.ready, pumpsAt]
      split at h
      · next q' rest' he =>
        obtain ⟨rfl, rfl⟩ := Prod.mk.inj (Option.some.inj h)
        simpa [demandsIn, List.filterMap_cons, hp] using ih he
      · cases h

/-! ### The queue's operations (R136 to R139) -/

theorem sends_demand (n tag : Nat) (o : Outbound) : o.sends (.demand n tag) = demandSends o := by
  unfold demandSends Outbound.sends
  split
  · exact holds_demand _ _ _
  · rfl

theorem any_holds_demand (n tag : Nat) (ps : List Place) : ps.any (Place.holds (.demand n tag)) = !decide (demandsIn ps = []) := by
  simp only [demandsIn_eq_nil, funext (holds_demand n tag)]
  cases ps.any (Place.holds (.demand 0 0)) <;> rfl

namespace Demands

variable {d : Nat} {o : Outbound}

theorem empty (d : Nat) : Demands d {} := ⟨.inl rfl, fun _ => rfl, fun _ _ h => nomatch h⟩

/-- What leaves the places' DEMAND frames, the transmission and what is held aside. -/
theorem congr {o' : Outbound} (h : Demands d o) (hw : demandsIn o'.waiting = demandsIn o.waiting) (hs : o'.sending = o.sending)
    (hh : o'.held = o.held) : Demands d o' := by
  have hsends : demandSends o' = demandSends o := by simp only [demandSends, Outbound.sends, hs]
  exact ⟨hw ▸ h.waiting, by rw [hsends, hw]; exact h.sending, by rw [hsends, hh]; exact h.held⟩

theorem respond (h : Demands d o) (resv : Nat) (payload : List Byte) :
    Demands d { o with waiting := o.waiting.map (fillPlace resv payload) } :=
  h.congr (demandsIn_fillPlace resv payload _) rfl rfl

theorem reserve (h : Demands d o) (code tag : Byte) : Demands d (o.reserve code tag) :=
  h.congr (by simp [Outbound.reserve, demandsIn, List.filterMap_append, pumpsAt]) rfl rfl

/-- Contents of another kind join the queue. -/
theorem offer {c : Content} (h : Demands d o) (hc : pumpsOf c = none) : Demands d (o.offer c) := by
  unfold Outbound.offer
  split
  · exact h.congr (demandsIn_replaceFirst hc _) rfl rfl
  · split
    · refine ⟨h.waiting, h.sending, fun x n hx hn => ?_⟩
      cases hx
      exact absurd (hc.symm.trans hn) (by simp)
    · exact h.congr (by simp [demandsIn, List.filterMap_append, pumpsAt, hc]) rfl rfl

/-- With no DEMAND frame in transmission none is held aside. -/
theorem held_none (h : Demands d o) (hs : demandSends o = false) {x : HeldContent} {n : Nat} (hx : o.held = some x) :
    pumpsOf x.content ≠ some n := fun hn => by simp [(h.held x n hx hn).1] at hs

/-- A new demand joins the queue (R107, R136): in the place of the one that waits, held aside beside one in transmission, or at the tail. -/
theorem offer_demand (h : Demands d o) (n tag : Nat) : Demands n (o.offer (.demand n tag)) := by
  unfold Outbound.offer
  rw [any_holds_demand, sends_demand]
  rcases h.waiting with hw | hw
  · cases hs : demandSends o with
    | true =>
      simp only [hw, decide_true, Bool.not_true, Bool.false_eq_true, if_false, if_true]
      refine ⟨.inl hw, fun _ => hw, fun x m hx hm => ⟨hs, ?_⟩⟩
      cases hx
      exact (Option.some.inj hm).symm
    | false =>
      simp only [hw, decide_true, Bool.not_true, Bool.false_eq_true, if_false]
      refine ⟨.inr (by rw [demandsIn_append, hw]; rfl), fun hs' => ?_, fun x m hx hm => ?_⟩
      · exact absurd (hs.symm.trans hs') (by simp)
      · exact absurd hm (h.held_none hs hx)
  · have hs : demandSends o = false := by
      cases hs : demandSends o with
      | false => rfl
      | true => simp [h.sending hs] at hw
    simp only [hw, List.cons_ne_nil, decide_false, Bool.not_false, if_true]
    refine ⟨.inr (demandsIn_replaceFirst_demand n tag hw), fun hs' => ?_, fun x m hx hm => ?_⟩
    · exact absurd (hs.symm.trans hs') (by simp)
    · exact absurd hm (h.held_none hs hx)

/-- The guard's demand goes to the head (R137). -/
theorem offerHead_demand (h : Demands d o) (n tag : Nat) : Demands n (o.offerHead (.demand n tag)) := by
  unfold Outbound.offerHead
  rw [sends_demand]
  cases hs : demandSends o with
  | true =>
    refine ⟨.inl (h.sending hs), fun _ => h.sending hs, fun x m hx hm => ⟨hs, ?_⟩⟩
    cases hx
    exact (Option.some.inj hm).symm
  | false =>
    refine ⟨.inr ?_, fun hs' => ?_, fun x m hx hm => ?_⟩
    · show demandsIn ([.frame (.demand n tag)] ++ removeKind (.demand n tag) o.waiting) = [n]
      rw [demandsIn_append, demandsIn_removeKind]; rfl
    · exact absurd (hs.symm.trans hs') (by simp)
    · exact absurd hm (h.held_none hs hx)

/-- A transmission begins (R139). -/
theorem start {q : Place} {rest : List Place} (h : Demands d o) (hs : o.sending = none) (ht : takeReady o.waiting = some (q, rest))
    (bytes : List Byte) : Demands d { o with sending := some ⟨q, bytes⟩, waiting := rest } := by
  have hsplit := demandsIn_takeReady ht
  have hnone : demandSends o = false := by simp [demandSends, Outbound.sends, hs]
  cases hq : pumpsAt q with
  | none =>
    rw [hq] at hsplit
    have hsends : q.holds (.demand 0 0) = false := by rw [← pumpsAt_isSome, hq]; rfl
    refine ⟨by rw [← List.nil_append (demandsIn rest)]; exact hsplit ▸ h.waiting, fun hs' => ?_, fun x n hx hn => absurd hn (h.held_none hnone hx)⟩
    exact absurd (hsends.symm.trans hs') (by simp)
  | some n =>
    rw [hq] at hsplit
    have hrest : demandsIn rest = [] := by
      rcases h.waiting with hw | hw
      · simp [hw] at hsplit
      · rw [hw] at hsplit; exact (List.cons.inj hsplit).2.symm
    exact ⟨.inl hrest, fun _ => hrest, fun x n hx hn => absurd hn (h.held_none hnone hx)⟩

/-- A transmission ends, and what was held aside joins (R136, R137). -/
theorem finish (h : Demands d o) : Demands d o.finishSending := by
  refine ⟨?_, fun hs => absurd hs (by simp [demandSends, Outbound.sends, Outbound.finishSending]), fun _ _ hx => nomatch hx⟩
  cases hh : o.held with
  | none => simpa [Outbound.finishSending, hh] using h.waiting
  | some x =>
    have hjoin : demandsIn (o.finishSending).waiting = demandsIn o.waiting ++ (pumpsOf x.content).toList ∨
        demandsIn (o.finishSending).waiting = (pumpsOf x.content).toList ++ demandsIn o.waiting := by
      have hone : demandsIn [.frame x.content] = (pumpsOf x.content).toList := by
        cases hx : pumpsOf x.content <;> simp [demandsIn, pumpsAt, hx]
      cases ha : x.atHead with
      | false => exact .inl (by simp only [Outbound.finishSending, hh, ha, Bool.false_eq_true, if_false, demandsIn_append, hone])
      | true =>
        refine .inr ?_
        simp only [Outbound.finishSending, hh, ha, if_true]
        exact (demandsIn_append [.frame x.content] o.waiting).trans (by rw [hone])
    cases hx : pumpsOf x.content with
    | none => rw [hx] at hjoin; simpa using (by simpa using hjoin : demandsIn o.finishSending.waiting = demandsIn o.waiting) ▸ h.waiting
    | some n =>
      obtain ⟨hs, rfl⟩ := h.held x n hh hx
      rw [hx, h.sending hs] at hjoin
      exact .inr (by simpa using hjoin)

end Demands
end Sys2Proof.Laws
end

section
/-! PROOFS. What every act of a block leaves of the trip line, the fill demand, the inhibit set and the k of the last evaluation (R75, R80,
R94, R99, R104, R107): the laws that the act keeps, as one relation between two states. -/

namespace Sys2Proof.Laws

open Sys2Proof.Machine

-- One declaration after another: elaborated at once, their proofs take a thread each.
set_option Elab.async false

/-- The queue's DEMAND frames ask for the demand as it stands. -/
def DemandsAsked (s : State) : Prop := s.powered = true → Demands s.fill.demand s.out

/-- The demand is within the k of the last evaluation and only FILLING demands any; without a FILL_SET k is 0 and no fill runs. -/
def SpendsWithin (s : State) : Prop :=
  s.powered = true → s.fill.demand ≤ s.fill.numbers.k ∧ (s.fill.state ≠ .filling → s.fill.demand = 0) ∧
    (s.tables.fillSet = none → s.fill.numbers.k = 0 ∧ s.fill.state ≠ .opening ∧ s.fill.state ≠ .filling)

/-- Pumps available in the station copy, 0 while it is empty. -/
def pumpsAvailable (s : State) : Nat := match s.fill.station with | some c => c.available | none => 0

/-- The k of the last evaluation is within the pumps available and the site maximum. -/
def CountCapped (s : State) : Prop :=
  s.powered = true → ∀ f, s.tables.fillSet = some f → s.fill.numbers.k ≤ pumpsAvailable s ∧ s.fill.numbers.k ≤ f.siteMax

theorem capLaw_iff (s : State) : s.CapLaw ↔ SpendsWithin s ∧ CountCapped s := by
  unfold State.CapLaw SpendsWithin CountCapped pumpsAvailable
  cases s.tables.fillSet with
  | none => simp
  | some f =>
    simp only [reduceCtorEq, false_implies, and_true, Option.some.injEq, forall_eq']
    exact ⟨fun h => ⟨fun hp => ⟨(h hp).1, (h hp).2.1⟩, fun hp => (h hp).2.2⟩, fun ⟨h, h'⟩ hp => ⟨(h hp).1, (h hp).2, h' hp⟩⟩

/-- What an act keeps whatever becomes of the station copy and of FILL_SET. -/
structure Moves (s t : State) : Prop where
  line : s.TripLineLaw → t.TripLineLaw
  demand : s.DemandLaw → t.DemandLaw
  inhibit : s.InhibitLaw → t.InhibitLaw
  asked : DemandsAsked s → DemandsAsked t
  spends : s.InhibitLaw → SpendsWithin s → SpendsWithin t

/-- What an act keeps: the laws of O53 and O54. -/
structure Keeps (s t : State) : Prop extends Moves s t where
  capped : CountCapped s → CountCapped t

/-- What the laws read of a state besides its queue, the station copy and FILL_SET. -/
def lawCore (s : State) : (Bool × GuardState × Bool) × FillState × Nat × List Reason × Nat × Bool :=
  ((s.powered, s.guard.state, s.guard.tripLine), s.fill.state, s.fill.demand, s.fill.inhibit, s.fill.numbers.k, s.tables.fillSet.isNone)

theorem Moves.trans {s t u : State} (h : Moves s t) (h' : Moves t u) : Moves s u where
  line hs := h'.line (h.line hs)
  demand hs := h'.demand (h.demand hs)
  inhibit hs := h'.inhibit (h.inhibit hs)
  asked hs := h'.asked (h.asked hs)
  spends hi hs := h'.spends (h.inhibit hi) (h.spends hi hs)

theorem Keeps.trans {s t u : State} (h : Keeps s t) (h' : Keeps t u) : Keeps s u :=
  ⟨h.toMoves.trans h'.toMoves, fun hs => h'.capped (h.capped hs)⟩

theorem Keeps.refl (s : State) : Keeps s s := ⟨⟨id, id, id, id, fun _ => id⟩, id⟩

/-- An act that leaves what the laws read, and of the DEMAND frames what they ask for. -/
theorem Moves.of_core {s t : State} (hc : lawCore t = lawCore s) (ha : Demands s.fill.demand s.out → Demands s.fill.demand t.out) : Moves s t := by
  simp only [lawCore, Prod.mk.injEq] at hc
  obtain ⟨⟨hp, hg, hl⟩, hf, hd, hi, hk, hn⟩ := hc
  have hn' : t.tables.fillSet = none → s.tables.fillSet = none := fun h => Option.isNone_iff_eq_none.mp (hn ▸ h ▸ rfl)
  exact {
    line := fun h => by simpa only [State.TripLineLaw, hp, hg, hl] using h
    demand := fun h => by simpa only [State.DemandLaw, hp, hg, hd] using h
    inhibit := fun h => by simpa only [State.InhibitLaw, hp, hi, hf, hd] using h
    asked := fun h => by simpa only [DemandsAsked, hp, hd] using fun ht => ha (h ht)
    spends := fun _ h hp' => by
      rw [hd, hk, hf]
      obtain ⟨h1, h2, h3⟩ := h (hp ▸ hp')
      exact ⟨h1, h2, fun h => h3 (hn' h)⟩ }

theorem Keeps.of_core {s t : State} (hc : lawCore t = lawCore s) (hs : t.fill.station = s.fill.station)
    (ht : t.tables.fillSet = s.tables.fillSet) (ha : Demands s.fill.demand s.out → Demands s.fill.demand t.out) : Keeps s t := by
  refine ⟨.of_core hc ha, fun h => ?_⟩
  simp only [lawCore, Prod.mk.injEq] at hc
  obtain ⟨⟨hp, -, -⟩, -, -, -, hk, -⟩ := hc
  simpa only [CountCapped, pumpsAvailable, hp, hs, ht, hk] using h

/-- The parts that the laws read. -/
def lawParts : List Part := [.powered, .tables, .guard, .fill, .out]

/-- An act apart from the parts that the laws read. -/
theorem Keeps.of_apart {s t : State} {touched : List Part} (h : ∀ p, p ∉ touched → p.read t = p.read s)
    (hd : ∀ p ∈ lawParts, p ∉ touched) : Keeps s t := by
  have hp : t.powered = s.powered := h .powered (hd _ (by decide))
  have ht : t.tables = s.tables := h .tables (hd _ (by decide))
  have hg : t.guard = s.guard := h .guard (hd _ (by decide))
  have hf : t.fill = s.fill := h .fill (hd _ (by decide))
  have ho : t.out = s.out := h .out (hd _ (by decide))
  exact .of_core (by simp only [lawCore, hp, ht, hg, hf]) (by rw [hf]) (by rw [ht]) fun h => ho ▸ h

theorem fault_asked {d : Nat} {s : State} (h : Demands d s.out) (code : FaultCode) (subject : Option Subject) :
    Demands d (s.fault code subject).out := by
  unfold State.fault
  dsimp only
  split
  · exact h
  · rw [show ∀ b u : State, (State.holdNotices b u).out = u.out from fun b u => holdNotices_read (part := .out) (by decide) b u]
    split
    · exact h.offer rfl
    · exact h

namespace Keeps

variable {u s : State}

/-- An act that leaves what the laws read, shown by computing both states. -/
theorem still (h : Keeps u s) {t : State} (hc : lawCore t = lawCore s := by rfl) (hs : t.fill.station = s.fill.station := by rfl)
    (ht : t.tables.fillSet = s.tables.fillSet := by rfl) (ho : t.out = s.out := by rfl) : Keeps u t :=
  h.trans (.of_core hc hs ht fun hd => ho ▸ hd)

theorem apart (h : Keeps u s) {t : State} {touched : List Part} (ht : ∀ p, p ∉ touched → p.read t = p.read s)
    (hd : ∀ p ∈ lawParts, p ∉ touched := by decide) : Keeps u t := h.trans (.of_apart ht hd)

/-! ### The queue and the banks (R136, R138, R143) -/

theorem offer (h : Keeps u s) {c : Content} (hc : pumpsOf c = none) : Keeps u (s.offer c) :=
  h.trans (.of_core rfl rfl rfl fun hd => hd.offer hc)

theorem respond (h : Keeps u s) (resv : Nat) (payload : List Byte) : Keeps u (s.respond resv payload) :=
  h.trans (.of_core rfl rfl rfl fun hd => hd.respond resv payload)

theorem reserve (h : Keeps u s) (code tag : Byte) : Keeps u (s.updOut (Outbound.reserve code tag)) :=
  h.trans (.of_core rfl rfl rfl fun hd => hd.reserve code tag)

theorem send (h : Keeps u s) (dest : BlockName) (n : Notice) : Keeps u (s.send dest n) := h.still

theorem broadcast (h : Keeps u s) (ds : List BlockName) (n : Notice) : Keeps u (s.broadcast ds n) := h.still

theorem fault (h : Keeps u s) (code : FaultCode) (subject : Option Subject) : Keeps u (s.fault code subject) := by
  have hread := fun p hp => fault_read (part := p) hp code subject s
  have hp : (s.fault code subject).powered = s.powered := hread .powered (by decide)
  have hg : (s.fault code subject).guard = s.guard := hread .guard (by decide)
  have ht : (s.fault code subject).tables = s.tables := hread .tables (by decide)
  have hf : (s.fault code subject).fill = s.fill := hread .fill (by decide)
  exact h.trans (.of_core (by simp only [lawCore, hp, hg, ht, hf]) (by rw [hf]) (by rw [ht]) fun hd => fault_asked hd code subject)

/-! ### The demand (R75, R99, R107) -/

theorem queueDemand (h : Keeps u s) : Keeps u s.queueDemand :=
  h.trans (.of_core rfl rfl rfl fun hd => hd.offer_demand _ _)

/-- What a new demand leaves of the fill, besides its frame and its tag (R99, R104, R107). -/
theorem setDemand_core (d : Nat) (s : State) :
    lawCore (s.setDemand d) = ((s.powered, s.guard.state, s.guard.tripLine), s.fill.state, d, s.fill.inhibit, s.fill.numbers.k,
      s.tables.fillSet.isNone) ∧ (s.setDemand d).fill.station = s.fill.station ∧ (s.setDemand d).tables.fillSet = s.tables.fillSet := by
  unfold State.setDemand
  split
  · next h => subst h; exact ⟨rfl, rfl, rfl⟩
  · exact ⟨rfl, rfl, rfl⟩

theorem setDemand_asked {d : Nat} {s : State} (h : Demands s.fill.demand s.out) : Demands d (s.setDemand d).out := by
  unfold State.setDemand
  split
  · next hd => exact hd ▸ h
  · exact h.offer_demand _ _

/-- An act that sets a demand last: `t` is where it does so, and it leaves `s` but for the fill's state, its inhibit set and its k. -/
theorem demandLast (h : Keeps u s) {t : State} {d : Nat} (hp : t.powered = s.powered) (hg : t.guard = s.guard)
    (ht : t.tables.fillSet = s.tables.fillSet) (hs : t.fill.station = s.fill.station)
    (ha : Demands s.fill.demand s.out → Demands t.fill.demand t.out) (hd : s.guard.state ≠ .armed → d = 0)
    (hi : (s.fill.inhibit ≠ [] → s.fill.state = .held) → t.fill.inhibit ≠ [] → t.fill.state = .held ∧ d = 0)
    (hk : d ≤ t.fill.numbers.k) (hz : t.fill.state ≠ .filling → d = 0)
    (hn : s.tables.fillSet = none → s.fill.numbers.k = 0 ∧ s.fill.state ≠ .opening ∧ s.fill.state ≠ .filling →
      t.fill.numbers.k = 0 ∧ t.fill.state ≠ .opening ∧ t.fill.state ≠ .filling)
    (hc : t.fill.numbers.k = s.fill.numbers.k ∨
      ∀ f, s.tables.fillSet = some f → t.fill.numbers.k ≤ pumpsAvailable s ∧ t.fill.numbers.k ≤ f.siteMax) :
    Keeps u (t.setDemand d) := by
  obtain ⟨hcore, hstation, htables⟩ := setDemand_core d t
  simp only [lawCore, Prod.mk.injEq, hp, hg, ht] at hcore
  obtain ⟨⟨hp', hg', hl'⟩, hf', hd', hi', hk', -⟩ := hcore
  refine h.trans {
    line := fun hl => ?_
    demand := fun _ _ hna => ?_
    inhibit := fun hil hpow hr => ?_
    asked := fun hask hpow => ?_
    spends := fun _ hspend hpow => ?_
    capped := fun hcap hpow f hf => ?_ }
  · simpa only [State.TripLineLaw, hp', hg', hl'] using hl
  · rw [hd']; exact hd (hg' ▸ hna)
  · rw [hf', hd']; exact hi (fun hr' => (hil (hp' ▸ hpow) hr').1) (hi' ▸ hr)
  · rw [hd']; exact setDemand_asked (ha (hask (hp' ▸ hpow)))
  · rw [hd', hk', hf', htables, ht]
    exact ⟨hk, hz, fun hnone => hn hnone ((hspend (hp' ▸ hpow)).2.2 hnone)⟩
  · have havail : pumpsAvailable (t.setDemand d) = pumpsAvailable s := by simp only [pumpsAvailable, hstation, hs]
    rw [hk', havail]
    rw [htables, ht] at hf
    rcases hc with hc | hc
    · rw [hc]; exact hcap (hp' ▸ hpow) f hf
    · exact hc f hf

/-- The guard leaves ARMED or is out of it, and takes the demand away (R75, R79). -/
theorem guardZero (h : Keeps u s) (f : GuardBlock → GuardBlock)
    (hf : (s.guard.tripLine = true ↔ s.guard.state = .tripped) → ((f s.guard).tripLine = true ↔ (f s.guard).state = .tripped)) :
    Keeps u (s.updGuard f).guardZero := by
  unfold State.guardZero
  refine Keeps.apart ?_ fun _ hp => passFill_read hp _ _
  refine h.trans {
    line := fun hl hp => hf (hl hp)
    demand := fun _ _ _ => rfl
    inhibit := fun hi hp hr => ⟨(hi hp hr).1, rfl⟩
    asked := fun ha hp => (ha hp).offerHead_demand _ _
    spends := fun _ hs hp => ⟨Nat.zero_le _, fun _ => rfl, (hs hp).2.2⟩
    capped := id }

/-- The guard is ARMED again, with its trip line released (R76, R84). -/
theorem guardArms (h : Keeps u s) (f : GuardBlock → GuardBlock) (hg : (f s.guard).state = .armed)
    (hl : (s.guard.tripLine = true ↔ s.guard.state = .tripped) → (f s.guard).tripLine = false) : Keeps u (s.updGuard f) :=
  h.trans {
    line := fun hs hp => by
      have hg' : (s.updGuard f).guard.state = .armed := hg
      have hl' : (s.updGuard f).guard.tripLine = false := hl (hs hp)
      rw [hg', hl']; decide
    demand := fun _ _ hn => absurd hg hn
    inhibit := id
    asked := id
    spends := fun _ => id
    capped := id }

/-! ### The fill's state and its inhibit set (R96 to R99, R104) -/

/-- The fill goes on to another state, from one that holds no demand and is not HELD. -/
theorem setFill (h : Keeps u s) {st : FillState} (p : Option Purpose) (hheld : s.fill.state ≠ .held) (hfill : s.fill.state ≠ .filling)
    (hopen : st = .opening → s.fill.numbers.k ≠ 0) (hrun : st = .filling → s.fill.state = .opening) : Keeps u (s.setFill st p) :=
  h.trans {
    line := id
    demand := id
    inhibit := fun hi hp hr => absurd (hi hp hr).1 hheld
    asked := id
    spends := fun _ hs hp => by
      obtain ⟨hle, hzero, hnone⟩ := hs hp
      refine ⟨hle, fun _ => hzero hfill, fun ht => ?_⟩
      obtain ⟨hk, hno, -⟩ := hnone ht
      exact ⟨hk, fun ho => hopen ho hk, fun hf => hno (hrun hf)⟩
    capped := id }

/-- The fill goes on to CLOSING, without a demand (R101). -/
theorem enterClosing (h : Keeps u s) (hheld : s.fill.state ≠ .held) : Keeps u s.enterClosing := by
  unfold State.enterClosing
  refine Keeps.still (s := (s.setFill .closing none).setDemand 0) ?_
  exact h.demandLast rfl rfl rfl rfl id (fun _ => rfl) (fun hi hr => absurd (hi hr) hheld) (Nat.zero_le _) (fun _ => rfl)
    (fun _ hn => ⟨hn.1, nofun, nofun⟩) (.inl rfl)

/-- The first reason in the inhibit set: the fill is HELD, without a demand (R104). -/
theorem enterHeld (h : Keeps u s) (rs : List Reason) : Keeps u (s.updFill fun f => { f with inhibit := rs }).enterHeld := by
  unfold State.enterHeld
  exact h.demandLast rfl rfl rfl rfl id (fun _ => rfl) (fun _ _ => ⟨rfl, rfl⟩) (Nat.zero_le _) (fun _ => rfl)
    (fun _ hn => ⟨hn.1, nofun, nofun⟩) (.inl rfl)

/-- The fill demands its k while the guard is ARMED, and nothing else (R99). -/
theorem fillingDemand (h : Keeps u s) (hf : s.fill.state = .filling) : Keeps u s.fillingDemand := by
  unfold State.fillingDemand
  refine h.demandLast rfl rfl rfl rfl id (fun hg => if_neg hg) (fun hi hr => absurd (hf.symm.trans (hi hr)) (by decide)) ?_
    (fun hn => absurd hf hn) (fun _ hn => hn) (.inl rfl)
  split
  · exact le_rfl
  · exact Nat.zero_le _


/-! ### The plan (R94, R96, R98, R99) -/

end Keeps

/-- A new k, within the pumps available and the site maximum (R94 steps 7 and 8). -/
structure Recounts (s t : State) : Prop where
  powered : t.powered = s.powered
  guard : t.guard = s.guard
  tables : t.tables.fillSet = s.tables.fillSet
  station : t.fill.station = s.fill.station
  state : t.fill.state = s.fill.state
  demand : t.fill.demand = s.fill.demand
  inhibit : t.fill.inhibit = s.fill.inhibit
  asked : Demands s.fill.demand s.out → Demands s.fill.demand t.out
  capped : ∃ f, s.tables.fillSet = some f ∧ t.fill.numbers.k ≤ pumpsAvailable s ∧ t.fill.numbers.k ≤ f.siteMax

theorem planNumbers_capped (s : State) (fs : FillSet) : (s.planNumbers fs).k ≤ s.pumpCap fs := by
  have htop : ∀ n, (s.topUpNumbers fs n).k ≤ s.pumpCap fs := fun n => Nat.min_le_right _ _
  unfold State.planNumbers
  dsimp only
  split
  · split
    · exact htop _
    · exact Nat.min_le_right _ _
  · exact htop _

theorem planned_recounts {s : State} {fs : FillSet} (hf : s.tables.fillSet = some fs) : Recounts s (planned fs s) where
  powered := rfl
  guard := rfl
  tables := rfl
  station := rfl
  state := rfl
  demand := rfl
  inhibit := rfl
  asked := id
  capped := ⟨fs, hf, (planNumbers_capped s fs).trans (Nat.min_le_left _ _), (planNumbers_capped s fs).trans (Nat.min_le_right _ _)⟩

theorem takeTopUp_recounts {s : State} {fs : FillSet} (hf : s.tables.fillSet = some fs) : Recounts s (s.takeTopUp fs) where
  powered := rfl
  guard := rfl
  tables := rfl
  station := rfl
  state := rfl
  demand := rfl
  inhibit := rfl
  asked := id
  capped := ⟨fs, hf, (Nat.min_le_right _ _).trans (Nat.min_le_left _ _), (Nat.min_le_right _ _).trans (Nat.min_le_right _ _)⟩

/-- A fault on the way, as SHORTFALL at an evaluation that is newly cut (R94). -/
theorem Recounts.fault {s t : State} (h : Recounts s t) (code : FaultCode) (subject : Option Subject) : Recounts s (t.fault code subject) := by
  have hp : (t.fault code subject).powered = t.powered := fault_read (part := .powered) (by decide) _ _ _
  have hg : (t.fault code subject).guard = t.guard := fault_read (part := .guard) (by decide) _ _ _
  have ht : (t.fault code subject).tables = t.tables := fault_read (part := .tables) (by decide) _ _ _
  have hf : (t.fault code subject).fill = t.fill := fault_read (part := .fill) (by decide) _ _ _
  exact ⟨hp.trans h.powered, hg.trans h.guard, ht ▸ h.tables, hf ▸ h.station, hf ▸ h.state, hf ▸ h.demand, hf ▸ h.inhibit,
    fun ha => fault_asked (h.asked ha) code subject, hf ▸ h.capped⟩

namespace Keeps

variable {u s : State}

/-- A new k outside FILLING. -/
theorem recount (h : Keeps u s) {t : State} (hr : Recounts s t) (hs : s.fill.state ≠ .filling) : Keeps u t := by
  obtain ⟨fs, hfs, hav, hmax⟩ := hr.capped
  refine h.trans {
    line := fun hl => by simpa only [State.TripLineLaw, hr.powered, hr.guard] using hl
    demand := fun hd => by simpa only [State.DemandLaw, hr.powered, hr.guard, hr.demand] using hd
    inhibit := fun hi => by simpa only [State.InhibitLaw, hr.powered, hr.inhibit, hr.state, hr.demand] using hi
    asked := fun ha hp => by rw [hr.demand]; exact hr.asked (ha (hr.powered ▸ hp))
    spends := fun _ hsp hp => ?_
    capped := fun _ _ f hf => ?_ }
  · have hzero := (hsp (hr.powered ▸ hp)).2.1 hs
    rw [hr.demand, hzero]
    exact ⟨Nat.zero_le _, fun _ => rfl, fun hn => absurd (hr.tables.symm.trans hn) (by simp [hfs])⟩
  · have hav' : pumpsAvailable t = pumpsAvailable s := by simp only [pumpsAvailable, hr.station]
    obtain rfl : fs = f := Option.some.inj (hfs.symm.trans (hr.tables ▸ hf))
    exact ⟨hav' ▸ hav, hmax⟩

/-- A new k in FILLING, and the demand with it (R99). -/
theorem recountDemand (h : Keeps u s) {t : State} (hr : Recounts s t) (hs : s.fill.state = .filling) : Keeps u t.fillingDemand := by
  obtain ⟨fs, hfs, hav, hmax⟩ := hr.capped
  unfold State.fillingDemand
  refine h.demandLast hr.powered hr.guard hr.tables hr.station (fun ha => hr.demand ▸ hr.asked ha) (fun hg => if_neg (hr.guard ▸ hg)) ?_ ?_ ?_ ?_
    (.inr fun f hf => ?_)
  · exact fun hi hn => absurd (hs.symm.trans (hi (hr.inhibit ▸ hn))) (by decide)
  · split
    · exact le_rfl
    · exact Nat.zero_le _
  · exact fun hn => absurd (hr.state.trans hs) hn
  · exact fun hn => absurd (hfs.symm.trans hn) (by simp)
  · obtain rfl : fs = f := Option.some.inj (hfs.symm.trans hf)
    exact ⟨hav, hmax⟩

/-! ### Opening, and acting on an evaluation (R93, R96 to R98) -/

theorem placeOpen (h : Keeps u s) : Keeps u s.placeOpen := by
  unfold State.placeOpen
  split
  · exact h.still
  · next g _ =>
    exact (h.apart (fun _ hp => placeCommand_read hp g.inletAddress g.inletItem g.feedback .fill 2 s)).still

theorem enterOpening (h : Keeps u s) (p : Purpose) (hheld : s.fill.state ≠ .held) (hfill : s.fill.state ≠ .filling)
    (hk : s.fill.numbers.k ≠ 0) : Keeps u (s.enterOpening p) := by
  unfold State.enterOpening
  have hopens : Keeps u (s.setFill .opening (some p)) := h.setFill _ hheld hfill (fun _ => hk) nofun
  exact Keeps.placeOpen hopens.still

theorem windowDecision (h : Keeps u s) (turned : Bool) (hheld : s.fill.state ≠ .held) (hfill : s.fill.state ≠ .filling) :
    Keeps u (s.windowDecision turned) := by
  unfold State.windowDecision
  dsimp only
  split
  · exact h.setFill _ hheld hfill nofun nofun
  · split
    · exact h.setFill _ hheld hfill nofun nofun
    · next hk =>
      split
      · exact h.setFill _ hheld hfill nofun nofun
      · split
        · exact h
        · exact h.enterOpening _ hheld hfill hk

theorem topUp (h : Keeps u s) {fs : FillSet} (hf : s.tables.fillSet = some fs) (hheld : s.fill.state ≠ .held)
    (hfill : s.fill.state ≠ .filling) : Keeps u (s.topUp fs) := by
  unfold State.topUp
  split
  · next hc =>
    have hk : (s.takeTopUp fs).fill.numbers.k ≠ 0 := by
      simp only [Bool.and_eq_true, decide_eq_true_eq] at hc
      exact Nat.pos_iff_ne_zero.mp hc.2
    exact (h.recount (takeTopUp_recounts hf) hfill).enterOpening .topUp hheld hfill hk
  · exact h

/-- An evaluation with a FILL_SET: `t` is where it acts (R93). -/
theorem actOnPlan (h : Keeps u s) {t : State} {fs : FillSet} (hr : Recounts s t) (hf : t.tables.fillSet = some fs) (forced : Bool) :
    Keeps u (t.actOnPlan fs forced) := by
  have hkeeps : ∀ st, t.fill.state = st → st ≠ .filling → Keeps u t := fun st hst hne => h.recount hr (hr.state ▸ hst ▸ hne)
  unfold State.actOnPlan
  split
  case h_1 hs =>
    have ht := hkeeps _ hs nofun
    split
    · exact ht.windowDecision _ (by simp [hs]) (by simp [hs])
    · exact ht.topUp hf (by simp [hs]) (by simp [hs])
  case h_2 hs =>
    have ht := hkeeps _ hs nofun
    split
    · exact ht.windowDecision _ (by simp [hs]) (by simp [hs])
    · exact ht
  case h_3 hs =>
    have ht := hkeeps _ hs nofun
    split
    · exact ht.placeOpen
    · exact ht
  case h_4 hs => exact h.recountDemand hr (hr.state ▸ hs)
  case h_5 hs => exact hkeeps _ hs nofun
  case h_6 hs => exact hkeeps _ hs nofun
  case h_7 hs => exact hkeeps _ hs nofun

/-- Without a FILL_SET an evaluation takes k to 0 (R92). -/
theorem unplanned (h : Keeps u s) (hf : s.tables.fillSet = none) {t : State}
    (ht : t = s.updFill fun f => { f with numbers := { f.numbers with k := 0, cut := false }, planAt := none }) : Keeps u t := by
  subst ht
  refine h.trans {
    line := id
    demand := id
    inhibit := id
    asked := id
    spends := fun _ hs hp => ?_
    capped := fun _ _ f hf' => absurd (hf.symm.trans hf') (by simp) }
  obtain ⟨hle, hz, hn⟩ := hs hp
  obtain ⟨hk, hrest⟩ := hn hf
  exact ⟨hk ▸ hle, hz, fun _ => ⟨rfl, hrest⟩⟩

theorem evaluatePlan (h : Keeps u s) (forced : Bool) : Keeps u (s.evaluatePlan forced) := by
  cases hf : s.tables.fillSet with
  | none => exact h.unplanned hf (by simp only [State.evaluatePlan, hf])
  | some fs =>
    rw [evaluatePlan_some hf]
    split
    · have hr := (planned_recounts hf).fault .shortfall none
      exact h.actOnPlan hr (hr.tables.trans hf) forced
    · exact h.actOnPlan (planned_recounts hf) hf forced

/-! ### Windows and the close sequence (R90, R97 to R100) -/

theorem endWindow (h : Keeps u s) (force : Bool) : Keeps u (s.endWindow force) := by
  unfold State.endWindow
  extract_lets minimum low mine
  clear_value low mine
  split
  case h_1 hs =>
    split
    · exact h
    · exact h.setFill _ (by simp [hs]) (by simp [hs]) nofun nofun
  case h_2 hs =>
    split
    · exact h
    · exact h.setFill _ (by simp [hs]) (by simp [hs]) nofun nofun
  case h_3 hs =>
    split
    · split
      · split
        · next fs hf => exact (h.recount (takeTopUp_recounts hf) (by simp [hs])).still
        · exact h.still
      · exact h.enterClosing (by simp [hs])
    · exact h
  case h_4 hs =>
    split
    · split
      · split
        · next fs hf =>
          obtain ⟨fs', hr⟩ := (takeTopUp_recounts hf).capped
          exact h.recountDemand (t := (s.takeTopUp fs).updFill fun f => { f with purpose := some .topUp })
            ⟨rfl, rfl, rfl, rfl, rfl, rfl, rfl, id, fs', hr⟩ hs
        · exact h.still
      · exact h.enterClosing (by simp [hs])
    · exact h
  all_goals exact h

theorem enterWindow (h : Keeps u s) : Keeps u s.enterWindow := by
  unfold State.enterWindow
  exact Keeps.evaluatePlan h.still false

theorem recomputeTariff (h : Keeps u s) : Keeps u s.recomputeTariff := by
  unfold State.recomputeTariff
  extract_lets before after cls changed set told cheapBefore cheapAfter ended
  have hset : Keeps u set := h.still
  have htold : Keeps u told := by
    unfold told
    split
    · exact hset.broadcast _ _
    · exact hset
  have hended : Keeps u ended := by
    unfold ended
    split
    · exact htold.endWindow false
    · exact htold
  split
  · exact htold
  · split
    · exact hended.enterWindow
    · exact hended

theorem placeClose (h : Keeps u s) : Keeps u s.placeClose := by
  unfold State.placeClose
  split
  · exact h
  · next g _ =>
    have hplaced := h.apart (fun _ hp => placeCommand_read hp g.inletAddress g.inletItem g.feedback .fill 0 s)
    dsimp only
    split
    · exact hplaced.still
    · exact hplaced.still
    · exact hplaced

theorem closeSequence (h : Keeps u s) : Keeps u s.closeSequence := by
  unfold State.closeSequence
  split
  · exact h.still
  · split
    · exact h
    · extract_lets start aim waits
      have hwaits : Keeps u waits := h.still
      split
      · exact hwaits.placeClose
      · exact hwaits

theorem fillEvent (h : Keeps u s) (f : State → State) (hf : ∀ s, Keeps u s → Keeps u (f s)) : Keeps u (State.fillEvent f s) := by
  unfold State.fillEvent
  exact (hf s h).closeSequence.apart fun _ hp => passFill_read hp _ _

/-! ### The inhibit set (R103, R104) -/

/-- The last reason leaves the inhibit set: the fill is IDLE, `t` being what else the event does to its block (R104). -/
theorem frees (h : Keeps u s) (hr : s.fill.inhibit ≠ []) {t : State} (hc : lawCore t =
    ((s.powered, s.guard.state, s.guard.tripLine), .idle, s.fill.demand, [], s.fill.numbers.k, s.tables.fillSet.isNone))
    (hst : t.fill.station = s.fill.station) (htab : t.tables.fillSet = s.tables.fillSet) (ho : t.out = s.out) : Keeps u t := by
  simp only [lawCore, Prod.mk.injEq] at hc
  obtain ⟨⟨hp, hg, hl⟩, hf, hd, hi, hk, -⟩ := hc
  refine h.trans {
    line := fun h => by simpa only [State.TripLineLaw, hp, hg, hl] using h
    demand := fun h => by simpa only [State.DemandLaw, hp, hg, hd] using h
    inhibit := fun _ _ hn => absurd hi hn
    asked := fun h => by simpa only [DemandsAsked, hp, hd, ho] using h
    spends := fun hil hs hp' => ?_
    capped := fun h => by simpa only [CountCapped, pumpsAvailable, hp, hst, htab, hk] using h }
  obtain ⟨hle, -, hn⟩ := hs (hp ▸ hp')
  have hzero : t.fill.demand = 0 := hd.trans (hil (hp ▸ hp') hr).2
  rw [hzero, hf, hk, htab]
  exact ⟨Nat.zero_le _, fun _ => rfl, fun h => ⟨(hn h).1, nofun, nofun⟩⟩

/-- Reasons join and leave while others stay (R104). -/
theorem reasons (h : Keeps u s) (hr : s.fill.inhibit ≠ []) (rs : List Reason) : Keeps u (s.updFill fun f => { f with inhibit := rs }) :=
  h.trans {
    line := id
    demand := id
    inhibit := fun hi hp _ => hi hp hr
    asked := id
    spends := fun _ => id
    capped := id }

theorem changeInhibit (h : Keeps u s) (add remove : List Reason) : Keeps u (s.changeInhibit add remove) := by
  unfold State.changeInhibit
  extract_lets rs was set
  split
  · next hrs =>
    split
    · next hwas => exact h.still (t := set) (by unfold set; rw [hrs, ← hwas]; rfl)
    · next hwas => exact (h.frees (t := set.setFill .idle none) hwas (by unfold set; rw [hrs]; rfl) rfl rfl rfl).evaluatePlan false
  · split
    · exact h.enterHeld rs
    · next hwas => exact h.reasons hwas rs

/-! ### Level notices, outcomes and orders (R96, R97, R99, R102, R105, R106) -/

theorem fillOnLevelState (h : Keeps u s) {fs : FillSet} (hf : s.tables.fillSet = some fs) (lr : LevelRecord) :
    Keeps u (State.fillOnLevelState fs lr s) := by
  unfold State.fillOnLevelState
  split
  · exact h
  · split
    case h_1 hs =>
      split
      · exact h
      · exact h.topUp hf (by simp [hs]) (by simp [hs])
    case h_2 hs =>
      split
      · exact h.windowDecision true (by simp [hs]) (by simp [hs])
      · exact h
    case h_3 hs =>
      extract_lets full
      clear_value full
      split
      · exact h.enterClosing (by simp [hs])
      · exact h
    all_goals exact h

theorem turnoverBecomesDone (h : Keeps u s) : Keeps u s.turnoverBecomesDone := by
  unfold State.turnoverBecomesDone
  extract_lets turned
  have hturned : Keeps u turned := Keeps.evaluatePlan h.still false
  split
  · next hs => exact hturned.windowDecision true (by simp [hs]) (by simp [hs])
  · exact hturned

theorem turnoverBecomesDone_tables (s : State) : s.turnoverBecomesDone.tables = s.tables :=
  turnoverBecomesDone_read (part := .tables) (by decide) s

theorem fillOnLevel (h : Keeps u s) (lr : LevelRecord) : Keeps u (s.fillOnLevel lr) := by
  unfold State.fillOnLevel
  split
  · exact h
  · next fs hf =>
    extract_lets turns
    clear_value turns
    cases turns with
    | false => exact h.fillOnLevelState hf lr
    | true => exact h.turnoverBecomesDone.fillOnLevelState ((congrArg Tables.fillSet (turnoverBecomesDone_tables s)).trans hf) lr

theorem closeConfirmed (h : Keeps u s) : Keeps u s.closeConfirmed := by
  unfold State.closeConfirmed
  extract_lets closing cleared
  have hcleared : Keeps u cleared := h.still
  split
  · next hs =>
    have hclosing : cleared.fill.state = .closing := of_decide_eq_true hs
    refine (hcleared.setFill _ (by simp [hclosing]) (by simp [hclosing]) ?_ ?_).evaluatePlan false
    · split <;> nofun
    · split <;> nofun
  · exact hcleared

theorem fillOnCommand (h : Keeps u s) (target : Nat) (o : CommandOutcome) : Keeps u (s.fillOnCommand target o) := by
  unfold State.fillOnCommand
  extract_lets clear again
  have hclear : Keeps u (clear s) := h.still
  have hagain : Keeps u (again s) := by
    unfold again
    split
    · exact h.still
    · exact h
  split
  · split
    · exact h.still
    · exact h
  · split
    · exact h.closeConfirmed
    · split
      · next hs => exact (h.setFill (st := .filling) _ (by simp [hs]) (by simp [hs]) nofun fun _ => hs).fillingDemand rfl
      · exact h
  · exact Keeps.changeInhibit h.still _ _
  · exact hclear
  · split
    · exact hclear
    · exact hagain
  · split
    · exact h
    · exact hagain
  · exact h

theorem replaceOrder (h : Keeps u s) (order : FillOrder) : Keeps u (s.replaceOrder order) := by
  unfold State.replaceOrder
  extract_lets forced replaced
  have hreplaced : Keeps u replaced := h.still
  split
  · exact hreplaced.endWindow true
  · exact hreplaced

theorem orderAuto (h : Keeps u s) : Keeps u s.orderAuto := (h.replaceOrder _).changeInhibit _ _

theorem orderHold (h : Keeps u s) : Keeps u s.orderHold := (h.changeInhibit _ _).replaceOrder _

theorem orderForce (h : Keeps u s) : Keeps u s.orderForce := by
  unfold State.orderForce
  extract_lets rs freed now set
  refine Keeps.evaluatePlan ?_ true
  split
  · next hfreed =>
    obtain ⟨hrs, hr⟩ := of_decide_eq_true hfreed
    exact h.frees hr (by unfold set; rw [hrs]; rfl) rfl rfl rfl
  · next hfreed =>
    by_cases hr : s.fill.inhibit = []
    · have hrs : rs = s.fill.inhibit := by unfold rs; rw [hr]; rfl
      exact h.still (by unfold set; rw [hrs]; rfl)
    · exact (h.reasons hr rs).still

theorem orderLapses (h : Keeps u s) : Keeps u s.orderLapses := by
  unfold State.orderLapses
  split
  · exact h
  · exact (h.replaceOrder _).changeInhibit _ _

end Keeps

/-! ### The station, the rise check and the clock (R88, R108, R110, R111) -/

theorem Recounts.self {s t : State} (h : Recounts s t) : Recounts t t := by
  obtain ⟨f, hf, hav, hmax⟩ := h.capped
  exact ⟨rfl, rfl, rfl, rfl, rfl, rfl, rfl, id, f, h.tables.trans hf, by simpa only [pumpsAvailable, h.station] using hav, hmax⟩

theorem Recounts.countCapped {s t : State} (h : Recounts s t) : CountCapped t := fun _ f hf => by
  obtain ⟨f', hf', hav, hmax⟩ := h.self.capped
  obtain rfl : f' = f := Option.some.inj (hf'.symm.trans hf)
  exact ⟨hav, hmax⟩

/-- After an evaluation k is within its caps, whatever it was before (R94 step 7). -/
theorem evaluatePlan_countCapped (forced : Bool) (s : State) : CountCapped (s.evaluatePlan forced) := by
  cases hf : s.tables.fillSet with
  | none =>
    intro _ f hf'
    have ht : (s.evaluatePlan forced).tables = s.tables := evaluatePlan_read (part := .tables) (by decide) forced s
    exact absurd (hf.symm.trans (ht ▸ hf')) (by simp)
  | some fs =>
    have hacts : ∀ t, Recounts s t → CountCapped (t.actOnPlan fs forced) := fun t hr =>
      ((Keeps.refl t).actOnPlan hr.self (hr.tables.trans hf) forced).capped hr.countCapped
    rw [evaluatePlan_some hf]
    split
    · exact hacts _ ((planned_recounts hf).fault _ _)
    · exact hacts _ (planned_recounts hf)

namespace Keeps

variable {u s : State}

/-- The station copy or FILL_SET changes, and an evaluation follows where the caps of k do. -/
theorem recap (h : Keeps u s) {t v : State} (hm : Moves s t) (hv : Keeps t v) (hc : CountCapped s → CountCapped v) : Keeps u v :=
  ⟨h.toMoves.trans (hm.trans hv.toMoves), fun hs => hc (h.capped hs)⟩

theorem riseOnStatus (h : Keeps u s) (running : Nat) : Keeps u (s.riseOnStatus running) := by
  unfold State.riseOnStatus
  split
  · exact h.still
  · split
    · exact h.still
    · exact h

theorem takeStatus (h : Keeps u s) (c : StationCopy) : Keeps u (s.takeStatus c) := by
  unfold State.takeStatus
  extract_lets old new copied inhibited evaluated risen
  have hinhibited : Keeps copied inhibited := by
    unfold inhibited
    split
    · exact (Keeps.refl copied).changeInhibit _ _
    · exact (Keeps.refl copied).changeInhibit _ _
  have hevaluated : Keeps u evaluated := by
    unfold evaluated
    split
    · next hsame =>
      have havail : pumpsAvailable copied = pumpsAvailable s := by
        simp only [new, old, copyItems] at hsame
        show c.available = _
        rw [hsame]
        unfold pumpsAvailable
        cases s.fill.station <;> rfl
      refine h.recap (t := copied) (.of_core rfl id) hinhibited fun hs => hinhibited.capped fun hp f hf => ?_
      rw [havail]
      exact hs hp f hf
    · exact h.recap (t := copied) (.of_core rfl id) (hinhibited.evaluatePlan false) fun _ => evaluatePlan_countCapped _ _
  have hrisen : Keeps u risen := (hevaluated.riseOnStatus _).send _ _
  split
  · exact hrisen
  · exact hrisen.send _ _

theorem judgeRise (h : Keeps u s) (check : RiseCheck) : Keeps u (s.judgeRise check) := by
  unfold State.judgeRise
  extract_lets lr stop
  have hstop : Keeps u (stop s) := h.still
  split
  · exact hstop
  · split
    · exact hstop.fault _ _
    · split
      · exact h.still
      · exact hstop

theorem putClock (h : Keeps u s) (t : ClockTime) : Keeps u (s.putClock t) := by
  unfold State.putClock
  extract_lets first clock set
  have hset : Keeps u set := h.still
  split
  · exact hset.send _ _
  · exact hset

theorem newMinute (h : Keeps u s) : Keeps u s.newMinute := by
  unfold State.newMinute
  exact Keeps.recomputeTariff h.still

theorem swapFillSet (h : Keeps u s) (t : FillSet) : Keeps u (s.swapFillSet t) := by
  unfold State.swapFillSet
  refine h.recap (t := s.updTables fun x => { x with fillSet := some t }) ?_ ((Keeps.refl _).evaluatePlan false)
    fun _ => evaluatePlan_countCapped _ _
  exact {
    line := id
    demand := id
    inhibit := id
    asked := id
    spends := fun _ hs hp => ⟨(hs hp).1, (hs hp).2.1, nofun⟩ }

theorem swapTariff (h : Keeps u s) (t : List TariffWindow) : Keeps u (s.swapTariff t) :=
  (Keeps.recomputeTariff (s := s.updTables fun x => { x with tariff := some t }) h.still).evaluatePlan false

theorem swapProfile (h : Keeps u s) (t : List ProfileRecord) : Keeps u (s.swapProfile t) :=
  Keeps.evaluatePlan (s := s.updTables fun x => { x with profile := some t }) h.still false

end Keeps
end Sys2Proof.Laws
end

section
/-! PROOFS. The laws of the trip line and of the fill demand through the acts of the Level Unit and of the guard (R52, R68, R74 to R86). -/

namespace Sys2Proof.Laws

open Sys2Proof.Machine

-- One declaration after another: elaborated at once, their proofs take a thread each.
set_option Elab.async false

namespace Keeps

variable {u s : State}

/-! ### The Level Unit (R52, R63, R67, R68) -/

theorem levelNotice (h : Keeps u s) (q a : Bool) : Keeps u (s.levelNotice q a) := h.broadcast _ _

theorem judgeBeyond (h : Keeps u s) : Keeps u s.judgeBeyond := by
  unfold State.judgeBeyond
  extract_lets before after set
  have hset : Keeps u set := h.still
  split
  · exact hset.fault _ _
  · exact hset

theorem recompute (h : Keeps u s) (g : GuardSet) (sample : Option Nat) : Keeps u (s.recompute g sample) := by
  unfold State.recompute
  extract_lets a b old r set logged beyond
  have hset : Keeps u set := h.still
  have hlogged : Keeps u logged := by
    unfold logged
    split
    · exact hset
    · split
      · exact hset.fault _ _
      · exact hset
  exact hlogged.judgeBeyond.levelNotice _ _

theorem levelOnPoints (h : Keeps u s) (ps : List Nat) (sample : Option Nat) : Keeps u (s.levelOnPoints ps sample) := by
  unfold State.levelOnPoints
  split
  · exact h
  · split
    · exact h.recompute _ _
    · exact h

theorem levelOnHousing (h : Keeps u s) : Keeps u s.levelOnHousing := by
  unfold State.levelOnHousing
  split
  · exact h
  · exact h.recompute _ _

theorem swapStrapping (h : Keeps u s) (t : List Breakpoint) : Keeps u (s.swapStrapping t) := by
  unfold State.swapStrapping
  exact (Keeps.judgeBeyond h.still).levelNotice _ _

theorem levelOnGuardSet (h : Keeps u s) (old : Option GuardSet) (g : GuardSet) : Keeps u (s.levelOnGuardSet old g) := by
  unfold State.levelOnGuardSet
  extract_lets pointsSame bandSame set
  have hset : Keeps u set := by
    unfold set
    split
    · exact h
    · exact h.still
  split
  · exact h
  · exact hset.recompute _ _

/-! ### The watch over the inlet valve (R82) -/

theorem placeUrgent (h : Keeps u s) : Keeps u s.placeUrgent := h.apart fun _ hp => placeUrgent_read hp _

theorem startWatch (h : Keeps u s) : Keeps u s.startWatch := by
  unfold State.startWatch
  split
  · exact h.still
  · exact h.still

theorem guardOnPoints (h : Keeps u s) (ps : List Nat) : Keeps u (s.guardOnPoints ps) := by
  unfold State.guardOnPoints
  split
  · exact h
  · split
    · exact h
    · split
      · split
        · exact h.still
        · exact h
      · split
        · exact h
        · exact h.startWatch.placeUrgent
      · exact h

theorem valveDeadline (h : Keeps u s) : Keeps u s.valveDeadline := by
  unfold State.valveDeadline
  split
  · exact h
  · exact (Keeps.fault h.still _ _).placeUrgent

theorem valveRepeat (h : Keeps u s) : Keeps u s.valveRepeat := Keeps.placeUrgent h.still

theorem valveRetry (h : Keeps u s) : Keeps u s.valveRetry := Keeps.placeUrgent h.still

theorem guardOnUrgent (h : Keeps u s) (done : Bool) : Keeps u (s.guardOnUrgent done) := by
  unfold State.guardOnUrgent
  extract_lets at2s
  split
  · exact h.still
  · exact h

/-! ### The trip, anticipation and the reset (R74 to R81, R84) -/

theorem tellGuard (h : Keeps u s) : Keeps u s.tellGuard := h.apart fun _ hp => tellGuard_read hp _

theorem askTripWork (h : Keeps u s) (e : TripEntry) : Keeps u (s.askTripWork e) := h.apart fun _ hp => askTripWork_read hp _ _

theorem trip (h : Keeps u s) (cause : TripCause) (lr : LevelRecord) : Keeps u (s.trip cause lr) := by
  unfold State.trip
  extract_lets p report entry tripped zeroed closed reported logged
  have hzeroed : Keeps u zeroed := (h.guardZero _ fun _ => ⟨fun _ => rfl, fun _ => rfl⟩).send _ _
  have hclosed : Keeps u closed := hzeroed.placeUrgent.startWatch.askTripWork _
  have hreported : Keeps u reported := (hclosed.offer rfl).still
  have hlogged : Keeps u logged := by
    unfold logged
    split
    · exact hreported.fault _ _
    · exact hreported
  exact hlogged.tellGuard

theorem tripCondition (h : Keeps u s) (cause : TripCause) (lr : LevelRecord) : Keeps u (s.tripCondition cause lr) := by
  unfold State.tripCondition
  split
  · exact h.still
  · exact h
  · exact h.trip _ _
  · exact h.trip _ _

/-- A move to ANTICIPATING from a state that is not TRIPPED. -/
theorem anticipate (h : Keeps u s) (hs : s.guard.state ≠ .tripped) : Keeps u s.anticipate := by
  unfold State.anticipate
  extract_lets zeroed placed
  have hzeroed : Keeps u zeroed := by
    refine (h.guardZero _ fun hl => ?_).send _ _
    exact ⟨fun ht => absurd (hl.mp ht) hs, nofun⟩
  have hplaced : Keeps u placed := by
    unfold placed
    split
    · exact hzeroed
    · exact (hzeroed.apart fun _ hp => placeCommand_read hp _ _ _ _ _ _).send _ _
  exact hplaced.tellGuard

theorem rearmGuard (h : Keeps u s) (hs : s.guard.state ≠ .tripped) : Keeps u s.rearmGuard := by
  unfold State.rearmGuard
  exact ((h.guardArms _ rfl fun hl => Bool.eq_false_iff.mpr fun ht => hs (hl.mp ht)).send _ _).tellGuard

theorem guardEvaluate (h : Keeps u s) (lr : LevelRecord) : Keeps u (s.guardEvaluate lr) := by
  unfold State.guardEvaluate
  split
  · exact h
  · extract_lets numbered told atTrip
    have htold : Keeps u told := Keeps.send h.still _ _
    split
    · next hs =>
      split
      · exact htold.trip _ _
      · split
        · exact htold.anticipate (by simp [hs])
        · exact htold
    · next hs =>
      split
      · exact htold.trip _ _
      · split
        · exact htold.rearmGuard (by simp [hs])
        · exact htold
    · split
      · exact htold.tripCondition _ _
      · exact htold

theorem levelHoldEnds (h : Keeps u s) : Keeps u s.levelHoldEnds := by
  unfold State.levelHoldEnds
  exact Keeps.tripCondition h.still _ _

theorem armHold (h : Keeps u s) (g : GuardSet) (since : Nat) : Keeps u (s.armHold g since) := by
  unfold State.armHold
  extract_lets aim
  split
  · exact h.levelHoldEnds
  · exact h.still

theorem holdOnNotice (h : Keeps u s) (lr : LevelRecord) : Keeps u (s.holdOnNotice lr) := by
  unfold State.holdOnNotice
  split
  · exact h
  · split
    · split
      · exact h
      · exact h.armHold _ _
    · exact h
    · exact h.still

theorem floatInput (h : Keeps u s) (active : Bool) : Keeps u (s.floatInput active) := h.still

theorem floatActivates (h : Keeps u s) : Keeps u s.floatActivates := by
  unfold State.floatActivates
  extract_lets lr tripped
  have htripped : Keeps u tripped := Keeps.tripCondition h.still _ _
  split
  · exact htripped
  · split
    · exact htripped.fault _ _
    · exact htripped

theorem floatDebounced (h : Keeps u s) : Keeps u s.floatDebounced := by
  unfold State.floatDebounced
  split
  · exact h.floatActivates
  · exact h.still

theorem guardResetRequest (h : Keeps u s) (resv : Nat) (tag : Byte) : Keeps u (s.guardResetRequest resv tag) := by
  unfold State.guardResetRequest
  split
  · exact h.respond _ _
  · exact Keeps.askTripWork h.still _

theorem completeReset (h : Keeps u s) : Keeps u s.completeReset := by
  unfold State.completeReset
  split
  · exact h
  · split
    · exact (Keeps.respond h.still _ _).trip _ _
    · exact ((((h.guardArms _ rfl fun _ => rfl).send _ _).tellGuard).respond _ _).guardEvaluate _

theorem guardOnTripWork (h : Keeps u s) (e : TripEntry) (slot : Option Nat) : Keeps u (s.guardOnTripWork e slot) := by
  unfold State.guardOnTripWork
  split
  · exact h.askTripWork _
  · split
    · exact Keeps.send h.still _ _
    · exact h.completeReset

theorem guardOnLevel (h : Keeps u s) (lr : LevelRecord) : Keeps u (s.guardOnLevel lr) := (h.holdOnNotice lr).guardEvaluate lr

theorem guardOnPipe (h : Keeps u s) (flag : Bool) : Keeps u (s.guardOnPipe flag) := by
  unfold State.guardOnPipe
  exact Keeps.guardEvaluate h.still _

theorem guardOnGuardSet (h : Keeps u s) (old : Option GuardSet) (g : GuardSet) : Keeps u (s.guardOnGuardSet old g) := by
  unfold State.guardOnGuardSet
  split
  · exact h
  · split
    · exact h.armHold _ _
    · exact h

end Keeps
end Sys2Proof.Laws
end

section
/-! PROOFS. The laws of the trip line and of the fill demand through the acts of the Frost Unit, Level Telemetry, the Table Store, the
field line, the trunk port and the banks: none of them touches what the laws read but the queue. -/

namespace Sys2Proof.Laws

open Sys2Proof.Machine

-- One declaration after another: elaborated at once, their proofs take a thread each.
set_option Elab.async false

namespace Keeps

variable {u s : State}

/-- One act over a list after another. -/
theorem eachOf {α : Type} (f : State → α → State) (hf : ∀ s x, Keeps u s → Keeps u (f s x)) (xs : List α) (h : Keeps u s) :
    Keeps u (xs.foldl f s) := by
  induction xs generalizing s with
  | nil => exact h
  | cons x xs ih => exact ih (hf _ _ h)

/-! ### The Frost Unit (R114 to R128) -/

theorem overZones (f : Nat → ZoneRecord → State → State) (hf : ∀ i r s, Keeps u s → Keeps u (f i r s)) (i : Nat) (rs : List ZoneRecord)
    (h : Keeps u s) : Keeps u (Machine.overZones f i rs s) := by
  induction rs generalizing i s with
  | nil => exact h
  | cons r rs ih => exact ih _ (hf _ _ _ h)

theorem judgeZone (h : Keeps u s) (i : Nat) (r : ZoneRecord) : Keeps u (s.judgeZone i r) := by
  unfold State.judgeZone
  split
  · exact h
  · extract_lets z' set probe
    have hset : Keeps u set := h.apart fun _ hp => updZone_read hp _ _ _
    have hprobe : Keeps u probe := by
      unfold probe
      split
      · exact hset.fault _ _
      · exact hset
    split
    · exact hprobe.fault _ _
    · exact hprobe

theorem judgeListed (h : Keeps u s) (ps : List Nat) : Keeps u (s.judgeListed ps) := by
  unfold State.judgeListed
  refine Keeps.overZones _ (fun i r t ht => ?_) _ _ h
  split
  · exact ht.judgeZone i r
  · exact ht

theorem frostSettle (h : Keeps u s) (before : State) (calls : Bool) : Keeps u (State.frostSettle before calls s) :=
  h.apart fun _ hp => frostSettle_read hp _ _ _

theorem frostOnPoints (h : Keeps u s) (ps : List Nat) : Keeps u (s.frostOnPoints ps) := by
  unfold State.frostOnPoints
  split
  · exact ((h.judgeListed ps).apart fun _ hp => learnListed_read hp _ _).frostSettle _ _
  · exact h

theorem deferralEnds (h : Keeps u s) (zone : Nat) : Keeps u (s.deferralEnds zone) :=
  (h.apart fun _ hp => updZone_read hp _ _ _).fault _ _

theorem swapZones (h : Keeps u s) (t : List ZoneRecord) : Keeps u (s.swapZones t) := by
  unfold State.swapZones
  extract_lets before zoned fresh set
  have hset : Keeps u set := Keeps.apart (s := zoned) h.still fun _ hp => updFrost_read hp _ _
  exact (Keeps.overZones _ (fun i r _ ht => ht.judgeZone i r) _ _ hset).frostSettle _ _

theorem setBudget (h : Keeps u s) (calls : Bool) : Keeps u (s.setBudget calls) := h.apart fun _ hp => setBudget_read hp _ _

theorem frostTakes (h : Keeps u s) (n : Notice) : Keeps u (s.frostTakes n) := by
  unfold State.frostTakes
  split
  · exact h.frostOnPoints _
  · exact h.apart fun _ hp => frostOnCommand_read hp _ _ _ _ _
  · exact h.apart fun _ hp => frostOnTariff_read hp _ _
  · exact h.apart fun _ hp => frostOnSupply_read hp _ _ _
  · exact h.apart fun _ hp => frostOnBank_read hp _ _ _
  · exact h

/-! ### Level Telemetry (R129 to R134) -/

theorem queueLevel (h : Keeps u s) : Keeps u s.queueLevel := Keeps.still (h.offer (c := .level s.levelReport) rfl)

theorem aimPeriod (h : Keeps u s) : Keeps u s.aimPeriod := by
  unfold State.aimPeriod
  extract_lets aim
  split
  · exact h.queueLevel
  · exact h.still

theorem periodChanged (h : Keeps u s) (before : State) : Keeps u (State.periodChanged before s) := by
  unfold State.periodChanged
  split
  · exact h.aimPeriod
  · exact h

theorem telemetryOnLevel (h : Keeps u s) (lr : LevelRecord) (q : Bool) : Keeps u (s.telemetryOnLevel lr q) := by
  unfold State.telemetryOnLevel
  extract_lets set
  have hset : Keeps u set := h.still
  split
  · exact hset.queueLevel
  · exact hset

theorem queueState (h : Keeps u s) : Keeps u s.queueState := h.offer rfl

theorem passContents (h : Keeps u s) (f : StateContents → StateContents) : Keeps u (s.passContents f) := by
  unfold State.passContents
  extract_lets before set queued
  have hset : Keeps u set := h.still
  have hqueued : Keeps u queued := by
    unfold queued
    split
    · exact hset.queueState
    · exact hset
  exact hqueued.periodChanged _

theorem telemetryOnSupply (h : Keeps u s) (mode : SupplyMode) : Keeps u (s.telemetryOnSupply mode) := by
  unfold State.telemetryOnSupply
  extract_lets before set queued
  have hset : Keeps u set := h.still
  have hqueued : Keeps u queued := by
    unfold queued
    split
    · exact hset
    · exact hset.queueState
  split
  · split
    · exact hqueued
    · exact hqueued.aimPeriod
  · exact hqueued.still

theorem telemetryOnFill (h : Keeps u s) (state : FillState) (purpose : Option Purpose) (order : FillOrder) (inhibit : List Reason)
    (demand : Nat) : Keeps u (s.telemetryOnFill state purpose order inhibit demand) := by
  unfold State.telemetryOnFill
  exact Keeps.passContents h.still _

theorem tripNumbered (h : Keeps u s) (slot : Nat) : Keeps u (s.tripNumbered slot) := by
  unfold State.tripNumbered
  split
  · exact h
  · exact Keeps.offer h.still rfl

theorem telemetryTakes (h : Keeps u s) (n : Notice) : Keeps u (s.telemetryTakes n) := by
  unfold State.telemetryTakes
  split
  · exact h.telemetryOnLevel _ _
  · exact h.telemetryOnSupply _
  · exact h.passContents _
  · exact h.passContents _
  · exact h.still
  · exact h.telemetryOnFill _ _ _ _ _
  · exact h.passContents _
  · exact h.passContents _
  · exact h.passContents _
  · exact h.passContents _
  · exact h.tripNumbered _
  · exact h

/-! ### The Table Store (R167 to R173) -/

theorem respondAll (h : Keeps u s) (rs : List Nat) (payload : List Byte) : Keeps u (s.respondAll rs payload) :=
  Keeps.eachOf _ (fun _ r ht => ht.respond r payload) rs h

theorem dropLoad (h : Keeps u s) (load : Nat) (header : Status) : Keeps u (s.dropLoad load header) := by
  unfold State.dropLoad
  extract_lets dropped set
  have hset : Keeps u set := h.apart fun _ hp => updEngine_read hp _ _
  exact Keeps.eachOf _ (fun t w ht => ht.respondAll _ _) dropped hset

theorem endOpenLoad (h : Keeps u s) : Keeps u s.endOpenLoad := by
  unfold State.endOpenLoad
  split
  · exact h.dropLoad _ _
  · exact h

theorem updEngine (h : Keeps u s) (f : EngineBlock → EngineBlock) : Keeps u (s.updEngine f) := h.apart fun _ hp => updEngine_read hp _ _

theorem addWork (h : Keeps u s) (w : TableWork) : Keeps u (s.addWork w) := h.updEngine _

theorem openTable (h : Keeps u s) (resv kind : Nat) : Keeps u (s.openTable resv kind) := by
  unfold State.openTable
  split
  · exact h.respond _ _
  · split
    · exact h.respond _ _
    · split
      · exact h.respond _ _
      · split
        · exact h.respond _ _
        · split
          · exact h.respond _ _
          · exact (h.updEngine _).addWork _

theorem writeTable (h : Keeps u s) (resv kind index : Nat) (record : List Byte) : Keeps u (s.writeTable resv kind index record) := by
  unfold State.writeTable
  split
  · exact h.respond _ _
  · split
    · exact h.respond _ _
    · split
      · exact h.respond _ _
      · split
        · exact (h.respond _ _).endOpenLoad
        · split
          · exact (h.updEngine _).addWork _
          · split
            · split
              · exact h.updEngine _
              · exact h.respond _ _
            · exact h.respond _ _

theorem closeLoad (h : Keeps u s) : Keeps u s.closeLoad := h.updEngine _

theorem closeTable (h : Keeps u s) (resv kind count : Nat) (check : Check) : Keeps u (s.closeTable resv kind count check) := by
  unfold State.closeTable
  split
  · exact h.respond _ _
  · split
    · exact h.closeLoad.respond _ _
    · split
      · exact (h.respond _ _).endOpenLoad
      · split
        · exact h.closeLoad.respond _ _
        · split
          · exact (h.closeLoad.respond _ _).fault _ _
          · split
            · exact h.closeLoad.respond _ _
            · split
              · exact h.closeLoad.respond _ _
              · exact h.closeLoad.addWork _

theorem abandonTable (h : Keeps u s) (resv kind : Nat) : Keeps u (s.abandonTable resv kind) := by
  unfold State.abandonTable
  split
  · exact h.respond _ _
  · split
    · exact h.respond _ _
    · exact (h.respond _ _).endOpenLoad

theorem eraseEnds (h : Keeps u s) (w : TableWork) (resv : Nat) (ended ok : Bool) : Keeps u (s.eraseEnds w resv ended ok) := by
  unfold State.eraseEnds
  extract_lets logged
  have hlogged : Keeps u logged := by
    unfold logged
    split
    · exact h
    · exact h.fault _ _
  split
  · exact hlogged.respond _ _
  · split
    · exact (hlogged.updEngine _).respond _ _
    · exact (hlogged.respond _ _).dropLoad _ _

theorem recordEnds (h : Keeps u s) (w : TableWork) (bytes : List Byte) (resvs : List Nat) (ended ok : Bool) :
    Keeps u (s.recordEnds w bytes resvs ended ok) := by
  unfold State.recordEnds
  extract_lets target logged
  have hlogged : Keeps u logged := by
    unfold logged
    split
    · exact h.apart fun _ hp => updCopy_read hp _ _ _ _
    · exact h.fault _ _
  split
  · exact hlogged.respondAll _ _
  · split
    · exact hlogged.respondAll _ _
    · exact (hlogged.respondAll _ _).dropLoad _ _

theorem tripProgramEnds (h : Keeps u s) (slot : Nat) (entry : TripEntry) (ok : Bool) : Keeps u (s.tripProgramEnds slot entry ok) := by
  unfold State.tripProgramEnds
  extract_lets number free
  have hfree : Keeps u free := h.updEngine _
  split
  · exact ((hfree.apart fun _ hp => updNv_read hp _ _).apart fun _ hp => preEraseAfter_read hp _ _).send _ _
  · exact ((hfree.apart fun _ hp => preEraseAfter_read hp _ _).fault _ _).send _ _

theorem preEraseEnds (h : Keeps u s) (sector : Nat) (ok : Bool) : Keeps u (s.preEraseEnds sector ok) := by
  unfold State.preEraseEnds
  extract_lets free
  have hfree : Keeps u free := h.updEngine _
  split
  · exact hfree.apart fun _ hp => updNv_read hp _ _
  · exact (hfree.fault _ _).apart fun _ hp => beginPreErase_read hp _ _

theorem storeTakes (h : Keeps u s) (n : Notice) : Keeps u (s.storeTakes n) := by
  unfold State.storeTakes State.storeOnSupply
  split
  · split
    · exact h
    · exact h.endOpenLoad
  · exact h

end Keeps
end Sys2Proof.Laws
end

section
/-! PROOFS. The laws of the trip line and of the fill demand through the acts of the field line and the trunk port. -/

namespace Sys2Proof.Laws

open Sys2Proof.Machine

-- One declaration after another: elaborated at once, their proofs take a thread each.
set_option Elab.async false

namespace Keeps

variable {u s : State}

/-! ### The pick and the cycle (R25, R26, R36, R44) -/

theorem updLine (h : Keeps u s) (f : LineBlock → LineBlock) : Keeps u (s.updLine f) := h.apart fun _ hp => updLine_read hp _ _

theorem startTransaction (h : Keeps u s) (work : LineWork) (address : Nat) (wake : Bool) (r : LineRequest) :
    Keeps u (s.startTransaction work address wake r) := h.apart fun _ hp => startTransaction_read hp _ _ _ _ _

theorem updHead (h : Keeps u s) (f : PassEntry → PassEntry) : Keeps u (s.updHead f) := h.updLine _

theorem leavePass (h : Keeps u s) (payload : List Byte) : Keeps u (s.leavePass payload) := by
  unfold State.leavePass
  split
  · exact h
  · exact (h.updLine _).respond _ _

theorem tryPass (h : Keeps u s) (left fuel : Nat) : Keeps u (s.tryPass left fuel).1 := by
  induction fuel generalizing s with
  | zero => exact h
  | succ fuel ih =>
    unfold State.tryPass
    split
    · exact h
    · split
      · split
        · exact ih (h.leavePass _)
        · split
          · exact h
          · extract_lets r cycle
            split
            · exact (h.startTransaction _ _ _ _).updHead _
            · exact h
      · split
        · exact ih (h.leavePass _)
        · split
          · exact h
          · split
            · exact h.startTransaction _ _ _ _
            · exact ih (h.leavePass _)
      · split
        · exact h
        · split
          · exact h.startTransaction _ _ _ _
          · exact ih (h.leavePass _)

theorem tryChannels (h : Keeps u s) (left : Nat) (cls : ChannelClass) (i : Nat) (cs : List ChannelRecord) :
    Keeps u (Machine.tryChannels left cls i cs s).1 := h.apart fun _ hp => tryChannels_read hp _ _ _ _ _

theorem tryCommands (h : Keeps u s) (left : Nat) (es : List CommandEntry) : Keeps u (Machine.tryCommands left es s).1 :=
  h.apart fun _ hp => tryCommands_read hp _ _ _

theorem pickWork (h : Keeps u s) (left : Nat) : Keeps u (s.pickWork left) := by
  unfold State.pickWork
  extract_lets a b c
  have ha : Keeps u a.1 := h.tryChannels _ _ _ _
  have hb : Keeps u b.1 := ha.tryCommands _ _
  have hc : Keeps u c.1 := hb.tryChannels _ _ _ _
  split
  · exact ha
  · split
    · exact hb
    · split
      · exact hc
      · exact hc.tryPass _ _

theorem linePick (h : Keeps u s) : Keeps u s.linePick := by
  unfold State.linePick
  split
  · exact h
  · split
    · exact h
    · split
      · exact (h.startTransaction _ _ _ _).updLine _
      · exact h.pickWork _

theorem updChannel (h : Keeps u s) (i : Nat) (f : ChannelLive → ChannelLive) : Keeps u (s.updChannel i f) :=
  h.apart fun _ hp => updChannel_read hp _ _ _

theorem slotRunsOut (h : Keeps u s) (x : RepeaterSlot) : Keeps u (s.slotRunsOut x) := by
  unfold State.slotRunsOut
  split
  · split
    · exact h.updChannel _ _
    · exact h
  · split
    · split
      · exact h.leavePass _
      · exact h
    · exact h
  · exact h

theorem startCycle (h : Keeps u s) : Keeps u s.startCycle := by
  unfold State.startCycle
  extract_lets cycle now rate lsb low cs old set
  exact Keeps.eachOf _ (fun t x ht => ht.slotRunsOut x) old (h.updLine _)

theorem cycleComesDue (h : Keeps u s) : Keeps u s.cycleComesDue := by
  unfold State.cycleComesDue
  split
  · exact h.updLine _
  · exact h.startCycle

theorem lineSettle (h : Keeps u s) : Keeps u s.lineSettle := by
  unfold State.lineSettle
  split
  · exact h
  · split
    · exact h.startCycle.linePick
    · exact h.linePick

/-! ### Outcomes (R24, R29 to R40, R42, R45) -/

theorem extract (h : Keeps u s) (address : Nat) (source : Source) (start : Nat) (items : List Nat) :
    Keeps u (s.extract address source start items) := h.apart fun _ hp => extract_read hp _ _ _ _ _

theorem takeSlot (h : Keeps u s) (x : SlotHolder) : Keeps u (s.takeSlot x) := h.updLine _

theorem channelFails (h : Keeps u s) (i : Nat) (c : ChannelRecord) (condition : ChannelCondition) :
    Keeps u (s.channelFails i c condition) := by
  unfold State.channelFails
  split
  · exact h.updChannel _ _
  · exact ((h.updChannel _ _).apart fun _ hp => haltPoints_read hp _ _).fault _ _

theorem channelAnswer (h : Keeps u s) (i : Nat) (c : ChannelRecord) (o : FieldOutcome) : Keeps u (s.channelAnswer i c o) := by
  unfold State.channelAnswer
  split
  · extract_lets taken
    have htaken : Keeps u taken := h.extract _ _ _ _
    split
    · exact htaken.updChannel _ _
    · exact htaken.channelFails _ _ _
  · exact h.updChannel _ _
  · exact h.updChannel _ _
  · exact (h.updChannel _ _).fault _ _
  all_goals exact h.channelFails _ _ _

theorem channelHandOff (h : Keeps u s) (i : Nat) (c : ChannelRecord) (o : FieldOutcome) : Keeps u (s.channelHandOff i c o) := by
  unfold State.channelHandOff
  split
  · exact (h.takeSlot _).updChannel _ _
  · exact h
  · exact h
  · exact h.channelAnswer _ _ _

theorem channelCollect (h : Keeps u s) (i : Nat) (c : ChannelRecord) (inner : Nat) (r : DeviceRequest) (o : FieldOutcome) :
    Keeps u (s.channelCollect i c inner r o) := by
  unfold State.channelCollect
  split
  · extract_lets released
    have hreleased : Keeps u released := by
      unfold released
      split
      · exact h.updLine _
      · exact h
    exact (hreleased.updChannel _ _).channelAnswer _ _ _
  · split
    · exact h.updChannel _ _
    · exact (h.updChannel _ _).channelFails _ _ _

theorem channelOutcome (h : Keeps u s) (i : Nat) (t : Transaction) (o : FieldOutcome) : Keeps u (s.channelOutcome i t o) := by
  unfold State.channelOutcome
  split
  · split
    · exact h.channelAnswer _ _ _
    · exact h.channelHandOff _ _ _
    · exact h.channelCollect _ _ _ _ _
  · exact h.apart fun _ hp => supersededOutcome_read hp _ _ _

theorem updCommand (h : Keeps u s) (address item : Nat) (f : CommandEntry → CommandEntry) : Keeps u (s.updCommand address item f) :=
  h.updLine _

theorem commandFails (h : Keeps u s) (e : CommandEntry) : Keeps u (s.commandFails e) := by
  unfold State.commandFails
  split
  · exact h.updCommand _ _ _
  · exact ((h.apart fun _ hp => removeCommand_read hp _ _ _).fault _ _).send _ _

theorem commandOutcome (h : Keeps u s) (address item : Nat) (t : Transaction) (o : FieldOutcome) :
    Keeps u (s.commandOutcome address item t o) := by
  unfold State.commandOutcome
  split
  · split
    · split
      · exact h.updCommand _ _ _
      · exact h.commandFails _
    · exact h.updCommand _ _ _
    · exact h.commandFails _
  · exact h

theorem deadlinePasses (h : Keeps u s) (address item : Nat) : Keeps u (s.deadlinePasses address item) := by
  unfold State.deadlinePasses
  split
  · exact h.commandFails _
  · exact h

theorem passEnds (h : Keeps u s) (device : Nat) (o : FieldOutcome) : Keeps u (s.passEnds device o) := by
  unfold State.passEnds
  extract_lets left
  have hleft : Keeps u left := h.leavePass _
  split
  · exact hleft.extract _ _ _ _
  · exact hleft

theorem passOutcome (h : Keeps u s) (t : Transaction) (o : FieldOutcome) : Keeps u (s.passOutcome t o) := by
  unfold State.passOutcome
  split
  · exact h
  · split
    · exact h.passEnds _ _
    · split
      · exact (h.takeSlot _).updHead _
      · exact h
      · exact h
      · exact h.leavePass _
    · split
      · refine Keeps.passEnds ?_ _ _
        split
        · exact h.updLine _
        · exact h
      · split
        · exact h.updHead _
        · exact h.leavePass _

theorem transactionEnds (h : Keeps u s) (t : Transaction) (o : FieldOutcome) : Keeps u (s.transactionEnds t o) := by
  unfold State.transactionEnds
  extract_lets ranOver ended logged
  have hended : Keeps u ended := h.updLine _
  have hlogged : Keeps u logged := by
    unfold logged
    split
    · exact hended.fault _ _
    · exact hended
  split
  · exact (hlogged.updLine _).send _ _
  · exact hlogged.channelOutcome _ _ _
  · exact hlogged.commandOutcome _ _ _ _
  · exact hlogged.passOutcome _ _

theorem lineTakes (h : Keeps u s) (n : Notice) : Keeps u (s.lineTakes n) := h.apart fun _ hp => lineTakes_read hp _ _

/-! ### Requests for the line (R33, R43) -/

theorem startChannel (h : Keeps u s) (resv index : Nat) : Keeps u (s.startChannel resv index) := by
  unfold State.startChannel
  split
  · exact h.respond _ _
  · exact (((h.apart fun _ hp => supersedeChannel_read hp _ _)).updChannel _ _).respond _ _

theorem stopChannel (h : Keeps u s) (resv index : Nat) : Keeps u (s.stopChannel resv index) := by
  unfold State.stopChannel
  split
  · exact h.respond _ _
  · exact (((h.apart fun _ hp => supersedeChannel_read hp _ _)).updChannel _ _).respond _ _

theorem passRequestTaken (h : Keeps u s) (resv : Nat) (function : Byte) (address inner : Nat) (wake : Bool) (item value : Nat) :
    Keeps u (s.passRequestTaken resv function address inner wake item value) := by
  unfold State.passRequestTaken
  split
  · exact h.respond _ _
  · extract_lets behind e joined
    have hjoined : Keeps u joined := h.updLine _
    split
    · exact hjoined.send _ _
    · exact hjoined

theorem swapChannels (h : Keeps u s) (t : List ChannelRecord) : Keeps u (s.swapChannels t) := by
  unfold State.swapChannels
  exact Keeps.still h

/-! ### The trunk port (R138, R139, R150 to R163) -/

theorem startTransmission (h : Keeps u s) : Keeps u s.startTransmission := by
  unfold State.startTransmission
  split
  · exact h
  · next hs =>
    have hnone : s.out.sending = none := by
      simp only [Bool.or_eq_true, not_or, Option.isSome_iff_ne_none, ne_eq, not_not] at hs
      exact hs.1
    split
    · exact h
    · next q rest ht => exact h.trans (.of_core rfl rfl rfl fun hd => hd.start hnone ht _)

theorem transmissionEnds (h : Keeps u s) (x : Sending) : Keeps u (s.transmissionEnds x) := by
  unfold State.transmissionEnds
  extract_lets last finished
  have hfinished : Keeps u finished := h.trans (.of_core rfl rfl rfl fun hd => hd.finish)
  split
  · exact hfinished.apart fun _ hp => restartComesDue_read hp _
  · exact hfinished

theorem trunkSettle (h : Keeps u s) : Keeps u s.trunkSettle := by
  unfold State.trunkSettle
  split
  · exact h
  · exact h.startTransmission

theorem settle (h : Keeps u s) : Keeps u s.settle := by
  unfold State.settle
  exact (h.lineSettle.apart fun _ hp => enginePick_read hp _).trunkSettle

theorem clearBank (h : Keeps u s) (resv bank : Nat) : Keeps u (s.clearBank resv bank) := by
  unfold State.clearBank
  split
  · exact h.respond _ _
  · exact Keeps.apart (Keeps.respond h.still _ _) fun _ hp => clearNotices_read hp _ _

theorem controlFrame (h : Keeps u s) : Keeps u s.controlFrame := h.apart fun _ hp => controlFrame_read hp _

theorem stationFrame (h : Keeps u s) : Keeps u s.stationFrame := h.apart fun _ hp => stationFrame_read hp _

theorem controlSilence (h : Keeps u s) : Keeps u s.controlSilence := by
  unfold State.controlSilence
  exact ((Keeps.fault h.still _ _).send _ _).send _ _

theorem stationSilence (h : Keeps u s) : Keeps u s.stationSilence := by
  unfold State.stationSilence
  exact (Keeps.fault h.still _ _).send _ _

theorem restartRequest (h : Keeps u s) (resv : Nat) : Keeps u (s.restartRequest resv) := by
  unfold State.restartRequest
  split
  · exact h.respond _ _
  · exact (h.respond _ _).still

theorem setClockRequest (h : Keeps u s) (resv day minute second : Nat) : Keeps u (s.setClockRequest resv day minute second) := by
  unfold State.setClockRequest
  split
  · exact h.respond _ _
  · exact (h.respond _ _).fillEvent _ fun t ht => (ht.putClock _).recomputeTariff.evaluatePlan false

theorem fillOrderRequest (h : Keeps u s) (resv order : Nat) : Keeps u (s.fillOrderRequest resv order) := by
  unfold State.fillOrderRequest
  split
  · exact (h.respond _ _).fillEvent _ fun t ht => ht.orderAuto
  · exact (h.respond _ _).fillEvent _ fun t ht => ht.orderHold
  · exact (h.respond _ _).fillEvent _ fun t ht => ht.orderForce
  · exact h.respond _ _

theorem takeRequest (h : Keeps u s) (code tag : Byte) (fits : Bool) (owner : Nat → State → State)
    (ho : ∀ resv s, Keeps u s → Keeps u (owner resv s)) : Keeps u (State.takeRequest code tag fits owner s) := by
  unfold State.takeRequest
  extract_lets heard resv reserved
  have hheard : Keeps u heard := h.controlFrame
  have hreserved : Keeps u reserved := hheard.reserve _ _
  split
  · split
    · exact ho _ _ hreserved
    · exact hreserved.respond _ _
  · exact hheard

end Keeps
end Sys2Proof.Laws
end

section
/-! PROOFS. The laws of the trip line and of the fill demand through the notices of an event, the swaps of tables and a start (R164, R170). -/

namespace Sys2Proof.Laws

open Sys2Proof.Machine

-- One declaration after another: elaborated at once, their proofs take a thread each.
set_option Elab.async false

namespace Keeps

variable {u s : State}

/-! ### Notices (R10, R65, R103, R179) -/

theorem levelTakes (h : Keeps u s) (n : Notice) : Keeps u (s.levelTakes n) := by
  unfold State.levelTakes
  split
  · exact h.levelOnPoints _ _
  · exact h.levelOnHousing
  · exact h

theorem guardTakes (h : Keeps u s) (n : Notice) : Keeps u (s.guardTakes n) := by
  unfold State.guardTakes
  split
  · exact h.guardOnPoints _
  · exact h.guardOnLevel _
  · exact h.guardOnPipe _
  · exact h.guardEvaluate _
  · exact h.guardOnUrgent _
  · exact h.guardOnTripWork _ _
  · exact h

theorem fillTakes (h : Keeps u s) (n : Notice) : Keeps u (s.fillTakes n) := by
  unfold State.fillTakes
  split
  · exact h.fillEvent _ fun t ht => ht.fillOnLevel _
  · exact h.fillEvent _ fun t ht => ht.changeInhibit _ _
  · exact h.fillEvent _ fun t ht => ht.fillOnCommand _ _
  · refine h.fillEvent _ fun t ht => ?_
    split
    · next hw => exact ht.windowDecision _ (by simp [hw.2]) (by simp [hw.2])
    · exact ht
  · exact h.fillEvent _ fun t ht => ht.orderLapses
  · refine h.fillEvent _ fun t ht => ?_
    split
    · exact ht.changeInhibit _ _
    · exact ht.changeInhibit _ _
  · exact h

theorem deliver (h : Keeps u s) (d : Delivery) : Keeps u (s.deliver d) := by
  unfold State.deliver
  split
  · exact h.levelTakes _
  · exact h.guardTakes _
  · exact h.fillTakes _
  · exact h.frostTakes _
  · exact h.lineTakes _
  · exact h.telemetryTakes _
  · exact h.storeTakes _

theorem drain (h : Keeps u s) (pick : Nat → Nat) (fuel : Nat) : Keeps u (State.drain pick fuel s) := by
  induction fuel generalizing s with
  | zero => exact h
  | succ fuel ih =>
    simp only [State.drain]
    split
    · exact h
    · refine ih ?_
      rcases deliverOne_cases pick s with e | ⟨d, others, draws, -, -, -, e⟩
      · rw [e]; exact h
      · rw [e]; exact Keeps.deliver (s := { s with notices := others, draws := draws }) h.still d

/-! ### Swaps (R170) -/

theorem swapGuardSet (h : Keeps u s) (g : GuardSet) : Keeps u (s.swapGuardSet g) := by
  unfold State.swapGuardSet
  extract_lets old set
  have hset : Keeps u set := h.still
  exact ((hset.levelOnGuardSet _ _).guardOnGuardSet _ _).fillEvent _ fun _ ht => ht

theorem swapSiteSet (h : Keeps u s) (x : SiteSet) : Keeps u (s.swapSiteSet x) := by
  unfold State.swapSiteSet
  extract_lets before held planned
  have hheld : Keeps u held :=
    Keeps.apart (s := s.updTables fun t => { t with siteSet := some x }) h.still fun _ hp => holdNotices_read hp _ _
  have hplanned : Keeps u planned :=
    Keeps.fillEvent (hheld.apart fun _ hp => trunkOnSite_read hp _) _ fun _ ht => ht.recomputeTariff
  exact (hplanned.setBudget false).periodChanged before

theorem swapPoints (h : Keeps u s) (t : List PointRecord) : Keeps u (s.swapPoints t) := by
  unfold State.swapPoints
  extract_lets old changed listed
  exact Keeps.apart (Keeps.still h) fun _ hp => pointNotice_read hp _ _ _

theorem swapTable (h : Keeps u s) (d : TableData) : Keeps u (s.swapTable d) := by
  cases d with
  | points t => exact h.swapPoints t
  | map t => exact h.still
  | channels t => exact h.swapChannels t
  | strapping t => exact h.swapStrapping t
  | guardSet t => exact h.swapGuardSet t
  | fillSet t => exact (h.fillEvent _ fun _ ht => ht.swapFillSet t).frostSettle _ _
  | tariff t => exact h.fillEvent _ fun _ ht => ht.swapTariff t
  | profile t => exact h.fillEvent _ fun _ ht => ht.swapProfile t
  | zones t => exact h.swapZones t
  | siteSet t => exact h.swapSiteSet t

theorem headerEnds (h : Keeps u s) (w : TableWork) (count : Nat) (check : Check) (d : TableData) (clamps resv : Nat) (ok : Bool) :
    Keeps u (s.headerEnds w count check d clamps resv ok) := by
  unfold State.headerEnds
  extract_lets generation
  split
  · split
    · exact h.respond _ _
    · exact ((h.apart fun _ hp => copyEnters_read hp _ _ _).swapTable d).respond _ _
  · exact (h.fault _ _).respond _ _

/-! ### A start (R85, R95, R107, R164, R174) -/

/-- The guard takes a state of its start, from one that is not ARMED. -/
theorem guardStarts (h : Keeps u s) (hs : s.guard.state ≠ .armed) (f : GuardBlock → GuardBlock)
    (hf : (f s.guard).tripLine = true ↔ (f s.guard).state = .tripped) : Keeps u (s.updGuard f) :=
  h.trans {
    line := fun _ _ => hf
    demand := fun hd hp _ => hd hp hs
    inhibit := id
    asked := id
    spends := fun _ => id
    capped := id }

theorem guardStart (h : Keeps u s) (hs : s.guard.state ≠ .armed) (newest : Option TripEntry) : Keeps u (s.guardStart newest) := by
  unfold State.guardStart
  extract_lets extra holdAt start tripped
  have hstart : ∀ state cause flag, Keeps u (start state cause flag) := fun state _ _ =>
    h.guardStarts hs _ beq_iff_eq
  have htripped : ∀ cause flag, Keeps u (tripped cause flag) := by
    intro cause flag
    unfold tripped
    extract_lets sent
    have hsent : Keeps u sent := (hstart _ _ _).send _ _
    split
    · exact hsent.placeUrgent.startWatch
    · exact hsent
  split
  · exact htripped _ _
  · split
    · exact htripped _ _
    · exact hstart _ _ _
    · exact hstart _ _ _

theorem guardStartUp (h : Keeps u s) (hs : s.guard.state ≠ .armed) : Keeps u s.guardStartUp := by
  unfold State.guardStartUp
  exact (h.guardStart hs _).floatInput _

/-- The fill takes the state of its start, nothing being demanded yet. -/
theorem fillStarts (h : Keeps u s) (hd : s.fill.demand = 0) (rs : List Reason) (aim : Option Nat) :
    Keeps u (s.updFill fun f => { f with state := if rs = [] then .idle else .held, inhibit := rs, planAt := aim }) := by
  have hstate : (if rs = [] then FillState.idle else .held) ≠ .opening ∧ (if rs = [] then FillState.idle else .held) ≠ .filling := by
    split <;> decide
  refine h.trans {
    line := id
    demand := id
    inhibit := fun _ _ hr => ⟨if_neg hr, hd⟩
    asked := id
    spends := fun _ hs hp => ?_
    capped := id }
  exact ⟨(hs hp).1, fun _ => hd, fun hn => ⟨((hs hp).2.2 hn).1, hstate⟩⟩

theorem fillStart (h : Keeps u s) (hd : s.fill.demand = 0) : Keeps u s.fillStart := by
  unfold State.fillStart
  extract_lets rs planAt set closing
  have hclosing : Keeps u closing := (h.fillStarts hd rs planAt).queueDemand.closeSequence
  split
  · exact hclosing.enterWindow.closeSequence
  · exact hclosing

theorem tariffStart (h : Keeps u s) : Keeps u s.tariffStart := by
  unfold State.tariffStart
  exact h.still

theorem telemetryStart (h : Keeps u s) : Keeps u s.telemetryStart := by
  unfold State.telemetryStart
  extract_lets contents set aim
  have hset : Keeps u set := h.still
  exact Keeps.queueState hset.still

end Keeps

/-- The laws of O53 and O54 hold of a state, whatever was before. -/
structure Obeys (t : State) : Prop where
  line : t.TripLineLaw
  demand : t.DemandLaw
  inhibit : t.InhibitLaw
  asked : DemandsAsked t
  spends : SpendsWithin t
  capped : CountCapped t

theorem Obeys.keeps {t : State} (h : Obeys t) (s : State) : Keeps s t where
  line _ := h.line
  demand _ := h.demand
  inhibit _ := h.inhibit
  asked _ := h.asked
  spends _ _ := h.spends
  capped _ := h.capped

theorem Obeys.after {s t : State} (h : Obeys s) (hk : Keeps s t) : Obeys t where
  line := hk.line h.line
  demand := hk.demand h.demand
  inhibit := hk.inhibit h.inhibit
  asked := hk.asked h.asked
  spends := hk.spends h.inhibit h.spends
  capped := hk.capped h.capped

/-- Without power the laws ask for nothing. -/
theorem Obeys.of_unpowered {t : State} (h : t.powered = false) : Obeys t := by
  constructor <;> exact fun hp => absurd (h.symm.trans hp) (by decide)

/-- What the laws read of the working memory that a reset leaves, before the tables are loaded. -/
structure Blank (s : State) : Prop where
  guard : s.guard = {}
  fill : ∃ clock, s.fill = { clock := clock }
  out : Demands 0 s.out

theorem Blank.obeys {s : State} (h : Blank s) : Obeys s := by
  obtain ⟨clock, hf⟩ := h.fill
  exact {
    line := fun _ => by rw [h.guard]; decide
    demand := fun _ _ => by rw [hf]
    inhibit := fun _ hr => absurd (by rw [hf]) hr
    asked := fun _ => by rw [hf]; exact h.out
    spends := fun _ => by rw [hf]; exact ⟨le_rfl, fun _ => rfl, fun _ => ⟨rfl, nofun, nofun⟩⟩
    capped := fun _ _ _ => by rw [hf]; exact ⟨Nat.zero_le _, Nat.zero_le _⟩ }

theorem imageFaults_asked {d : Nat} {s : State} (h : Demands d s.out) : Demands d s.imageFaults.out := by
  unfold State.imageFaults
  generalize TableKind.all = ks
  induction ks generalizing s with
  | nil => exact h
  | cons k ks ih =>
    have hlogged : Demands d (if (s.use.get k).inUse.isNone = true then s.fault .startImageBad (some (.kind k)) else s).out := by
      split
      · exact fault_asked h _ _
      · exact h
    exact ih hlogged

theorem Blank.startLoad {s : State} (h : Blank s) : Blank s.startLoad where
  guard := (startLoad_read (part := .guard) (by decide) s).trans h.guard
  fill := by rw [show s.startLoad.fill = s.fill from startLoad_read (part := .fill) (by decide) s]; exact h.fill
  out := imageFaults_asked (s := { s with tables := (startTables s.nv).1, use := (startTables s.nv).2 }) h.out

/-- The acts of a start over a blank working memory. -/
theorem Blank.startUp {s : State} (h : Blank s) : Obeys s.startUp := by
  unfold State.startUp
  extract_lets monitored loaded tariffed frosted levelled guarded filled
  have hblank : Blank monitored.startLoad := Blank.startLoad (s := monitored) ⟨h.guard, h.fill, h.out⟩
  have hloaded : Keeps monitored.startLoad loaded :=
    ((Keeps.refl _).apart fun _ hp => lineStart_read hp _).apart fun _ hp => trunkStart_read hp _
  have hlevelled : Keeps monitored.startLoad levelled :=
    (hloaded.tariffStart.apart fun _ hp => frostStart_read hp _ _).apart fun _ hp => updLevel_read hp _ _
  have hguard : levelled.guard = {} := by
    have hread : Part.guard.read levelled = Part.guard.read monitored.startLoad := by simp [levelled, frosted, tariffed, loaded]
    exact hread.trans hblank.guard
  have hdemand : guarded.fill.demand = 0 := by
    obtain ⟨clock, hf⟩ := hblank.fill
    have hread : Part.fill.read guarded = Part.fill.read tariffed := by simp [guarded, levelled, frosted]
    have hloadedFill : Part.fill.read loaded = Part.fill.read monitored.startLoad := by simp [loaded]
    calc guarded.fill.demand = tariffed.fill.demand := congrArg FillBlock.demand hread
      _ = loaded.fill.demand := rfl
      _ = monitored.startLoad.fill.demand := congrArg FillBlock.demand hloadedFill
      _ = 0 := by rw [hf]
  have hguarded : Keeps monitored.startLoad guarded := hlevelled.guardStartUp (by rw [hguard]; decide)
  have hfilled : Keeps monitored.startLoad filled :=
    ((hguarded.fillStart hdemand).apart fun _ hp => allocate_read hp _).telemetryStart
  exact hblank.obeys.after hfilled.still

end Sys2Proof.Laws
end

section
/-! PROOFS. The laws of the trip line and of the fill demand through every command and every step: O53 and O54. -/

namespace Sys2Proof.Laws

open Sys2Proof.Machine

-- One declaration after another: elaborated at once, their proofs take a thread each.
set_option Elab.async false

namespace Keeps

variable {u s : State}

/-! ### Events and requests -/

theorem advanceUs (h : Keeps u s) (us : Nat) : Keeps u (s.advanceUs us) := by
  unfold State.advanceUs
  split
  · exact h
  · exact h.still

theorem event (h : Keeps u s) (pick : Nat → Nat) (f : State → State) (hf : ∀ s, Keeps u s → Keeps u (f s)) :
    Keeps u (State.event pick f s) := by
  unfold State.event
  split
  · exact ((hf s h).drain _ _).settle
  · exact h

theorem eventIf (h : Keeps u s) (pick : Nat → Nat) (happens : Bool) (f : State → State) (hf : ∀ s, Keeps u s → Keeps u (f s)) :
    Keeps u (State.eventIf pick happens f s) := by
  unfold State.eventIf
  split
  · exact h.event pick f hf
  · exact h

theorem expiry (h : Keeps u s) (pick : Nat → Nat) (aim : Option Nat) (due : Nat) (f : State → State)
    (hf : ∀ s, Keeps u s → Keeps u (f s)) : Keeps u (State.expiry pick aim due f s) :=
  h.eventIf pick _ _ fun _ ht => hf _ (ht.advanceUs _)

theorem request (h : Keeps u s) (pick : Nat → Nat) (code tag : Byte) (fits : Bool) (owner : Nat → State → State)
    (ho : ∀ resv s, Keeps u s → Keeps u (owner resv s)) : Keeps u (State.request pick code tag fits owner s) :=
  h.event pick _ fun _ ht => ht.takeRequest code tag fits owner ho

theorem answer (h : Keeps u s) (payload : State → List Byte) (resv : Nat) : Keeps u (answerWith payload resv s) := h.respond _ _

theorem updInputs (h : Keeps u s) (f : Inputs → Inputs) : Keeps u (s.updInputs f) := h.apart fun _ hp => updInputs_read hp _ _

/-- An input of the part changes: with power an event, without power the level of the pin alone. -/
theorem inputChange (h : Keeps u s) {same : Prop} [Decidable same] (f : State → State) (hf : ∀ s, Keeps u s → Keeps u (f s))
    (g : Inputs → Inputs) : Keeps u (if same then s else if s.powered then State.event Config.pick f s else s.updInputs g) := by
  split
  · exact h
  · split
    · exact h.event _ f hf
    · exact h.updInputs g

/-- A reply to the transaction in flight, or the end of its window. -/
theorem reply (h : Keeps u s) (f : Transaction → State → State) (hf : ∀ x, Keeps u (f x s)) :
    Keeps u (match s.line.inFlight with | some x => f x s | none => s) := by
  split
  · exact hf _
  · exact h

theorem jobEnds (h : Keeps u s) (done : Nat) (f : State → State) (hf : ∀ s, Keeps u s → Keeps u (f s)) :
    Keeps u (State.event Config.pick (State.jobEnds done f) s) :=
  h.event _ _ fun _ ht => hf _ ((ht.advanceUs _).updEngine _)

/-- A start follows a reset, whatever was before (R164). -/
theorem powerOn (u s : State) : Keeps u s.powerOn := (Blank.startUp (s := s.wiped true) ⟨rfl, ⟨_, rfl⟩, .empty 0⟩).keeps u

theorem restarted (u s : State) : Keeps u s.restarted := by
  unfold State.restarted
  exact (Blank.startUp ⟨rfl, ⟨_, rfl⟩, .empty 0⟩).keeps u

theorem powerLost (u s : State) : Keeps u s.powerLost := (Obeys.of_unpowered rfl).keeps u

/-- A partner's frame that no owner takes (R154). -/
theorem undispatched (h : Keeps u s) (p : Partner) : Keeps u ((s.partnerFrame p).fault .unknownKind none) := by
  refine Keeps.fault ?_ _ _
  cases p with
  | control => exact h.controlFrame
  | station => exact h.stationFrame

/-! ### Commands -/

/-- The end of the engine's table work, told apart by the job. -/
theorem tableEnds (h : Keeps u s) (f : TableWork → Bool → Nat → State) (hf : ∀ w ended done, Keeps u (f w ended done)) :
    Keeps u (match s.engine.busy with
      | some ⟨.table w ended, done⟩ => f w ended done
      | some ⟨.trip _ _, _⟩ => s
      | some ⟨.preErase _, _⟩ => s
      | none => s) := by
  split
  · exact hf _ _ _
  all_goals exact h

theorem exec (c : Instr) {t : State} (hc : Machine.exec c s = .next t) (h : Keeps u s) : Keeps u t := by
  cases c with
  | powerOnReset => cases hc; exact (powerOn u s).settle
  | restart tag payload => cases hc; exact h.request _ _ _ _ _ fun resv _ ht => ht.restartRequest resv
  | restartLimitExpiry due => cases hc; exact h.expiry _ _ _ _ fun _ ht => ht.apart fun _ hp => restartComesDue_read hp _
  | restartPerform =>
    cases hc
    split
    · exact (restarted u s).settle
    · exact h
  | mainsInputChange active => cases hc; exact h.inputChange _ (fun _ ht => ht.apart fun _ hp => mainsInput_read hp _ _) _
  | mainsLossCountExpiry due => cases hc; exact h.expiry _ _ _ _ fun _ ht => ht.apart fun _ hp => mainsLost_read hp _
  | mainsReturnCountExpiry due => cases hc; exact h.expiry _ _ _ _ fun _ ht => ht.apart fun _ hp => mainsReturned_read hp _
  | batteryLowInputChange active => cases hc; exact h.inputChange _ (fun _ ht => ht.apart fun _ hp => batteryInput_read hp _ _) _
  | batteryLowCountExpiry due => cases hc; exact h.expiry _ _ _ _ fun _ ht => ht.apart fun _ hp => batteryDebounced_read hp _
  | floatInputChange active => cases hc; exact h.inputChange _ (fun _ ht => (ht.updInputs _).floatInput active) _
  | floatDebounceExpiry due => cases hc; exact h.expiry _ _ _ _ fun _ ht => ht.floatDebounced
  | protectInputChange active => cases hc; exact h.inputChange _ (fun _ ht => ht.apart fun _ hp => protectChange_read hp _ _) _
  | clearToSendChange asserted => cases hc; exact h.inputChange _ (fun _ ht => ht.updInputs _) _
  | transmissionEnd =>
    cases hc
    split
    · exact h.event _ _ fun _ ht => ht.transmissionEnds _
    · exact h
  | lineCycleStart => cases hc; exact h.eventIf _ _ _ fun _ ht => (ht.advanceUs _).cycleComesDue
  | fieldReplyReceived frame elapsed =>
    cases hc
    exact h.reply _ fun x => h.eventIf _ _ _ fun _ ht => (ht.advanceUs _).transactionEnds x _
  | fieldReplyQuietEnd frame elapsed =>
    cases hc
    exact h.reply _ fun x => h.eventIf _ _ _ fun _ ht => (ht.advanceUs _).transactionEnds x _
  | fieldReplyWindowExpiry => cases hc; exact h.reply _ fun x => h.event _ _ fun _ ht => (ht.advanceUs _).transactionEnds x _
  | pointStaleExpiry point due => cases hc; exact h.expiry _ _ _ _ fun _ ht => ht.apart fun _ hp => pointStale_read hp _ _
  | commandConfirmDeadlineExpiry address item due => cases hc; exact h.expiry _ _ _ _ fun _ ht => ht.deadlinePasses _ _
  | levelHoldExpiry due => cases hc; exact h.expiry _ _ _ _ fun _ ht => ht.levelHoldEnds
  | valveConfirmDeadlineExpiry due => cases hc; exact h.expiry _ _ _ _ fun _ ht => ht.valveDeadline
  | valveCloseRepeatExpiry due => cases hc; exact h.expiry _ _ _ _ fun _ ht => ht.valveRepeat
  | valveCloseRetryExpiry due => cases hc; exact h.expiry _ _ _ _ fun _ ht => ht.valveRetry
  | guardReset tag payload => cases hc; exact h.request _ _ _ _ _ fun resv _ ht => ht.guardResetRequest resv tag
  | clockMinute due => cases hc; exact h.expiry _ _ _ _ fun _ ht => ht.fillEvent _ fun _ ht => ht.newMinute
  | setClock tag payload => cases hc; exact h.request _ _ _ _ _ fun resv _ ht => ht.setClockRequest resv _ _ _
  | planIntervalExpiry due => cases hc; exact h.expiry _ _ _ _ fun _ ht => ht.fillEvent _ fun _ ht => ht.evaluatePlan false
  | forceExpiry due => cases hc; exact h.expiry _ _ _ _ fun _ ht => ht.fillEvent _ fun _ ht => ht.replaceOrder .auto
  | stopWaitExpiry due => cases hc; exact h.expiry _ _ _ _ fun _ ht => ht.fillEvent _ fun _ ht => ht
  | demandRenewalExpiry due => cases hc; exact h.expiry _ _ _ _ fun _ ht => ht.fillEvent _ fun _ ht => ht.queueDemand
  | riseCheckExpiry due =>
    cases hc
    split
    · exact h.expiry _ _ _ _ fun _ ht => ht.fillEvent _ fun _ ht => ht.judgeRise _
    · exact h
  | fillOrder tag payload => cases hc; exact h.request _ _ _ _ _ fun resv _ ht => ht.fillOrderRequest resv _
  | stationStatus echoed mode available running flow =>
    cases hc; exact h.event _ _ fun _ ht => ht.stationFrame.fillEvent _ fun _ ht => ht.takeStatus _
  | deferralExpiry zone due => cases hc; exact h.expiry _ _ _ _ fun _ ht => ht.deferralEnds zone
  | levelPeriodExpiry due => cases hc; exact h.expiry _ _ _ _ fun _ ht => ht.queueLevel
  | trunkBadFrame frame => cases hc; exact h.eventIf _ _ _ fun _ ht => ht.fault _ _
  | trunkByteTimeout frame => cases hc; exact h.eventIf _ _ _ fun _ ht => ht.fault _ _
  | trunkFrameIgnored frame => cases hc; exact h
  | trunkFrameUnknownKind frame =>
    cases hc
    split
    · split
      · exact h.eventIf _ _ _ fun _ ht => ht.undispatched _
      · exact h
    · exact h
    · exact h
  | requestNoPlace code tag payload => cases hc; exact h.eventIf _ _ _ fun _ ht => ht.controlFrame
  | requestUnknownCode code tag payload =>
    cases hc
    exact h.eventIf _ _ _ fun _ ht => ht.takeRequest _ _ _ _ fun _ _ ht => (ht.respond _ _).fault _ _
  | controlSilenceExpiry due => cases hc; exact h.expiry _ _ _ _ fun _ ht => ht.controlSilence
  | stationSilenceExpiry due => cases hc; exact h.expiry _ _ _ _ fun _ ht => ht.stationSilence
  | readPoints tag payload => cases hc; exact h.request _ _ _ _ _ fun resv _ ht => ht.answer _ resv
  | readState tag payload => cases hc; exact h.request _ _ _ _ _ fun resv _ ht => ht.answer _ resv
  | readChannels tag payload => cases hc; exact h.request _ _ _ _ _ fun resv _ ht => ht.answer _ resv
  | readZones tag payload => cases hc; exact h.request _ _ _ _ _ fun resv _ ht => ht.answer _ resv
  | readBank tag payload => cases hc; exact h.request _ _ _ _ _ fun resv _ ht => ht.answer _ resv
  | clearBank tag payload => cases hc; exact h.request _ _ _ _ _ fun resv _ ht => ht.clearBank resv _
  | readTrips tag payload => cases hc; exact h.request _ _ _ _ _ fun resv _ ht => ht.answer _ resv
  | tableRead tag payload => cases hc; exact h.request _ _ _ _ _ fun resv _ ht => ht.answer _ resv
  | tableOpen tag payload => cases hc; exact h.request _ _ _ _ _ fun resv _ ht => ht.openTable resv _
  | tableWrite tag payload => cases hc; exact h.request _ _ _ _ _ fun resv _ ht => ht.writeTable resv _ _ _
  | tableClose tag payload => cases hc; exact h.request _ _ _ _ _ fun resv _ ht => ht.closeTable resv _ _ _
  | tableAbandon tag payload => cases hc; exact h.request _ _ _ _ _ fun resv _ ht => ht.abandonTable resv _
  | channelStart tag payload => cases hc; exact h.request _ _ _ _ _ fun resv _ ht => ht.startChannel resv _
  | channelStop tag payload => cases hc; exact h.request _ _ _ _ _ fun resv _ ht => ht.stopChannel resv _
  | fieldPass tag payload => cases hc; exact h.request _ _ _ _ _ fun resv _ ht => ht.passRequestTaken resv _ _ _ _ _ _
  | tableEraseComplete ok =>
    cases hc
    refine h.tableEnds _ fun w ended done => ?_
    split
    · exact h.jobEnds _ _ fun _ ht => ht.eraseEnds _ _ _ ok
    all_goals exact h
  | tableRecordProgrammed ok =>
    cases hc
    refine h.tableEnds _ fun w ended done => ?_
    split
    · exact h.jobEnds _ _ fun _ ht => ht.recordEnds _ _ _ _ ok
    all_goals exact h
  | tableHeaderProgrammed ok =>
    cases hc
    refine h.tableEnds _ fun w ended done => ?_
    split
    · exact h.jobEnds _ _ fun _ ht => ht.headerEnds _ _ _ _ _ _ ok
    all_goals exact h
  | tripWorkProgrammed ok =>
    cases hc
    split
    · exact h.jobEnds _ _ fun _ ht => ht.tripProgramEnds _ _ ok
    all_goals exact h
  | tripPreEraseComplete ok =>
    cases hc
    split
    · exact h.jobEnds _ _ fun _ ht => ht.preEraseEnds _ ok
    all_goals exact h
  | powerLoss => cases hc; exact powerLost u s

theorem step {t : State} (h : Machine.step s = .next t) : Keeps s t := by
  have hpending : ∀ cs, Keeps s { s with pending := cs } := fun _ => (Keeps.refl s).still
  unfold Machine.step at h
  split at h
  · cases h
    unfold State.idle
    split
    · exact Keeps.still ((Keeps.refl s).advanceUs _)
    · exact Keeps.refl s
  · exact exec _ h (hpending _)

end Keeps

/-! ### O53 and O54 -/

theorem contactOpen_iff {t : State} (h : t.TripLineLaw) : t.contactOpen = true ↔ t.powered = false ∨ t.guard.state = .tripped := by
  unfold State.contactOpen
  cases hp : t.powered with
  | false => simp
  | true => simpa using h hp

/-- Settles O53: every act keeps the laws of the trip line and of the demand (`Keeps.step`), and the contact follows the line. -/
theorem tripLineFollowsTheGuard : Obligations.TripLineFollowsTheGuard := by
  intro s t hline hstep
  have hline' : t.TripLineLaw := (Keeps.step hstep).line hline
  exact ⟨hline', contactOpen_iff hline'⟩

theorem of_pumpsOf {c : Content} {n : Nat} (h : pumpsOf c = some n) : ∃ tag, c = .demand n tag := by
  cases c with
  | demand m tag => exact ⟨tag, by rw [Option.some.inj h]⟩
  | _ => cases h

theorem of_mem_demandsIn {n : Nat} {ps : List Place} (h : n ∈ demandsIn ps) : ∃ tag, .frame (.demand n tag) ∈ ps := by
  obtain ⟨p, hp, hn⟩ := List.mem_filterMap.mp h
  cases p with
  | frame c =>
    obtain ⟨tag, rfl⟩ := of_pumpsOf hn
    exact ⟨tag, hp⟩
  | response => cases hn
  | reservation => cases hn

/-- How many DEMAND frames the queue holds (R135): the one in transmission and those that wait. -/
theorem count_demand (o : Outbound) : o.count (.demand 0 0) = (if demandSends o then 1 else 0) + (demandsIn o.waiting).length := by
  have hlength : (demandsIn o.waiting).length = o.waiting.countP (Place.holds (.demand 0 0)) := by
    rw [demandsIn, List.length_filterMap_eq_countP]
    simp only [pumpsAt_isSome]
  rw [hlength, Outbound.count, Outbound.places, List.countP_append]
  congr 1
  unfold demandSends Outbound.sends
  cases o.sending with
  | none => rfl
  | some x => exact List.countP_singleton

/-- In a queue within its caps the law of the DEMAND frames says of each what `Demands` says of them all. -/
theorem demandsAsked_of_laws {s : State} (hq : s.QueueLaw) (hd : s.DemandFrameLaw) : DemandsAsked s := by
  intro hp
  obtain ⟨hcount, -, hheld⟩ := hq
  obtain ⟨hwaits, haside⟩ := hd hp
  have hone := count_demand s.out ▸ hcount (.demand 0 0)
  refine ⟨?_, fun hs => ?_, fun x n hx hn => ?_⟩
  · match hw : demandsIn s.out.waiting with
    | [] => exact .inl rfl
    | n :: rest =>
      obtain ⟨tag, hmem⟩ := of_mem_demandsIn (n := n) (ps := s.out.waiting) (hw ▸ List.mem_cons_self)
      have hrest : rest.length = 0 := by
        rw [hw, List.length_cons] at hone
        omega
      rw [List.length_eq_zero_iff.mp hrest, hwaits n tag hmem]
      exact .inr rfl
  · rw [hs, if_pos rfl] at hone
    exact List.length_eq_zero_iff.mp (by omega)
  · obtain ⟨tag, hc⟩ := of_pumpsOf hn
    have hsends := hheld x hx
    rw [hc, sends_demand] at hsends
    exact ⟨hsends, haside x n tag hx hc⟩

theorem DemandsAsked.demandFrameLaw {s : State} (h : DemandsAsked s) : s.DemandFrameLaw := by
  intro hp
  obtain ⟨hwaits, -, hheld⟩ := h hp
  refine ⟨fun n tag hmem => ?_, fun x n tag hx hc => (hheld x n hx (by rw [hc]; rfl)).2⟩
  have hn := mem_demandsIn hmem
  rcases hwaits with hw | hw
  · rw [hw] at hn; cases hn
  · rw [hw] at hn; exact List.mem_singleton.mp hn

/-- Settles O54: one relation that every act keeps (`Keeps.step`) gives the five laws, and the two readings of a state follow from them. -/
theorem noDemandAgainstTheGuard : Obligations.NoDemandAgainstTheGuard := by
  refine ⟨fun s t hs h => (Keeps.step h).demand hs, fun s t hs h => (Keeps.step h).inhibit hs, fun s t hq hf h => ?_,
    fun s hp hg hd hf => ?_, fun s t hi hc h => ?_, fun s f hp hc hf => ?_⟩
  · exact ((Keeps.step h).asked (demandsAsked_of_laws hq hf)).demandFrameLaw
  · have hzero : s.fill.demand = 0 := hd hp hg
    obtain ⟨hwaits, haside⟩ := hf hp
    exact ⟨fun n tag hn => (hwaits n tag hn).trans hzero, fun x n tag hx hn => (haside x n tag hx hn).trans hzero⟩
  · obtain ⟨hspends, hcapped⟩ := (capLaw_iff s).mp hc
    exact (capLaw_iff t).mpr ⟨(Keeps.step h).spends hi hspends, (Keeps.step h).capped hcapped⟩
  · obtain ⟨hspends, hcapped⟩ := (capLaw_iff s).mp hc
    obtain ⟨hk, -⟩ := hspends hp
    obtain ⟨havail, hmax⟩ := hcapped hp f hf
    exact ⟨hk.trans hmax, hk.trans havail⟩

end Sys2Proof.Laws
end

section
/-! PROOFS. The machine right after a reset: its own power-on reset, and every law of Safety.lean holds of it (R164): O52. -/

namespace Sys2Proof.Laws

open Sys2Proof.Machine

-- One declaration after another: elaborated at once, their proofs take a thread each.
set_option Elab.async false

/-- The power-on reset of the reset state, computed (R164). -/
theorem reset_powerOn : State.reset.powerOn.settle = State.reset := rfl

/-- After a power-on reset the laws of O53 and O54 hold, whatever was before. -/
theorem powerOn_obeys (s : State) : Obeys s.powerOn.settle :=
  (Blank.startUp (s := s.wiped true) ⟨rfl, ⟨_, rfl⟩, .empty 0⟩).after (Keeps.refl _).settle

theorem reset_obeys : Obeys State.reset := by
  have h := powerOn_obeys State.reset
  rwa [reset_powerOn] at h

/-- The queue of the start holds a FAULT frame of the STORE bank, the DEMAND frame and the STATE report: one of each kind. -/
theorem reset_queueLaw : State.reset.QueueLaw := by
  have hheld : State.reset.out.held = none := rfl
  refine ⟨fun c => ?_, by decide, fun h hh => absurd (hheld.symm.trans hh) (by simp)⟩
  cases c with
  | fault b r => cases b <;> simp [Outbound.count, Outbound.places, State.reset, Place.holds, Content.sameKind]
  | _ => simp [Outbound.count, Outbound.places, State.reset, Place.holds, Content.sameKind, List.countP_cons]

theorem reset_bankLaw : State.reset.BankLaw := by
  intro b r hr hu
  cases b with
  | store => cases hr; rfl
  | _ => cases hr

theorem reset_clockLaw : State.reset.ClockLaw := by
  have hclock : State.reset.fill.clock = none := rfl
  exact fun c hc => absurd (hclock.symm.trans hc) (by simp)

/-- Settles O52: the start computed, the laws of the guard and the demand from the start itself (`Blank.startUp`), and the rest read off
the reset state. -/
theorem resetObeysTheLaws : Obligations.ResetObeysTheLaws := by
  refine ⟨congrArg Host.Outcome.next reset_powerOn, reset_obeys.line, reset_obeys.demand, reset_obeys.inhibit, ?_, ?_, ?_, reset_queueLaw,
    reset_clockLaw, reset_bankLaw, ?_, ?_, reset_obeys.asked.demandFrameLaw, (capLaw_iff _).mpr ⟨reset_obeys.spends, reset_obeys.capped⟩⟩
  · exact ⟨by decide, .nil⟩
  · exact ⟨by decide, .nil⟩
  · exact ⟨by decide, by decide⟩
  · exact ⟨rfl, rfl, rfl⟩
  · exact le_rfl

end Sys2Proof.Laws
end

section
/-! SUPPORT. What the blocks exchange after a trip and after a reset of the guard (R75, R79, R84, R104): notices to the Fill Planner, to the
guard's evaluation and to Level Telemetry alone. The Fill Planner's acts on them leave the guard, and every bank but its own. -/

namespace Sys2Proof.Laws

open Sys2Proof.Machine

-- One declaration after another: elaborated at once, their proofs take a thread each.
set_option Elab.async false

/-- A notice of that exchange: a change of the inhibit set or the outcome of a command for the Fill Planner, an evaluation of the guard, or
an item for Level Telemetry. -/
def Handed (d : Delivery) : Prop :=
  match d.dest, d.notice with
  | .fill, .inhibit _ _ => True
  | .fill, .command _ _ _ _ => True
  | .guard, .evaluate => True
  | .telemetry, n => Notice.reports n = false
  | _, _ => False

/-- Only such notices wait. -/
def AllHanded (s : State) : Prop := ∀ d ∈ s.notices, Handed d

/-- None of them reports anything. -/
theorem Handed.quiet {d : Delivery} (h : Handed d) : Notice.reports d.notice = false := by
  obtain ⟨dest, n⟩ := d
  cases dest with
  | telemetry => exact h
  | fill =>
    cases n with
    | inhibit | command => rfl
    | _ => exact False.elim h
  | guard =>
    cases n with
    | evaluate => rfl
    | _ => exact False.elim h
  | _ => exact False.elim h

theorem allHanded_empty {s : State} (h : s.notices = []) : AllHanded s := fun d hd => by rw [h] at hd; cases hd

theorem AllHanded.send {s : State} (h : AllHanded s) {b : BlockName} {n : Notice} (hn : Handed ⟨b, n⟩) : AllHanded (s.send b n) := by
  intro d hd
  rcases List.mem_append.mp hd with hd | hd
  · exact h d hd
  · rw [List.mem_singleton.mp hd]; exact hn

theorem AllHanded.congr {s t : State} (h : AllHanded s) (hn : t.notices = s.notices) : AllHanded t := fun d hd => h d (hn ▸ hd)

theorem AllHanded.holdNotices {before s : State} (h : AllHanded s) (hf : before.holds .frost = s.holds .frost) :
    AllHanded (State.holdNotices before s) := by
  unfold State.holdNotices
  extract_lets held
  have hheld : AllHanded held ∧ held.holds .frost = s.holds .frost := by
    unfold held
    split
    · exact ⟨h.send trivial, rfl⟩
    · split
      · exact ⟨h.send trivial, rfl⟩
      · exact ⟨h, rfl⟩
  rw [if_neg (by rw [hheld.2, hf]; simp)]
  exact hheld.1

/-- A fault of another bank than FROST may begin or end a hold of the fill (R147). -/
theorem AllHanded.fault {s : State} (h : AllHanded s) {code : FaultCode} (hc : code.bank ≠ .frost) (subject : Option Subject) :
    AllHanded (s.fault code subject) := by
  have hfrost : ∀ r, s.holds .frost = (s.updBanks fun b => b.set code.bank (some r)).holds .frost := fun r =>
    (holds_congr (s := s) (t := s.updBanks fun b => b.set code.bank (some r)) rfl
      ((PerBank.get_set _ _ _ _).trans (if_neg (Ne.symm hc)))).symm
  unfold State.fault
  extract_lets settings after logged reported
  have hlogged : AllHanded logged := h
  split
  · exact h
  · have hreported : AllHanded reported ∧ reported.holds .frost = logged.holds .frost := by
      unfold reported
      split
      · exact ⟨hlogged, rfl⟩
      · exact ⟨hlogged, rfl⟩
    exact hreported.1.holdNotices ((hfrost _).trans hreported.2.symm)

/-- From `u` to `s` the guard and every bank but the FILL bank stay, and only such notices wait. -/
structure Aside (u s : State) : Prop where
  guard : s.guard = u.guard
  banks : ∀ b, b ≠ .fill → s.banks.get b = u.banks.get b
  tables : s.tables = u.tables
  notices : AllHanded s

namespace Aside

variable {u s : State}

theorem refl (h : AllHanded s) : Aside s s := ⟨rfl, fun _ _ => rfl, rfl, h⟩

theorem apart (h : Aside u s) {t : State} {touched : List Part} (ht : ∀ p, p ∉ touched → p.read t = p.read s)
    (hd : ∀ p ∈ [Part.guard, .banks, .tables, .notices], p ∉ touched := by decide) : Aside u t := by
  have hg : t.guard = s.guard := ht .guard (hd _ (by decide))
  have hb : t.banks = s.banks := ht .banks (hd _ (by decide))
  have hta : t.tables = s.tables := ht .tables (hd _ (by decide))
  have hn : t.notices = s.notices := ht .notices (hd _ (by decide))
  exact ⟨hg.trans h.guard, fun b hne => hb ▸ h.banks b hne, hta.trans h.tables, fun d hm => h.notices d (hn ▸ hm)⟩

theorem updFill (h : Aside u s) (f : FillBlock → FillBlock) : Aside u (s.updFill f) := ⟨h.guard, h.banks, h.tables, h.notices⟩

theorem send (h : Aside u s) {b : BlockName} {n : Notice} (hn : Handed ⟨b, n⟩) : Aside u (s.send b n) :=
  ⟨h.guard, h.banks, h.tables, h.notices.send hn⟩

/-- SHORTFALL, of the FILL bank (R94). -/
theorem shortfall (h : Aside u s) : Aside u (s.fault .shortfall none) where
  guard := (fault_read (part := .guard) (by decide) _ _ _ : (s.fault .shortfall none).guard = s.guard).trans h.guard
  banks b hb := by
    rw [fault_banks, banksAfter_get_ne hb]
    exact h.banks b hb
  tables := (fault_read (part := .tables) (by decide) _ _ _ : (s.fault .shortfall none).tables = s.tables).trans h.tables
  notices := h.notices.fault (by decide) none

/-! ### The demand, the inlet valve and the plan (R94 to R101) -/

theorem setDemand (h : Aside u s) (d : Nat) : Aside u (s.setDemand d) := by
  unfold State.setDemand
  split
  · exact h
  · exact ((h.updFill _).apart fun _ hp => queueDemand_read hp _).send trivial

theorem fillingDemand (h : Aside u s) : Aside u s.fillingDemand := h.setDemand _

theorem placeOpen (h : Aside u s) : Aside u s.placeOpen := by
  unfold State.placeOpen
  split
  · exact h.updFill _
  · exact (h.apart fun _ hp => placeCommand_read hp _ _ _ _ _ _).updFill _

theorem enterOpening (h : Aside u s) (p : Purpose) : Aside u (s.enterOpening p) := ((h.updFill _).updFill _).placeOpen

theorem windowDecision (h : Aside u s) (turned : Bool) : Aside u (s.windowDecision turned) := by
  unfold State.windowDecision
  extract_lets n
  split
  · exact h.updFill _
  · split
    · exact h.updFill _
    · split
      · exact h.updFill _
      · split
        · exact h
        · exact h.enterOpening _

theorem topUp (h : Aside u s) (fs : FillSet) : Aside u (s.topUp fs) := by
  unfold State.topUp
  split
  · exact Aside.enterOpening (h.updFill _) _
  · exact h

theorem actOnPlan (h : Aside u s) (fs : FillSet) (forced : Bool) : Aside u (s.actOnPlan fs forced) := by
  unfold State.actOnPlan
  split
  · split
    · exact h.windowDecision _
    · exact h.topUp _
  · split
    · exact h.windowDecision _
    · exact h
  · split
    · exact h.placeOpen
    · exact h
  · exact h.fillingDemand
  all_goals exact h

theorem evaluatePlan (h : Aside u s) (forced : Bool) : Aside u (s.evaluatePlan forced) := by
  cases hf : s.tables.fillSet with
  | none =>
    simp only [State.evaluatePlan, hf]
    exact h.updFill _
  | some fs =>
    have hplanned : Aside u (planned fs s) := ⟨h.guard, h.banks, h.tables, h.notices⟩
    rw [evaluatePlan_some hf]
    split
    · exact hplanned.shortfall.actOnPlan _ _
    · exact hplanned.actOnPlan _ _

theorem placeClose (h : Aside u s) : Aside u s.placeClose := by
  unfold State.placeClose
  split
  · exact h
  · next g _ =>
    have hplaced := h.apart fun _ hp => placeCommand_read hp g.inletAddress g.inletItem g.feedback .fill 0 s
    extract_lets r
    split
    · exact hplaced.updFill _
    · exact hplaced.updFill _
    · exact hplaced

theorem closeSequence (h : Aside u s) : Aside u s.closeSequence := by
  unfold State.closeSequence
  split
  · exact h.updFill _
  · split
    · exact h
    · extract_lets start aim waits
      have hwaits : Aside u waits := h.updFill _
      split
      · exact hwaits.placeClose
      · exact hwaits

theorem fillEvent (h : Aside u s) (f : State → State) (hf : ∀ s, Aside u s → Aside u (f s)) : Aside u (State.fillEvent f s) := by
  unfold State.fillEvent State.passFill
  split
  · exact (hf s h).closeSequence
  · exact (hf s h).closeSequence.send rfl

/-! ### The inhibit set and the outcomes of inlet commands (R103 to R105) -/

theorem changeInhibit (h : Aside u s) (add remove : List Reason) : Aside u (s.changeInhibit add remove) := by
  unfold State.changeInhibit
  extract_lets rs was set
  have hset : Aside u set := h.updFill _
  split
  · split
    · exact hset
    · exact Aside.evaluatePlan (hset.updFill _) false
  · split
    · exact Aside.setDemand (hset.updFill _) 0
    · exact hset

theorem closeConfirmed (h : Aside u s) : Aside u s.closeConfirmed := by
  unfold State.closeConfirmed
  extract_lets closing cleared
  have hcleared : Aside u cleared := h.updFill _
  split
  · exact Aside.evaluatePlan (hcleared.updFill _) false
  · exact hcleared

theorem fillOnCommand (h : Aside u s) (target : Nat) (o : CommandOutcome) : Aside u (s.fillOnCommand target o) := by
  unfold State.fillOnCommand
  extract_lets clear again
  have hclear : Aside u (clear s) := h.updFill _
  have hagain : Aside u (again s) := by
    unfold again
    split
    · exact h.updFill _
    · exact h
  split
  · split
    · exact h.updFill _
    · exact h
  · split
    · exact h.closeConfirmed
    · split
      · exact Aside.fillingDemand (h.updFill _)
      · exact h
  · exact Aside.changeInhibit (h.updFill _) _ _
  · exact hclear
  · split
    · exact hclear
    · exact hagain
  · split
    · exact h
    · exact hagain
  · exact h

end Aside

/-! ### A trip condition at a TRIPPED guard (R84) -/

/-- It is remembered for the reset in progress, if there is one. -/
theorem tripCondition_tripped {s : State} (h : s.guard.state = .tripped) (cause : TripCause) (lr : LevelRecord) :
    s.tripCondition cause lr =
      s.updGuard fun b => { b with reset := b.reset.map fun r => { r with seen := some (r.seen.getD cause) } } := by
  unfold State.tripCondition
  split
  · rfl
  · next hr =>
    show s = { s with guard := { s.guard with reset := s.guard.reset.map _ } }
    rw [hr, Option.map_none, ← hr]
  · next hs => exact absurd (hs.symm.trans h) (by decide)
  · next hs => exact absurd (hs.symm.trans h) (by decide)

/-- From ARMED and ANTICIPATING it trips (R79). -/
theorem tripCondition_untripped {s : State} (h : s.guard.state ≠ .tripped) (cause : TripCause) (lr : LevelRecord) :
    s.tripCondition cause lr = s.trip cause lr := by
  unfold State.tripCondition
  split
  · next hs _ => exact absurd hs h
  · next hs _ => exact absurd hs h
  · rfl
  · rfl

/-! ### The exchange while the guard stands TRIPPED -/

/-- The guard stands TRIPPED, the banks besides the FILL bank are as given, and only notices of the exchange wait. -/
structure Hushed (bs : PerBank (Option FaultRecord)) (s : State) : Prop where
  state : s.guard.state = .tripped
  banks : ∀ b, b ≠ .fill → s.banks.get b = bs.get b
  notices : AllHanded s

theorem Hushed.aside {bs : PerBank (Option FaultRecord)} {s t : State} (h : Hushed bs s) (ha : Aside s t) : Hushed bs t :=
  ⟨ha.guard ▸ h.state, fun b hb => (ha.banks b hb).trans (h.banks b hb), ha.notices⟩

/-- An evaluation may add a condition to a reset in progress, and tells Level Telemetry the projection. -/
theorem Hushed.guardEvaluate {bs : PerBank (Option FaultRecord)} {s : State} (h : Hushed bs s) (lr : LevelRecord) :
    Hushed bs (s.guardEvaluate lr) := by
  unfold State.guardEvaluate
  split
  · exact h
  · next g _ =>
    extract_lets numbered told atTrip
    have htold : Hushed bs told := ⟨h.state, h.banks, h.notices.send rfl⟩
    split
    · next hs => exact absurd (hs.symm.trans htold.state) (by decide)
    · next hs => exact absurd (hs.symm.trans htold.state) (by decide)
    · split
      · rw [tripCondition_tripped htold.state]
        exact ⟨htold.state, htold.banks, htold.notices⟩
      · exact htold

theorem Hushed.deliver {bs : PerBank (Option FaultRecord)} {s : State} (h : Hushed bs s) {d : Delivery} (hd : Handed d) :
    Hushed bs (s.deliver d) := by
  obtain ⟨dest, n⟩ := d
  cases dest with
  | fill =>
    cases n with
    | inhibit add remove => exact h.aside ((Aside.refl h.notices).fillEvent _ fun _ ht => ht.changeInhibit _ _)
    | command a i target o => exact h.aside ((Aside.refl h.notices).fillEvent _ fun _ ht => ht.fillOnCommand _ _)
    | _ => exact hd.elim
  | guard =>
    cases n with
    | evaluate => exact h.guardEvaluate _
    | _ => exact hd.elim
  | telemetry => exact h.aside ((Aside.refl h.notices).apart fun _ hp => telemetryTakes_read hp n s)
  | level | frost | line | store => exact hd.elim

/-- What no delivery of notices of one sort takes away, an event that raises no others keeps. -/
theorem drain_sort {N : Delivery → Prop} {P : State → Prop}
    (hn : ∀ s ns k, P s → (∀ d ∈ ns, N d) → P { s with notices := ns, draws := k }) (hkept : ∀ s, P s → ∀ d ∈ s.notices, N d)
    (hd : ∀ d s, N d → P s → P (s.deliver d)) (pick : Nat → Nat) (fuel : Nat) (s : State) (h : P s) : P (State.drain pick fuel s) := by
  induction fuel generalizing s with
  | zero => exact h
  | succ fuel ih =>
    simp only [State.drain]
    split
    · exact h
    · refine ih _ ?_
      rcases deliverOne_cases pick s with e | ⟨d, others, draws, hmem, hothers, -, e⟩
      · rw [e]; exact h
      · rw [e]; exact hd d _ (hkept s h d hmem) (hn s others draws h fun x hx => hkept s h x (hothers x hx))

/-- The banks at the event's end. -/
theorem Hushed.concluded {bs : PerBank (Option FaultRecord)} {s : State} (h : Hushed bs s) {b : Bank} (hb : b ≠ .fill) :
    (concluded s).banks.get b = bs.get b := by
  have hdrained : Hushed bs (State.drain Config.pick Config.deliveryFuel s) :=
    drain_sort (fun _ _ _ h hns => ⟨h.state, h.banks, hns⟩) (fun _ h => h.notices) (fun _ _ hd h => h.deliver hd) _ _ s h
  have hbanks : (Laws.concluded s).banks = (State.drain Config.pick Config.deliveryFuel s).banks := settle_read (part := .banks) (by decide) _
  rw [hbanks]
  exact hdrained.banks b hb

/-! ### The guard and the notices of a trip (R79) -/

/-- A cause without a fault, NO_TABLES alone. -/
theorem trip_unlogged {cause : TripCause} {lr : LevelRecord} {s : State}
    (h : tripFault (s.tables.guardSet.map GuardSet.pointA) cause = none) : s.trip cause lr = (tripReported cause lr s).tellGuard := by
  rw [← tripReported_tables cause lr s] at h
  show (match tripFault ((tripReported cause lr s).tables.guardSet.map GuardSet.pointA) cause with
    | some (code, subject) => (tripReported cause lr s).fault code subject
    | none => tripReported cause lr s).tellGuard = _
  rw [h]

/-- The guard as any trip leaves it, but for the watch. -/
theorem trip_guard (cause : TripCause) (lr : LevelRecord) (s : State) : ∃ w, (s.trip cause lr).guard = { s.guard with
    state := .tripped, cause := some cause, tripLine := true, tripFlag := .pending, reset := none, watch := w } := by
  obtain ⟨w, hw⟩ := tripReported_guard cause lr s
  refine ⟨w, Eq.trans ?_ hw⟩
  cases hf : tripFault (s.tables.guardSet.map GuardSet.pointA) cause with
  | none =>
    rw [trip_unlogged hf]
    exact tellGuard_read (part := .guard) (by decide) _
  | some x =>
    rw [trip_logs cause lr s hf]
    exact (tellGuard_read (part := .guard) (by decide) _).trans (fault_read (part := .guard) (by decide) _ _ _)

section
variable {s : State} (h : AllHanded s)

include h

theorem AllHanded.placeUrgent : AllHanded s.placeUrgent := by
  unfold State.placeUrgent
  split
  · exact h
  · split
    · exact h
    · extract_lets removed
      have hremoved : AllHanded removed := by
        unfold removed
        split
        · exact AllHanded.send (h.congr rfl) trivial
        · exact h
      exact hremoved

theorem AllHanded.passFill (before : State) : AllHanded (State.passFill before s) := by
  unfold State.passFill
  split
  · exact h
  · exact h.send rfl

theorem AllHanded.tripReported (cause : TripCause) (lr : LevelRecord) : AllHanded (tripReported cause lr s) := by
  have hzeroed : AllHanded (tripZeroed cause s) := by
    unfold tripZeroed
    have hdemand : AllHanded (s.updGuard fun b => { b with
      state := .tripped, cause := some cause, tripLine := true, tripFlag := .pending, reset := none }).zeroDemandHead := h
    exact (hdemand.passFill _).send trivial
  exact hzeroed.placeUrgent.congr (tripReported_notices cause lr s)

theorem AllHanded.trip (cause : TripCause) (lr : LevelRecord) : AllHanded (s.trip cause lr) := by
  have hreported := h.tripReported cause lr
  cases hf : tripFault (s.tables.guardSet.map GuardSet.pointA) cause with
  | none =>
    rw [trip_unlogged hf]
    exact hreported.send rfl
  | some x =>
    obtain ⟨code, subject⟩ := x
    rw [trip_logs cause lr s hf]
    exact (hreported.fault (by rw [tripFault_bank hf]; decide) subject).send rfl

end

/-- The guard after the deliveries of an event in which it tripped. -/
theorem tripped_drains {u v : State} {cause : TripCause} {lr : LevelRecord} (pick : Nat → Nat) (fuel : Nat)
    (hg : v.guard = (u.trip cause lr).guard) (hv : AllHanded v) {t : State} (ht : t = (State.drain pick fuel v).settle) :
    t.guard.state = .tripped ∧ t.guard.cause = some cause ∧ t.guard.tripLine = true ∧ t.guard.tripFlag = .pending ∧
      t.guard.reset = none ∧ t.guard.floatActive = u.guard.floatActive ∧ t.guard.floatAt = u.guard.floatAt := by
  obtain ⟨w, hw⟩ := trip_guard cause lr u
  rw [hw] at hg
  have hrests : Rests v.guard v.guard := by rw [hg]; exact ⟨rfl, rfl, rfl, rfl, rfl, rfl, rfl, rfl⟩
  have hguard : t.guard = (State.drain pick fuel v).guard := ht ▸ settle_read (part := .guard) (by decide) _
  obtain ⟨hstate, hreset, hcause, hline, hflag, -, hactive, hat⟩ := drain_rests pick fuel v (fun d hd => (hv d hd).quiet) hrests
  rw [hguard, hstate, hreset, hcause, hline, hflag, hactive, hat, hg]
  exact ⟨rfl, rfl, rfl, rfl, rfl, rfl, rfl⟩

/-- At the event's end. -/
theorem tripped_concludes {u v : State} {cause : TripCause} {lr : LevelRecord} (hg : v.guard = (u.trip cause lr).guard) (hv : AllHanded v) :
    (concluded v).guard.state = .tripped ∧ (concluded v).guard.cause = some cause ∧ (concluded v).guard.tripLine = true ∧
      (concluded v).guard.tripFlag = .pending ∧ (concluded v).guard.reset = none ∧
      (concluded v).guard.floatActive = u.guard.floatActive ∧ (concluded v).guard.floatAt = u.guard.floatAt :=
  tripped_drains _ _ hg hv rfl

end Sys2Proof.Laws
end

section
/-! PROOFS. The float and the level hold (R77, R78): O23 and O24. -/

namespace Sys2Proof.Laws

open Sys2Proof.Machine

-- One declaration after another: elaborated at once, their proofs take a thread each.
set_option Elab.async false

/-- An event of the guard alone that raises no notice. -/
theorem concluded_guardOnly {s : State} (hn : s.notices = []) (f : GuardBlock → GuardBlock) :
    (concluded (s.updGuard f)).guard = f s.guard ∧ Kept [.guard] s (concluded (s.updGuard f)) := by
  rw [concluded_quiet (u := s.updGuard f) hn]
  exact ⟨settle_read (part := .guard) (by decide) _, settle_kept [.guard] s _ (fun p hp => updGuard_read hp f s) rfl rfl⟩

/-- The fault of a trip, whatever other fault of another bank but FILL the event logs after it. -/
theorem trip_logs_concludes {s v : State} {cause : TripCause} {lr : LevelRecord} {code : FaultCode} {x : Option Subject}
    (hcause : cause ≠ .noTables)
    (hfault : tripFault (s.tables.guardSet.map GuardSet.pointA) cause = some (code, x))
    (hguard : v.guard = (s.trip cause lr).guard) (hbank : v.banks.get .guard = (s.trip cause lr).banks.get .guard) (hv : AllHanded v) :
    (concluded v).banks.get .guard = (s.banksAfter code x).get .guard := by
  obtain ⟨-, -, -, -, -, -, -, hbanks, -⟩ := trip_acts hcause (rfl : s.trip cause lr = _)
  obtain ⟨w, hw⟩ := trip_guard cause lr s
  have hushed : Hushed v.banks v := ⟨by rw [hguard, hw], fun _ _ => rfl, hv⟩
  rw [hushed.concluded (by decide), hbank, hbanks code x hfault]

/-- A fault's record in its bank is made of the record before, the setting, the clock and the uptime (R143, R144). -/
theorem banksAfter_get_congr {s t : State} {code : FaultCode} {x : Option Subject} (ht : t.tables = s.tables)
    (hb : t.banks.get code.bank = s.banks.get code.bank) (hc : t.clockTime = s.clockTime) (hn : t.timeUs = s.timeUs) :
    (t.banksAfter code x).get code.bank = (s.banksAfter code x).get code.bank := by
  have huptime : t.uptime = s.uptime := by simp only [State.uptime, State.now, hn]
  unfold State.banksAfter
  rw [ht, hb, hc, huptime]
  split
  · exact hb
  · rw [PerBank.get_set, PerBank.get_set, if_pos rfl, if_pos rfl]

/-! ### The level hold (R78) -/

section
variable {v : State} (hn : v.notices = [])

include hn

theorem levelHoldEnds_untripped (hs : v.guard.state ≠ .tripped) : (concluded v.levelHoldEnds).guard.state = .tripped ∧
    (concluded v.levelHoldEnds).guard.cause = some .levelLost ∧ (concluded v.levelHoldEnds).guard.tripLine = true ∧
    (concluded v.levelHoldEnds).guard.tripFlag = .pending ∧ (concluded v.levelHoldEnds).guard.reset = none ∧
    (concluded v.levelHoldEnds).banks.get .guard =
      (v.banksAfter .tripLevelLost (v.tables.guardSet.map fun g => .point g.pointA)).get .guard := by
  obtain ⟨u, hu⟩ : ∃ u, u = v.updGuard fun b => { b with holdAt := none } := ⟨_, rfl⟩
  have hends : v.levelHoldEnds = u.trip .levelLost v.level.record := by
    rw [hu]
    exact tripCondition_untripped (s := v.updGuard fun b => { b with holdAt := none }) hs _ _
  have htripped : AllHanded (u.trip .levelLost v.level.record) := AllHanded.trip (allHanded_empty (hu ▸ hn)) _ _
  obtain ⟨hstate, hcause, hline, hflag, hreset, -, -⟩ := tripped_concludes rfl htripped
  rw [hends]
  refine ⟨hstate, hcause, hline, hflag, hreset, (trip_logs_concludes (by decide) rfl rfl rfl htripped).trans ?_⟩
  rw [Option.map_map, hu]
  rfl

theorem levelHoldEnds_tripped (hs : v.guard.state = .tripped) : (concluded v.levelHoldEnds).guard = { v.guard with
    holdAt := none
    reset := v.guard.reset.map fun r => { r with seen := some (r.seen.getD .levelLost) } } ∧
    Kept [.guard] v (concluded v.levelHoldEnds) := by
  have hends : v.levelHoldEnds = v.updGuard fun b => { b with
      holdAt := none
      reset := b.reset.map fun r => { r with seen := some (r.seen.getD .levelLost) } } :=
    tripCondition_tripped (s := v.updGuard fun b => { b with holdAt := none }) hs _ _
  rw [hends]
  exact concluded_guardOnly hn _

end

/-- Settles O24: the exchange after a trip leaves the guard and its bank; a TRIPPED guard raises no notice. -/
theorem levelHoldTrips : Obligations.LevelHoldTrips := by
  intro s due hready hdue
  have hguard : (s.advanceTo due).guard = s.guard := advanceTo_read (part := .guard) (by decide) due s
  have htables : (s.advanceTo due).tables = s.tables := advanceTo_read (part := .tables) (by decide) due s
  have hnotices : (s.advanceTo due).notices = [] := (advanceTo_read (part := .notices) (by decide) due s).trans hready.2
  refine ⟨_, congrArg Host.Outcome.next (expiry_concludes hready.1 hdue State.levelHoldEnds), fun hs => ?_, fun hs => ?_,
    drain_settle_kept [] _ _ _ _ fun p hp => levelHoldEnds_read (by revert hp; cases p <;> decide) _⟩
  · rw [← htables]
    exact levelHoldEnds_untripped hnotices (hguard ▸ hs)
  · obtain ⟨hends, hkept⟩ := levelHoldEnds_tripped hnotices (hguard ▸ hs)
    rw [hguard] at hends
    exact ⟨hends, hkept⟩

/-! ### The float (R77) -/

/-- The float state becomes ACTIVE. -/
def floatHeard (s : State) : State := s.updGuard fun b => { b with floatActive := true, floatAt := none }

/-- The active float is a trip condition. -/
def floatSeen (s : State) : State := (floatHeard s).tripCondition .float s.level.record

theorem floatSeen_untripped {s : State} (hs : s.guard.state ≠ .tripped) : floatSeen s = (floatHeard s).trip .float s.level.record :=
  tripCondition_untripped (s := floatHeard s) hs _ _

theorem floatSeen_tripped {s : State} (hs : s.guard.state = .tripped) : floatSeen s = s.updGuard fun b => { b with
    floatActive := true
    floatAt := none
    reset := b.reset.map fun r => { r with seen := some (r.seen.getD .float) } } :=
  tripCondition_tripped (s := floatHeard s) hs _ _

theorem floatDebounced_inactive {s : State} (h : s.inputs.float = false) :
    s.floatDebounced = s.updGuard fun b => { b with floatActive := false, floatAt := none } := by
  unfold State.floatDebounced
  rw [h]
  rfl

theorem floatSeen_state (s : State) : (floatSeen s).guard.state = .tripped := by
  by_cases hs : s.guard.state = .tripped
  · rw [floatSeen_tripped hs]
    exact hs
  · rw [floatSeen_untripped hs]
    obtain ⟨w, hw⟩ := trip_guard .float s.level.record (floatHeard s)
    rw [hw]

theorem floatSeen_tables (s : State) : (floatSeen s).tables = s.tables := tripCondition_read (part := .tables) (by decide) _ _ _

/-- What the record of a fault is made of, but for that of the GUARD bank. -/
theorem floatSeen_logs (s : State) : (floatSeen s).tables = s.tables ∧ (floatSeen s).banks.get .level = s.banks.get .level ∧
    (floatSeen s).clockTime = s.clockTime ∧ (floatSeen s).timeUs = s.timeUs := by
  refine ⟨floatSeen_tables s, ?_⟩
  by_cases hs : s.guard.state = .tripped
  · rw [floatSeen_tripped hs]
    exact ⟨rfl, rfl, rfl⟩
  · rw [floatSeen_untripped hs]
    obtain ⟨-, hzeroed, -, -, -, -, -, hbanks, -, -, hothers⟩ :=
      trip_acts (cause := .float) (by decide) (rfl : (floatHeard s).trip .float s.level.record = _)
    refine ⟨?_, ?_, hothers .timeUs (by decide)⟩
    · rw [hbanks .tripFloat none rfl]
      exact banksAfter_get_ne (by decide)
    · rw [State.clockTime, hzeroed.fill]
      rfl

/-- A float that contradicts the level. -/
theorem floatDebounced_conflict {s : State} {g : GuardSet} (h : s.inputs.float = true) (hg : s.tables.guardSet = some g)
    (hw : (s.level.record.w : Int) < g.floatLevel - 1000) :
    s.floatDebounced = (floatSeen s).fault .floatConflict (some (.point g.pointA)) := by
  unfold State.floatDebounced State.floatActivates
  extract_lets lr seen
  have hseen : seen.tables.guardSet = some g := (congrArg Tables.guardSet (floatSeen_tables s)).trans hg
  rw [if_pos h, hseen]
  exact if_pos hw

/-- A float that contradicts nothing. -/
theorem floatDebounced_agrees {s : State} (h : s.inputs.float = true)
    (hw : ∀ g, s.tables.guardSet = some g → (g.floatLevel : Int) - 1000 ≤ s.level.record.w) : s.floatDebounced = floatSeen s := by
  unfold State.floatDebounced State.floatActivates
  extract_lets lr seen
  have hseen : seen.tables = s.tables := floatSeen_tables s
  rw [if_pos h, hseen]
  split
  · rfl
  · next g hg => exact if_neg (Int.not_lt.2 (hw g hg))

/-- FLOAT_CONFLICT or no fault follows the float. -/
theorem floatDebounced_cases {s : State} (h : s.inputs.float = true) :
    s.floatDebounced = floatSeen s ∨ ∃ x, s.floatDebounced = (floatSeen s).fault .floatConflict x := by
  by_cases hw : ∀ g, s.tables.guardSet = some g → (g.floatLevel : Int) - 1000 ≤ s.level.record.w
  · exact .inl (floatDebounced_agrees h hw)
  · push Not at hw
    obtain ⟨g, hg, hw⟩ := hw
    exact .inr ⟨_, floatDebounced_conflict h hg hw⟩

theorem floatDebounced_guard {s : State} (h : s.inputs.float = true) : s.floatDebounced.guard = (floatSeen s).guard := by
  rcases floatDebounced_cases h with e | ⟨x, e⟩
  · rw [e]
  · rw [e]
    exact fault_read (part := .guard) (by decide) _ _ _

section
variable {v : State} (hn : v.notices = [])

include hn

theorem floatSeen_handed : AllHanded (floatSeen v) := by
  by_cases hs : v.guard.state = .tripped
  · rw [floatSeen_tripped hs]
    exact allHanded_empty hn
  · rw [floatSeen_untripped hs]
    exact AllHanded.trip (s := floatHeard v) (allHanded_empty hn) _ _

theorem floatDebounced_handed (h : v.inputs.float = true) : AllHanded v.floatDebounced := by
  have hseen := floatSeen_handed hn
  rcases floatDebounced_cases h with e | ⟨x, e⟩
  · rw [e]; exact hseen
  · rw [e]; exact hseen.fault (by decide) x

/-- The banks but FILL stand at the event's end as after the faults. -/
theorem floatDebounced_bank (h : v.inputs.float = true) {b : Bank} (hb : b ≠ .fill) :
    (concluded v.floatDebounced).banks.get b = v.floatDebounced.banks.get b := by
  refine Hushed.concluded ⟨?_, fun _ _ => rfl, floatDebounced_handed hn h⟩ hb
  rw [floatDebounced_guard h]
  exact floatSeen_state v

/-- A trip by the float: the guard and its bank. -/
theorem floatDebounced_trips (h : v.inputs.float = true) (hs : v.guard.state ≠ .tripped) :
    (concluded v.floatDebounced).guard.state = .tripped ∧ (concluded v.floatDebounced).guard.cause = some .float ∧
    (concluded v.floatDebounced).guard.tripLine = true ∧ (concluded v.floatDebounced).guard.tripFlag = .pending ∧
    (concluded v.floatDebounced).guard.reset = none ∧ (concluded v.floatDebounced).guard.floatActive = true ∧
    (concluded v.floatDebounced).guard.floatAt = none ∧
    (concluded v.floatDebounced).banks.get .guard = (v.banksAfter .tripFloat none).get .guard := by
  have hguard : v.floatDebounced.guard = ((floatHeard v).trip .float v.level.record).guard := by
    rw [floatDebounced_guard h, floatSeen_untripped hs]
  have hbank : v.floatDebounced.banks.get .guard = ((floatHeard v).trip .float v.level.record).banks.get .guard := by
    rw [← floatSeen_untripped hs]
    rcases floatDebounced_cases h with e | ⟨x, e⟩
    · rw [e]
    · rw [e, fault_banks, banksAfter_get_ne (by decide)]
  have hhanded := floatDebounced_handed hn h
  obtain ⟨hstate, hcause, hline, hflag, hreset, hactive, hat⟩ := tripped_concludes hguard hhanded
  have hfault : (concluded v.floatDebounced).banks.get .guard = ((floatHeard v).banksAfter .tripFloat none).get .guard :=
    trip_logs_concludes (cause := .float) (by decide) rfl hguard hbank hhanded
  exact ⟨hstate, hcause, hline, hflag, hreset, hactive, hat, hfault⟩

/-- The LEVEL bank at a contradiction: the trip's fault is of another bank. -/
theorem floatDebounced_conflicts (h : v.inputs.float = true) {g : GuardSet} (hg : v.tables.guardSet = some g)
    (hw : (v.level.record.w : Int) < g.floatLevel - 1000) :
    (concluded v.floatDebounced).banks.get .level = (v.banksAfter .floatConflict (some (.point g.pointA))).get .level := by
  rw [floatDebounced_bank hn h (by decide), floatDebounced_conflict h hg hw, fault_banks]
  obtain ⟨htables, hbank, hclock, htime⟩ := floatSeen_logs v
  exact banksAfter_get_congr htables hbank hclock htime

end

/-- Settles O23: as O24, with FLOAT_CONFLICT in the LEVEL bank, which the exchange leaves too. -/
theorem floatDebounceTrips : Obligations.FloatDebounceTrips := by
  intro s due hready hdue
  have hread : ∀ p, p ∉ [Part.timeUs, .fill] → p.read (s.advanceTo due) = p.read s := fun _ hp => advanceTo_read hp due s
  have hguard : (s.advanceTo due).guard = s.guard := hread .guard (by decide)
  have htables : (s.advanceTo due).tables = s.tables := hread .tables (by decide)
  have hlevel : (s.advanceTo due).level = s.level := hread .level (by decide)
  have hinputs : (s.advanceTo due).inputs = s.inputs := hread .inputs (by decide)
  have hnotices : (s.advanceTo due).notices = [] := (hread .notices (by decide)).trans hready.2
  refine ⟨_, congrArg Host.Outcome.next (expiry_concludes hready.1 hdue State.floatDebounced), fun hf => ?_, fun hf hs => ?_,
    fun hf hs hw => ?_, fun hf g hg hw => ?_,
    drain_settle_kept [] _ _ _ _ fun p hp => floatDebounced_read (by revert hp; cases p <;> decide) _⟩
  · rw [floatDebounced_inactive (hinputs ▸ hf), ← hguard]
    exact concluded_guardOnly hnotices _
  · exact floatDebounced_trips hnotices (hinputs ▸ hf) (hguard ▸ hs)
  · rw [← htables, ← hlevel] at hw
    rw [floatDebounced_agrees (hinputs ▸ hf) hw, floatSeen_tripped (hguard ▸ hs), ← hguard]
    exact concluded_guardOnly hnotices _
  · exact floatDebounced_conflicts hnotices (hinputs ▸ hf) (htables ▸ hg) (hlevel ▸ hw)

end Sys2Proof.Laws
end

section
/-! PROOFS. GUARD_RESET: its checks in order, and the reset in progress (R83, R84): O25. -/

namespace Sys2Proof.Laws

open Sys2Proof.Machine

-- One declaration after another: elaborated at once, their proofs take a thread each.
set_option Elab.async false

/-! ### The engine at work (R167) -/

/-- Work that nothing interrupts goes on. -/
theorem enginePick_atWork {s : State} (h : s.engineAtWork) : s.enginePick = s := by
  obtain ⟨b, hb, hstays⟩ := h
  have hsuspend : s.suspendForTrip = s := by
    unfold State.suspendForTrip
    split
    · next w ended done e rest hbusy _ =>
      have herase : w.job.isErase = false := hstays w ended (by rw [hb, Option.some.injEq] at hbusy; rw [hbusy])
      rw [herase]
      rfl
    · rfl
  unfold State.enginePick
  simp only [hsuspend, hb, Option.isSome_some, if_true]

theorem settle_engine_atWork {s : State} (h : s.engineAtWork) : s.settle.engine = s.engine := by
  have hline : s.lineSettle.engine = s.engine := lineSettle_read (part := .engine) (by decide) s
  have hwork : s.lineSettle.engineAtWork := by
    unfold State.engineAtWork
    rw [hline]
    exact h
  unfold State.settle
  rw [enginePick_atWork hwork]
  exact (trunkSettle_read (part := .engine) (by decide) _).trans hline

/-! ### A reservation that nothing completes (R138) -/

section
variable {r : Nat} {c tag : Byte}

theorem reservation_replaceFirst (x : Content) {ps : List Place} (h : .reservation r c tag ∈ ps) :
    .reservation r c tag ∈ replaceFirst x ps := by
  induction ps with
  | nil => exact h
  | cons p ps ih =>
    unfold replaceFirst
    split
    · next hp =>
      rcases List.mem_cons.1 h with e | h
      · rw [← e] at hp; cases hp
      · exact List.mem_cons_of_mem _ h
    · rcases List.mem_cons.1 h with e | h
      · exact e ▸ List.mem_cons_self
      · exact List.mem_cons_of_mem _ (ih h)

theorem reservation_offer (x : Content) {o : Outbound} (h : .reservation r c tag ∈ o.waiting) :
    .reservation r c tag ∈ (o.offer x).waiting := by
  unfold Outbound.offer
  split
  · exact reservation_replaceFirst x h
  · split
    · exact h
    · exact List.mem_append_left _ h

/-- New contents of the STATE report offer frames, which pass every reservation by (R130, R132). -/
theorem reservation_passContents (f : StateContents → StateContents) {s : State} (h : .reservation r c tag ∈ s.out.waiting) :
    .reservation r c tag ∈ (s.passContents f).out.waiting := by
  unfold State.passContents
  extract_lets before set told
  have htold : .reservation r c tag ∈ told.out.waiting := by
    unfold told
    split
    · exact reservation_offer _ h
    · exact h
  unfold State.periodChanged State.aimPeriod
  split
  · extract_lets aim
    split
    · exact reservation_offer _ htold
    · exact htold
  · exact htold

/-- What the modem takes is ready. -/
theorem takeReady_ready {ps rest : List Place} {p : Place} (ht : takeReady ps = some (p, rest)) : p.ready = true := by
  induction ps generalizing rest with
  | nil => cases ht
  | cons q ps ih =>
    unfold takeReady at ht
    split at ht
    · next hq => cases ht; exact hq
    · split at ht
      · next he => cases ht; exact ih he
      · cases ht

theorem reservation_takeReady {ps rest : List Place} {p : Place} (ht : takeReady ps = some (p, rest)) (h : .reservation r c tag ∈ ps) :
    .reservation r c tag ∈ rest := by
  rcases mem_takeReady ps p rest ht _ h with e | h
  · have hready := takeReady_ready ht
    rw [← e] at hready
    cases hready
  · exact h

/-- Once the line has nothing to begin, no pass-through is answered, and the modem takes only what is ready (R139). -/
theorem reservation_settle {s : State} (hw : s.lineWaits) (h : .reservation r c tag ∈ s.out.waiting) :
    .reservation r c tag ∈ s.settle.out.waiting := by
  have hpicked : .reservation r c tag ∈ s.enginePick.out.waiting := by
    have hout : s.enginePick.out = s.out := enginePick_read (part := .out) (by decide) s
    rw [hout]
    exact h
  unfold State.settle
  rw [lineSettle_waits s hw]
  unfold State.trunkSettle State.startTransmission
  split
  · exact hpicked
  · split
    · exact hpicked
    · split
      · exact hpicked
      · next ht => exact reservation_takeReady ht hpicked

/-- The telling of an islanding's end passes it by. -/
theorem reservation_drain (pick : Nat → Nat) (fuel : Nat) {s : State} (hn : TellsIslanding s) (h : .reservation r c tag ∈ s.out.waiting) :
    .reservation r c tag ∈ (State.drain pick (fuel + 1) s).out.waiting := by
  rcases hn with hn | hn
  · rw [drain_nil _ _ _ hn]
    exact h
  · have htold : s.deliverOne pick = ({ s with notices := [] } : State).passContents fun x => { x with islanded := false } := by
      unfold State.deliverOne
      rw [hn]
      rfl
    have hempty : (({ s with notices := [] } : State).passContents fun x => { x with islanded := false }).notices = [] :=
      passContents_read (part := .notices) (by decide) _ _
    rw [State.drain, if_neg (by rw [hn]; simp), htold, drain_nil _ _ _ hempty]
    exact reservation_passContents (s := { s with notices := [] }) _ h

end

/-! ### GUARD_RESET (R83) -/

/-- The checks in the words of R83. -/
theorem guardResetCheck_eq (s : State) : s.guardResetCheck =
    if s.guard.state ≠ .tripped then some .notTripped
    else if s.tables.strapping = none ∨ s.tables.guardSet = none ∨ s.tables.points = none ∨ s.tables.channels = none then some .noTables
    else if s.guard.tripFlag = .pending ∨ s.guard.reset ≠ none then some .busy
    else if s.guard.floatActive = true then some .float
    else if s.level.record.quality = .lost ∨ s.level.record.quality = .split then some .levelBad
    else if s.guard.resetLevel ≤ s.level.record.w then some .tooHigh
    else if s.holds .level = true ∨ s.holds .guard = true then some .held else none := by
  have hready : s.tables.guardReady = false ↔
      s.tables.strapping = none ∨ s.tables.guardSet = none ∨ s.tables.points = none ∨ s.tables.channels = none := by
    simp only [Tables.guardReady, Bool.and_eq_false_iff, Option.isSome_eq_false_iff, Option.isNone_iff_eq_none, or_assoc]
  have hreset : s.guard.reset.isSome = true ↔ s.guard.reset ≠ none := Option.isSome_iff_ne_none
  simp only [State.guardResetCheck, hready, hreset]

/-- The owner judges a request by the state before it. -/
theorem guardResetCheck_taken (code tag : Byte) (s : State) : (taken code tag s).guardResetCheck = s.guardResetCheck := by
  obtain ⟨o, ns, htaken⟩ := taken_eq code tag s
  rw [htaken]
  rfl

/-- What a reset that passes its checks leaves. -/
theorem guardReset_taken {s : State} (tag : Byte) (hs : s.Serves) (hcheck : s.guardResetCheck = none) :
    ∃ t, exec (.guardReset tag []) s = .next t ∧ t.guard = { s.guard with reset := some ⟨s.out.nextResv, tag, none⟩ } ∧
      (s.engineAtWork → t.engine = { s.engine with
        tripWork := s.engine.tripWork ++ [.marker s.level.record.w s.clockTime s.uptime] }) ∧
      (s.lineWaits → .reservation s.out.nextResv 0x20#8 tag ∈ t.out.waiting) ∧ Served [.guard, .engine, .nv] s t := by
  obtain ⟨owner, howner⟩ : ∃ owner : Nat → State → State, owner = fun resv => State.guardResetRequest resv tag := ⟨_, rfl⟩
  obtain ⟨v, hv⟩ : ∃ v, v = State.takeRequest 0x20#8 tag true owner s := ⟨_, rfl⟩
  have hread : ∀ p, p ∉ [Part.trunk, .out, .notices] → p.read (taken 0x20#8 tag s) = p.read s := fun _ hp => taken_read 0x20#8 tag s hp
  have hguard : (taken 0x20#8 tag s).guard = s.guard := hread .guard (by decide)
  have hengine : (taken 0x20#8 tag s).engine = s.engine := hread .engine (by decide)
  have htake : v = ((taken 0x20#8 tag s).updGuard fun b => { b with reset := some ⟨s.out.nextResv, tag, none⟩ }).askTripWork
      (.marker s.level.record.w s.clockTime s.uptime) := by
    have hlevel : (taken 0x20#8 tag s).level = s.level := hread .level (by decide)
    have hclock : (taken 0x20#8 tag s).clockTime = s.clockTime := clockTime_congr (hread .fill (by decide))
    have huptime : (taken 0x20#8 tag s).uptime = s.uptime := congrArg (· / 1000) (now_congr (hread .timeUs (by decide)))
    rw [hv, takeRequest_place _ _ _ _ _ hs.2, if_pos rfl, howner]
    show State.guardResetRequest s.out.nextResv tag (taken 0x20#8 tag s) = _
    rw [State.guardResetRequest, guardResetCheck_taken, hcheck, ← hlevel, ← hclock, ← huptime]
  have hexec : exec (.guardReset tag []) s = .next (State.drain Config.pick Config.deliveryFuel v).settle := by
    show Host.Outcome.next (State.request Config.pick 0x20#8 tag true _ s) = _
    rw [← howner, State.request, event_powered _ _ _ hs.1.1, hv]
  have hserved : Served [.guard, .engine, .nv] s (State.drain Config.pick Config.deliveryFuel v).settle := by
    obtain ⟨hserved, -⟩ := request_served 0x20#8 tag true owner s hs [.guard, .engine, .nv] (by decide) (by decide) (by decide) (by decide)
      fun p hp => by rw [← hv, htake, State.askTripWork, updEngine_read (by simp_all), updGuard_read (by simp_all)]
    rwa [State.request, event_powered _ _ _ hs.1.1, ← hv] at hserved
  have htells : TellsIslanding v := by
    have hnotices : v.notices = s.controlFrame.notices := by rw [htake]; rfl
    rw [TellsIslanding, hnotices]
    exact (controlFrame_notices s hs.1.2).1
  have hdrained := (drain_tells Config.pick 399 v htells).1
  change ∀ p, p ∉ _ → Part.read p (State.drain Config.pick Config.deliveryFuel v) = _ at hdrained
  have hreserved : .reservation s.out.nextResv 0x20#8 tag ∈ v.out.waiting := by
    rw [htake]
    exact taken_reserves 0x20#8 tag s
  have hwaiting := reservation_drain Config.pick 399 htells hreserved
  change _ ∈ (State.drain Config.pick Config.deliveryFuel v).out.waiting at hwaiting
  generalize State.drain Config.pick Config.deliveryFuel v = w at *
  have hwguard : w.guard = v.guard := hdrained .guard (by decide)
  have hwengine : w.engine = v.engine := hdrained .engine (by decide)
  have hwline : w.line = s.line := (hdrained .line (by decide)).trans (by rw [htake]; exact hread .line (by decide))
  refine ⟨_, hexec, ?_, fun hwork => ?_, fun hw => ?_, hserved⟩
  · have hend : w.settle.guard = w.guard := settle_read (part := .guard) (by decide) w
    rw [hend, hwguard, htake, ← hguard]
    rfl
  · have hatWork : w.engineAtWork := by
      rw [State.engineAtWork, hwengine, htake]
      show ∃ b, (taken 0x20#8 tag s).engine.busy = some b ∧ _
      rw [hengine]
      exact hwork
    rw [settle_engine_atWork hatWork, hwengine, htake, ← hengine]
    rfl
  · exact reservation_settle (by rw [State.lineWaits, hwline]; exact hw) hwaiting

/-- Settles O25: the checks by `guardResetCheck_eq`, a refusal by `answered_at_once`. -/
theorem guardResetChecksAndStarts : Obligations.GuardResetChecksAndStarts := by
  intro s tag refused hs hrefused
  rw [← guardResetCheck_eq] at hrefused
  cases hcheck : s.guardResetCheck with
  | none =>
    obtain ⟨t, hexec, hguard, hengine, hwaits, hserved⟩ := guardReset_taken tag hs hcheck
    refine ⟨t, hexec, fun status hst => ?_, fun _ => ⟨hguard, hengine, hwaits, hserved⟩⟩
    rw [hst, hcheck] at hrefused
    cases hrefused
  | some status =>
    obtain ⟨hserved, hcarries⟩ := answered_at_once 0x20#8 tag (fun resv => State.guardResetRequest resv tag) s [status.byte] hs (by
      show State.guardResetRequest _ tag _ = _
      rw [State.guardResetRequest, guardResetCheck_taken, hcheck])
    refine ⟨_, rfl, fun status' hst => ?_, fun hnone => ?_⟩
    · rw [hst, hcheck] at hrefused
      cases hrefused
      exact ⟨hcarries, hserved⟩
    · rw [hnone, hcheck] at hrefused
      cases hrefused

end Sys2Proof.Laws
end

section
/-! PROOFS. The counts of the mains, battery-low and float inputs (R77, R177, R178): O8. -/

namespace Sys2Proof.Laws

open Sys2Proof.Machine

-- One declaration after another: elaborated at once, their proofs take a thread each.
set_option Elab.async false

/-- An input that takes another level is an event of its unit; one that raises no notice goes on at once. -/
theorem inputChange_settles {same : Prop} [Decidable same] {s unpowered : State} {f : State → State} (hready : s.Ready) (hne : ¬ same)
    (hf : (f s).notices = s.notices) : (if same then s else if s.powered then State.event Config.pick f s else unpowered) = (f s).settle := by
  rw [if_neg hne, if_pos hready.1, event_quiet _ _ _ hready.1 (hf.trans hready.2)]

/-- The supply at the end of an event is as its own effect left it. -/
theorem concluded_supply (u : State) : (concluded u).supply = u.supply :=
  (settle_read (part := .supply) (by decide) _).trans (drain_read (part := .supply) (by decide) _ _ _)

/-- The end of a count of the supply. -/
theorem supplyCount_kept {f : State → State} (hf : ∀ p, p ∉ [Part.supply, .notices] → ∀ v, p.read (f v) = p.read v) (s : State) :
    Kept (.supply :: reached) s (concluded (f s)) :=
  drain_settle_kept [.supply] _ _ _ _ fun p hp => hf p (by revert hp; cases p <;> decide) s

/-- The battery mode follows the battery-low state; the mode MAINS stays (R178). -/
theorem batteryDebounced_supply (s : State) : s.batteryDebounced.supply = { s.supply with
    low := s.inputs.batteryLow
    lowAt := none
    mode := if s.supply.mode = .mains then .mains else if s.inputs.batteryLow then .batteryLow else .battery } := by
  unfold State.batteryDebounced
  extract_lets low set
  change _ = { s.supply with
    low := low
    lowAt := none
    mode := if s.supply.mode = SupplyMode.mains then SupplyMode.mains else if low then .batteryLow else .battery }
  have hstay : ∀ m, set.supply.mode = m → set.supply = { s.supply with low := low, lowAt := none, mode := m } := by
    rintro _ rfl
    rfl
  have hchange : ∀ m, (set.changeMode m).supply = { s.supply with low := low, lowAt := none, mode := m } := fun _ => rfl
  have hmode : s.supply.mode = set.supply.mode := rfl
  rw [hmode]
  clear_value set low
  split
  · next h =>
    rw [h, if_pos rfl]
    exact hstay _ h
  · next h =>
    rw [h, if_neg (show ¬ SupplyMode.battery = .mains by decide)]
    cases low with
    | true => exact hchange _
    | false => exact hstay _ h
  · next h =>
    rw [h, if_neg (show ¬ SupplyMode.batteryLow = .mains by decide)]
    cases low with
    | true => exact hstay _ h
    | false => exact hchange _

/-- Settles O8: the inputs raise no notice; what a change of mode announces leaves the supply. -/
theorem inputCountsStartAndRunOut : Obligations.InputCountsStartAndRunOut := by
  refine ⟨fun s active hready hne => ?_, fun s active hready hne => ?_, fun s active hready hne => ?_, fun s due hready hcount => ?_,
    fun s due hready hcount => ?_, fun s due hready hcount => ?_⟩
  · exact ⟨_, congrArg Host.Outcome.next (inputChange_settles hready hne (f := State.mainsInput active) rfl),
      settle_read (part := .inputs) (by decide) _, settle_read (part := .supply) (by decide) _,
      settle_kept _ _ _ (fun p hp => mainsInput_read hp active s) rfl rfl⟩
  · exact ⟨_, congrArg Host.Outcome.next (inputChange_settles hready hne (f := State.batteryInput active) rfl),
      settle_read (part := .inputs) (by decide) _, settle_read (part := .supply) (by decide) _,
      settle_kept _ _ _ (fun p hp => batteryInput_read hp active s) rfl rfl⟩
  · exact ⟨_, congrArg Host.Outcome.next (inputChange_settles hready hne (f := State.floatChange active) rfl),
      settle_read (part := .inputs) (by decide) _, settle_read (part := .guard) (by decide) _,
      settle_kept _ _ _ (fun p hp => (floatInput_read (by simp_all) active _).trans (updInputs_read (by simp_all) _ s)) rfl rfl⟩
  all_goals have hsupply : (s.advanceTo due).supply = s.supply := advanceTo_read (part := .supply) (by decide) due s
  · refine ⟨_, congrArg Host.Outcome.next (expiry_concludes hready.1 (by rw [SupplyBlock.lossAt, hcount]) State.mainsLost), ?_,
      supplyCount_kept (fun p hp v => mainsLost_read hp v) _⟩
    rw [concluded_supply, ← hsupply]
    rfl
  · refine ⟨_, congrArg Host.Outcome.next (expiry_concludes hready.1 (by rw [SupplyBlock.returnAt, hcount]) State.mainsReturned), ?_,
      supplyCount_kept (fun p hp v => mainsReturned_read hp v) _⟩
    rw [concluded_supply, ← hsupply]
    rfl
  · have hinputs : (s.advanceTo due).inputs = s.inputs := advanceTo_read (part := .inputs) (by decide) due s
    refine ⟨_, congrArg Host.Outcome.next (expiry_concludes hready.1 hcount State.batteryDebounced), ?_,
      supplyCount_kept (fun p hp v => batteryDebounced_read hp v) _⟩
    rw [concluded_supply, batteryDebounced_supply, hsupply, hinputs]

end Sys2Proof.Laws
end

section
/-! PROOFS. One evaluation of the guard (R71 to R76): its numbers, and what it does with them: O21. -/

namespace Sys2Proof.Laws

open Sys2Proof.Machine

-- One declaration after another: elaborated at once, their proofs take a thread each.
set_option Elab.async false

/-! ### The numbers (R71, R72, R73) -/

/-- The state with the numbers of the evaluation, the projection told (R87). -/
def numbered (g : GuardSet) (lr : LevelRecord) (s : State) : State :=
  (s.updGuard (GuardBlock.withNumbers g s.tables.strapping lr s.fill.demand)).send .telemetry
    (.projection (s.guard.withNumbers g s.tables.strapping lr s.fill.demand).projection)

/-- A level at or above the trip level that is not LOST (R74). -/
def TooHigh (b : GuardBlock) (lr : LevelRecord) : Prop := b.trip ≤ lr.w ∧ lr.quality ≠ .lost

theorem atTrip_iff (lr : LevelRecord) (b : GuardBlock) : (decide (b.trip ≤ lr.w) && lr.quality != .lost) = true ↔ TooHigh b lr := by
  rw [Bool.and_eq_true, decide_eq_true_iff, bne_iff_ne, TooHigh]

/-- Two guards with the same numbers. -/
structure SameNumbers (b c : GuardBlock) : Prop where
  coast : b.coast = c.coast
  projection : b.projection = c.projection
  anticipate : b.anticipate = c.anticipate
  trip : b.trip = c.trip
  resetLevel : b.resetLevel = c.resetLevel
  rearm : b.rearm = c.rearm

theorem SameNumbers.refl (b : GuardBlock) : SameNumbers b b := ⟨rfl, rfl, rfl, rfl, rfl, rfl⟩

/-- The coast level is the least height that holds the coast volume in the record's segment. -/
theorem coastLevel_segment {bs : List Breakpoint} {segment v : Nat} {x y : Breakpoint} (hx : bs[segment]? = some x)
    (hy : bs[segment + 1]? = some y) (hxy : x.volume < y.volume) :
    v * (y.level - x.level) ≤ coastLevel (some bs) segment v * (y.volume - x.volume) ∧
    coastLevel (some bs) segment v * (y.volume - x.volume) < v * (y.level - x.level) + (y.volume - x.volume) := by
  have hcoast : coastLevel (some bs) segment v = ceilDiv (v * (y.level - x.level)) (y.volume - x.volume) := by
    simp only [coastLevel, hx, hy]
  have hpos : 0 < y.volume - x.volume := Nat.sub_pos_of_lt hxy
  have hdiv := Nat.div_add_mod (v * (y.level - x.level) + (y.volume - x.volume) - 1) (y.volume - x.volume)
  have hmod := Nat.mod_lt (v * (y.level - x.level) + (y.volume - x.volume) - 1) hpos
  rw [hcoast, ceilDiv, Nat.mul_comm ((_ + _ - _) / _)]
  omega

/-- The projection in the words of R72. -/
theorem projectionOf_eq (g : GuardSet) (lr : LevelRecord) (demand coast : Nat) : projectionOf g lr demand coast =
    min 40000 (lr.w + coast + match lr.rate with
      | some r => r.toNat * g.stopLatency / 60
      | none => if 0 < demand then g.ratedRise * g.stopLatency / 60 else 0) := by
  have hrise : riseTerm g lr.rate demand = match lr.rate with
      | some r => r.toNat * g.stopLatency / 60
      | none => if 0 < demand then g.ratedRise * g.stopLatency / 60 else 0 := by
    cases lr.rate with
    | none => rfl
    | some r => rw [riseTerm, show (max r 0).toNat = r.toNat by omega]
  rw [projectionOf, hrise, Nat.add_right_comm]
  rfl

/-! ### What an evaluation does (R74) -/

section
variable {s : State} {g : GuardSet} (hg : s.tables.guardSet = some g) (lr : LevelRecord)

include hg

/-- The decision over the numbers. -/
theorem guardEvaluate_some : s.guardEvaluate lr =
    (let u := numbered g lr s
    let atTrip := decide (u.guard.trip ≤ lr.w) && lr.quality != .lost
    match s.guard.state with
    | .armed => if atTrip then u.trip .level lr else if u.guard.anticipate ≤ u.guard.projection then u.anticipate else u
    | .anticipating =>
      if atTrip then u.trip .level lr
      else if (u.guard.projection : Int) ≤ u.guard.rearm ∧ s.pumpsRunning = 0 then u.rearmGuard else u
    | .tripped => if atTrip then u.tripCondition .level lr else u) := by
  rw [State.guardEvaluate, hg]
  rfl

theorem guardEvaluate_trips (hs : s.guard.state ≠ .tripped) (hhigh : TooHigh (numbered g lr s).guard lr) :
    s.guardEvaluate lr = (numbered g lr s).trip .level lr := by
  rw [guardEvaluate_some hg]
  extract_lets u atTrip
  have hat : atTrip = true := (atTrip_iff lr _).2 hhigh
  cases hstate : s.guard.state with
  | armed => exact if_pos hat
  | anticipating => exact if_pos hat
  | tripped => exact absurd hstate hs

theorem guardEvaluate_remembers (hs : s.guard.state = .tripped) (hhigh : TooHigh (numbered g lr s).guard lr) :
    s.guardEvaluate lr = (numbered g lr s).tripCondition .level lr := by
  rw [guardEvaluate_some hg, hs]
  exact if_pos ((atTrip_iff lr _).2 hhigh)

section
variable (hlow : ¬ TooHigh (numbered g lr s).guard lr)

include hlow

theorem guardEvaluate_armed (hs : s.guard.state = .armed) : s.guardEvaluate lr =
    if (numbered g lr s).guard.anticipate ≤ (numbered g lr s).guard.projection then (numbered g lr s).anticipate else numbered g lr s := by
  rw [guardEvaluate_some hg, hs]
  exact if_neg (mt (atTrip_iff lr _).1 hlow)

theorem guardEvaluate_anticipating (hs : s.guard.state = .anticipating) : s.guardEvaluate lr =
    if ((numbered g lr s).guard.projection : Int) ≤ (numbered g lr s).guard.rearm ∧ s.pumpsRunning = 0 then (numbered g lr s).rearmGuard
    else numbered g lr s := by
  rw [guardEvaluate_some hg, hs]
  exact if_neg (mt (atTrip_iff lr _).1 hlow)

theorem guardEvaluate_tripped (hs : s.guard.state = .tripped) : s.guardEvaluate lr = numbered g lr s := by
  rw [guardEvaluate_some hg, hs]
  exact if_neg (mt (atTrip_iff lr _).1 hlow)

end

/-- All that an evaluation can do. -/
theorem guardEvaluate_cases : s.guardEvaluate lr = numbered g lr s ∨ s.guardEvaluate lr = (numbered g lr s).trip .level lr ∨
    s.guardEvaluate lr = (numbered g lr s).anticipate ∨ s.guardEvaluate lr = (numbered g lr s).rearmGuard ∨
    (s.guard.state = .tripped ∧ s.guardEvaluate lr = (numbered g lr s).tripCondition .level lr) := by
  by_cases hhigh : TooHigh (numbered g lr s).guard lr
  · by_cases hs : s.guard.state = .tripped
    · exact .inr (.inr (.inr (.inr ⟨hs, guardEvaluate_remembers hg lr hs hhigh⟩)))
    · exact .inr (.inl (guardEvaluate_trips hg lr hs hhigh))
  · cases hs : s.guard.state with
    | armed =>
      rw [guardEvaluate_armed hg lr hhigh hs]
      split
      · exact .inr (.inr (.inl rfl))
      · exact .inl rfl
    | anticipating =>
      rw [guardEvaluate_anticipating hg lr hhigh hs]
      split
      · exact .inr (.inr (.inr (.inl rfl)))
      · exact .inl rfl
    | tripped => exact .inl (guardEvaluate_tripped hg lr hhigh hs)

end

/-! ### Anticipation (R75) -/

/-- The guard ANTICIPATING, the demand of 0, and GUARD on its way to the inhibit set. -/
def anticipating (s : State) : State :=
  ((s.updGuard fun b => { b with state := .anticipating }).guardZero).send .fill (.inhibit [.guard] [])

/-- The close placed for the Fill Planner, the outcome on its way to it. -/
def closing (g : GuardSet) (s : State) : State :=
  ((s.placeCommand g.inletAddress g.inletItem g.feedback .fill 0).1).send .fill
    (.command g.inletAddress g.inletItem 0 (s.placeCommand g.inletAddress g.inletItem g.feedback .fill 0).2)

theorem anticipate_some {s : State} {g : GuardSet} (hg : s.tables.guardSet = some g) :
    s.anticipate = (closing g (anticipating s)).tellGuard := by
  have hset : (anticipating s).tables.guardSet = some g :=
    (congrArg Tables.guardSet ((send_read (part := .tables) (by decide) _ _ _).trans
      ((guardZero_read (part := .tables) (by decide) _).trans (updGuard_read (part := .tables) (by decide) _ s)))).trans hg
  unfold State.anticipate
  extract_lets a c
  have hc : c = closing g (anticipating s) := by
    show (match (anticipating s).tables.guardSet with | none => _ | some g => _) = _
    rw [hset]
    rfl
  rw [hc]

theorem anticipating_read {p : Part} (h : p ∉ [Part.guard, .fill, .out, .notices]) (s : State) : p.read (anticipating s) = p.read s :=
  (send_read (by simp_all) _ _ _).trans ((guardZero_read (by simp_all) _).trans (updGuard_read (by simp_all) _ _))

theorem closing_read {p : Part} (h : p ∉ [Part.line, .notices]) (g : GuardSet) (s : State) : p.read (closing g s) = p.read s :=
  (send_read (by simp_all) _ _ _).trans (placeCommand_read (by simp_all) _ _ _ _ _ _)

/-- The first entry for an actuator whose entry is replaced in place is the one placed. -/
theorem find_replaced {a i : Nat} {es : List CommandEntry} {x : CommandEntry} (hx : x.isFor a i = true)
    (h : es.any (CommandEntry.isFor a i) = true) :
    ∃ n, (es.map fun e => if e.isFor a i then { x with turnCycle := e.turnCycle } else e).find? (CommandEntry.isFor a i) =
      some { x with turnCycle := n } := by
  induction es with
  | nil => cases h
  | cons e es ih =>
    rw [List.map_cons]
    by_cases he : e.isFor a i = true
    · rw [if_pos he]
      exact ⟨e.turnCycle, List.find?_cons_of_pos hx⟩
    · rw [if_neg he, List.find?_cons_of_neg he]
      rw [List.any_cons, Bool.or_eq_true] at h
      exact ih (h.resolve_left he)

/-- The entry of a CLOSE of the inlet valve (R37). -/
def inletClose (g : GuardSet) : CommandEntry :=
  { address := g.inletAddress, item := g.inletItem, feedback := g.feedback, origin := .fill, target := 0 }

/-- The CLOSE of the inlet valve takes the place of its entry, or one of the eight (R37). -/
theorem placeCommand_inletClose {s : State} {g : GuardSet} (hg : s.tables.guardSet = some g) (hu : s.line.urgent = none)
    (hroom : (∃ e, s.line.commands.find? (CommandEntry.isFor g.inletAddress g.inletItem) = some e) ∨ s.line.commands.length < 8) :
    (s.placeCommand g.inletAddress g.inletItem g.feedback .fill 0).2 = .placed ∧ ∃ n,
      (s.placeCommand g.inletAddress g.inletItem g.feedback .fill 0).1.line.commands.find?
        (CommandEntry.isFor g.inletAddress g.inletItem) = some { inletClose g with turnCycle := n } := by
  have hinlet : s.isInlet g.inletAddress g.inletItem = true := by simp [State.isInlet, hg]
  unfold State.placeCommand
  extract_lets inlet entry
  have hfor : entry.isFor g.inletAddress g.inletItem = true := by simp [CommandEntry.isFor, entry]
  rw [if_neg (by rw [hu]; simp), if_neg (by simp [inlet, hinlet])]
  split
  · next hany =>
    exact ⟨rfl, find_replaced hfor hany⟩
  · next hany =>
    have hnone : s.line.commands.find? (CommandEntry.isFor g.inletAddress g.inletItem) = none :=
      List.find?_eq_none.2 fun e he hfor => hany (List.any_eq_true.2 ⟨e, he, hfor⟩)
    have hlength : s.line.commands.length < 8 := hroom.resolve_left fun ⟨e, he⟩ => by rw [hnone] at he; cases he
    have hplace : ((inlet || decide (s.line.commands.countP (fun e => !s.isInlet e.address e.item) < 7)) &&
        decide (s.line.commands.length < 8)) = true := by simp [inlet, hinlet, hlength]
    rw [if_pos hplace]
    refine ⟨rfl, entry.turnCycle, ?_⟩
    show (s.line.commands ++ [entry]).find? _ = _
    rw [List.find?_append, hnone]
    exact List.find?_cons_of_pos hfor

/-- With a close in the urgent slot no other is placed. -/
theorem placeCommand_urgent {s : State} {g : GuardSet} (hg : s.tables.guardSet = some g) (hu : s.line.urgent ≠ none) :
    (s.placeCommand g.inletAddress g.inletItem g.feedback .fill 0).1 = s := by
  have hinlet : s.isInlet g.inletAddress g.inletItem = true := by simp [State.isInlet, hg]
  unfold State.placeCommand
  extract_lets inlet entry
  rw [if_pos (by simp [inlet, hinlet, Option.isSome_iff_ne_none.2 hu])]

theorem passFill_waits {d : Delivery} {s : State} (before : State) (h : d ∈ s.notices) : d ∈ (State.passFill before s).notices := by
  unfold State.passFill
  split
  · exact h
  · exact List.mem_append_left _ h

/-- The effects of R75. -/
theorem anticipate_acts {s t : State} {g : GuardSet} (hg : s.tables.guardSet = some g) (ht : t = s.anticipate) :
    t.guard = { s.guard with state := .anticipating } ∧ s.DemandZeroed t ∧ ⟨.fill, .inhibit [.guard] []⟩ ∈ t.notices ∧
    ⟨.telemetry, .guardState .anticipating s.guard.cause⟩ ∈ t.notices ∧ (∀ d ∈ s.notices, d ∈ t.notices) ∧
    (s.line.urgent = none →
      (∃ e, s.line.commands.find? (CommandEntry.isFor g.inletAddress g.inletItem) = some e) ∨ s.line.commands.length < 8 →
      ⟨.fill, .command g.inletAddress g.inletItem 0 .placed⟩ ∈ t.notices ∧
      ∃ n, t.line.commands.find? (CommandEntry.isFor g.inletAddress g.inletItem) = some { inletClose g with turnCycle := n }) ∧
    (s.line.urgent ≠ none → t.line = s.line) ∧ (∀ p, p ∉ [Part.guard, .fill, .out, .line, .notices] → p.read t = p.read s) := by
  rw [anticipate_some hg] at ht
  obtain ⟨u, hu⟩ : ∃ u, u = anticipating s := ⟨_, rfl⟩
  rw [← hu] at ht
  have hstart : ∀ p, p ∉ [Part.guard, .fill, .out, .notices] → p.read u = p.read s := fun p hp => hu ▸ anticipating_read hp s
  have hread : ∀ p, p ∉ [Part.line, .notices] → p.read t = p.read u := fun p hp =>
    ht ▸ (tellGuard_read (by simp_all) _).trans (closing_read hp g u)
  have hline : t.line = (u.placeCommand g.inletAddress g.inletItem g.feedback .fill 0).1.line := by
    rw [ht]
    exact tellGuard_read (part := .line) (by decide) _
  have huline : u.line = s.line := hstart .line (by decide)
  have hutables : u.tables.guardSet = some g := (congrArg Tables.guardSet (hstart .tables (by decide))).trans hg
  have hguard : t.guard = { s.guard with state := .anticipating } := by
    have hzero : u.guard = { s.guard with state := .anticipating } := by
      rw [hu]
      exact guardZero_read (part := .guard) (by decide) _
    exact (hread .guard (by decide)).trans hzero
  have hnotices : t.notices = u.notices ++ [⟨.fill, .command g.inletAddress g.inletItem 0
      (u.placeCommand g.inletAddress g.inletItem g.feedback .fill 0).2⟩] ++ [⟨.telemetry, .guardState t.guard.state t.guard.cause⟩] := by
    have hplaced : (u.placeCommand g.inletAddress g.inletItem g.feedback .fill 0).1.notices = u.notices :=
      placeCommand_read (part := .notices) (by decide) _ _ _ _ _ _
    have hsame : (closing g u).guard = t.guard :=
      (closing_read (p := .guard) (by decide) g u).trans (hread .guard (by decide)).symm
    rw [← hplaced, ← hsame, ht]
    rfl
  have hinhibit : ⟨.fill, .inhibit [.guard] []⟩ ∈ u.notices := hu ▸ List.mem_append_right _ (List.mem_singleton.2 rfl)
  have hwaits : ∀ d ∈ s.notices, d ∈ u.notices := fun d hd => hu ▸ List.mem_append_left _ (passFill_waits _ hd)
  have hin : ∀ d ∈ u.notices, d ∈ t.notices := fun d hd =>
    hnotices ▸ List.mem_append_left _ (List.mem_append_left _ hd)
  refine ⟨hguard, ?_, hin _ hinhibit, ?_, fun d hd => hin d (hwaits d hd), fun hurgent hroom => ?_, fun hurgent => ?_, fun p hp => ?_⟩
  · have hfill : t.fill = s.zeroDemandHead.fill :=
      (hread .fill (by decide)).trans (hu ▸ passFill_read (part := .fill) (by decide) _ _)
    have hout : t.out = s.out.offerHead (.demand 0 ((s.fill.demandTag + 1) % 256)) :=
      (hread .out (by decide)).trans (hu ▸ passFill_read (part := .out) (by decide) _ _)
    obtain ⟨hsending, hhead, haside⟩ := offerHead_heads (.demand 0 ((s.fill.demandTag + 1) % 256)) s.out
    rw [← hout] at hsending hhead haside
    exact ⟨hfill, hsending, hhead, haside⟩
  · rw [hnotices, hguard]
    exact List.mem_append_right _ (List.mem_singleton.2 rfl)
  · rw [← huline] at hurgent hroom
    obtain ⟨hplaced, hentry⟩ := placeCommand_inletClose hutables hurgent hroom
    rw [hnotices, hline, hplaced]
    exact ⟨List.mem_append_left _ (List.mem_append_right _ (List.mem_singleton.2 rfl)), hentry⟩
  · rw [← huline] at hurgent
    rw [hline, placeCommand_urgent hutables hurgent, huline]
  · exact (hread p (by simp_all)).trans (hstart p (by simp_all))

/-! ### The numbers and the projection's notice, whatever follows (R71 to R74, R87) -/

/-- Nothing that an evaluation does changes its numbers, and the projection is told. -/
theorem guardEvaluate_numbers {s : State} {g : GuardSet} (hg : s.tables.guardSet = some g) (lr : LevelRecord) :
    SameNumbers (s.guardEvaluate lr).guard (numbered g lr s).guard ∧
    ⟨.telemetry, .projection (numbered g lr s).guard.projection⟩ ∈ (s.guardEvaluate lr).notices := by
  obtain ⟨u, hu⟩ : ∃ u, u = numbered g lr s := ⟨_, rfl⟩
  have htold : ⟨.telemetry, .projection u.guard.projection⟩ ∈ u.notices :=
    hu ▸ List.mem_append_right _ (List.mem_singleton.2 rfl)
  have hug : u.tables.guardSet = some g := hu ▸ hg
  rw [← hu]
  rcases guardEvaluate_cases hg lr with e | e | e | e | ⟨hs, e⟩
  all_goals rw [e, ← hu]
  · exact ⟨.refl _, htold⟩
  · obtain ⟨⟨w, hw⟩, -, -, -, -, hwaits, -⟩ := trip_acts (cause := .level) (by decide) (rfl : u.trip .level lr = _)
    rw [hw]
    exact ⟨⟨rfl, rfl, rfl, rfl, rfl, rfl⟩, hwaits _ (placeUrgent_waits (List.mem_append_left _ (passFill_waits _ htold)))⟩
  · obtain ⟨hguard, -, -, -, hwaits, -⟩ := anticipate_acts hug (rfl : u.anticipate = _)
    rw [hguard]
    exact ⟨⟨rfl, rfl, rfl, rfl, rfl, rfl⟩, hwaits _ htold⟩
  · exact ⟨⟨rfl, rfl, rfl, rfl, rfl, rfl⟩, List.mem_append_left _ (List.mem_append_left _ htold)⟩
  · have hus : u.guard.state = .tripped := hu ▸ hs
    rw [tripCondition_tripped hus]
    exact ⟨⟨rfl, rfl, rfl, rfl, rfl, rfl⟩, htold⟩

/-- No pump runs, in the words of R76. -/
theorem pumpsRunning_zero (s : State) : s.pumpsRunning = 0 ↔ ∀ c, s.fill.station = some c → c.running = 0 := by
  unfold State.pumpsRunning
  cases s.fill.station with
  | none => simp
  | some c => simp

section
variable {s t : State} {g : GuardSet} {lr : LevelRecord} (hg : s.tables.guardSet = some g) (ht : t = s.guardEvaluate lr)

include hg ht

/-- A trip by the level. -/
theorem evaluate_trip (hs : s.guard.state ≠ .tripped) (hhigh : TooHigh (numbered g lr s).guard lr) :
    t.guard.state = .tripped ∧ t.guard.cause = some .level ∧ t.guard.tripLine = true ∧ t.guard.tripFlag = .pending ∧ t.guard.reset = none ∧
    s.DemandZeroed t ∧ t.banks = s.banksAfter .tripLevel (some (.point g.pointA)) := by
  obtain ⟨⟨w, hw⟩, hzeroed, -, -, -, -, -, hbanks, -⟩ :=
    trip_acts (cause := .level) (by decide) (ht.trans (guardEvaluate_trips hg lr hs hhigh))
  have hfault : tripFault ((numbered g lr s).tables.guardSet.map GuardSet.pointA) .level = some (.tripLevel, some (.point g.pointA)) := by
    rw [show (numbered g lr s).tables.guardSet = some g from hg]
    rfl
  rw [hw]
  exact ⟨rfl, rfl, rfl, rfl, rfl, ⟨hzeroed.fill, hzeroed.sending, hzeroed.head, hzeroed.aside⟩, hbanks _ _ hfault⟩

/-- A TRIPPED guard remembers the level for its reset in progress. -/
theorem evaluate_remembers (hs : s.guard.state = .tripped) (hhigh : TooHigh (numbered g lr s).guard lr) :
    t = (numbered g lr s).updGuard fun b => { b with reset := b.reset.map fun r => { r with seen := some (r.seen.getD .level) } } := by
  rw [ht, guardEvaluate_remembers hg lr hs hhigh]
  exact tripCondition_tripped (s := numbered g lr s) hs _ _

variable (hlow : ¬ TooHigh (numbered g lr s).guard lr)

include hlow

/-- In every other case nothing follows the numbers. -/
theorem evaluate_stays (hstays : s.guard.state = .armed ∧ ((numbered g lr s).guard.projection : Int) < (numbered g lr s).guard.anticipate ∨
    s.guard.state = .anticipating ∧
      ((numbered g lr s).guard.rearm < (numbered g lr s).guard.projection ∨ s.pumpsRunning ≠ 0) ∨
    s.guard.state = .tripped) : t = numbered g lr s := by
  rcases hstays with ⟨hs, hunder⟩ | ⟨hs, hover⟩ | hs
  · rw [ht, guardEvaluate_armed hg lr hlow hs, if_neg (Int.not_le.2 hunder)]
  · rw [ht, guardEvaluate_anticipating hg lr hlow hs, if_neg fun ⟨hunder, hstopped⟩ =>
      hover.elim (Int.not_lt.2 hunder) fun hne => hne hstopped]
  · rw [ht, guardEvaluate_tripped hg lr hlow hs]

/-- The move to ANTICIPATING. -/
theorem evaluate_anticipate (hs : s.guard.state = .armed)
    (hover : (numbered g lr s).guard.anticipate ≤ (numbered g lr s).guard.projection) : t = (numbered g lr s).anticipate := by
  rw [ht, guardEvaluate_armed hg lr hlow hs, if_pos hover]

/-- The return to ARMED. -/
theorem evaluate_rearm (hs : s.guard.state = .anticipating)
    (hunder : ((numbered g lr s).guard.projection : Int) ≤ (numbered g lr s).guard.rearm) (hstopped : s.pumpsRunning = 0) :
    t.guard = { (numbered g lr s).guard with state := .armed } ∧ ⟨.fill, .inhibit [] [.guard]⟩ ∈ t.notices ∧
    ⟨.telemetry, .guardState .armed s.guard.cause⟩ ∈ t.notices ∧ (∀ p, p ∉ [Part.guard, .notices] → p.read t = p.read s) := by
  rw [ht, guardEvaluate_anticipating hg lr hlow hs, if_pos ⟨hunder, hstopped⟩]
  refine ⟨rfl, List.mem_append_left _ (List.mem_append_right _ (List.mem_singleton.2 rfl)),
    List.mem_append_right _ (List.mem_singleton.2 rfl), fun p hp => ?_⟩
  exact (rearmGuard_read hp _).trans ((send_read (by simp_all) _ _ _).trans (updGuard_read (by simp_all) _ s))

end

/-- Settles O21: the numbers by `guardEvaluate_numbers`, the trip by the acts of O22, the anticipation by `anticipate_acts`. -/
theorem evaluationComputesTheGuardsNumbers : Obligations.EvaluationComputesTheGuardsNumbers := by
  intro s t g lr extra high stopped ht hg hextra hhigh hstopped
  obtain ⟨u, hu⟩ : ∃ u, u = numbered g lr s := ⟨_, rfl⟩
  obtain ⟨hsame, htold⟩ := guardEvaluate_numbers hg lr
  rw [← ht, ← hu] at hsame htold
  have hug : u.guard = s.guard.withNumbers g s.tables.strapping lr s.fill.demand := hu ▸ rfl
  have hextra' : extra = frostExtraOf g s.guard.frostExtra := hextra
  have hnumbers : ∀ p, p ∉ [Part.guard, .notices] → p.read u = p.read s := fun p hp =>
    hu ▸ (send_read (by simp_all) _ _ _).trans (updGuard_read (by simp_all) _ s)
  have hhigh' : high ↔ TooHigh (numbered g lr s).guard lr := by rw [hhigh, hsame.trip, TooHigh, hu]
  have hcoast : t.guard.coast = coastLevel s.tables.strapping lr.segment g.coastVolume := by rw [hsame.coast, hug]; rfl
  refine ⟨?_, ?_, ?_, ?_, fun hnone => ?_, fun bs x y hbs hx hy hxy => ?_, ?_, ?_, fun hh hs => ?_, fun hh hs hover => ?_,
    fun hh hs hunder hst => ?_, fun hstays => ?_⟩
  · rw [hsame.anticipate, hug, hextra']; rfl
  · rw [hsame.trip, hug, hextra']; rfl
  · rw [hsame.resetLevel, hug, hextra']; rfl
  · rw [hsame.rearm, hug, hextra']; rfl
  · rw [hcoast, hnone]; rfl
  · rw [hcoast, hbs]
    exact coastLevel_segment hx hy hxy
  · rw [hcoast, hsame.projection, hug]
    exact projectionOf_eq g lr s.fill.demand _
  · rw [hsame.projection]
    exact htold
  · exact evaluate_trip hg ht hs (hhigh'.1 hh)
  · rw [hsame.anticipate, hsame.projection, hu] at hover
    have hmoves : t = u.anticipate := by rw [hu]; exact evaluate_anticipate hg ht (mt hhigh'.2 hh) hs hover
    have hset : u.tables.guardSet = some g := (congrArg Tables.guardSet (hnumbers .tables (by decide))).trans hg
    obtain ⟨hguard, hzeroed, hinhibit, hstate, -, hclose, hline, hothers⟩ := anticipate_acts hset hmoves
    have huline : u.line = s.line := hnumbers .line (by decide)
    rw [hug] at hguard hstate
    refine ⟨by rw [hguard], by rw [hguard]; rfl, by rw [hguard]; rfl, ?_, hinhibit, hstate, fun hurgent hroom => ?_, fun hurgent => ?_,
      fun p hp => (hothers p hp).trans (hnumbers p (by simp_all))⟩
    · rw [hu] at hzeroed
      exact ⟨hzeroed.fill, hzeroed.sending, hzeroed.head, hzeroed.aside⟩
    · obtain ⟨hplaced, n, hentry⟩ := hclose (huline ▸ hurgent) (huline ▸ hroom)
      exact ⟨hplaced, _, hentry, rfl, rfl, rfl, rfl, rfl, rfl⟩
    · rw [hline (huline ▸ hurgent), huline]
  · rw [hsame.projection, hsame.rearm, hu] at hunder
    obtain ⟨hguard, hinhibit, hstate, hothers⟩ :=
      evaluate_rearm hg ht (mt hhigh'.2 hh) hs hunder ((pumpsRunning_zero s).2 (hstopped.1 hst))
    exact ⟨by rw [hguard], by rw [hguard]; rfl, hinhibit, hstate, hothers⟩
  · by_cases hh : TooHigh (numbered g lr s).guard lr
    · have hs : s.guard.state = .tripped := by
        rcases hstays with ⟨hlow, -⟩ | ⟨hlow, -⟩ | hs
        · exact absurd (hhigh'.2 hh) hlow
        · exact absurd (hhigh'.2 hh) hlow
        · exact hs
      have hremembers := evaluate_remembers hg ht hs hh
      have hreset : t.guard.reset = s.guard.reset.map fun r => { r with seen := some (r.seen.getD .level) } := by rw [hremembers]; rfl
      refine ⟨by rw [hremembers]; rfl, by rw [hremembers]; rfl, by rw [hremembers]; rfl, fun hnone => ?_, fun r _ _ hr => ?_,
        fun p hp => ?_⟩
      · rw [hreset, hnone.resolve_left (not_not.2 (hhigh'.2 hh))]
        rfl
      · rw [hreset, hr]
        rfl
      · rw [hremembers, updGuard_read (by simp_all), ← hu, hnumbers p hp]
    · have hsame' : t = u := by
        rw [hsame.projection, hsame.anticipate, hsame.rearm, hu, hstopped, ← pumpsRunning_zero] at hstays
        rw [hu]
        exact evaluate_stays hg ht hh (hstays.imp (fun h => h.2) fun h => h.imp (fun h => h.2) id)
      rw [hsame', hug]
      exact ⟨rfl, rfl, rfl, fun _ => rfl, fun _ hhigh => absurd (hhigh'.1 hhigh) hh, hnumbers⟩

end Sys2Proof.Laws
end

section
/-! PROOFS. The end of trip work: records, reset markers and pre-erases (R81, R84, R172, R173): O48. -/

namespace Sys2Proof.Laws

open Sys2Proof.Machine

-- One declaration after another: elaborated at once, their proofs take a thread each.
set_option Elab.async false

/-! ### Faults of the STORE bank (R147) -/

/-- A change of the STORE bank begins and ends no hold that a notice tells of. -/
theorem holdNotices_store {before after : State} (h : ∀ b, b ≠ Bank.store → after.holds b = before.holds b) :
    State.holdNotices before after = after := by
  have hfour : after.fourHold = before.fourHold := by
    simp only [State.fourHold, h .fill (by decide), h .trunk (by decide), h .level (by decide), h .guard (by decide)]
  unfold State.holdNotices
  simp only [hfour, Bool.not_and_self, Bool.and_not_self, Bool.false_eq_true, if_false, h .frost (by decide), bne_self_eq_false]

theorem fault_store_notices {code : FaultCode} (h : code.bank = .store) (x : Option Subject) (s : State) :
    (s.fault code x).notices = s.notices := by
  have hlogged : ∀ (r : FaultRecord) (o : Outbound) (b : Bank), b ≠ .store →
      ({ s with banks := s.banks.set code.bank (some r), out := o } : State).holds b = s.holds b := fun r o b hb =>
    holds_congr (s := s) (t := { s with banks := s.banks.set code.bank (some r), out := o }) rfl
      ((PerBank.get_set _ _ _ _).trans (if_neg (h ▸ hb)))
  unfold State.fault
  extract_lets settings after logged reported
  split
  · rfl
  · have hreported : ∃ o, reported = { s with banks := s.banks.set code.bank (some after.1), out := o } := by
      unfold reported
      split
      · exact ⟨_, rfl⟩
      · exact ⟨_, rfl⟩
    obtain ⟨o, ho⟩ := hreported
    rw [ho, holdNotices_store (hlogged _ o)]

/-! ### An event whose first notice is the only one (R87) -/

theorem drain_sent {s : State} (hn : s.notices = []) (b : BlockName) (n : Notice) (pick : Nat → Nat) (fuel : Nat) :
    State.drain pick (fuel + 1) (s.send b n) = State.drain pick fuel (s.deliver ⟨b, n⟩) := by
  have hsent : (s.send b n).notices = [⟨b, n⟩] := by
    show s.notices ++ _ = _
    rw [hn]
    rfl
  have hsame : ({ s.send b n with notices := [] } : State) = s := by
    show ({ s with notices := [] } : State) = s
    rw [← hn]
  rw [drain_first hsent, hsame]

/-! ### The end of a program (R173) -/

/-- The engine free at the end of its work. -/
def freed (doneAt : Nat) (s : State) : State := (s.advanceTo doneAt).engineFree

theorem freed_read {p : Part} (h : p ∉ [Part.timeUs, .fill, .engine]) (doneAt : Nat) (s : State) : p.read (freed doneAt s) = p.read s :=
  (engineFree_read (by simp_all) _).trans (advanceTo_read (by simp_all) doneAt s)

theorem freed_engine (doneAt : Nat) (s : State) : (freed doneAt s).engine = { s.engine with busy := none } := by
  have hengine : (s.advanceTo doneAt).engine = s.engine := advanceTo_read (part := .engine) (by decide) doneAt s
  rw [← hengine]
  rfl

/-- A program verified: the slot holds the record, and a sector taken to its end makes the other due. -/
def stored (slot : Nat) (entry : TripEntry) (s : State) : State :=
  (s.updNv fun v => { v with slots := v.slots.set slot (.intact (sequenceFor s.nv.slots) entry) }).preEraseAfter slot

theorem stored_read {p : Part} (h : p ∉ [Part.nv, .engine]) (slot : Nat) (entry : TripEntry) (s : State) :
    p.read (stored slot entry s) = p.read s :=
  (preEraseAfter_read (by simp_all) slot _).trans (updNv_read (by simp_all) _ _)

theorem stored_slots (slot : Nat) (entry : TripEntry) (s : State) :
    (stored slot entry s).nv.slots = s.nv.slots.set slot (.intact (sequenceFor s.nv.slots) entry) :=
  congrArg NvStore.slots (preEraseAfter_read (part := .nv) (by decide) slot _)

theorem stored_engine {slot : Nat} (h : slot % 4 ≠ 3) (entry : TripEntry) (s : State) : (stored slot entry s).engine = s.engine := by
  rw [stored, State.preEraseAfter, if_neg h]
  rfl

/-- With nothing waiting a free engine has nothing to begin. -/
theorem engineWaits_of_none {s t : State} (h : s.noWorkWaits) (ht : t.engine = { s.engine with busy := none }) :
    t.engineWaits := by
  obtain ⟨hsuspended, hwork, htrip, herase⟩ := h
  rw [State.engineWaits, ht]
  exact ⟨htrip, .inr ⟨hsuspended, herase, hwork⟩⟩

section
variable {s : State} {slot doneAt : Nat} {entry : TripEntry} (hready : s.Ready)
  (hbusy : s.engine.busy = some ⟨.trip slot entry, doneAt⟩)

include hready

theorem freed_notices (doneAt : Nat) : (freed doneAt s).notices = [] := (freed_read (p := .notices) (by decide) doneAt s).trans hready.2

theorem stored_notices (slot doneAt : Nat) (entry : TripEntry) : (stored slot entry (freed doneAt s)).notices = [] :=
  (stored_read (p := .notices) (by decide) slot entry _).trans (freed_notices hready doneAt)

include hbusy

theorem tripWorkProgrammed_concludes (ok : Bool) :
    exec (.tripWorkProgrammed ok) s = .next (concluded (State.tripProgramEnds slot entry ok (freed doneAt s))) := by
  show Host.Outcome.next (match s.engine.busy with
    | some ⟨.trip slot entry, done⟩ => State.event Config.pick (State.jobEnds done (State.tripProgramEnds slot entry ok)) s
    | some ⟨.table _ _, _⟩ => s
    | some ⟨.preErase _, _⟩ => s
    | none => s) = _
  rw [hbusy]
  exact congrArg Host.Outcome.next (event_powered _ _ _ hready.1)

/-- An end of trip work leaves what neither it nor its notices reach. -/
theorem tripWork_kept {ok : Bool} {t : State} (ht : exec (.tripWorkProgrammed ok) s = .next t) :
    Kept (.nv :: reached) (s.advanceTo doneAt) t := by
  rw [tripWorkProgrammed_concludes hready hbusy ok] at ht
  cases ht
  refine drain_settle_kept [.nv] _ _ _ _ fun p hp => ?_
  exact (tripProgramEnds_read (by revert hp; cases p <;> decide) slot entry ok _).trans
    (engineFree_read (by revert hp; cases p <;> decide) _)

/-- The guard takes the work programmed first. -/
theorem tripProgrammed_concludes : exec (.tripWorkProgrammed true) s = .next (State.drain Config.pick 399
    ((stored slot entry (freed doneAt s)).guardOnTripWork entry (some slot))).settle :=
  (tripWorkProgrammed_concludes hready hbusy true).trans
    (congrArg (fun t => Host.Outcome.next (State.settle t))
      (drain_sent (stored_notices hready slot doneAt entry) .guard (.tripWork entry (some slot)) Config.pick 399))

end

/-! ### A trip record (R81) -/

/-- The guard has taken the record as programmed, and Level Telemetry its number. -/
def recorded (slot : Nat) (entry : TripEntry) (s : State) : State :=
  ((stored slot entry s).updGuard fun b => { b with tripFlag := .programmed }).tripNumbered slot

theorem recorded_read {p : Part} (h : p ∉ [Part.guard, .engine, .nv, .telemetry, .out]) (slot : Nat) (entry : TripEntry) (s : State) :
    p.read (recorded slot entry s) = p.read s :=
  (tripNumbered_read (by simp_all) slot _).trans ((updGuard_read (by simp_all) _ _).trans (stored_read (by simp_all) slot entry s))

section
variable {s : State} {slot doneAt w p u : Nat} {c : TripCause} {q : LevelQuality} {k : Option ClockTime} (hready : s.Ready)
  (hbusy : s.engine.busy = some ⟨.trip slot (.trip c w q p k u), doneAt⟩)

include hready hbusy

theorem record_concludes :
    exec (.tripWorkProgrammed true) s = .next (recorded slot (.trip c w q p k u) (freed doneAt s)).settle := by
  obtain ⟨v, hv⟩ : ∃ v, v = (stored slot (.trip c w q p k u) (freed doneAt s)).updGuard fun b => { b with tripFlag := .programmed } :=
    ⟨_, rfl⟩
  have hn : v.notices = [] := hv ▸ stored_notices hready slot doneAt _
  have htaken : (v.tripNumbered slot).notices = [] := (tripNumbered_read (part := .notices) (by decide) slot v).trans hn
  rw [tripProgrammed_concludes hready hbusy]
  show Host.Outcome.next (State.drain Config.pick 399 (((stored slot (.trip c w q p k u) (freed doneAt s)).updGuard fun b =>
    { b with tripFlag := .programmed }).send .telemetry (.tripNumber slot))).settle = _
  rw [← hv, drain_sent hn .telemetry (.tripNumber slot) Config.pick 398]
  show Host.Outcome.next (State.drain Config.pick 398 (v.tripNumbered slot)).settle = _
  rw [drain_nil _ _ _ htaken, hv]
  rfl

/-- The guard and the rest after a trip record. -/
theorem record_leaves : ∃ t, exec (.tripWorkProgrammed true) s = .next t ∧ t.guard = { s.guard with tripFlag := .programmed } ∧
    Kept [.guard, .engine, .nv, .telemetry, .out] (s.advanceTo doneAt) t ∧
    (slot % 4 ≠ 3 → s.noWorkWaits → t.nv.slots = s.nv.slots.set slot (.intact (sequenceFor s.nv.slots) (.trip c w q p k u))) := by
  have hread : ∀ x, x ∉ [Part.guard, .engine, .nv, .telemetry, .out] →
      x.read (recorded slot (.trip c w q p k u) (freed doneAt s)) = x.read (s.advanceTo doneAt) := fun x hx =>
    (recorded_read hx slot _ _).trans (engineFree_read (by simp_all) _)
  have hguard : (recorded slot (.trip c w q p k u) (freed doneAt s)).guard = { s.guard with tripFlag := .programmed } := by
    have hbefore : (stored slot (.trip c w q p k u) (freed doneAt s)).guard = s.guard :=
      (stored_read (p := .guard) (by decide) slot _ _).trans (freed_read (p := .guard) (by decide) doneAt s)
    rw [← hbefore]
    exact tripNumbered_read (part := .guard) (by decide) slot _
  refine ⟨_, record_concludes hready hbusy, (settle_read (part := .guard) (by decide) _).trans hguard,
    settle_kept _ _ _ hread (congrArg Inputs.clearToSend (hread .inputs (by decide)))
      (congrArg TrunkBlock.restartDue (hread .trunk (by decide))), fun hslot hidle => ?_⟩
  have hengine : (recorded slot (.trip c w q p k u) (freed doneAt s)).engine = { s.engine with busy := none } :=
    (tripNumbered_read (part := .engine) (by decide) slot _).trans ((stored_engine hslot _ _).trans (freed_engine doneAt s))
  have hnv : (recorded slot (.trip c w q p k u) (freed doneAt s)).nv = (stored slot (.trip c w q p k u) (freed doneAt s)).nv :=
    tripNumbered_read (part := .nv) (by decide) slot _
  have hslots : (freed doneAt s).nv = s.nv := freed_read (p := .nv) (by decide) doneAt s
  rw [settle_nv _ (engineWaits_of_none hidle hengine), hnv, stored_slots, hslots]

end

/-! ### A reset marker during which a condition was seen (R84) -/

/-- The reset refused: its response stands in the queue, and none is in progress. -/
def refused (r : ResetInProgress) (cause : TripCause) (s : State) : State :=
  (s.updGuard fun b => { b with reset := none, tripFlag := .none }).respond r.resv [(seenStatus cause).byte]

theorem completeReset_seen {s : State} {r : ResetInProgress} {cause : TripCause} (hr : s.guard.reset = some r) (hc : r.seen = some cause) :
    s.completeReset = (refused r cause s).trip cause s.level.record := by
  rw [State.completeReset, hr]
  show (match r.seen with | some cause => _ | none => _) = _
  rw [hc]
  rfl

section
variable {s : State} {slot doneAt w u : Nat} {k : Option ClockTime} {r : ResetInProgress} (hready : s.Ready)
  (hbusy : s.engine.busy = some ⟨.trip slot (.marker w k u), doneAt⟩) (hr : s.guard.reset = some r)

/-- The guard, the level and the queue as the marker's end finds them. -/
theorem stored_same (slot doneAt : Nat) (entry : TripEntry) (s : State) : (stored slot entry (freed doneAt s)).guard = s.guard ∧
    (stored slot entry (freed doneAt s)).level = s.level ∧ (stored slot entry (freed doneAt s)).tables = s.tables ∧
    (stored slot entry (freed doneAt s)).out = s.out := by
  have hread : ∀ p, p ∉ [Part.timeUs, .fill, .engine, .nv] → p.read (stored slot entry (freed doneAt s)) = p.read s := fun p hp =>
    (stored_read (by simp_all) slot entry _).trans (freed_read (by simp_all) doneAt s)
  exact ⟨hread .guard (by decide), hread .level (by decide), hread .tables (by decide), hread .out (by decide)⟩

include hready hbusy hr

theorem marker_refuses {cause : TripCause} (hc : r.seen = some cause) : ∃ t, exec (.tripWorkProgrammed true) s = .next t ∧
    t.guard.state = .tripped ∧ t.guard.cause = some cause ∧ t.guard.tripLine = true ∧ t.guard.tripFlag = .pending ∧
    t.guard.reset = none ∧ (.reservation r.resv 0x20#8 r.tag ∈ s.out.waiting →
      t.out.Carries (.response r.resv 0x20#8 r.tag [(seenStatus cause).byte])) := by
  obtain ⟨v, hv⟩ : ∃ v, v = stored slot (.marker w k u) (freed doneAt s) := ⟨_, rfl⟩
  obtain ⟨hguard, -, -, hout⟩ := stored_same slot doneAt (.marker w k u) s
  rw [← hv] at hguard hout
  have hn : (refused r cause v).notices = [] := hv ▸ stored_notices hready slot doneAt (.marker w k u)
  have htakes : v.guardOnTripWork (.marker w k u) (some slot) = (refused r cause v).trip cause v.level.record :=
    completeReset_seen (by rw [hguard]; exact hr) hc
  have hhanded : AllHanded ((refused r cause v).trip cause v.level.record) := AllHanded.trip (allHanded_empty hn) _ _
  obtain ⟨hstate, hcause, hline, hflag, hreset, -, -⟩ := tripped_drains Config.pick 399 rfl hhanded rfl
  refine ⟨_, tripProgrammed_concludes hready hbusy, ?_⟩
  rw [← hv, htakes]
  refine ⟨hstate, hcause, hline, hflag, hreset, fun hwaits => ?_⟩
  have hresponse : (refused r cause v).out.Carries (.response r.resv 0x20#8 r.tag [(seenStatus cause).byte]) :=
    respond_new _ _ _ _ _ (by show _ ∈ v.out.waiting; rw [hout]; exact hwaits)
  exact settle_carries _ (drain_carries _ _ _ (trip_carries _ _ _ hresponse))

end

/-! ### A reset marker during which none was seen (R84) -/

/-- The guard of a reset that is taken. -/
def Released (b : GuardBlock) : GuardBlock :=
  { b with state := .armed, cause := none, tripLine := false, tripFlag := .none, watch := .idle, reset := none }

/-- The reset taken: the guard ARMED, GUARD on its way out of the inhibit set, and the response in the queue. -/
def released (r : ResetInProgress) (s : State) : State :=
  (((s.updGuard Released).send .fill (.inhibit [] [.guard])).tellGuard).respond r.resv [Status.done.byte]

theorem completeReset_unseen {s : State} {r : ResetInProgress} (hr : s.guard.reset = some r) (hc : r.seen = none) :
    s.completeReset = (released r s).guardEvaluate s.level.record := by
  rw [State.completeReset, hr]
  show (match r.seen with | some cause => _ | none => _) = _
  rw [hc]
  rfl

/-- A notice of that release: GUARD leaves the inhibit set, or an item for Level Telemetry. -/
def Calm (d : Delivery) : Prop := d = ⟨.fill, .inhibit [] [.guard]⟩ ∨ d.dest = .telemetry

/-- The guard is as given, another reason keeps the fill held, and only such notices wait. -/
structure Releasing (b : GuardBlock) (s : State) : Prop where
  guard : s.guard = b
  held : ∃ x ∈ s.fill.inhibit, x ≠ Reason.guard
  calm : ∀ d ∈ s.notices, Calm d

/-- An event of the Fill Planner raises what its own effect raises, and tells Level Telemetry its items. -/
theorem fillEvent_notices (f : State → State) (s : State) :
    ∀ d ∈ (State.fillEvent f s).notices, d ∈ (f s).notices ∨ d.dest = .telemetry := by
  have hclosed : (f s).closeSequence.notices = (f s).notices := closeSequence_read (part := .notices) (by decide) _
  intro d hd
  unfold State.fillEvent State.passFill at hd
  split at hd
  · rw [hclosed] at hd
    exact .inl hd
  · rcases List.mem_append.1 hd with hd | hd
    · rw [hclosed] at hd
      exact .inl hd
    · rw [List.mem_singleton.1 hd]
      exact .inr rfl

/-- GUARD leaves a set that holds another reason: nothing but the set changes. -/
theorem changeInhibit_stays {s : State} (h : ∃ x ∈ s.fill.inhibit, x ≠ Reason.guard) :
    s.changeInhibit [] [.guard] = s.updFill fun f => { f with inhibit := inhibitAfter [] [.guard] s.fill.inhibit } := by
  obtain ⟨x, hx, hne⟩ := h
  have hafter : x ∈ inhibitAfter [] [.guard] s.fill.inhibit := mem_inhibitAfter.2 ⟨.inl hx, by simpa using hne⟩
  unfold State.changeInhibit
  extract_lets rs was set
  rw [if_neg (List.ne_nil_of_mem hafter), if_neg (List.ne_nil_of_mem hx)]

theorem Releasing.deliver {b : GuardBlock} {s : State} (h : Releasing b s) {d : Delivery} (hd : Calm d) : Releasing b (s.deliver d) := by
  rcases hd with rfl | hd
  · have hset := changeInhibit_stays h.held
    have hguard : (State.fillEvent (State.changeInhibit [] [.guard]) s).guard = s.guard :=
      fillEvent_read (part := .guard) (by decide) _ s (by rw [hset]; rfl)
    have hinhibit : (State.fillEvent (State.changeInhibit [] [.guard]) s).fill.inhibit = inhibitAfter [] [.guard] s.fill.inhibit :=
      (fillEvent_heldKept (State.changeInhibit [] [.guard]) s).inhibit.trans (changeInhibit_inhibit _ _ s)
    refine ⟨hguard.trans h.guard, ?_, fun d hd => ?_⟩
    · obtain ⟨x, hx, hne⟩ := h.held
      exact ⟨x, hinhibit ▸ mem_inhibitAfter.2 ⟨.inl hx, by simpa using hne⟩, hne⟩
    · rcases fillEvent_notices _ s d hd with hd | hd
      · rw [hset] at hd
        exact h.calm d hd
      · exact .inr hd
  · obtain ⟨dest, n⟩ := d
    cases hd
    have hread : ∀ p, p ∉ [Part.telemetry, .out] → p.read (s.telemetryTakes n) = p.read s := fun p hp => telemetryTakes_read hp n s
    have hguard : (s.telemetryTakes n).guard = s.guard := hread .guard (by decide)
    have hfill : (s.telemetryTakes n).fill = s.fill := hread .fill (by decide)
    have hnotices : (s.telemetryTakes n).notices = s.notices := hread .notices (by decide)
    exact ⟨hguard.trans h.guard, hfill ▸ h.held, hnotices ▸ h.calm⟩

theorem Releasing.drain {b : GuardBlock} {s : State} (h : Releasing b s) (pick : Nat → Nat) (fuel : Nat) :
    Releasing b (State.drain pick fuel s) :=
  drain_sort (fun _ _ _ h hns => ⟨h.guard, h.held, hns⟩) (fun _ h => h.calm) (fun _ _ hd h => h.deliver hd) pick fuel s h

/-- Time moves the clock of the fill alone. -/
theorem advanceTo_fill (due : Nat) (s : State) :
    (s.advanceTo due).fill.inhibit = s.fill.inhibit ∧ (s.advanceTo due).fill.demand = s.fill.demand := by
  unfold State.advanceTo State.advanceUs
  split
  · exact ⟨rfl, rfl⟩
  · exact ⟨rfl, rfl⟩

section
variable {s : State} {slot doneAt w u : Nat} {k : Option ClockTime} {r : ResetInProgress} {g : GuardSet} {b : GuardBlock} (hready : s.Ready)
  (hbusy : s.engine.busy = some ⟨.trip slot (.marker w k u), doneAt⟩) (hr : s.guard.reset = some r) (hc : r.seen = none)
  (hg : s.tables.guardSet = some g) (hb : b = s.guard.withNumbers g s.tables.strapping s.level.record s.fill.demand)
  (hw : (s.level.record.w : Int) < b.trip) (hp : (b.projection : Int) < b.anticipate) (hheld : ∃ x ∈ s.fill.inhibit, x ≠ Reason.guard)

include hready hbusy hr hc hg hb hw hp hheld

theorem marker_releases : ∃ t, exec (.tripWorkProgrammed true) s = .next t ∧ t.guard = Released b ∧
    (.reservation r.resv 0x20#8 r.tag ∈ s.out.waiting → t.out.Carries (.response r.resv 0x20#8 r.tag [Status.done.byte])) := by
  obtain ⟨v, hv⟩ : ∃ v, v = stored slot (.marker w k u) (freed doneAt s) := ⟨_, rfl⟩
  obtain ⟨hguard, hlevel, htables, hout⟩ := stored_same slot doneAt (.marker w k u) s
  have hfill : v.fill = (s.advanceTo doneAt).fill := hv ▸ stored_read (p := .fill) (by decide) slot _ _
  obtain ⟨hinhibit, hdemand⟩ := advanceTo_fill doneAt s
  rw [← hv] at hguard hlevel htables hout
  rw [← hfill] at hinhibit hdemand
  have hn : v.notices = [] := hv ▸ stored_notices hready slot doneAt (.marker w k u)
  have hnumbers : (numbered g s.level.record (released r v)).guard = Released b := by
    rw [hb, ← hguard, ← htables, ← hdemand]
    rfl
  have hlow : ¬ TooHigh (numbered g s.level.record (released r v)).guard s.level.record := fun ⟨htrip, _⟩ => by
    rw [hnumbers] at htrip
    exact absurd hw (Int.not_lt.2 htrip)
  have htakes : v.guardOnTripWork (.marker w k u) (some slot) = numbered g s.level.record (released r v) := by
    have harmed := guardEvaluate_armed (s := released r v) (g := g) (by show v.tables.guardSet = _; rw [htables]; exact hg) _ hlow rfl
    rw [if_neg (by rw [hnumbers]; exact Int.not_le.2 hp)] at harmed
    rw [← harmed, ← hlevel]
    exact completeReset_unseen (by rw [hguard]; exact hr) hc
  have hreleasing : Releasing (Released b) (numbered g s.level.record (released r v)) := by
    refine ⟨hnumbers, hinhibit.symm ▸ hheld, fun d hd => ?_⟩
    rcases List.mem_append.1 hd with hd | hd
    · rcases List.mem_append.1 hd with hd | hd
      · rcases List.mem_append.1 hd with hd | hd
        · rw [show (v.updGuard Released).notices = [] from hn] at hd
          cases hd
        · exact .inl (List.mem_singleton.1 hd)
      · exact .inr (by rw [List.mem_singleton.1 hd])
    · exact .inr (by rw [List.mem_singleton.1 hd])
  refine ⟨_, tripProgrammed_concludes hready hbusy, ?_⟩
  rw [← hv, htakes]
  refine ⟨(settle_read (part := .guard) (by decide) _).trans (hreleasing.drain _ _).guard, fun hwaits => ?_⟩
  have hresponse : (released r v).out.Carries (.response r.resv 0x20#8 r.tag [Status.done.byte]) :=
    respond_new _ _ _ _ _ (by show _ ∈ v.out.waiting; rw [hout]; exact hwaits)
  exact settle_carries _ (drain_carries _ _ _ hresponse)

end

/-! ### A failed program (R173) -/

theorem pickOther_tripWork (s : State) : s.pickOther.engine.tripWork = s.engine.tripWork := by
  unfold State.pickOther
  split
  · rfl
  · rfl
  · split
    · unfold State.beginTable
      extract_lets taken spare erased
      have herased : erased.engine.tripWork = s.engine.tripWork := by
        unfold erased
        split
        · rfl
        · rfl
      exact herased
    · rfl

/-- A free engine leaves trip work waiting, or begins it (R167). -/
theorem enginePick_tripWork {s : State} {entry : TripEntry} (hfree : s.engine.busy = none) (h : entry ∈ s.engine.tripWork) :
    entry ∈ s.enginePick.engine.tripWork ∨ ∃ n, s.enginePick.engine.busy = some ⟨.trip n entry, s.now + 2⟩ := by
  have hsuspend : s.suspendForTrip = s := by
    unfold State.suspendForTrip
    split
    · next hbusy _ => rw [hfree] at hbusy; cases hbusy
    · rfl
  have hdue : s.dueForTrip.engine.tripWork = s.engine.tripWork := by
    unfold State.dueForTrip
    split
    · rfl
    · rfl
  have htime : s.dueForTrip.now = s.now := now_congr (dueForTrip_read (part := .timeUs) (by decide) s)
  unfold State.enginePick
  simp only [hsuspend, hfree, Option.isSome_none, Bool.false_eq_true, if_false]
  split
  · next e rest slot htrip _ =>
    rw [← hdue, htrip] at h
    rcases List.mem_cons.1 h with rfl | h
    · exact .inr ⟨slot, by rw [← htime]; rfl⟩
    · exact .inl h
  · refine .inl ?_
    rw [pickOther_tripWork, hdue]
    exact h

theorem settle_tripWork {s : State} {entry : TripEntry} (hfree : s.engine.busy = none) (h : entry ∈ s.engine.tripWork) :
    entry ∈ s.settle.engine.tripWork ∨ ∃ n, s.settle.engine.busy = some ⟨.trip n entry, s.now + 2⟩ := by
  have hline : s.lineSettle.engine = s.engine := lineSettle_read (part := .engine) (by decide) s
  have htime : s.lineSettle.now = s.now := now_congr (lineSettle_read (part := .timeUs) (by decide) s)
  have hend : s.settle.engine = s.lineSettle.enginePick.engine := trunkSettle_read (part := .engine) (by decide) _
  rw [hend, ← htime]
  exact enginePick_tripWork (by rw [hline]; exact hfree) (by rw [hline]; exact h)

/-- The fault of a failed program, its slot spent all the same. -/
def failed (slot : Nat) (s : State) : State := (s.preEraseAfter slot).fault .programFail (some (.slot slot))

section
variable {s : State} (hready : s.Ready)

include hready

theorem failedProgram_leaves {slot doneAt : Nat} {entry : TripEntry} (hbusy : s.engine.busy = some ⟨.trip slot entry, doneAt⟩) :
    ∃ t, exec (.tripWorkProgrammed false) s = .next t ∧ t.banks = (s.advanceTo doneAt).banksAfter .programFail (some (.slot slot)) ∧
      (entry ∈ t.engine.tripWork ∨ ∃ n, t.engine.busy = some ⟨.trip n entry, (s.advanceTo doneAt).now + 2⟩) := by
  obtain ⟨v, hv⟩ : ∃ v, v = failed slot (freed doneAt s) := ⟨_, rfl⟩
  have hread : ∀ p, p ∉ [Part.engine, .banks, .out, .notices] → p.read v = p.read (s.advanceTo doneAt) := fun p hp =>
    hv ▸ (fault_read (by simp_all) _ _ _).trans ((preEraseAfter_read (by simp_all) slot _).trans (engineFree_read (by simp_all) _))
  have hn : v.notices = [] := by
    rw [hv, failed, fault_store_notices rfl]
    exact (preEraseAfter_read (part := .notices) (by decide) slot _).trans (freed_notices hready doneAt)
  have hexec : exec (.tripWorkProgrammed false) s = .next (v.askTripWork entry).settle := by
    have hends : State.tripProgramEnds slot entry false (freed doneAt s) = v.send .guard (.tripWork entry none) := hv ▸ rfl
    rw [tripWorkProgrammed_concludes hready hbusy, hends]
    show Host.Outcome.next (State.drain Config.pick 400 _).settle = _
    rw [drain_sent hn]
    show Host.Outcome.next (State.drain Config.pick 399 (v.askTripWork entry)).settle = _
    rw [drain_nil _ _ _ (show (v.askTripWork entry).notices = [] from hn)]
  have hbanks : v.banks = (s.advanceTo doneAt).banksAfter .programFail (some (.slot slot)) := by
    have hsame : ∀ p, p ≠ Part.engine → p.read ((freed doneAt s).preEraseAfter slot) = p.read (s.advanceTo doneAt) := fun p hp =>
      (preEraseAfter_read (by simpa using hp) slot _).trans (engineFree_read (by simpa using hp) _)
    rw [hv, failed, fault_banks]
    exact banksAfter_congr _ _ (hsame .tables (by decide)) (hsame .banks (by decide)) (clockTime_congr (hsame .fill (by decide)))
      (hsame .timeUs (by decide))
  have hfree : v.engine.busy = none := by
    have hengine : v.engine = ((freed doneAt s).preEraseAfter slot).engine := hv ▸ fault_read (part := .engine) (by decide) _ _ _
    rw [hengine, State.preEraseAfter]
    split
    · rfl
    · rfl
  have hnow : v.now = (s.advanceTo doneAt).now := now_congr (hread .timeUs (by decide))
  refine ⟨_, hexec, (settle_read (part := .banks) (by decide) _).trans hbanks, ?_⟩
  rw [← hnow]
  exact settle_tripWork (s := v.askTripWork entry) hfree (List.mem_append_right _ (List.mem_singleton.2 rfl))

end

/-! ### Pre-erases (R172, R173) -/

section
variable {s : State} {sector doneAt : Nat} (hready : s.Ready) (hbusy : s.engine.busy = some ⟨.preErase sector, doneAt⟩)

include hready hbusy

theorem preErase_concludes (ok : Bool) :
    exec (.tripPreEraseComplete ok) s = .next (concluded (State.preEraseEnds sector ok (freed doneAt s))) := by
  show Host.Outcome.next (match s.engine.busy with
    | some ⟨.preErase sector, done⟩ => State.event Config.pick (State.jobEnds done (State.preEraseEnds sector ok)) s
    | some ⟨.table _ _, _⟩ => s
    | some ⟨.trip _ _, _⟩ => s
    | none => s) = _
  rw [hbusy]
  exact congrArg Host.Outcome.next (event_powered _ _ _ hready.1)

/-- A sector erased. -/
theorem preErase_leaves : ∃ t, exec (.tripPreEraseComplete true) s = .next t ∧ Kept [.engine, .nv] (s.advanceTo doneAt) t ∧
    (s.noWorkWaits → t.nv = { s.nv with slots := setSector sector .erased s.nv.slots } ∧ t.engine = { s.engine with busy := none }) := by
  obtain ⟨v, hv⟩ : ∃ v, v = (freed doneAt s).updNv fun x => { x with slots := setSector sector .erased x.slots } := ⟨_, rfl⟩
  have hn : v.notices = [] := hv ▸ freed_notices hready doneAt
  have hexec : exec (.tripPreEraseComplete true) s = .next v.settle := by
    rw [preErase_concludes hready hbusy, ← concluded_quiet hn, hv]
    rfl
  have hread : ∀ p, p ∉ [Part.engine, .nv] → p.read v = p.read (s.advanceTo doneAt) := fun p hp =>
    hv ▸ (updNv_read (by simp_all) _ _).trans (engineFree_read (by simp_all) _)
  refine ⟨_, hexec, settle_kept _ _ _ hread (congrArg Inputs.clearToSend (hread .inputs (by decide)))
    (congrArg TrunkBlock.restartDue (hread .trunk (by decide))), fun hidle => ?_⟩
  have hengine : v.engine = { s.engine with busy := none } := hv ▸ freed_engine doneAt s
  have hnv : (freed doneAt s).nv = s.nv := freed_read (p := .nv) (by decide) doneAt s
  have hwaits := engineWaits_of_none hidle hengine
  rw [settle_nv v hwaits, settle_engine v hwaits, hv, ← hnv]
  exact ⟨rfl, freed_engine doneAt s⟩

/-- A failed one begins again. -/
theorem failedPreErase_leaves : ∃ t, exec (.tripPreEraseComplete false) s = .next t ∧
    t.engine.busy = some ⟨.preErase sector, (s.advanceTo doneAt).now + 350⟩ ∧
    t.banks = (s.advanceTo doneAt).banksAfter .eraseFail (some (.sector sector)) ∧ Kept (.nv :: reached) (s.advanceTo doneAt) t := by
  obtain ⟨f, hf⟩ : ∃ f, f = (freed doneAt s).fault .eraseFail (some (.sector sector)) := ⟨_, rfl⟩
  obtain ⟨v, hv⟩ : ∃ v, v = f.beginPreErase sector := ⟨_, rfl⟩
  have hread : ∀ p, p ∉ [Part.nv, .engine] → p.read v = p.read f := fun p hp => hv ▸ beginPreErase_read (by simp_all) sector f
  have hn : v.notices = [] := by
    have hsame : v.notices = f.notices := hread .notices (by decide)
    rw [hsame, hf, fault_store_notices rfl]
    exact freed_notices hready doneAt
  have hnow : f.now = (s.advanceTo doneAt).now := now_congr (hf ▸ fault_read (part := .timeUs) (by decide) _ _ _)
  have hbusy' : v.engine.busy = some ⟨.preErase sector, (s.advanceTo doneAt).now + 350⟩ := by
    rw [← hnow, hv]
    rfl
  have hbanks : v.banks = (s.advanceTo doneAt).banksAfter .eraseFail (some (.sector sector)) :=
    (hread .banks (by decide)).trans (hf ▸ fault_banks _ _ _)
  have hends : State.preEraseEnds sector false (freed doneAt s) = v := by
    rw [hv, hf]
    rfl
  have hkept : Kept (.nv :: reached) (s.advanceTo doneAt) (concluded v) := drain_settle_kept [.nv] _ _ _ _ fun p hp => by
    rw [← hends, preEraseEnds_read (by revert hp; cases p <;> decide), freed, engineFree_read (by revert hp; cases p <;> decide)]
  refine ⟨concluded v, hends ▸ preErase_concludes hready hbusy false, ?_, ?_, hkept⟩
  · rw [concluded_quiet hn, settle_engine_atWork ⟨_, hbusy', fun _ _ h => nomatch h⟩, hbusy']
  · rw [concluded_banks_quiet hn, hbanks]

end

/-- Settles O48: each end by what its first notice makes of it, or, without one, by what the engine goes on with. -/
theorem tripWorkEnds : Obligations.TripWorkEnds := by
  refine ⟨fun s slot doneAt entry hready hbusy _ _ => ?_, fun s slot doneAt entry hready hbusy => ?_,
    fun s sector doneAt hready hbusy => ?_, fun s sector doneAt hready hbusy => failedPreErase_leaves hready hbusy⟩
  · obtain ⟨t, hexec⟩ : ∃ t, exec (.tripWorkProgrammed true) s = .next t := ⟨_, tripWorkProgrammed_concludes hready hbusy true⟩
    refine ⟨t, hexec, fun hslot hsuspended hwork htrip herase hentry => ?_, fun c w q p k u hentry => ?_,
      fun w k u r hentry hr => ⟨fun cause hseen => ?_, fun g b hseen hg hb hw hp hheld => ?_⟩, tripWork_kept hready hbusy hexec⟩
    · obtain ⟨c, w, q, p, k, u, rfl⟩ := hentry
      obtain ⟨t', hexec', -, -, hslots⟩ := record_leaves hready hbusy
      cases hexec.symm.trans hexec'
      exact hslots hslot ⟨hsuspended, hwork, htrip, herase⟩
    · subst hentry
      obtain ⟨t', hexec', hguard, hkept, -⟩ := record_leaves hready hbusy
      cases hexec.symm.trans hexec'
      exact ⟨hguard, hkept⟩
    · subst hentry
      obtain ⟨t', hexec', hrefused⟩ := marker_refuses hready hbusy hr hseen
      cases hexec.symm.trans hexec'
      exact hrefused
    · subst hentry
      obtain ⟨t', hexec', hreleased⟩ := marker_releases hready hbusy hr hseen hg hb hw hp hheld
      cases hexec.symm.trans hexec'
      exact hreleased
  · obtain ⟨t, hexec, hbanks, hengine⟩ := failedProgram_leaves hready hbusy
    exact ⟨t, hexec, hbanks, hengine, tripWork_kept hready hbusy hexec⟩
  · obtain ⟨t, hexec, hkept, hidle⟩ := preErase_leaves hready hbusy
    exact ⟨t, hexec, hkept, fun hsuspended hwork htrip herase => hidle ⟨hsuspended, hwork, htrip, herase⟩⟩

end Sys2Proof.Laws
end
